-- ==== Sys2Proof/Word.lean ====
section
/-! DEFINITION. Word.lean: the word types of the AG480 and the sparse table every indexed piece of state uses.

A `Tbl α` is a list of (index, value) pairs in rising index order; an index that is not listed has its reset value, which the
reader of the table names.  Device memory is such a table of bytes, and its unlisted bytes read 0 (R181, R229). -/
namespace Sys2Proof

/-- One byte. -/
abbrev Byte := BitVec 8

/-- A 32-bit register (R17). -/
abbrev Word := BitVec 32

/-- A 64-bit register (R17). -/
abbrev Dword := BitVec 64

/-- The 128-bit packet tag of R35. -/
abbrev Tag := BitVec 128

/-- A statistics or port counter: 48 bits, saturating (R23, R353, R386). -/
abbrev Count48 := BitVec 48

/-- A sparse table: (index, value) pairs, indices strictly rising. -/
abbrev Tbl (α : Type) := List (Nat × α)

/-- Device memory: bytes by 48-bit physical device address (R176). -/
abbrev Mem := Tbl Byte

end Sys2Proof
end

