-- ==== Sys2Proof/Data.lean ====
section
/-! DEFINITION. Data.lean: the plain data that commands carry: where a message is taken from, what the host and the memory
codes contribute to a command, and the decoded body of a deck image (its section format is Edmel's, R411). -/
namespace Sys2Proof

/-- A ring of the host interface (R398). -/
inductive RingRef where
  | sq (q : Fin 64)
  | cq (c : Fin 64)
  | eq
  deriving DecidableEq, Repr

/-- An access that the host has completed with an error (R426): a monitored word, doorbell or head, of a ring, or the hub's writes of records into a
completion ring or the event ring. -/
inductive HostErr where
  | word (ring : RingRef)
  | records (ring : RingRef)
  deriving DecidableEq, Repr

/-- The two identity registers of R397. -/
inductive IdentityReg where
  | train
  | package
  deriving DecidableEq, Repr

/-- Where a received packet is taken from: the package's own network (a message between two units of this package, which
R241 and R301 keep on the package), or the kitty of a Hethlink port (port × 2 + half, R313). -/
inductive Src where
  | noc
  | port (p : Fin 16)
  deriving DecidableEq, Repr

/-- A setting of the package that the BMC writes over MCTP (R543, R562). -/
inductive BmcSetting where
  /-- PLDM numeric effecter 1: the BMC's power cap in W. -/
  | cap (watts : BitVec 16)
  /-- Whether the package sends PLDM event messages. -/
  | events (on : Bool)
  /-- The transmission unit in bytes. -/
  | unit (bytes : BitVec 16)
  deriving DecidableEq, Repr

/-- What a memory code finds at a read (R185, R219). -/
inductive ReadOutcome where
  | clean
  | corrected
  | uncorrectable
  deriving DecidableEq, Repr

/-- The check that declared a tile failed (R461, detail of event 0x0401 in R577). -/
inductive TileCheck where
  | parity
  | residue
  | clockOrSupply
  | heartbeat
  deriving DecidableEq, Repr

/-- The path a security command arrives on (R508, R518). -/
inductive SecPath where
  | mailbox
  | mctp
  | instrument
  deriving DecidableEq, Repr

/-- What CHALLENGE and GET_MEASUREMENTS carry for their responses (R513): the requester's nonce, the summary that it asks for, and its context. -/
structure SpdmAsk where
  nonce : BitVec 256
  summary : BitVec 8 := 0
  context : BitVec 64 := 0
  deriving DecidableEq, Repr

/-- The IDE directions of R516, numbered as R577 numbers them. -/
inductive IdeStream where
  | ioPosted
  | ioNonPosted
  | ioCompletion
  | cachememHostToDevice
  | cachememDeviceToHost
  deriving DecidableEq, Repr

/-- An error that has arisen in a 64-byte line of device memory (R185, R212, R219): the line's physical device address divided by 64, and
how many units of the line's code it touches, bits in scratch and stacked SRAM, 8-bit symbols in GDDR7.  None is a GDDR7 transfer that fails
and is retried. -/
structure MemErr where
  line : BitVec 42
  units : Fin 4
  deriving DecidableEq, Repr

/-- An uncorrectable error in a held copy (R468): a sector of a stack's far cache, a line of the host fetch buffer, a port's replay buffer, or a
finished-tile-queue entry, an accumulator bank or a log entry of a stream's open local trick.  An error in a kitty comes as a packet whose CRC
fails. -/
inductive HeldErr where
  | farSector (stack : Fin 4) (line : BitVec 42)
  | fetchLine (line : BitVec 58)
  | replayBuffer (port : Fin 16)
  | trickCopy (tile : Fin 128) (stream : Fin 3)
  deriving DecidableEq, Repr

/-- What the surroundings contribute to one command: the host's writes to host memory that precede the command's reads of
it, the errors that have arisen in device memory by then, and those found in held copies, which an ARRAY_GRANT meets (log 155). -/
structure Ambient where
  hw : List Host.Cell := []
  errs : List MemErr := []
  held : List HeldErr := []
  deriving DecidableEq, Repr

/-- What arrives with a frame besides its packets: its control block (R325), and how many of its codewords the FEC corrected and could not correct
(R353). -/
structure FrameEnd where
  block : List (BitVec 8)
  fec : Nat × Nat := (0, 0)
  deriving DecidableEq, Repr

/-- A publication that ends: of the step's share or of a pass's, by micro-batch; and whether it has met an uncorrectable log entry (R286). -/
structure Published where
  mb : Option (BitVec 20)
  logError : Bool := false
  deriving DecidableEq, Repr

/-- One handle of a stream as the deck loads it (R156). -/
structure HandleCfg where
  obj : Word := 0
  sig : Word := 0
  wait : Word := 0
  tgt : Word := 0
  deriving DecidableEq, Repr

/-- One endpoint as the deck loads it (R239). -/
structure EndpointCfg where
  cfg : Word := 0
  peer : Word := 0
  base : Dword := 0
  spillBase : Dword := 0
  deriving DecidableEq, Repr

/-- One stream of a tile as the deck loads it (R145, R156, R252). -/
structure StreamCfg where
  prog : Word := 0
  handles : Tbl HandleCfg := []
  sels : Tbl Dword := []
  deriving DecidableEq, Repr

/-- One image range of a tile: scratch offset, length, and the job-view address of its copy (R462). -/
structure ImageRange where
  offset : BitVec 22
  bytes : Nat
  copy : BitVec 48
  deriving DecidableEq, Repr

/-- The configuration of one job-relative logical tile (R169, R411). -/
structure TileCfg where
  rel : Nat
  arrCtl : Word := 0x00C3104A
  arrWeight : Word := 0x00010404
  dmaCtl : Word := 32
  streams : Tbl StreamCfg := []
  endpoints : Tbl EndpointCfg := []
  scratch : List (Nat × List Byte) := []
  image : List ImageRange := []
  deriving DecidableEq, Repr

/-- One row of the deck's synchronisation table (R161): a job-relative object, its kind, members − 1 and initial value. -/
structure SyncInit where
  object : BitVec 16
  kind : BitVec 2
  membersM1 : BitVec 12 := 0
  value : Word := 0
  deriving DecidableEq, Repr

/-- A weight region: base and stride in 256-byte units (R262). -/
structure RegionCfg where
  base : BitVec 48
  stride : Word
  deriving DecidableEq, Repr

/-- A keep entry as the deck loads it (R271): home, recipe context and size in 256-byte units. -/
structure KeepCfg where
  home : BitVec 48
  recipe : BitVec 12
  size : Word
  deriving DecidableEq, Repr

/-- A durable range: first byte and first byte past it (R280, R306). -/
structure DurableRange where
  base : BitVec 48
  limit : BitVec 48
  deriving DecidableEq, Repr

/-- A Meld context of the deck (R385) with its source entries (R363) and shard entries (R362). -/
structure MeldCfg where
  engine : Fin 2
  key : Dword
  shape : Dword
  dst : Dword := 0
  stat : Dword := 0
  aux : Dword := 0
  sync : Dword := 0
  statsPkg : BitVec 12 := 0
  sources : List (Dword × Dword) := []
  shards : List Word := []
  deriving DecidableEq, Repr

/-- One route of the deck: destination and its egress in each bank (R345, R347). -/
structure RouteCfg where
  dest : BitVec 12
  bank0 : BitVec 5
  bank1 : BitVec 5
  deriving DecidableEq, Repr

/-- The body of a deck image, decoded (R411: the sections' format is Edmel's, the Dealer checks their CRCs). `bodyCrcOk`
says whether every section's CRC is right and `imageBytes` how long the image is. -/
structure Deck where
  bodyCrcOk : Bool := true
  imageBytes : Nat := 64
  tiles : List TileCfg := []
  sync : List SyncInit := []
  jobSlots : Nat := 2
  initTag : BitVec 8 := 0
  update : Bool := false
  regions : List RegionCfg := []
  keeps : List KeepCfg := []
  durable : List DurableRange := []
  melds : List MeldCfg := []
  routes : List RouteCfg := []
  coordPkg : BitVec 12 := 0
  passVoters : BitVec 8 := 0
  packages : List (BitVec 12) := []
  passPackages : List (BitVec 12) := []
  phase : Word := 0
  phaseTarget : Word := 0
  cut : Word := 0
  cutSelf : Dword := 0
  cutSize : Word := 0
  firstStage : Option (BitVec 12 × BitVec 12) := none
  talonRoutes : List RouteCfg := []
  deriving DecidableEq, Repr

end Sys2Proof
end

