-- ==== Sys2Proof/Syntax.lean ====
section
/-! DEFINITION. Syntax.lean: the commands of the AG480, one constructor per row of spec/opcode_table.json.

Operands: `tile` is a package logical tile (R11), `stream` is 0 forward, 1 backward, 2 update (R139), `port` is Hethlink port × 2 +
half (R313), `slot` is a job slot (R170) or, where its type is `Fin 256`, a trick slot (R278), `sq` is a submission ring (R398). -/
namespace Sys2Proof

/-- The commands, in the table's order. -/
inductive Instr where
  /-- POWER_ON_RESET (R560): PWRGD_IN falls, or VDD_IO or VDD_HUB stays below 90 % for 2 µs, and the whole package enters power-on reset. -/
  | powerOnReset
  /-- POWER_ON_RESET_RELEASE (R561): After PWRGD_IN rises, the hub PLLs lock, power-on reset is released and the ROM starts. -/
  | powerOnResetRelease (testMode : BitVec 3)
  /-- FIRMWARE_START (R500): The ROM finishes checking the boot slots and starts the first valid image, writing each attempt's result into the boot record. -/
  | firmwareStart
  /-- BOOT_READY (R502): The other dies run and the Alias certificate is signed; ready is set and the SPDM responder starts. -/
  | bootReady
  /-- PERST_N_ASSERT (R423): PERST_N goes low; the host link is declared lost and configuration space is reset. -/
  | perstNAssert
  /-- HOST_LINK_DOWN (R423): A link-down on the host port declares the host link lost at once. -/
  | hostLinkDown
  /-- HOST_LINK_LOSS_TIMEOUT (R423): The host link has been out of L0 for loss_ms and is declared lost. -/
  | hostLinkLossTimeout
  /-- HOST_LINK_BACK (R425): The host link returns to L0 with CXL.cache; the hub sets resume_wait. -/
  | hostLinkBack (speed : BitVec 2) (width : BitVec 5)
  /-- PCIE_ONLY (R391): The link trains without CXL.cache; the hub sets pcie_only and serves configuration, BAR0, DOE and the SEC mailbox only. -/
  | pcieOnly (speed : BitVec 2) (width : BitVec 5)
  /-- RESUME (R425): A write of resume drops ATS translations, resumes the rings, writes held pages, completions and events, and sets attached. -/
  | resume (value : BitVec 32) (hw : List Host.Cell)
  /-- PROCHOT_N_ASSERT (R563): PROCHOT_N is held low, and every island clock drops to 400 MHz within 10 µs in hardware. -/
  | prochotNAssert
  /-- POWER_CAP_EVALUATION (R563): At each 1 ms boundary the management controller lowers, holds or raises f_set from package power and the cap. -/
  | powerCapEvaluation (powerDw : BitVec 16)
  /-- HOST_CAP_WRITE (R562): The host driver writes host_cap_w; a value outside 300–750 W is discarded and sets cfg_reject. -/
  | hostCapWrite (value : BitVec 32)
  /-- BMC_CAP_WRITE (R562): The BMC writes PLDM effecter 1 as its cap; a value out of range is rejected. -/
  | bmcCapWrite (setting : BmcSetting)
  /-- AVS_ACKNOWLEDGE (R555): The VDD_Ss regulator acknowledges a setpoint, and the clocks may then rise. -/
  | avsAcknowledge (stack : Fin 4)
  /-- AVS_ACK_TIMEOUT (R555): No acknowledgement arrives within 1 ms; the command is retried once and then event 0x0B04 is raised. -/
  | avsAckTimeout (stack : Fin 4)
  /-- THERMAL_SENSOR_READ (R566): Every 100 µs the die temperature sensors are read against the throttle and trip limits. -/
  | thermalSensorRead (hottest : List (BitVec 8))
  /-- THROTTLE_LEVEL_CHECK (R567): 1 ms after throttling starts, a sensor still at the throttle start moves the stack to level 2. -/
  | throttleLevelCheck (stack : Fin 4)
  /-- RAIL_OUT_OF_RANGE (R554): A rail stays more than 5 % from its setpoint for 10 µs, or returns, and event 0x0B04 is raised. -/
  | railOutOfRange (rail : Fin 15) (millivolts : BitVec 16) (returned : Bool)
  /-- POWER_MONITOR_SAMPLE (R531): Every 10 µs each rail monitor samples voltage and current into its energy count. -/
  | powerMonitorSample (microjoules : List (BitVec 32))
  /-- PLDM_SENSOR_UPDATE (R544): Every 1 ms the PLDM numeric sensors are updated. -/
  | pldmSensorUpdate
  /-- MC_WATCHDOG_EXPIRY (R546): The management controller's watchdog expires and resets only the controller's core. -/
  | mcWatchdogExpiry
  /-- MC_RESTART (R546): The ROM restarts or reloads the firmware, and event 0x0C01 is raised. -/
  | mcRestart
  /-- CC_RESET (R475): A write of cc_reset resets the compute complex and loses every job on the package. -/
  | ccReset
  /-- CC_RESET_DONE (R475): The reset of the compute complex ends within 50 ms and cc_busy clears. -/
  | ccResetDone
  /-- REGISTER_WRITE (R18): A host write to a register that has no row of its own takes effect by its access type, or is discarded. -/
  | registerWrite (bar2 : Bool) (offset : BitVec 25) (bytes : Nat) (value : BitVec 64)
  /-- GLB_IDENTITY_WRITE (R397): A write to GLB_TRAIN or GLB_PKG is accepted only with no job present, advances epoch and sends new identity blocks. -/
  | glbIdentityWrite (reg : IdentityReg) (value : BitVec 64)
  /-- RING_ENABLE (R408): A write that sets a ring's enable initialises its pointers, or is discarded when a check fails. -/
  | ringEnable (ring : RingRef) (cfg : BitVec 32) (hw : List Host.Cell)
  /-- RING_DISABLE (R408): A clear of a ring's enable stops fetching, or is discarded for a completion ring still named. -/
  | ringDisable (ring : RingRef)
  /-- MONITOR_SNOOP (R403): A snoop invalidates a monitored doorbell or head line, and the hub responds and re-reads it. -/
  | monitorSnoop (line : BitVec 58)
  /-- MONITOR_POLL (R403): Every poll_us the hub re-reads every monitored line. -/
  | monitorPoll
  /-- MONITOR_LINE_READ (R403): A re-read monitored line returns and every doorbell and head word in it is evaluated. -/
  | monitorLineRead (line : BitVec 58) (hw : List Host.Cell) (failed : List HostErr)
  /-- DESCRIPTOR_FETCH (R405): The hub fetches a descriptor whole from a submission ring with room in its window and advances the head. -/
  | descriptorFetch (sq : Fin 64) (hw : List Host.Cell) (failed : Bool)
  /-- JOB (R410): A JOB descriptor is checked and the job is placed on tile groups, or refused. -/
  | job (sq : Fin 64) (deck : Deck) (amb : Ambient)
  /-- JOB_PLACED (R417): The placement ends with every channel OPEN, and the JOB completion is written. -/
  | jobPlaced (slot : Fin 16)
  /-- STEP (R412): A STEP descriptor starts in ring order, is checked against the step counter and ends an open serving step. -/
  | step (sq : Fin 64) (amb : Ambient)
  /-- PASS (R413): A PASS descriptor is checked against the position limit and the stream record. -/
  | pass (sq : Fin 64) (amb : Ambient)
  /-- ABORT (R416): An ABORT at the coordinator revokes its target step or pass with cause EXPLICIT, or completes with another status. -/
  | abort (sq : Fin 64)
  /-- END (R415): An END descriptor ends the job once its current step has ended. -/
  | endJob (sq : Fin 64)
  /-- NOP (R147): The NOP instruction does nothing, or acts as a pure wait or signal. -/
  | nop (tile : Fin 128) (stream : Fin 3)
  /-- NOP_DESCRIPTOR (R415): A NOP descriptor completes once every earlier descriptor of its job has completed, or at once for job 0. -/
  | nopDescriptor (sq : Fin 64)
  /-- LOAD (R430): A LOAD descriptor is checked and starts a step-mode or background load. -/
  | load (sq : Fin 64)
  /-- JOB_END_DONE (R216): The GDDR7 slices of an ended job are zeroed, its groups are freed and the END completion is written. -/
  | jobEndDone (slot : Fin 16)
  /-- STEP_START (R141): The Dealer starts a step after its waits, stamps the step, stages a version entry, arms the watchdog and sets the streams running. -/
  | stepStart (slot : Fin 16)
  /-- MICRO_BATCH_INJECTION (R260): The Dealer injects the next micro-batch into the first-stage queue once ring space allows. -/
  | microBatchInjection (slot : Fin 16) (amb : Ambient)
  /-- CONTROL_PASS_INJECTION (R142): After the last micro-batch, the Dealer injects a control-pass message with no payload. -/
  | controlPassInjection (slot : Fin 16)
  /-- PASS_INJECTION (R304): The Dealer injects a user's pass once that user's previous pass has committed. -/
  | passInjection (slot : Fin 16) (microBatch : BitVec 20) (amb : Ambient)
  /-- STEP_OVERRUN (R173): The time since step start reaches the watchdog limit before the tile work is finished; event 0x0201 is raised. -/
  | stepOverrun (slot : Fin 16)
  /-- STEP_WATCHDOG_FAULT (R173): The time since step start reaches fault_mult times the limit; the job fails with a job fault. -/
  | stepWatchdogFault (slot : Fin 16)
  /-- COMPLETION_BUFFER_DRAIN (R420): A buffered completion record is written once its ring has space. -/
  | completionBufferDrain
  /-- MSIX_MESSAGE (R406): After coalesce_us an armed ring's MSI-X message is sent. -/
  | msixMessage (vector : Fin 64)
  /-- ATS_INVALIDATION (R393): An ATS invalidation request drops matching translations and completes after the accesses that used them. -/
  | atsInvalidation (firstPage : BitVec 52) (lastPage : BitVec 52)
  /-- HOST_MEM_READ (R204): A host CXL.mem read of GDDR7 returns the single visible copy. -/
  | hostMemRead (offset : BitVec 48) (bytes : Nat) (amb : Ambient)
  /-- HOST_MEM_WRITE (R217): A host CXL.mem write to GDDR7 updates a group slice and any far-cache copy. -/
  | hostMemWrite (offset : BitVec 48) (data : List (BitVec 8))
  /-- HOST_LINE_SNOOP (R200): A snoop invalidates a host fetch buffer line, and an undelivered line is marked stale. -/
  | hostLineSnoop (line : BitVec 58)
  /-- PAGE_REQUEST_RESPONSE (R198): The host answers an ATS page request and the demand fetch retries. -/
  | pageRequestResponse (tile : Fin 129) (granted : Bool) (amb : Ambient)
  /-- PAGE_REQUEST_TIMEOUT (R198): pri_timeout passes without an answer; the access fails. -/
  | pageRequestTimeout (tile : Fin 129)
  /-- HWT_ENTRY_WRITE (R199): A 64-bit write of HRC_HWT_ENTRY replaces the indexed host window entry whole. -/
  | hwtEntryWrite (value : BitVec 64)
  /-- STOP (R142): The STOP instruction ends the stream's work for the step and puts the stream in IDLE. -/
  | stop (tile : Fin 128) (stream : Fin 3)
  /-- JMP (R147): The JMP instruction jumps to target. -/
  | jmp (tile : Fin 128) (stream : Fin 3)
  /-- LOOP (R147): The LOOP instruction decrements a loop counter and jumps when the result is not 0. -/
  | loop (tile : Fin 128) (stream : Fin 3)
  /-- LDLC (R147): The LDLC instruction loads a loop counter. -/
  | ldlc (tile : Fin 128) (stream : Fin 3)
  /-- BRTAG (R147): The BRTAG instruction jumps when the current tag's pass equals the operand. -/
  | brtag (tile : Fin 128) (stream : Fin 3)
  /-- FENCE (R147): The FENCE instruction holds issue until every earlier instruction of the stream has completed. -/
  | fence (tile : Fin 128) (stream : Fin 3)
  /-- MMA (R85): The sequencer issues an MMA instruction into the array queue. -/
  | mma (tile : Fin 128) (stream : Fin 3)
  /-- VEC (R113): The sequencer issues a vector instruction into the vector engine's queue. -/
  | vec (tile : Fin 128) (stream : Fin 3)
  /-- DMA (R190): The sequencer issues a DMA instruction into the tile DMA engine's queue. -/
  | dma (tile : Fin 128) (stream : Fin 3)
  /-- RECV (R149): The sequencer issues a RECV on a select set. -/
  | recv (tile : Fin 128) (stream : Fin 3)
  /-- SEND (R149): The sequencer issues a SEND on an endpoint with the current tag. -/
  | send (tile : Fin 128) (stream : Fin 3)
  /-- TOPEN (R288): The TOPEN instruction opens a local trick and records the stream's replay state. -/
  | topen (tile : Fin 128) (stream : Fin 3)
  /-- TCOMMIT (R289): The TCOMMIT instruction publishes the trick's staged lines, or hands them to its deck share, and releases ring space. -/
  | tcommit (tile : Fin 128) (stream : Fin 3)
  /-- TREVOKE_RETRY (R290): TREVOKE with retry = 1 revokes the trick with cause EXPLICIT and replays it. -/
  | trevokeRetry (tile : Fin 128) (stream : Fin 3)
  /-- TREVOKE_CONTINUE (R290): TREVOKE with retry = 0 discards the trick and continues after the instruction. -/
  | trevokeContinue (tile : Fin 128) (stream : Fin 3)
  /-- WAIT_SATISFIED (R165): A stream held on a wait finds the condition satisfied and issues. -/
  | waitSatisfied (tile : Fin 128) (stream : Fin 3)
  /-- SYNC (R160): A remote SYNC packet is applied, deferred or discarded according to its step. -/
  | sync (src : Src)
  /-- ARRAY_GRANT (R102): At a K-block boundary the array grants the feed point to a ready stream, and the K-block enters the array. -/
  | arrayGrant (tile : Fin 128) (amb : Ambient)
  /-- MMA_COMPLETE (R147): The feeder has read every operand of an MMA, or its bank begins to drain under R100, and its signal takes effect. -/
  | mmaComplete (tile : Fin 128) (stream : Fin 3)
  /-- SPARSITY_CHECK (R98): The check of a skipped block ends, confirming or failing the skip. -/
  | sparsityCheck (tile : Fin 128) (bank : Fin 4)
  /-- BANK_COMPLETE (R90): Row 0 of a bank holds its final sum with no check outstanding, and the bank becomes COMPLETE. -/
  | bankComplete (tile : Fin 128) (bank : Fin 4)
  /-- DRAIN_START (R110): A COMPLETE bank starts to drain when a queue entry is free and no other drain runs. -/
  | drainStart (tile : Fin 128)
  /-- DRAIN_END (R110): The last drain cycle ends; the bank is FREE and the queue entry readable. -/
  | drainEnd (tile : Fin 128)
  /-- ARR_CTL_WRITE (R104): A write to TILE_ARR_CTL takes effect, or is discarded whole with cfg_reject set. -/
  | arrCtlWrite (stack : Fin 4) (phys : Fin 34) (value : BitVec 32)
  /-- VCOPY (R124): The vector engine copies and converts its source to the destination. -/
  | vcopy (tile : Fin 128) (amb : Ambient)
  /-- VADD (R124): The vector engine adds two operands. -/
  | vadd (tile : Fin 128) (amb : Ambient)
  /-- VSUB (R124): The vector engine subtracts two operands. -/
  | vsub (tile : Fin 128) (amb : Ambient)
  /-- VMUL (R124): The vector engine multiplies two operands. -/
  | vmul (tile : Fin 128) (amb : Ambient)
  /-- VFMA (R124): The vector engine computes a fused multiply-add. -/
  | vfma (tile : Fin 128) (amb : Ambient)
  /-- VDIV (R124): The vector engine divides two operands. -/
  | vdiv (tile : Fin 128) (amb : Ambient)
  /-- VRCP (R124): The vector engine computes a reciprocal. -/
  | vrcp (tile : Fin 128) (amb : Ambient)
  /-- VSQRT (R124): The vector engine computes a square root. -/
  | vsqrt (tile : Fin 128) (amb : Ambient)
  /-- VRSQRT (R124): The vector engine computes a reciprocal square root by the reference function. -/
  | vrsqrt (tile : Fin 128) (amb : Ambient)
  /-- VEXP (R124): The vector engine computes an exponential by the reference function. -/
  | vexp (tile : Fin 128) (amb : Ambient)
  /-- VLOG (R124): The vector engine computes a natural logarithm by the reference function. -/
  | vlog (tile : Fin 128) (amb : Ambient)
  /-- VTANH (R124): The vector engine computes tanh by the reference function. -/
  | vtanh (tile : Fin 128) (amb : Ambient)
  /-- VSIGM (R124): The vector engine computes a sigmoid by the reference function. -/
  | vsigm (tile : Fin 128) (amb : Ambient)
  /-- VGELU (R124): The vector engine computes GELU by the reference function. -/
  | vgelu (tile : Fin 128) (amb : Ambient)
  /-- VMAX (R124): The vector engine takes the element-wise maximum. -/
  | vmax (tile : Fin 128) (amb : Ambient)
  /-- VMIN (R124): The vector engine takes the element-wise minimum. -/
  | vmin (tile : Fin 128) (amb : Ambient)
  /-- VCMP (R124): The vector engine compares two operands under cond. -/
  | vcmp (tile : Fin 128) (amb : Ambient)
  /-- RSUM (R128): The vector engine sums over the reduced dimensions in the fixed lane tree. -/
  | rsum (tile : Fin 128) (amb : Ambient)
  /-- RSSQ (R128): The vector engine reduces a sum of squares. -/
  | rssq (tile : Fin 128) (amb : Ambient)
  /-- RMV (R129): The vector engine reduces mean and variance. -/
  | rmv (tile : Fin 128) (amb : Ambient)
  /-- RMAX (R131): The vector engine reduces a maximum. -/
  | rmax (tile : Fin 128) (amb : Ambient)
  /-- RMIN (R131): The vector engine reduces a minimum. -/
  | rmin (tile : Fin 128) (amb : Ambient)
  /-- RMAXI (R132): The vector engine reduces a maximum with its index. -/
  | rmaxi (tile : Fin 128) (amb : Ambient)
  /-- RMINI (R132): The vector engine reduces a minimum with its index. -/
  | rmini (tile : Fin 128) (amb : Ambient)
  /-- SCAN (R134): The vector engine computes an inclusive prefix sum. -/
  | scan (tile : Fin 128) (amb : Ambient)
  /-- SCANX (R134): The vector engine computes an exclusive prefix sum. -/
  | scanx (tile : Fin 128) (amb : Ambient)
  /-- SSCAN (R135): The vector engine computes a segmented inclusive prefix sum. -/
  | sscan (tile : Fin 128) (amb : Ambient)
  /-- SSCANX (R135): The vector engine computes a segmented exclusive prefix sum. -/
  | sscanx (tile : Fin 128) (amb : Ambient)
  /-- VSTAMP (R123): The vector engine writes the tile's step cycle counter. -/
  | vstamp (tile : Fin 128) (amb : Ambient)
  /-- VEC_COMPLETE (R115): A vector instruction ends, writes its numeric status block and signals. -/
  | vecComplete (tile : Fin 128)
  /-- DMA_TRANSFER_START (R193): The tile DMA engine takes a queued transfer and moves its elements. -/
  | dmaTransferStart (tile : Fin 128) (amb : Ambient)
  /-- DMA_COMPLETE (R147): Every destination write of a DMA is visible, and its signal takes effect. -/
  | dmaComplete (tile : Fin 128)
  /-- SEND_PLACE (R246): A waiting send finds ring or spill space and places its pad and message records. -/
  | sendPlace (tile : Fin 128) (stream : Fin 3) (amb : Ambient)
  /-- SEND_COMPLETE (R147): A SEND's payload has been read from its source, and the SEND completes. -/
  | sendComplete (tile : Fin 128) (stream : Fin 3)
  /-- RECV_TAKE (R250): A RECV takes a record from a select-set member and replaces the current tag. -/
  | recvTake (tile : Fin 128) (stream : Fin 3)
  /-- RECV_COMPLETE (R147): Every payload write of a RECV is visible, and the RECV completes. -/
  | recvComplete (tile : Fin 128) (stream : Fin 3) (amb : Ambient)
  /-- OPEN (R242): A channel OPEN arrives at a receive endpoint and is accepted or refused. -/
  | openChannel (src : Src)
  /-- ACCEPT (R242): An ACCEPT puts both endpoints in OPEN. -/
  | accept (src : Src)
  /-- REFUSE (R242): A REFUSE schedules a retry, or fails the channel open. -/
  | refuse (src : Src)
  /-- CLOSE (R244): A CLOSE moves a receive endpoint to CLOSING, or ends the sender's close. -/
  | close (src : Src)
  /-- HEAD_UPDATE (R249): A HEAD_UPDATE reports a receiver's released head to the sender. -/
  | headUpdate (src : Src)
  /-- BLOCKED (R255): A blocked notice arrives at a receive endpoint's tile and is matched against that tile's waiting sends. -/
  | blocked (src : Src)
  /-- SPILL_REQ (R256): A spill request puts the named channel in spill mode. -/
  | spillReq (src : Src)
  /-- SPILL_END (R256): A spill-end update returns later messages of the channel to the ring. -/
  | spillEnd (src : Src)
  /-- OPEN_RETRY (R242): 100 µs after a NO_JOB or NOT_READY refusal, the sender repeats OPEN. -/
  | openRetry (tile : Fin 128) (ep : Fin 32)
  /-- OPEN_TIMEOUT (R242): open_timeout passes since the first OPEN without an ACCEPT. -/
  | openTimeout (tile : Fin 128) (ep : Fin 32)
  /-- HEAD_UPDATE_TIMER (R249): 1 µs after an unreported head advance, the receiver sends a head update. -/
  | headUpdateTimer (tile : Fin 128) (ep : Fin 32)
  /-- BLOCKED_NOTICE_TIMER (R255): A send that has waited 256 cycles, and every 4 µs after, sends a blocked notice. -/
  | blockedNoticeTimer (tile : Fin 128) (ep : Fin 32)
  /-- CHANNEL_DEADLOCK (R257): The deadlock timer expires; event 0x0432 and a job fault follow. -/
  | channelDeadlock (tile : Fin 128) (ep : Fin 32)
  /-- DEADLOCK_TIMER_STOP (R257): 8 µs pass with no blocked notice from tile X, and the deadlock timer stops. -/
  | deadlockTimerStop (tile : Fin 128) (ep : Fin 32)
  /-- DATA (R322): A DATA packet's blocks are written at their ring or spill offset; the record becomes visible with its last packet. -/
  | data (src : Src)
  /-- KEEP_RECIPE_FIRING (R375): A read finds its keep entry evicted or stale, and the Dealer fires the entry's recipe on its own package. -/
  | keepRecipeFiring (entry : Fin 128) (version : BitVec 8) (amb : Ambient)
  /-- LOCAL_TRICK_TIMEOUT (R297): A local trick's count reaches local_limit_kc × 1,024, and the trick is revoked with cause TIMEOUT. -/
  | localTrickTimeout (slot : Fin 256)
  /-- LOG_CAPACITY_TIMEOUT (R285): A staged write has waited cap_wait_us for a line entry, and its trick is revoked with cause LOG_CAPACITY. -/
  | logCapacityTimeout (slot : Fin 256)
  /-- SHARE_READY (R300): A deck share's log scan ends, and the participant sends READY or REFUSE. -/
  | shareReady (slot : Fin 16) (mb : Option (BitVec 20)) (logError : Bool)
  /-- TRICK_READY (R301): The coordinator receives READY, and sends COMMIT once it holds every READY. -/
  | trickReady (src : Src)
  /-- TRICK_REFUSE (R301): The coordinator receives REFUSE and sends REVOKE. -/
  | trickRefuse (src : Src)
  /-- PREPARE_TIMEOUT (R301): The coordinator's prepare_us timer expires, and it sends REVOKE with cause TIMEOUT. -/
  | prepareTimeout (entry : Fin 64)
  /-- TRICK_COMMIT (R302): A participant receives COMMIT and publishes its share. -/
  | trickCommit (src : Src)
  /-- PUBLICATION_DONE (R292): Publication of a share ends; the completion is written and DONE is sent. -/
  | publicationDone (slot : Fin 16) (published : Published)
  /-- TRICK_REVOKE (R302): A participant receives REVOKE and halts and drains the job's streams. -/
  | trickRevoke (src : Src)
  /-- REVOKE_DRAINED (R302): Every port has acknowledgement of its packets from before the halt, and DONE is sent. -/
  | revokeDrained (slot : Fin 16) (mb : Option (BitVec 20))
  /-- TRICK_DONE (R301): The coordinator receives DONE, and sends RESUME or an EXPLICIT REVOKE once it holds them all. -/
  | trickDone (src : Src)
  /-- TRICK_RESUME (R302): A participant receives RESUME, resets the job's channels, signals, versions and counters, and repeats the step. -/
  | trickResume (src : Src)
  /-- PORT_ENABLE (R338): A write of enable = 1 moves a port from DISABLED to DETECT. -/
  | portEnable (port : Fin 16)
  /-- PORT_DISABLE (R338): A clear of enable returns a port to DISABLED. -/
  | portDisable (port : Fin 16)
  /-- PORT_FENCE (R335): A write of fence = 1 moves an UP port to HELD. -/
  | portFence (port : Fin 16)
  /-- PORT_UNFENCE (R335): A write of fence = 0 re-evaluates a HELD port, which enters UP when the other conditions hold. -/
  | portUnfence (port : Fin 16)
  /-- SIGNAL_DETECT (R338): Signal appears on at least min_lanes lanes and the port enters TRAIN. -/
  | signalDetect (port : Fin 16) (lanes : BitVec 8)
  /-- TRAINING_DONE (R316): Training completes and the port enters ALIGN. -/
  | trainingDone (port : Fin 16) (rxLanes : BitVec 8) (txLanes : BitVec 8)
  /-- TRAINING_FAILED (R338): Training fails or 100 ms pass; the port goes DOWN and event 0x070B is raised. -/
  | trainingFailed (port : Fin 16)
  /-- ALIGN_LOCK (R338): rx_locked is seen from the peer and held locally; the port enters DISCOVER and sends its identity. -/
  | alignLock (port : Fin 16)
  /-- ALIGN_TIMEOUT (R338): 10 ms pass in ALIGN without lock; the port goes DOWN. -/
  | alignTimeout (port : Fin 16)
  /-- IDENTITY (R334): An identity block is received, and the port enters UP or HELD, or updates its neighbour entry. -/
  | identity (port : Fin 16)
  /-- DISCOVER_TIMEOUT (R338): No identity arrives within 10 ms of DISCOVER; the port goes DOWN. -/
  | discoverTimeout (port : Fin 16)
  /-- FRAME_LOCK_TIMEOUT (R338): Frame lock is not regained within 16 µs; the port goes DOWN. -/
  | frameLockTimeout (port : Fin 16)
  /-- PEER_IDLE (R338): The peer's transmitters are idle for 1 µs; the port goes DOWN. -/
  | peerIdle (port : Fin 16)
  /-- HOLDOFF_EXPIRY (R338): holdoff_ms passes in DOWN with auto_retrain set; the port enters DETECT. -/
  | holdoffExpiry (port : Fin 16)
  /-- FRAME_TRANSMIT (R317): A port sends the next frame with its control block, setting credit limits. -/
  | frameTransmit (port : Fin 16) (rateHits : List Bool)
  /-- CONTROL_BLOCK (R325): A good control block is processed for limits, purging and nak. -/
  | controlBlock (port : Fin 16) (frame : FrameEnd)
  /-- REPLAY_TIMER (R328): The replay timer expires and the replay buffer is replayed. -/
  | replayTimer (port : Fin 16)
  /-- PACKET_ARRIVAL (R326): A packet is checked and accepted into the kitty, or discarded as duplicate, gap or CRC failure. -/
  | packetArrival (port : Fin 16) (wire : List (BitVec 8))
  /-- PACKET_FIRST_SEND (R327): A packet with its credits and replay space available is transmitted for the first time. -/
  | packetFirstSend (port : Fin 16) (cls : Fin 4) (rateHit : Bool)
  /-- REORDER_TIMEOUT (R349): A held reordered packet sees no following packet within 1 µs and is sent unchanged. -/
  | reorderTimeout (port : Fin 16)
  /-- PACKET_FORWARD (R344): An accepted packet not for this package is routed and copied into its egress replay buffer. -/
  | packetForward (port : Fin 16) (cls : Fin 4) (rateHit : Bool)
  /-- KITTY_STALL (R333): A packet has waited 100 µs in a kitty; event 0x0709 is raised. -/
  | kittyStall (port : Fin 16) (cls : Fin 4)
  /-- LANE_FAILURE (R341): A lane misses two markers or exceeds its FEC error rate, and is declared failed. -/
  | laneFailure (port : Fin 16) (lane : Fin 8)
  /-- RESTRIPE_LOCK (R342): The receiver deskews the remaining lanes, sets rx_locked and raises nak. -/
  | restripeLock (port : Fin 16)
  /-- LANE_RESTORE (R343): A write of lane_restore starts equalising each failed lane alone. -/
  | laneRestore (port : Fin 16)
  /-- LANE_RESTORED (R343): A restored lane trains, is added and raises event 0x0704. -/
  | laneRestored (port : Fin 16) (lane : Fin 8)
  /-- HL_CNT_CLR (R353): A write of cnt_clr clears the port counters. -/
  | hlCntClr (port : Fin 16)
  /-- HL_FI_WRITE (R349): A fault-injection register write takes effect, or is discarded with cfg_reject. -/
  | hlFiWrite (port : Fin 16) (cls : Fin 5) (value : BitVec 64)
  /-- RT_ENTRY_WRITE (R347): A route-table entry write takes effect whole, or is discarded with cfg_reject. -/
  | rtEntryWrite (table : Option (Fin 16)) (dest : Fin 4096) (value : BitVec 32)
  /-- KITTY_CLASS_WRITE (R350): A write of HL_KITTY_CLASS takes effect only in DISABLED or DOWN with valid values. -/
  | kittyClassWrite (port : Fin 16) (cls : Fin 4) (value : BitVec 32)
  /-- MGMT (R484): A management-job packet, such as a heartbeat, is delivered to the management controller. -/
  | mgmt (src : Src)
  /-- MELD_TRIGGER (R365): A trigger counter reaches its target and starts a Meld firing. -/
  | meldTrigger (engine : Fin 2) (slot : Fin 512) (amb : Ambient)
  /-- JOIN (R367): A JOIN records a child package of a shard, or starts a relay firing. -/
  | join (src : Src)
  /-- GRANT (R367): A GRANT lets a package send partials for more slabs. -/
  | grant (src : Src)
  /-- DEMAND (R375): A DEMAND makes a parent send a shard, or pass the DEMAND on. -/
  | demand (src : Src) (amb : Ambient)
  /-- MELD_DATA (R370): A Meld partial or result packet is folded into a slab, or written and forwarded. -/
  | meldData (src : Src)
  /-- SSQ_SOURCE (R378): The stats home receives a source sum of squares. -/
  | ssqSource (src : Src)
  /-- SSQ_SHARD (R378): The stats home receives a shard sum of squares. -/
  | ssqShard (src : Src)
  /-- MELD_FIRING_END (R368): Every slab of a firing has been dealt with; done_obj receives ADD 1. -/
  | meldFiringEnd (engine : Fin 2) (slot : Fin 512)
  /-- MLD_CNT_CLR (R386): A write of cnt_clr clears the Meld engine counters. -/
  | mldCntClr (engine : Fin 2)
  /-- MLD_ENTRY_WRITE (R364): A context, source or shard entry write takes effect, or is discarded with cfg_reject. -/
  | mldEntryWrite (engine : Fin 2) (offset : BitVec 16) (value : BitVec 64) (byDealer : Bool)
  /-- GDDR_TRAINED (R229): A controller finishes training and initialising its device, and sets trained. -/
  | gddrTrained (ctrl : Fin 20)
  /-- GDDR_TRAINING_FAILED (R230): A third training attempt fails; train_fail is set and event 0x0620 is raised. -/
  | gddrTrainingFailed (ctrl : Fin 20)
  /-- GDDR_TEMP_POLL (R227): Every 1 ms a controller reads its device's temperature and sets the throttle step. -/
  | gddrTempPoll (ctrl : Fin 20) (reading : Option (BitVec 8))
  /-- GDDR_RETRAIN (R231): Every 100 ms a controller retrains one channel's timing. -/
  | gddrRetrain (ctrl : Fin 20) (channel : Fin 4)
  /-- SCRUB_VISIT (R222): A scrub reads the next sector and corrects or poisons it. -/
  | scrubVisit (ctrl : Fin 20) (outcome : ReadOutcome) (overtaken : Bool)
  /-- ERR_CLR (R234): A write of err_clr clears GD_ERR. -/
  | errClr (ctrl : Fin 20)
  /-- GD_THR_WRITE (R234): A threshold write takes effect, or is discarded whole. -/
  | gdThrWrite (ctrl : Fin 20) (value : BitVec 32)
  /-- MARGINING_START (R232): A write of start begins margining, or is refused with result 3. -/
  | marginingStart (ctrl : Fin 20)
  /-- MARGINING_DONE (R232): Margining ends; result and done are set. -/
  | marginingDone (ctrl : Fin 20) (margins : List (BitVec 32))
  /-- STK_GDDR_CFG_WRITE (R233): A write of cut_512m starts a layout change, or is discarded. -/
  | stkGddrCfgWrite (stack : Fin 4) (value : BitVec 32)
  /-- GDDR_LAYOUT_DONE (R233): The layout change ends and busy clears. -/
  | gddrLayoutDone (stack : Fin 4)
  /-- STK_MEM_CFG_WRITE (R205): A write of far_4m starts a far-cache resize, or is discarded. -/
  | stkMemCfgWrite (stack : Fin 4) (value : BitVec 32)
  /-- FAR_CACHE_RESIZE_DONE (R205): Write-back and invalidation end, the new size applies and busy clears. -/
  | farCacheResizeDone (stack : Fin 4)
  /-- LOAD_READY (R438): A load READY from downstream lets a package forward, or the head start reading. -/
  | loadReady (src : Src)
  /-- LOAD_RESTART (R436): The head receives a restart request and restarts a background load from its first segment. -/
  | loadRestart (src : Src)
  /-- LOAD_IMAGE_FETCH (R437): The head reads and checks the next image segment and emits its BULK packets. -/
  | loadImageFetch (slot : Fin 16) (loadId : Fin 16) (amb : Ambient)
  /-- LOAD_PACKET (R439): A load packet's bytes are kept and forwarded along the chain. -/
  | loadPacket (src : Src)
  /-- TILE_HEARTBEAT_SAMPLE (R461): Every 0.5 µs the stack samples each tile's heartbeat. -/
  | tileHeartbeatSample (stack : Fin 4) (missed : BitVec 34)
  /-- TILE_CHECK_FAILURE (R461): A tile check fails or a heartbeat is missed, and the stack declares the tile failed. -/
  | tileCheckFailure (stack : Fin 4) (phys : Fin 34) (check : TileCheck)
  /-- TILE_IMAGE_RELOADED (R465): The spare's image ranges are reloaded and its streams replay or resume. -/
  | tileImageReloaded (tile : Fin 128)
  /-- D2D_LANE_FAILURE (R471): A die-to-die lane fails and is steered to a spare, or the module narrows or is fenced. -/
  | d2dLaneFailure (d2d : Fin 84) (lane : BitVec 5)
  /-- CUT_COPY_DONE (R479): Both cut copies are complete and the share may become ready. -/
  | cutCopyDone (slot : Fin 16) (refused : Bool)
  /-- CUT_WRITE (R483): The partner writes a cut-write packet into its cut region. -/
  | cutWrite (src : Src)
  /-- PACKAGE_HEARTBEAT (R484): Every 1 ms the package sends a heartbeat with its cut locations to each recovery lead. -/
  | packageHeartbeat
  /-- PACKAGE_LOSS_DECLARED (R484): pkg_loss_ms passes without a heartbeat; the lead declares the package lost and starts takeover. -/
  | packageLossDeclared (package : BitVec 12)
  /-- TAKEOVER_ORDER (R485): A talon receives a takeover order, takes the lost ID and requests the cut. -/
  | takeoverOrder (src : Src)
  /-- CUT_FETCH (R486): A cut partner receives CUT_FETCH and streams the named half, or answers CUT_NONE. -/
  | cutFetch (src : Src)
  /-- CUT_NONE (R486): A CUT_NONE ends the fetch and the job is ended on every package of the deck. -/
  | cutNone (src : Src)
  /-- CUT_READ (R486): The talon checks and writes a cut-read packet's records. -/
  | cutRead (src : Src)
  /-- CUT_RESTORED (R485): The cut set is restored, channels re-open, pending descriptors complete and event 0x0233 is raised. -/
  | cutRestored (slot : Fin 16)
  /-- RELINK_TIMEOUT (R474): A link stays down for relink_ms and the lead fences the end with the higher ID. -/
  | relinkTimeout (port : Fin 16)
  /-- FENCE_ORDER (R474): A fenced package stops its heartbeat and ends its jobs of the deck. -/
  | fenceOrder (src : Src)
  /-- NONCE (R508): The NONCE command draws a new nonce for its path. -/
  | nonce (path : SecPath) (drawn : BitVec 256)
  /-- NONCE_EXPIRY (R508): A nonce expires 60 s after it is drawn. -/
  | nonceExpiry (path : SecPath)
  /-- FW_BEGIN (R505): FW_BEGIN erases the inactive slot and opens the update session. -/
  | fwBegin (path : SecPath)
  /-- FW_WRITE (R505): FW_WRITE writes the buffer into the inactive slot at the given offset. -/
  | fwWrite (path : SecPath) (arg : BitVec 32) (buffer : List (BitVec 8))
  /-- FW_FINISH (R505): FW_FINISH checks the slot and closes the session. -/
  | fwFinish (path : SecPath)
  /-- FW_ACTIVATE (R505): FW_ACTIVATE prefers the checked slot with trial set. -/
  | fwActivate (path : SecPath)
  /-- UPDATE_SESSION_TIMEOUT (R505): An update session idle for 60 s closes and leaves its slot invalid. -/
  | updateSessionTimeout
  /-- BOOT_CONFIRM (R506): BOOT_CONFIRM clears trial. -/
  | bootConfirm (path : SecPath)
  /-- SVN_COMMIT (R504): SVN_COMMIT burns svn fuse bits up to the running image's svn. -/
  | svnCommit (path : SecPath)
  /-- OWNER_CLAIM (R509): OWNER_CLAIM burns a new owner entry. -/
  | ownerClaim (path : SecPath) (buffer : List (BitVec 8))
  /-- OWNER_RELEASE (R509): OWNER_RELEASE revokes the active owner entry. -/
  | ownerRelease (path : SecPath) (buffer : List (BitVec 8))
  /-- DEBUG_UNLOCK (R519): DEBUG_UNLOCK raises the debug level, erasing keys and memory and losing jobs for levels 2 and 3. -/
  | debugUnlock (path : SecPath) (buffer : List (BitVec 8))
  /-- DEBUG_NONCE_DRAW (R518): Shifting 1 into the IEEE 1687 draw register draws the instrument's nonce. -/
  | debugNonceDraw (drawn : BitVec 256)
  /-- DEBUG_BLOCK_CHECK (R518): The IEEE 1687 block register's update phase checks a signed DEBUG_UNLOCK block. -/
  | debugBlockCheck (block : List (BitVec 8))
  /-- RECORDER_CLEAR (R540): RECORDER_CLEAR raises event 0x0C05 and starts erasing the recorder region. -/
  | recorderClear (path : SecPath) (buffer : List (BitVec 8))
  /-- RECORDER_CLEAR_DONE (R540): The erase ends; next returns to 0 and full clears. -/
  | recorderClearDone
  /-- GET_VERSION (R513): The SPDM responder answers GET_VERSION with VERSION 1.3. -/
  | getVersion
  /-- GET_CAPABILITIES (R513): The SPDM responder answers GET_CAPABILITIES. -/
  | getCapabilities
  /-- NEGOTIATE_ALGORITHMS (R512): The SPDM responder negotiates the algorithms of R512. -/
  | negotiateAlgorithms
  /-- GET_DIGESTS (R513): The SPDM responder returns the digest of slot 0. -/
  | getDigests
  /-- GET_CERTIFICATE (R511): The SPDM responder returns the certificate chain. -/
  | getCertificate (slot : BitVec 8) (offset : BitVec 16) (length : BitVec 16)
  /-- CHALLENGE (R513): The SPDM responder answers CHALLENGE_AUTH signed with the Alias key. -/
  | challenge (slot : BitVec 8) (asked : SpdmAsk)
  /-- GET_MEASUREMENTS (R515): The SPDM responder returns the measurement blocks, signed on request. -/
  | getMeasurements (index : BitVec 8) (signed : Bool) (asked : SpdmAsk)
  /-- KEY_EXCHANGE (R513): The SPDM responder starts a session with KEY_EXCHANGE_RSP. -/
  | keyExchange (request : List (BitVec 8))
  /-- FINISH (R513): The SPDM responder completes the session handshake with FINISH_RSP. -/
  | finish (session : Fin 2) (request : List (BitVec 8))
  /-- SPDM_HEARTBEAT (R513): The SPDM responder answers a session HEARTBEAT. -/
  | spdmHeartbeat (session : Fin 2)
  /-- KEY_UPDATE (R513): The SPDM responder updates session keys. -/
  | keyUpdate (session : Fin 2) (op : BitVec 8)
  /-- END_SESSION (R513): The SPDM responder ends a session, leaving programmed IDE keys in force. -/
  | endSession (session : Fin 2)
  /-- CHUNK_GET (R513): The SPDM responder returns the next chunk of a large response. -/
  | chunkGet (handle : BitVec 8) (seq : BitVec 16)
  /-- CHUNK_SEND (R513): The SPDM responder takes a chunk of a large request. -/
  | chunkSend (handle : BitVec 8) (seq : BitVec 16) (last : Bool) (data : List (BitVec 8))
  /-- SPDM_UNSUPPORTED (R513): An unsupported SPDM request is answered with ERROR UnsupportedRequest. -/
  | spdmUnsupported (code : BitVec 8)
  /-- QUERY (R516): IDE_KM QUERY returns the IDE capabilities. -/
  | query (session : Fin 2)
  /-- KEY_PROG (R516): IDE_KM KEY_PROG programs a key set not in use. -/
  | keyProg (session : Fin 2) (stream : IdeStream) (keySet : Fin 2) (key : BitVec 256)
  /-- K_SET_GO (R516): K_SET_GO switches a direction to the named key set at a flit boundary; event 0x0A08 is raised. -/
  | kSetGo (session : Fin 2) (stream : IdeStream) (keySet : Fin 2)
  /-- K_SET_STOP (R516): K_SET_STOP stops the use of a key set. -/
  | kSetStop (session : Fin 2) (stream : IdeStream) (keySet : Fin 2)
  /-- IDE_INTEGRITY_FAILURE (R517): IDE reports an integrity failure; the host link is declared lost and event 0x0A09 is raised. -/
  | ideIntegrityFailure (stream : IdeStream)
  /-- REC_READ (R543): The MCTP REC_READ command returns recorder records from a start index. -/
  | recRead (start : BitVec 32) (unit : BitVec 16)
  /-- REC_STATUS (R543): The MCTP REC_STATUS command returns EVR_STATUS and EVR_QUEUE. -/
  | recStatus
  /-- RATE_LIMIT_REFILL (R534): Every P seconds a token is added to an event code's bucket below its burst. -/
  | rateLimitRefill (code : BitVec 16)
  /-- RECORDER_PROGRAM (R537): A queued event record is programmed into the next recorder slot in flash. -/
  | recorderProgram
  /-- JOURNAL_WRITE (R538): Every 60 s the operating-time journal gets a new entry. -/
  | journalWrite (failed : Bool)
  /-- STATS_PAGE_WRITTEN (R526): The latched statistics half is written to host memory, and the step's completion may then be written. -/
  | statsPageWritten (slot : Fin 16)
  /-- PERST_N_DEASSERT (R561): PERST_N rises, and the host link starts training within 20 ms and configuration requests are answered within 100 ms. -/
  | perstNDeassert
  /-- PROCHOT_N_DEASSERT (R563): PROCHOT_N returns high; prochot clears and the islands, including a replaying spare, leave the forced 400 MHz. -/
  | prochotNDeassert
  /-- FRAME_LOCK_LOST (R338): A receiving port in UP loses frame lock on a failure it cannot attribute to one lane, clears rx_locked and starts the 16 µs regain window. -/
  | frameLockLost (port : Fin 16)
  /-- FRAME_LOCK_REGAINED (R338): A port in UP regains frame lock within 16 µs, sets rx_locked again and stays UP. -/
  | frameLockRegained (port : Fin 16)
  /-- TCOMMIT_COMPLETE (R289): The publication or handover of a local trick's TCOMMIT becomes visible; TCOMMIT completes, its signal takes effect and the stream issues again. -/
  | tcommitComplete (tile : Fin 128) (stream : Fin 3) (logError : Bool)
  /-- LOOPBACK_CHECKER_LOCK (R574): A lane's PRBS31 checker in LOOPBACK locks to the pattern; locked sets and errors start counting. -/
  | loopbackCheckerLock (port : Fin 16) (lane : Fin 8)
  /-- SPDM_HEARTBEAT_TIMEOUT (R513): An SPDM session sees no message within its 60 s heartbeat period, as SPDM defines, and the responder ends the session. -/
  | spdmHeartbeatTimeout (session : Fin 2)
  deriving DecidableEq, Repr

end Sys2Proof
end

