-- ==== Sys2Proof/Decode.lean ====
section
/-! DEFINITION. Decode.lean: the command that a word spells.  spec/opcode_table.json gives none of its rows any bits: every `fields`
is empty. -/
namespace Sys2Proof

/-- The command that a word of `nbits` bits spells by the table's bits: no row has bits, so no word spells a command. -/
def decodeTableWord (_nbits _w : Nat) : Option Instr := none

end Sys2Proof
end

