-- ==== Sys2Proof/Config.lean ====
section
/-! DEFINITION. Config.lean: what the spec leaves open, as constants without a body: nothing can be proved of their values, so a
statement holds whatever they are.  The assumption log names each of them. -/
namespace Sys2Proof.Config

/-- A byte of host memory that nothing has written (log 5). -/
opaque hostByte (address : Nat) : Byte

/-- The host's answer to the n-th ATS translation request, for a 4 KiB page: the page it gives, if any (R393; log 6). -/
opaque atsTranslate (n page : Nat) : Option Nat

/-- The set of the far cache that a 256-byte line belongs to (R203; log 7). -/
opaque farSet (line : Nat) : Nat

/-- The reference functions of R124 on FP32 operands; their bits are not in the spec (log 8). -/
opaque rsqrtFn (x : Word) : Word

opaque expFn (x : Word) : Word

opaque logFn (x : Word) : Word

opaque tanhFn (x : Word) : Word

opaque sigmoidFn (x : Word) : Word

opaque geluFn (x : Word) : Word

/-- Byte strings of manufacture, by name (log 9): 0 the vendor's firmware public key that the ROM holds, 4 the ROM, and the parts of the Alias
certificate that the spec does not give: 5 issuer, 6 validity, 7 subject, 8 the extension's identifier, 9 its serial number. -/
opaque keyBytes (name : Nat) : List Byte

/-- The secret of a P-384 key exchange of SPDM, by the random draw and the peer's bytes, and the responder's own 96 bytes (log 9). -/
opaque exchange (draw : Nat) (peer : List Byte) : List Byte

opaque exchangeKey (draw : Nat) : List Byte

/-- The responder's proof of a session's secret, and the opaque data of KEY_EXCHANGE_RSP (R513; log 110). -/
opaque verifyData (secret : List Byte) : List Byte

opaque opaqueData : List Byte

/-- What SPDM has the responder sign for a response: the transcript of the connection enters it (R513; log 110). -/
opaque toSign (response : List Byte) : List Byte

/-- The instruction that the TAP's instruction register holds for its bits, and what an instruction scan captures (R573; log 153). -/
opaque tapDecode (bits : List Bool) : Nat

opaque tapCapture : List Bool

/-- The entries of the CDAT, which DOE serves (R389; log 181). -/
opaque cdat (entry : Nat) : List Byte

/-- Whether a FINISH request proves the session's secret (R513; log 9). -/
opaque finishOk (secret request : List Byte) : Bool

/-- The n-th random value of the security block's generator (R67, R508; log 10). -/
opaque random (n : Nat) : BitVec 256

/-- The body of a deck image that a talon reads back from a cut: its sections' format is Edmel's (R411, R486; log 21). -/
opaque decodeDeck (image : List Byte) : Option Deck

/-- The bits of element `i` of an MX block that is marked NaN, of which R53 says only that it reads as NaN (log 136). -/
opaque nanElement (i : Nat) : Byte

/-- Check byte `i` of a GDDR7 sector: R219 gives the kind of code, not its polynomials (log 142). -/
opaque checkByte (sector : List Byte) (i : Nat) : Byte

/-- The n-th value that the spec leaves open (log 3). -/
opaque freeValue (n : Nat) : Dword

end Sys2Proof.Config
end

