-- ==== Sys2Proof/Machine/State.lean ====
section
/-! DEFINITION. State.lean: everything the spec gives the AG480, as plain data, and its value after power-on reset.

Each field's comment reads: what it is | width | the file and rule that name it | its value after reset.  A field marked (model)
is the model's own.  Every table's unlisted entries hold the reset value of their type. -/
namespace Sys2Proof.Machine

/-! ## Numerics -/

/-- The counts of a numeric status block (R72). -/
structure NumStatus where
  /-- Finite values that became infinity, or NaN in E4M3 | 32 | 02 R72 | 0 -/
  ovf : Nat := 0
  /-- New NaN results | 32 | 02 R72 | 0 -/
  nanNew : Nat := 0
  /-- Saturated values | 32 | 02 R72 | 0 -/
  sat : Nat := 0
  /-- Nonzero finite values written as zero | 32 | 02 R72 | 0 -/
  ftz : Nat := 0
  /-- Elements written as infinity or NaN | 32 | 02 R72 | 0 -/
  nonfinite : Nat := 0
  /-- Lowest element index counted in ovf or nanNew | 32 | 02 R72 | none (0xFFFF_FFFF) -/
  firstIndex : Option Nat := none
  /-- Largest floor(log2 of magnitude) | 16 signed | 02 R72 | none (0x8000) -/
  amaxExp : Option Int := none
  /-- SR was used | 1 | 02 R72 | 0 -/
  srUsed : Bool := false
  /-- Elements written | 32 | 02 R72 | 0 -/
  elements : Nat := 0
  deriving DecidableEq, Repr

/-- An exact value: NaN, an infinity, or ± m × 2^e.  A zero keeps its sign. -/
inductive Num where
  | nan
  | inf (neg : Bool)
  | fin (neg : Bool) (m : Nat) (e : Int)
  deriving DecidableEq, Repr

/-- A W320 accumulator (R58). -/
structure W320 where
  /-- A NaN was added | 1 | 02 R58 | 0 -/
  nan : Bool := false
  /-- A +infinity was added | 1 | 02 R58 | 0 -/
  pinf : Bool := false
  /-- A −infinity was added | 1 | 02 R58 | 0 -/
  ninf : Bool := false
  /-- Two's-complement fixed point, bit 0 weighs 2^-149 | 301 | 02 R58 | 0 -/
  value : BitVec 301 := 0
  deriving DecidableEq, Repr

/-! ## Instructions in flight -/

/-- The engine an instruction is executed by (R147, R206). -/
inductive Engine where
  | seq
  | array
  | vector
  | dma
  | channel
  | trick
  deriving DecidableEq, Repr

/-- How far an issued instruction has come: queued (R143), started in its engine, moved (all of its data written, its
completion not yet signalled), or waiting for something its engine must be given first. -/
inductive OpPhase where
  | queued
  | started
  | moved
  | waiting
  deriving DecidableEq, Repr

/-- An instruction that has issued and not completed (R143, R147). -/
structure Op where
  /-- Executing engine | enum | 05 R147 | - -/
  engine : Engine
  /-- The 128-bit instruction word | 128 | 05 R146 | - -/
  word : BitVec 128
  /-- The current tag when it issued | 128 | 05 R141 | - -/
  tag : Tag
  /-- Word offset | 16 | 05 R140 | - -/
  pc : BitVec 16
  /-- Progress | enum | 05 R143, R147 | queued -/
  phase : OpPhase := .queued
  /-- K-blocks of an MMA already granted | 12 | 03 R102 | 0 -/
  granted : Nat := 0
  /-- Store tracking so far | - | 02 R72 | zero counts -/
  status : NumStatus := {}
  /-- Endpoint that a RECV took from | 5 | 08 R250 | none -/
  takenEp : Option Nat := none
  /-- Ring or spill pointer of the record taken or placed | 32 | 08 R245 | 0 -/
  recPtr : Word := 0
  /-- The record lies in the spill area | 1 | 08 R256 | 0 -/
  inSpill : Bool := false
  /-- msg_seq of the message placed | 32 | 08 R245 | 0 -/
  msgSeq : Word := 0
  /-- The send or take was made before a replay: no message, no count and no reference change | 1 | 08 R250, R268 | 0 -/
  replayed : Bool := false
  /-- Host-window address whose translation the transfer waits on | 48 | 06 R198 | none -/
  faultAddr : Option (BitVec 48) := none
  /-- Arithmetic cycles that a RECV has waited for its record | 48 | 08 R259 | 0 -/
  waited : Nat := 0
  /-- Keep entries that the instruction pins | 128 | 08 R272 | empty -/
  pins : List Nat := []
  /-- Its signal is one that a replay suppresses | 1 | 05 R162 | 0 -/
  mute : Bool := false
  /-- It issued inside a local trick, and its durable writes are staged | 1 | 09 R280 | 0 -/
  inTrick : Bool := false
  /-- A moved transfer computed values, which are tracked | 1 | 06 R191 | 0 -/
  tracks : Bool := false
  /-- Status address of its descriptor as the engine read it | 48 | 04 R115, R116 | 0 -/
  statusAt : Nat := 0
  deriving DecidableEq, Repr

/-! ## Streams -/

/-- A synchronisation handle's four registers (R156). -/
structure Handle where
  /-- TILE_SYNC_H_OBJ: valid, remote, kind, package, object | 32 | 05 R156 | 0 -/
  obj : Word := 0
  /-- TILE_SYNC_H_SIG: sig_op, sig_arg | 32 | 05 R156 | 0 -/
  sig : Word := 0
  /-- TILE_SYNC_H_WAIT: wait_op, wait_step | 32 | 05 R156 | 0 -/
  wait : Word := 0
  /-- TILE_SYNC_H_TGT: target | 32 | 05 R156 | 0 -/
  tgt : Word := 0
  deriving DecidableEq, Repr

/-- State of a sequencer (TILE_SEQ_STATUS.state, R145). -/
inductive SeqState where
  | idle
  | run
  | wait
  | engine
  | halt
  deriving DecidableEq, Repr

/-- The replay state of a stream (R288): what TOPEN records, and the resume point of R463. -/
structure ReplayState where
  /-- Word offset of the TOPEN (record) or at which to resume (resume point) | 16 | 09 R288, 15 R463 | 0 -/
  pc : BitVec 16 := 0
  /-- Current tag | 128 | 09 R288 | 0 -/
  tag : Tag := 0
  /-- Loop counters 0–3 | 4 × 24 | 09 R288 | 0 -/
  loops : Tbl (BitVec 24) := []
  /-- target of every handle | 63 × 32 | 09 R288 | 0 -/
  targets : Tbl Word := []
  /-- next of every select set | 8 × 3 | 09 R288 | 0 -/
  nexts : Tbl Nat := []
  /-- Released head of every receive endpoint of the tile | 32 × 32 | 09 R288 | 0 -/
  heads : Tbl Word := []
  deriving DecidableEq, Repr

/-- One instruction stream of a tile. -/
structure Stream where
  /-- TILE_SEQ_PROG: base_4k, entry | 32 | 05 R145 | 0 -/
  prog : Word := 0
  /-- TILE_SEQ_STATUS.state | 3 | 05 R145, R175 | IDLE -/
  state : SeqState := .idle
  /-- TILE_SEQ_STATUS.wait_handle | 6 | 05 R145 | 0 -/
  waitHandle : BitVec 6 := 0
  /-- TILE_SEQ_STATUS.pc | 16 | 05 R145 | 0 -/
  pc : BitVec 16 := 0
  /-- TILE_SEQ_SUPPRESS.pending: signals still to be suppressed | 16 | 05 R145, R162 | 0 -/
  pending : Nat := 0
  /-- Sends still to be suppressed in a replay | - | 08 R250 | 0 -/
  pendingSends : Nat := 0
  /-- Version reference changes of takes still to be skipped in a replay | - | 08 R268 | 0 -/
  pendingTakes : Nat := 0
  /-- Current tag (TILE_SEQ_TAG0–3) | 128 | 05 R141, R145 | 0 -/
  tag : Tag := 0
  /-- Loop counters 0–3 | 4 × 24 | 05 R149, R175 | 0 -/
  loops : Tbl (BitVec 24) := []
  /-- Handles 1–63 | 63 × 128 | 05 R156, R175 | 0 -/
  handles : Tbl Handle := []
  /-- TILE_SEL 0–7 | 8 × 64 | 08 R252, R275 | 0 -/
  sels : Tbl Dword := []
  /-- Instructions issued and not completed, oldest first: the queues of R143 and the engines' current work | 4+2+8+4+2 | 05 R143 | empty -/
  ops : List Op := []
  /-- The stream issues nothing until the RECV has taken its message, or TOPEN or TCOMMIT completes | 1 | 05 R149, 09 R288, R289 | 0 -/
  issueHeld : Bool := false
  /-- The wait of the next instruction has been satisfied (model) | 1 | 05 R156, R158 | 0 -/
  waitDone : Bool := false
  /-- Slot of the open local trick | 8 | 09 R278 | none -/
  trick : Option Nat := none
  /-- Passed-over counts at the array, vector engine, DMA engine and channel unit | 4 × 8 | 03 R102, R106, 04 R114, 05 R144 | 0 -/
  passed : Tbl Nat := []
  /-- Resume point kept in the stack's shadow | - | 15 R463 | entry state -/
  resume : ReplayState := {}
  /-- The stream replays the span that a tile swap interrupted | 1 | 15 R465 | 0 -/
  swapped : Bool := false
  deriving DecidableEq, Repr

/-! ## The matrix array and the finished-tile queue -/

/-- State of an accumulator bank (R83). -/
inductive BankState where
  | free
  | accumulating
  | held
  | complete
  | checking
  | draining
  deriving DecidableEq, Repr

/-- An MMA instruction of an accumulation, as the sequencer replays it for a recompute (R99). -/
structure AccStep where
  word : BitVec 128
  tag : Tag
  pc : BitVec 16
  deriving DecidableEq, Repr

/-- A skipped block awaiting its check (R97, R98). -/
structure SkipCheck where
  /-- Index of the instruction within the accumulation | 5 | 03 R99 | - -/
  step : Nat
  /-- K-block index | 16 | 03 R97 | - -/
  kBlock : Nat
  /-- Row group 0–7 | 3 | 03 R96 | - -/
  group : Nat
  /-- A cell held a zero accumulator when the marker passed | 1 | 03 R97 | - -/
  sawZero : Bool
  deriving DecidableEq, Repr

/-- One accumulator bank of a tile. -/
structure Bank where
  /-- Bank state (TILE_ARR_STATUS.bankN_state) | 3 | 03 R83, R103, R106 | FREE -/
  state : BankState := .free
  /-- Stream whose accumulation it holds | 2 | 03 R84 | 0 -/
  stream : Nat := 0
  /-- The cells' registers, cell (i, j) at i × 128 + j | 16,384 × 48 | 01 R25, 03 R82, R106 | +0 -/
  cells : Tbl (BitVec 48) := []
  /-- The registers hold I48 integers | 1 | 02 R57 | 0 -/
  isInt : Bool := false
  /-- The accumulation's instructions so far | 32 entries | 03 R99 | empty -/
  steps : List AccStep := []
  /-- An instruction of the accumulation carries sparse = 1 | 1 | 03 R99 | 0 -/
  sparse : Bool := false
  /-- Sparsity checks outstanding | - | 03 R98 | empty -/
  checks : List SkipCheck := []
  /-- A check has failed; the accumulation is recomputed with prediction off | 1 | 03 R99 (TILE_ARR_STATUS.recompute) | 0 -/
  recompute : Bool := false
  /-- K-blocks of that instruction fed again | - | 03 R99 | 0 -/
  redone : Nat := 0
  /-- Instruction of the accumulation that the recompute feeds next | 5 | 03 R99 | 0 -/
  redoStep : Nat := 0
  /-- Valid rows and columns of the accumulation | 8 + 8 | 04 R109 | 0 -/
  rows : Nat := 0
  cols : Nat := 0
  /-- Tag of the accumulation's last MMA | 128 | 04 R109 | 0 -/
  tag : Tag := 0
  /-- The last k-step of the final instruction has been fed | 1 | 03 R90 | 0 -/
  fed : Bool := false
  deriving DecidableEq, Repr

/-- An entry of the finished-tile queue (R109). -/
structure FinEntry where
  /-- Owning stream | 2 | 04 R109 | - -/
  stream : Nat
  /-- Bank drained | 2 | 04 R109 | - -/
  bank : Nat
  /-- Values are I48 | 1 | 04 R109 | - -/
  isInt : Bool
  /-- Valid rows and columns | 8 + 8 | 04 R109 | - -/
  rows : Nat
  cols : Nat
  /-- Tag of the accumulation's last MMA | 128 | 04 R109 | - -/
  tag : Tag
  /-- The 16,384 values | 16,384 × 48 | 04 R109 | - -/
  cells : Tbl (BitVec 48)
  /-- The entry is readable (its drain has ended) | 1 | 04 R110 | - -/
  readable : Bool
  deriving DecidableEq, Repr

/-! ## Channels -/

/-- State of an endpoint (TILE_EP_STATUS.state, R239). -/
inductive EpState where
  | closed
  | opening
  | opened
  | closing
  deriving DecidableEq, Repr

/-- A record taken from a channel whose space is not yet released (R250). -/
structure TakenRec where
  /-- Stream that took it | 2 | 08 R250 | - -/
  stream : Nat
  /-- Take pointers of ring and spill area behind it | 2 × 32 | 08 R250 | - -/
  take : Word
  spillTake : Word
  /-- Its space may be released | 1 | 08 R250 | 0 -/
  released : Bool := false
  deriving DecidableEq, Repr

/-- One channel endpoint. -/
structure Endpoint where
  /-- TILE_EP_CFG | 32 | 08 R239, R275 | 0 -/
  cfg : Word := 0
  /-- TILE_EP_PEER | 32 | 08 R239 | 0 -/
  peer : Word := 0
  /-- TILE_EP_BASE | 64 | 08 R239 | 0 -/
  base : Dword := 0
  /-- TILE_EP_SPILLBASE | 64 | 08 R239 | 0 -/
  spillBase : Dword := 0
  /-- TILE_EP_STATUS.state | 3 | 08 R239, R275 | CLOSED -/
  state : EpState := .closed
  /-- TILE_EP_STATUS.spill | 1 | 08 R239, R256 | 0 -/
  spill : Bool := false
  /-- TILE_EP_STATUS.blocked | 1 | 08 R239 | 0 -/
  blocked : Bool := false
  /-- TILE_EP_STATUS.refuse | 3 | 08 R239 | 0 -/
  refuse : BitVec 3 := 0
  /-- Ring released head (RPTR.head) | 32 | 08 R239, R240 | 0 -/
  head : Word := 0
  /-- Ring take pointer (receive) | 32 | 08 R239, R240 | 0 -/
  take : Word := 0
  /-- Ring tail (send: placed; receive: records wholly written) | 32 | 08 R239, R240 | 0 -/
  tail : Word := 0
  /-- Spill head, take pointer and tail (SPTR) | 3 × 32 | 08 R239, R256 | 0 -/
  spillHead : Word := 0
  spillTake : Word := 0
  spillTail : Word := 0
  /-- Next msg_seq | 32 | 08 R245 | 0 -/
  msgSeq : Word := 0
  /-- Released head last reported to a remote sender | 32 | 08 R249 | 0 -/
  reported : Word := 0
  /-- Ring and spill size in units as ACCEPT gave them (send) | 32 + 32 | 08 R241, 10 R321 | 0 -/
  ringUnits : Word := 0
  spillUnits : Word := 0
  /-- Send: a crossing of this endpoint's waiting send was raised, with tile X (package, tile) | - | 08 R255 | none -/
  crossedWith : Option (BitVec 12 × Nat) := none
  /-- The deadlock timer runs | 1 | 08 R257 | 0 -/
  deadlockTimer : Bool := false
  /-- A refused OPEN is to be repeated | 1 | 08 R242 | 0 -/
  retry : Bool := false
  /-- Records taken and not yet released, oldest first | - | 08 R250 | empty -/
  taken : List TakenRec := []
  /-- TILE_EP_MSGS, _BYTES, _SSTALL, _RSTALL | 4 × 48 | 08 R259 | 0 -/
  msgs : Count48 := 0
  bytes : Count48 := 0
  sstall : Count48 := 0
  rstall : Count48 := 0
  deriving DecidableEq, Repr

/-! ## Tiles -/

/-- One physical tile. -/
structure Tile where
  /-- TILE_ARR_CTL | 32 | 03 R103, R106 | 0x00C3_104A -/
  arrCtl : Word := 0x00C3104A
  /-- TILE_ARR_WEIGHT | 32 | 03 R103, R106 | 0x0001_0404 -/
  arrWeight : Word := 0x00010404
  /-- TILE_ARR_STATUS.cfg_reject | 1 | 03 R103 | 0 -/
  arrReject : Bool := false
  /-- TILE_DMA_CTL.ra_lines | 32 | 06 R209, R210 | 32 -/
  dmaCtl : Word := 32
  /-- Accumulator banks 0–3 | 4 | 03 R83, R106 | FREE, +0 -/
  banks : Tbl Bank := []
  /-- Sparsity predictor history | 2,048 × 1 | 03 R96, R106 | 0 -/
  history : Tbl Bool := []
  /-- The west operand last passed along each row of cells, by row: what the row's staggering and pass-through registers hold between
  K-blocks | 128 × (128 + staggering) × operand | 01 R25 | +0 -/
  west : Tbl Num := []
  /-- The north operand last passed down each column, by column | 128 × (128 + staggering) × operand | 01 R25 | +0 -/
  north : Tbl Num := []
  /-- Weighted rotation: stream whose turn it is and K-blocks used of the turn | 2 + 8 | 03 R102, R106 | 0, 0 -/
  turn : Nat := 0
  turnUsed : Nat := 0
  /-- Banks in the order in which they became COMPLETE | 4 × 2 | 03 R90 | empty -/
  completeOrder : List Nat := []
  /-- TILE_FOVF_STATUS, _WHERE, _TAG, _STEP, _CYCLE | 5 × 32 | 02 R76, R77 | 0 -/
  fovfStatus : Word := 0
  fovfWhere : Word := 0
  fovfTag : Word := 0
  fovfStep : Word := 0
  fovfCycle : Word := 0
  /-- Finished-tile queue, head first | 2 entries | 04 R109, R138 | empty -/
  finQueue : List FinEntry := []
  /-- Bank whose drain is in progress (TILE_VEC_STATUS.drain_active) | 1 + 2 | 04 R110, R137 | none -/
  draining : Option Nat := none
  /-- Stream of the executing vector instruction (TILE_VEC_STATUS.busy, cur_stream) | 1 + 2 | 04 R114, R137 | none -/
  vecStream : Option Nat := none
  /-- Streams 0–2 | 3 | 05 R139 | reset streams -/
  streams : Tbl Stream := []
  /-- Channel endpoints 0–31 | 32 | 08 R237 | CLOSED -/
  eps : Tbl Endpoint := []
  /-- TILE_STALL, engine × 12 + cause | 84 × 48 | 06 R208, R210 | 0 -/
  stalls : Tbl Count48 := []
  /-- Island clock in MHz (MGT_TILE_CLK) | 10 | 01 R27, 18 R559, R565 | 400 -/
  clock : Nat := 400
  /-- Step cycle counter (VSTAMP, TILE_FOVF_CYCLE) | 32 | 02 R76, 04 R123 | 0 -/
  stepCycle : Nat := 0
  /-- The tile's stack-NoC port is fenced | 1 | 15 R465 | 0 -/
  fenced : Bool := false
  /-- The tile replays at 800 MHz whatever the cap | 1 | 15 R465, 18 R563 | 0 -/
  exempt : Bool := false
  /-- Image ranges | 8 entries | 15 R462 | empty -/
  image : List ImageRange := []
  deriving DecidableEq, Repr

/-! ## Synchronisation objects -/

/-- A synchronisation object (R152). -/
structure SyncObj where
  /-- Owning job | 12 | 05 R152 | 0 -/
  job : BitVec 12 := 0
  /-- Kind: 0 counter, 1 barrier, 2 event flag, 3 unallocated | 2 | 05 R152, R175 | 3 -/
  kind : BitVec 2 := 3
  /-- Barrier members − 1 | 12 | 05 R152 | 0 -/
  membersM1 : BitVec 12 := 0
  /-- Value | 32 | 05 R152 | 0 -/
  value : Word := 0
  deriving DecidableEq, Repr

/-- A remote signal held for a later step (R160). -/
structure HeldSignal where
  job : BitVec 12
  step : BitVec 20
  object : BitVec 16
  op : BitVec 4
  arg : BitVec 16
  source : BitVec 12
  /-- Its place in the order of arrival at the package | - | 05 R160 | 0 -/
  order : Nat := 0
  deriving DecidableEq, Repr

/-! ## Stacks: memory configuration, tile map, far cache -/

/-- A far-cache line: valid and dirty bit per 64-byte sector (R203). -/
structure FarLine where
  line : Nat
  valid : BitVec 4
  dirty : BitVec 4
  deriving DecidableEq, Repr

/-- One stack. -/
structure Stack where
  /-- STK_MEM_CFG.far_4m | 5 | 06 R205 | 8 -/
  far4m : Nat := 8
  /-- STK_MEM_CFG.busy, with the size being applied | 1 + 5 | 06 R205 | 0 -/
  memBusy : Option Nat := none
  /-- STK_MEM_CFG.cfg_reject | 1 | 06 R205 | 0 -/
  memReject : Bool := false
  /-- STK_GDDR_CFG.cut_512m | 5 | 07 R233 | 2 -/
  cut512 : Nat := 2
  /-- STK_GDDR_CFG.busy, with the layout being applied | 1 + 5 | 07 R233 | 0 -/
  gddrBusy : Option Nat := none
  /-- STK_GDDR_CFG.cfg_reject | 1 | 07 R233 | 0 -/
  gddrReject : Bool := false
  /-- STK_TILE_MAP, logical tile 0–31 | 32 × 6 | 15 R467 | from fuses: see fuse map -/
  tileMap : Tbl Nat := []
  /-- STK_TILE_STATE, physical tile 0–33 | 34 × 3 | 15 R467 | from fuses: see fuse map -/
  tileState : Tbl Nat := []
  /-- STK_SWAP_COUNT | 16 | 15 R467 | 0 -/
  swaps : Nat := 0
  /-- Tile groups whose tiles were borrowed and that placement may not use | 4 | 15 R466 | empty -/
  borrowedGroups : List Nat := []
  /-- Deferred remote signals, oldest first | 256 entries | 05 R160 | empty -/
  deferred : List HeldSignal := []
  /-- Far cache directory, most recently used first | 16-way, 256-byte lines | 06 R203, R210 | empty -/
  far : List FarLine := []
  /-- Throttle level 0–2 (MGT_THERM.duty) | 2 | 18 R565, R567 | 0 -/
  throttle : Nat := 0
  /-- Voltage last acknowledged by the VDD_Ss regulator, mV | 10 | 18 R555 | 700 (boot voltage) -/
  ackedMv : Nat := 700
  /-- Setpoint sent and not acknowledged, mV | 10 | 18 R555 | none -/
  pendingMv : Option Nat := none
  /-- The command has been retried once | 1 | 18 R555 | 0 -/
  avsRetried : Bool := false
  /-- Cuts held in this stack's cut region were discarded by a layout change | 1 | 07 R233 | 0 -/
  cutHeld : Bool := false
  /-- Step counter the held cut would restore | 32 | 17 R577 (0x0630) | 0 -/
  cutHeldStep : Word := 0
  deriving DecidableEq, Repr

/-- One GDDR7 controller GDn. -/
structure Gd where
  /-- GD_STATUS.trained | 1 | 07 R229, R234 | 0 -/
  trained : Bool := false
  /-- GD_STATUS.train_fail | 1 | 07 R230, R234 | 0 -/
  trainFail : Bool := false
  /-- Training attempts that failed | 2 | 07 R230 | 0 -/
  attempts : Nat := 0
  /-- GD_STATUS.temp_fail | 1 | 07 R228, R234 | 0 -/
  tempFail : Bool := false
  /-- Temperature reads failed in a row | 2 | 07 R228 | 0 -/
  badReads : Nat := 0
  /-- GD_STATUS.margin_busy | 1 | 07 R234 | 0 -/
  marginBusy : Bool := false
  /-- GD_STATUS.thr_step | 3 | 07 R227, R234 | 0 -/
  thrStep : Nat := 0
  /-- GD_STATUS.temp_c | 8 | 07 R227, R234 | 0 -/
  tempC : BitVec 8 := 0
  /-- GD_THR | 32 | 07 R234 | 105, 100, 95, 85 -/
  thr : Word := 0x69645F55
  /-- GD_SCRUB | 32 | 07 R234 | scrub_en 1, 24 h -/
  scrub : Word := 0x80000018
  /-- Next sector of the scrub, in channel-address order | - | 07 R222 | 0 -/
  scrubPos : Nat := 0
  /-- GD_ERR.ce_count and ue_count | 16 + 16 | 07 R234 | 0 -/
  ceCount : Nat := 0
  ueCount : Nat := 0
  /-- GD_POISON_ADDR | 1 + 48 | 07 R234 | 0 -/
  poisonAddr : Option (BitVec 48) := none
  /-- GD_MARGIN_CTL.done | 1 | 07 R234 | 0 -/
  marginDone : Bool := false
  /-- GD_MARGIN_CTL.result | 2 | 07 R234 | 0 -/
  marginResult : Nat := 0
  /-- GD_MARGIN_CTL.min_ui and min_vref | 8 + 8 | 07 R234 | 12, 8 -/
  minUi : Nat := 12
  minVref : Nat := 8
  /-- GD_MARGIN_DQ of pins 0–31 | 32 × 32 | 07 R234 | 0 -/
  marginDq : Tbl Word := []
  /-- Channel retrained last and periodic retrains done | 2 | 07 R231 | none, 0 -/
  retrained : Option Nat := none
  retrains : Nat := 0
  deriving DecidableEq, Repr

/-! ## Tricks -/

/-- An open local trick and its record (R276, R284, R288). -/
structure Trick where
  /-- Package logical tile and stream | 7 + 2 | 09 R276 | - -/
  tile : Nat
  stream : Nat
  /-- TOPEN.defer and TOPEN.per_mb | 1 + 1 | 09 R287 | - -/
  deferred : Bool
  perMb : Bool
  /-- Key from the tag at TOPEN | 12 + 20 + 20 | 09 R277, R287 | - -/
  job : BitVec 12
  step : BitVec 20
  mb : BitVec 20
  /-- Recorded replay state | 16 KiB record | 09 R288 | - -/
  record : ReplayState
  /-- Staged bytes by physical device address (the line entries and their masks) | 80-byte entries | 09 R283, R284 | empty -/
  staged : List Host.Cell := []
  /-- Numeric contributions held with the trick | 5 × 48 + 16 | 09 R293 | zero -/
  num : NumStatus := {}
  /-- Sends, signals and takes with a version reference made since the TOPEN | - | 09 R288, R162, R268 | 0 -/
  sends : Nat := 0
  signals : Nat := 0
  takes : Nat := 0
  /-- Replayed once after a poisoned read | 1 | 15 R469 | 0 -/
  poisonReplay : Bool := false
  /-- A staged write waits for a line entry | 1 | 09 R285 | 0 -/
  capWait : Bool := false
  /-- Time in µs at which the span began, or began to be replayed (model) | - | 05 R172, 15 R459 | time of the TOPEN -/
  since : Nat := 0
  /-- TCOMMIT with vote | 1 | 09 R287 | 0 -/
  vote : Bool := false
  /-- The trick's TCOMMIT publishes or hands over | 1 | 09 R289 | 0 -/
  committing : Bool := false
  deriving DecidableEq, Repr

/-- Phase of a deck share on this package (R300, R302). -/
inductive SharePhase where
  | opened
  | ready
  | publishing
  | draining
  | drained
  deriving DecidableEq, Repr

/-- A deck share (R277). -/
structure Share where
  /-- Key | 12 + 32 + 20 + 1 | 09 R277 | - -/
  job : BitVec 12
  step : Word
  mb : BitVec 20
  isPass : Bool
  /-- Attempt | 8 | 09 R301 | 0 -/
  attempt : BitVec 8 := 0
  /-- Staged bytes handed over, by physical device address | 80-byte entries | 09 R283, R289 | empty -/
  staged : List Host.Cell := []
  /-- Numeric contributions | 5 × 48 + 16 | 09 R293 | zero -/
  num : NumStatus := {}
  /-- Phase | enum | 09 R300, R302 | open -/
  phase : SharePhase := .opened
  /-- Votes received | 8 | 09 R300 | 0 -/
  votes : Nat := 0
  /-- Cause and origin of a revoke | 4 + 12 | 09 R296, R301 | 0 -/
  cause : BitVec 4 := 0
  origin : BitVec 12 := 0
  /-- Per port: sequence number whose acknowledgement the drain waits for | 24 each | 09 R302 | empty -/
  drainSeq : Tbl (BitVec 24) := []
  deriving DecidableEq, Repr

/-- Phase of a coordinator entry (R301, R302). -/
inductive CoordPhase where
  | collecting
  | committed
  | revoking
  | resumed
  deriving DecidableEq, Repr

/-- A deck trick this package coordinates (R299, R301). -/
structure Coord where
  job : BitVec 12
  step : Word
  mb : BitVec 20
  isPass : Bool
  /-- Attempt of the key | 8 | 09 R301 | 0 -/
  attempt : BitVec 8 := 0
  /-- Participants | - | 09 R299 | - -/
  members : List (BitVec 12)
  /-- Packages whose READY is held | - | 09 R301 | empty -/
  ready : List (BitVec 12) := []
  /-- Packages whose DONE is held | - | 09 R302 | empty -/
  done : List (BitVec 12) := []
  /-- Phase | enum | 09 R301 | collecting -/
  phase : CoordPhase := .collecting
  /-- prepare_us timer running | 1 | 09 R301 | 0 -/
  timer : Bool := false
  /-- Cause and origin of the revoke | 4 + 12 | 09 R301 | 0 -/
  cause : BitVec 4 := 0
  origin : BitVec 12 := 0
  /-- A host abort turned the revoke into an EXPLICIT one | 1 | 09 R579 | 0 -/
  abortPending : Bool := false
  /-- Repeated once for LOG_CAPACITY or TIMEOUT | 1 | 09 R298 | 0 -/
  limited : Bool := false
  deriving DecidableEq, Repr

/-! ## Jobs -/

/-- A descriptor fetched from a submission ring (R405). -/
structure Desc where
  /-- The 64 bytes | 512 | 12 R409 | - -/
  bytes : List Byte
  /-- Submission ring | 6 | 12 R405 | - -/
  ring : Nat
  /-- The ring's head counter at its fetch | 32 | 12 R399, R415 | - -/
  no : Nat
  /-- Its place in the order in which the package has fetched descriptors (model) | - | 12 R415 | - -/
  order : Nat
  deriving DecidableEq, Repr

/-- The open step of a job (R142, R412, R432). -/
structure StepRun where
  /-- Its descriptor | 512 | 12 R412 | - -/
  desc : Desc
  /-- Step number | 32 | 12 R412 | - -/
  step : Word
  /-- Micro-batches and the next to inject | 21 + 21 | 08 R260, 12 R412 | - -/
  mbCount : Nat
  nextMb : Nat := 0
  /-- Injection table | 64 | 12 R412 | - -/
  table : Dword := 0
  /-- A serving step | 1 | 12 R412 | - -/
  serving : Bool := false
  /-- Load number of a step-mode load | 4 | 13 R432 | none -/
  load : Option Nat := none
  /-- The step has started (R141) | 1 | 05 R141 | 0 -/
  started : Bool := false
  /-- Control-pass message injected, or wanted | 1 + 1 | 05 R142 | 0 -/
  ctlWanted : Bool := false
  ctlDone : Bool := false
  /-- Version assigned to the update | 8 | 05 R141 | 0 -/
  version : BitVec 8 := 0
  /-- Attempt | 8 | 09 R301 | 0 -/
  attempt : BitVec 8 := 0
  /-- Step share is ready, READY sent | 1 | 09 R300 | 0 -/
  readySent : Bool := false
  /-- Step overrun raised | 1 | 05 R173 | 0 -/
  overrun : Bool := false
  /-- Event 0x0210 raised for this step | 1 | 08 R265 | 0 -/
  slotWait : Bool := false
  /-- The step waits for RESUME | 1 | 09 R302 | 0 -/
  revoked : Bool := false
  /-- A completion record is reserved for it | 1 | 12 R420 | 0 -/
  reserved : Bool := false
  /-- Its descriptor, a LOAD that failed for want of a translation, has completed | 1 | 13 R431, R437 | 0 -/
  done : Bool := false
  deriving DecidableEq, Repr

/-- An open pass (R413). -/
structure PassRun where
  desc : Desc
  step : Word
  mb : BitVec 20
  drafts : Dword
  positions : Nat
  posBase : BitVec 20
  stream : BitVec 48
  /-- The Dealer has injected it | 1 | 09 R304 | 0 -/
  injected : Bool := false
  /-- Attempt | 8 | 09 R301 | 0 -/
  attempt : BitVec 8 := 0
  /-- Pass share is ready, READY sent | 1 | 09 R300 | 0 -/
  readySent : Bool := false
  /-- The pass waits for RESUME | 1 | 09 R302 | 0 -/
  revoked : Bool := false
  /-- A completion record is reserved for it | 1 | 12 R420 | 0 -/
  reserved : Bool := false
  /-- Watchdog of the pass: limit and time since its injection, µs; overrun raised | 32 + 32 + 1 | 01 R43, 05 R172, R173 | 0 -/
  wdogLimit : Nat := 0
  wdogElapsed : Nat := 0
  overrun : Bool := false
  /-- Time added to the pass's limit for fenced faults | - | 05 R172 | 0 -/
  wdogExtra : Nat := 0
  deriving DecidableEq, Repr

/-- A version entry (DLR_VER, R264). -/
structure VerEntry where
  /-- Tag held | 8 | 08 R264 | 0 -/
  tag : BitVec 8 := 0
  /-- 0 FREE, 1 STAGED, 2 CURRENT, 3 OLD | 2 | 08 R264 | 0 -/
  state : Nat := 0
  /-- Micro-batches in flight | 20 | 08 R264 | 0 -/
  refs : Nat := 0
  deriving DecidableEq, Repr

/-- A load of a job (R430, R445). -/
structure Load where
  /-- DLR_LOAD_STATUS.active, background, publish, ready_down, end_seen | 5 | 13 R445 | 0 -/
  active : Bool := false
  background : Bool := false
  publish : Bool := false
  readyDown : Bool := false
  endSeen : Bool := false
  /-- DLR_LOAD_STATUS.segments | 24 | 13 R445 | 0 -/
  segments : Nat := 0
  /-- Segments seen, or behind the head the highest segment number seen plus one (log 167) | 33 | 13 R437, R440, R446 | 0 -/
  total : Nat := 0
  /-- Behind the head: number and first address of the segment whose packets arrive | 32 + 48 | 13 R429, R439 | none -/
  segAt : Option (Nat × Nat) := none
  /-- READY that came before the load of this number started here | 1 | 13 R438 | 0 -/
  readyHeld : Bool := false
  /-- Requests and orders of the chain that found their link not UP, upstream (true) or downstream, by operation; sent when it is
  UP again (log 12) | - | 13 R436 | empty -/
  owed : List (Bool × Nat) := []
  /-- DLR_LOAD_BYTES.kept | 48 | 13 R445 | 0 -/
  kept : Nat := 0
  /-- Descriptor fields | - | 13 R430 | 0 -/
  desc : Desc := ⟨[], 0, 0, 0⟩
  image : Dword := 0
  imageBytes : Nat := 0
  head : Bool := false
  tail : Bool := false
  up : BitVec 12 := 0
  down : BitVec 12 := 0
  expect : Nat := 0
  /-- Head: image bytes read so far | 64 | 13 R437 | 0 -/
  readPos : Nat := 0
  /-- READY has been sent upstream | 1 | 13 R438 | 0 -/
  readySent : Bool := false
  /-- The checks have passed; the share may be ready | 1 | 13 R432 | 0 -/
  complete : Bool := false
  deriving DecidableEq, Repr

/-- A statistics counter (R23). -/
structure Stat where
  /-- Count | 48 | 00 R23, 17 R528 | 0 -/
  count : Count48 := 0
  /-- Saturation flag | 1 | 00 R23, 17 R530 | 0 -/
  sat : Bool := false
  deriving DecidableEq, Repr

/-- A job slot of the Dealer: the job, its registers and its progress. -/
structure Job where
  /-- DLR_JOB_PLACE.valid | 1 | 05 R171 | 0 -/
  valid : Bool := false
  /-- Job ID | 12 | 05 R171 | 0 -/
  id : BitVec 12 := 0
  /-- First tile group and number of groups (DLR_JOB_PLACE.group_mask) | 16 | 05 R168, R171 | 0 -/
  first : Nat := 0
  groups : Nat := 0
  /-- The job's ring | 6 | 12 R410 | 0 -/
  ring : Nat := 0
  /-- The JOB descriptor | 512 | 12 R410 | empty -/
  desc : Desc := ⟨[], 0, 0, 0⟩
  /-- Deterministic mode | 1 | 02 R78 | 0 -/
  det : Bool := false
  /-- Job seed | 64 | 02 R67, 12 R410 | 0 -/
  seed : Dword := 0
  /-- Statistics page address | 64 | 12 R410, 17 R525 | 0 -/
  stats : Dword := 0
  /-- Deck header fields: t_tile, t_fixed in 100 ns, gddr_groups, serving | - | 12 R411 | 0 -/
  tTile : Nat := 0
  tFixed : Nat := 0
  gddrGroups : BitVec 16 := 0
  serving : Bool := false
  /-- Decoded deck body | - | 12 R411 | empty -/
  deck : Deck := {}
  /-- Deck image bytes, for the first cut | at most 32 MiB | 15 R477 | empty -/
  deckImage : List Byte := []
  /-- Microseconds that the zeroing of its slices and the loading of its tiles still take | - | 06 R181, 08 R241 | 0 -/
  loadUs : Nat := 0
  /-- Placement has ended (JOB completion written) | 1 | 12 R417 | 0 -/
  placed : Bool := false
  /-- The END descriptor being run | - | 12 R415 | none -/
  ending : Option Desc := none
  /-- Ended remotely: groups are zeroed and freed without a completion | 1 | 15 R476 | 0 -/
  endingLost : Bool := false
  /-- The Dealer's step counter | 32 | 12 R410, R412 | 0 -/
  step : Word := 0
  /-- The open step | - | 05 R142 | none -/
  run : Option StepRun := none
  /-- Open passes | - | 12 R413 | empty -/
  passes : List PassRun := []
  /-- Paused for the host: event 0x0105 raised | 1 | 12 R424 | 0 -/
  paused : Bool := false
  /-- DLR_JOB_WDOG_LIMIT | 32 | 05 R173 | 0 -/
  wdogLimit : Nat := 0
  /-- DLR_JOB_WDOG_ELAPSED | 32 | 05 R173 | 0 -/
  wdogElapsed : Nat := 0
  /-- Time added to the limit in this step for fenced faults | - | 05 R172 | 0 -/
  wdogExtra : Nat := 0
  /-- Lowest island clock of the step's attempt so far | 10 | 05 R172 | 0 -/
  wdogFmin : Nat := 0
  /-- Lowest island clock of the step so far, all its attempts and the time between them (f_min_mhz) | 16 | 17 R528 | 0 -/
  stepFmin : Nat := 0
  /-- Counter entries for which event 0x0C03 has been raised in this step | 128 × 1 | 17 R530 | empty -/
  satRaised : List Nat := []
  /-- TOPENs (tile, stream, word offset) whose trick has been replayed in this step for CONFLICT, LOG_CAPACITY or TIMEOUT | - | 09 R298 | empty -/
  limited : List (Nat × Nat × BitVec 16) := []
  /-- DLR_JOB_PHASE | 32 | 14 R456 | 0 -/
  phase : Word := 0
  /-- DLR_JOB_PHASE_TGT | 32 | 14 R456 | 0 -/
  phaseTarget : Word := 0
  /-- DLR_VER_CTL: cur_tag, next_tag, job_slots | 8 + 8 + 5 | 08 R264 | 0 -/
  curTag : BitVec 8 := 0
  nextTag : BitVec 8 := 0
  jobSlots : Nat := 0
  /-- DLR_VER entries 0–15 | 16 × 64 | 08 R264, R275 | FREE -/
  versions : Tbl VerEntry := []
  /-- Loads 0–15 (DLR_LOAD_STATUS, DLR_LOAD_BYTES) | 16 × 96 | 13 R445 | 0 -/
  loads : Tbl Load := []
  /-- TRK_JOB_CTL: coord_pkg, pass_voters | 32 | 09 R306 | 0 -/
  trkCtl : Word := 0
  /-- TRK_JOB_REVOKE: last_cause, last_deck, revokes | 32 | 09 R306 | 0 -/
  trkRevoke : Word := 0
  /-- TRK_DUR_BASE, TRK_DUR_LIMIT of ranges 0–15 | 16 × 128 | 09 R306 | 0 -/
  durable : Tbl (Dword × Dword) := []
  /-- DLR_JOB_CUT: cut_en, valid, half, copying, partner, k | 32 | 15 R482 | k = 8 -/
  cut : Word := 0x00000800
  /-- DLR_JOB_CUT_STEP | 32 | 15 R482 | 0 -/
  cutStep : Word := 0
  /-- DLR_JOB_CUT_SELF | 64 | 15 R482 | 0 -/
  cutSelf : Dword := 0
  /-- DLR_JOB_CUT_SIZE | 32 | 15 R482 | 0 -/
  cutSize : Word := 0
  /-- The cut being copied: the step counter it restores, whether the copies are complete, whether the inactive half is invalid | 32 + 1 + 1 | 15 R479, R481 | none, 0, 0 -/
  cutCopy : Option Word := none
  cutReady : Bool := false
  cutBad : Bool := false
  /-- A cut falls due at the next step start | 1 | 15 R479 | 0 -/
  cutDue : Bool := false
  /-- The deck image has been written into both halves | 1 | 15 R478 | 0 -/
  imageCut : Bool := false
  /-- Statistics counters 0–127 | 128 × 49 | 17 R529 | 0 -/
  statistics : Tbl Stat := []
  /-- amax exponent of the step | 16 | 02 R74 | none (0x8000) -/
  amaxExp : Option Int := none
  /-- Page snapshotted and not yet written (STS_PAGE_STATE.held) | 16 KiB | 17 R526, R532 | none -/
  page : Option (List Byte) := none
  /-- The page was held during a host link loss | 1 | 17 R528 | 0 -/
  pageHeld : Bool := false
  /-- The completion that waits for the page | - | 17 R526 | none -/
  pageDesc : Option (Desc × Word) := none
  /-- STS_PAGE_STEP | 32 | 17 R532 | 0 -/
  pageStep : Word := 0
  /-- page_seq | 32 | 17 R528 | 0 -/
  pageSeq : Word := 0
  /-- Energy counts at the start of the step's first attempt | 5 × 64 | 17 R531 | 0 -/
  energyAt : Tbl Nat := []
  /-- Microseconds since the start of the step's first attempt | 64 | 17 R528 (t_step_ns) | 0 -/
  stepUs : Nat := 0
  /-- Lines poisoned again are watched for 10 steps after a rollback: line and step | - | 15 R470 | empty -/
  rolledLines : List (Nat × Word) := []
  /-- Takeover or rollback in progress: the job's cut is being restored | 1 | 15 R485 | 0 -/
  restoring : Bool := false
  /-- The cut is restored, and the lead's RESUME is awaited | 1 | 15 R485 | 0 -/
  restored : Bool := false
  /-- Attempt number that the next share of the step takes | 8 | 09 R302 | 0 -/
  attempt : BitVec 8 := 0
  deriving DecidableEq, Repr

/-! ## Host interface -/

/-- A completion record not yet written (R417, R420). -/
structure Completion where
  ring : Nat
  sq : Nat
  dtype : Byte
  status : Byte
  job : BitVec 12
  cookie : Word
  step : Word
  ref : Word
  value : Dword
  tokens : List Word := []
  /-- The record was held in the hub during a host link loss (flags bit 1) | 1 | 12 R417 | 0 -/
  held : Bool := false
  deriving DecidableEq, Repr

/-- An event record (R421, R536). -/
structure EventRec where
  code : BitVec 16
  job : BitVec 12
  detail : Dword
  suppressed : Word
  seq : Word
  stamp : Dword
  deriving DecidableEq, Repr

/-- A submission ring (R407). -/
structure Sq where
  /-- HRC_SQ_BASE | 64 | 12 R407 | 0 -/
  base : Dword := 0
  /-- HRC_SQ_DB | 64 | 12 R407 | 0 -/
  db : Dword := 0
  /-- HRC_SQ_CFG: enable, cq, size_log2 | 32 | 12 R407 | 0 -/
  cfg : Word := 0
  /-- HRC_SQ_STATE.tail and head | 32 + 32 | 12 R407 | 0 -/
  tail : Word := 0
  head : Word := 0
  /-- Descriptors fetched and not started, oldest first | window of 8 | 12 R405 | empty -/
  window : List Desc := []
  deriving DecidableEq, Repr

/-- A completion ring or the event ring (R407). -/
structure Cq where
  /-- HRC_CQ_BASE or HRC_EQ_BASE | 64 | 12 R407 | 0 -/
  base : Dword := 0
  /-- HRC_CQ_HW or HRC_EQ_HW | 64 | 12 R407 | 0 -/
  hw : Dword := 0
  /-- CFG: enable, vector, coalesce_us, size_log2 | 32 | 12 R407 | 0 -/
  cfg : Word := 0
  /-- CFG.arm | 1 | 12 R407 | 0 -/
  arm : Bool := false
  /-- STATE.tail and head | 32 + 32 | 12 R407 | 0 -/
  tail : Word := 0
  head : Word := 0
  /-- Head word last seen | 64 | 12 R403 | 0 -/
  seen : Dword := 0
  deriving DecidableEq, Repr

/-- Configuration space after reset, by double word: vendor ID 0x1CE4 and device ID 0x0480, and class code 0x12_0000 (R4). -/
def configReset : Tbl Word := [(0, 0x04801CE4), (2, 0x12000000)]

/-- A CXL.mem access of the host (R217, R392): its HDM offset, with the length read or the data written. -/
inductive HostAccess where
  | read (offset : BitVec 48) (bytes : Nat)
  | write (offset : BitVec 48) (data : List Byte)
  deriving DecidableEq, Repr

/-- The hub's host interface: GLB and HRC blocks. -/
structure HostIf where
  /-- Submission ring at which the rotation of descriptor fetches goes on | 6 | 12 R405 | 0 -/
  sqTurn : Nat := 0
  /-- GLB_TRAIN | 64 | 12 R396 | 0 -/
  train : Dword := 0
  /-- GLB_PKG.role and package | 2 + 12 | 12 R396 | 2, 0 -/
  role : BitVec 2 := 2
  package : BitVec 12 := 0
  /-- GLB_EPOCH | 32 | 12 R396 | 0 -/
  epoch : Word := 0
  /-- GLB_CTL.cfg_reject | 1 | 12 R396 | 0 -/
  glbReject : Bool := false
  /-- GLB_STATUS.ready | 1 | 12 R396 | 0 -/
  ready : Bool := false
  /-- GLB_STATUS.cc_busy | 1 | 12 R396 | 0 -/
  ccBusy : Bool := false
  /-- GLB_STATUS.degraded | 1 | 12 R396, 15 R492 | 0 -/
  degraded : Bool := false
  /-- Feature levels of the eleven dies (GLB_LEVEL): compute 0–3, base 4–7, hub 8, PD0 9, PD1 10 | 11 × 2 | 15 R491 | 2 -/
  levels : Tbl Nat := []
  /-- Submission rings 0–63 | 64 | 12 R407 | 0 -/
  sqs : Tbl Sq := []
  /-- Completion rings 0–63 | 64 | 12 R407 | 0 -/
  cqs : Tbl Cq := []
  /-- Event ring | - | 12 R407 | 0 -/
  eq : Cq := {}
  /-- HRC_CTL: cq_reset, loss_ms, poll_us | 32 | 12 R407 | loss_ms 10, poll_us 1,000 -/
  ctl : Word := 0x000A03E8
  /-- HRC_CTL.cfg_reject | 1 | 12 R407 | 0 -/
  reject : Bool := false
  /-- HRC_STATUS.attached, resume_wait, pcie_only | 3 | 12 R407 | 0 -/
  attached : Bool := false
  resumeWait : Bool := false
  pcieOnly : Bool := false
  /-- HRC_STATUS.speed and width | 2 + 5 | 12 R407 | 0 -/
  speed : BitVec 2 := 0
  width : BitVec 5 := 0
  /-- The link is in L0 | 1 | 12 R423 | 0 -/
  linkUp : Bool := false
  /-- PERST_N is high | 1 | 18 R552 | 0 -/
  perstHigh : Bool := false
  /-- Lines the monitor must re-read | at most 128 | 12 R403 | empty -/
  stale : List Nat := []
  /-- The monitor runs | 1 | 12 R403, R423 | 0 -/
  monitoring : Bool := false
  /-- Completion records held in the hub, oldest first | 1,024 | 12 R407, R420 | empty -/
  buffer : List Completion := []
  /-- Completions of descriptors that no record was reserved for, formed while every record is taken (model, log 171) | - | 12 R417, R420 | empty -/
  owed : List Completion := []
  /-- Records reserved for descriptors started | 0–1,024 | 12 R420 | 0 -/
  reserved : Nat := 0
  /-- Event 0x0107 raised since a record was last free | 1 | 12 R420 | 0 -/
  fullRaised : Bool := false
  /-- Events held for the event ring, oldest first | 256 | 12 R422 | empty -/
  heldEvents : List EventRec := []
  /-- MSI-X vectors whose message is due | 64 | 12 R406 | empty -/
  msixDue : List Nat := []
  /-- MSI-X table: address, data, vector control | 64 × 128 | 12 R394 | 0 -/
  msixTable : Tbl (BitVec 128) := []
  /-- MSI-X pending bits | 64 | 12 R394, R406 | 0 -/
  msixPending : List Nat := []
  /-- CXL component registers in BAR2 | 32 KiB | 12 R394 | 0 -/
  component : Tbl Word := []
  /-- Configuration space by double word: vendor and device ID, class code | 4 KiB | 00 R4, 12 R389, R423 | IDs and class code -/
  configSpace : Tbl Word := configReset
  /-- HRC_HWT_INDEX | 16 | 06 R199 | 0 -/
  hwtIndex : BitVec 16 := 0
  /-- Host window table | 65,536 × 64 | 06 R197 | 0 -/
  hwt : Tbl Dword := []
  /-- HRC_HWT_CTL | 32 | 06 R199 | pri_timeout 100 -/
  hwtCtl : Word := 100
  /-- ATS translations held: untranslated 4 KiB page to host page | - | 12 R393 | empty -/
  ats : Tbl Nat := []
  /-- Translation requests made so far (model): index of the free value the host answers with | - | 12 R393 | 0 -/
  atsCount : Nat := 0
  /-- Descriptors fetched so far (model): the order of a fetch | - | 12 R415 | 0 -/
  fetched : Nat := 0
  /-- Host fetch buffer: lines held | 2,048 | 06 R200 | empty -/
  fetchLines : List Nat := []
  /-- Held lines fetched ahead and not delivered | 2,048 × 1 | 06 R196, R200 | empty -/
  aheadLines : List Nat := []
  /-- Held lines marked stale | 2,048 × 1 | 06 R200 | empty -/
  staleLines : List Nat := []
  /-- Page requests outstanding: package logical tile and host-window address | - | 06 R198 | empty -/
  pageRequests : List (Nat × Nat) := []
  /-- Page requests of the hub's own demand fetches: job, host-window address, and 0 while the host has not answered, else the failure
  code of event 0x0110 | - | 06 R198, 12 R419 | empty -/
  hubRequests : List (Nat × Nat × Nat) := []
  /-- CXL.mem accesses that wait for the zeroing of a slice, oldest first | - | 07 R216 | empty -/
  memWaiting : List HostAccess := []
  /-- Lines of GDDR7 that the host holds, by address / 64 (model) | - | 12 R392 | empty -/
  hostHeld : List Nat := []
  /-- Time of the last event 0x0632, µs | - | 07 R217 | none -/
  reservedAt : Option Nat := none
  /-- Held events' next sequence number (event seq) | 32 | 12 R422 | 0 -/
  evSeq : Word := 0
  deriving DecidableEq, Repr

/-! ## Hethlink -/

/-- Link state of a port (R337). -/
inductive LinkState where
  | disabled
  | detect
  | train
  | align
  | discover
  | held
  | up
  | down
  | loopback
  deriving DecidableEq, Repr

/-- A packet (R319), its header fields as numbers; CRCs and the per-hop sequence number are formed when it is sent. -/
structure Packet where
  /-- hop_local and bank | 1 + 1 | 10 R319 | - -/
  hopLocal : Bool := false
  bank : Bool := false
  /-- Class | 2 | 10 R319 | - -/
  cls : BitVec 2
  /-- Type | 4 | 10 R320 | - -/
  ptype : BitVec 4
  /-- Source and destination package | 12 + 12 | 10 R319 | - -/
  src : BitVec 12
  dst : BitVec 12
  /-- last | 1 | 10 R319 | 0 -/
  last : Bool := false
  /-- Destination handle | 64 | 10 R319 | 0 -/
  handle : Dword := 0
  /-- Tag | 128 | 10 R319 | - -/
  tag : Tag
  /-- Type-specific bytes 32–55 | 192 | 10 R319 | 0 -/
  specific : BitVec 192 := 0
  /-- Payload, a whole number of 64-byte blocks | 0–64 blocks | 10 R319 | empty -/
  payload : List Byte := []
  /-- Trailer flag poison | 1 | 10 R323 | 0 -/
  poison : Bool := false
  deriving DecidableEq, Repr

/-- A packet in a kitty, in acceptance order; `freed` once its blocks are released (R330). -/
structure KittyPkt where
  pkt : Packet
  freed : Bool := false
  /-- Event 0x0709 was raised for it | 1 | 10 R333 | 0 -/
  stalled : Bool := false
  deriving DecidableEq, Repr

/-- A packet in a replay buffer (R327). -/
structure ReplayPkt where
  pkt : Packet
  seq : BitVec 24
  chargeEnd : Word
  deriving DecidableEq, Repr

/-- An identity block received from a neighbour (R334). -/
structure Identity where
  serial : Dword
  trainId : Dword
  package : BitVec 12
  port : BitVec 3
  half : Bool
  bifurcated : Bool
  role : BitVec 2
  level : Byte
  lanes : Byte
  epoch : Word
  deriving DecidableEq, Repr

/-- One Hethlink port or half (index port × 2 + half). -/
structure Port where
  /-- HL_CTL: enable, fence, auto_retrain, bifurcate, loopback, min_lanes, holdoff_ms | 32 | 10 R350 | 0x2040_000A -/
  ctl : Word := 0x2040000A
  /-- HL_CTL.cfg_reject | 1 | 10 R350 | 0 -/
  reject : Bool := false
  /-- HL_STATUS.state | 4 | 10 R337, R350 | DISABLED -/
  state : LinkState := .disabled
  /-- HL_STATUS.rx_lanes, tx_lanes (lanes is the count of rx_lanes) | 8 + 8 | 10 R350 | 0 -/
  rxLanes : BitVec 8 := 0
  txLanes : BitVec 8 := 0
  /-- HL_STATUS.last_down | 4 | 10 R350 | 0 -/
  lastDown : BitVec 4 := 0
  /-- HL_ERRCFG | 32 | 10 R350 | 64, 1,000, 40 -/
  errCfg : Word := 0x4003E828
  /-- HL_KITTY_CLASS 0–3: cap, reserve | 4 × 32 | 10 R350 | 8,192, 512 -/
  kittyClass : Tbl Word := []
  /-- HL_FI 0–4 | 5 × 64 | 10 R349 | 0 -/
  fi : Tbl Dword := []
  /-- HL_RT_INDEX | 12 | 10 R351 | 0 -/
  rtIndex : BitVec 12 := 0
  /-- Ingress route table | 4,096 × 32 | 10 R345 | 0x1F1F_1F00 -/
  routes : Tbl Word := []
  /-- Neighbour entry (HL_NBR_SERIAL, _TRAIN, _INFO) | 64 + 64 + 32 | 10 R336, R352 | none (0) -/
  nbr : Option Identity := none
  /-- Port counters, offset − 0x200 over 8 | 14 × 48 | 10 R353 | 0 -/
  counters : Tbl Count48 := []
  /-- HL_LB_LANE 0–7: locked, errors | 8 × 64 | 18 R574 | 0 -/
  lbLanes : Tbl Dword := []
  /-- Receiver: expected sequence number E | 24 | 10 R326 | 0 -/
  expected : BitVec 24 := 0
  /-- Receiver: nak and nak_id | 1 + 4 | 10 R326 | 0 -/
  nak : Bool := false
  nakId : BitVec 4 := 0
  /-- Receiver: rx_locked | 1 | 10 R325, R341 | 0 -/
  rxLocked : Bool := false
  /-- Peer's rx_locked as last seen | 1 | 10 R325 | 0 -/
  peerLocked : Bool := false
  /-- Kitty: accepted packets in acceptance order | 16,384 blocks | 10 R329 | empty -/
  kitty : List KittyPkt := []
  /-- released[c], freed[c], share[c] | 3 × 4 × 32 | 10 R330 | 0 -/
  released : Tbl Word := []
  freed : Tbl Word := []
  share : Tbl Nat := []
  /-- Transmitter: sent[c], limit[c] | 2 × 4 × 32 | 10 R328 | 0 -/
  sent : Tbl Word := []
  limit : Tbl Word := []
  /-- Transmitter: next_seq | 24 | 10 R328 | 0 -/
  nextSeq : BitVec 24 := 0
  /-- Transmitter: replay buffer, oldest first | 512 KiB | 10 R327 | empty -/
  replay : List ReplayPkt := []
  /-- Transmitter: last nak_id acted on | 4 | 10 R328 | 0 -/
  lastNak : BitVec 4 := 0
  /-- Packets of a replay still to be resent | - | 10 R328 | empty -/
  resend : List ReplayPkt := []
  /-- Times of the replays in the error window, µs | - | 10 R339 | empty -/
  replayTimes : List Nat := []
  /-- Packets waiting for a first transmission, oldest first | - | 10 R332 | empty -/
  txq : List Packet := []
  /-- A packet held by reorder injection, and whether it is a replay | - | 10 R349 | none -/
  reorder : Option (ReplayPkt × Bool) := none
  /-- Rotation of TC1–TC3: class whose turn it is and packets used | 2 + 3 | 10 R332 | 1, 0 -/
  turn : Nat := 1
  turnUsed : Nat := 0
  /-- want bits of the peer's last good control block | 4 | 10 R325 | 0 -/
  peerWant : BitVec 4 := 0
  /-- Lanes declared failed | 8 | 10 R341 | 0 -/
  failedLanes : BitVec 8 := 0
  /-- A transmit re-stripe is in progress | 1 | 10 R342 | 0 -/
  restriping : Bool := false
  /-- The 16 µs regain window runs | 1 | 10 R338 | 0 -/
  regain : Bool := false
  /-- Lanes being equalised alone | 8 | 10 R343 | 0 -/
  restoring : BitVec 8 := 0
  /-- Jobs whose deck tricks a discard at this port has revoked since it was last UP | - | 10 R340 | empty -/
  revokedJobs : List (BitVec 12) := []
  /-- Time at which a good control block last showed want[c], µs | 4 | 10 R331 | none -/
  wantAt : Tbl Nat := []
  /-- Eligible packets that count injection still selects, by register | 5 × 24 | 10 R349 | 0 -/
  fiLeft : Tbl Nat := []
  /-- The package at the other end, while the relink_ms timer of R474 runs | 12 | 15 R474 | none -/
  relink : Option (BitVec 12) := none
  /-- Transmitter: bytes of the next frame's packet stream that packets take so far, and where its first header begins | 13 + 16 | 10 R317,
  R325 | 0, none -/
  placed : Nat := 0
  hdrAt : Option Nat := none
  /-- Transmitter: where the first header of the frame after that begins, of a packet that followed one which fills the next | 16 | 10 R325, R349 | none -/
  hdrNext : Option Nat := none
  /-- Transmitter: a re-stripe marker follows the frame that is being sent | 1 | 10 R342 | 0 -/
  markerDue : Bool := false
  /-- Receiver: it looks for the next header through `first_hdr` | 1 | 10 R317, R326 | 0 -/
  searching : Bool := false
  /-- Receiver: it re-stripes after a lane has failed or been added | 1 | 10 R342, R343 | 0 -/
  rxRestripe : Bool := false
  deriving DecidableEq, Repr

/-! ## Meld -/

/-- A context slot's eight registers (R385). -/
structure MeldCtx where
  /-- MLD_CTX_KEY | 64 | 11 R385 | 0 -/
  key : Dword := 0
  /-- MLD_CTX_SHAPE | 64 | 11 R385 | 0 -/
  shape : Dword := 0
  /-- MLD_CTX_DST | 64 | 11 R385 | 0 -/
  dst : Dword := 0
  /-- MLD_CTX_STAT | 64 | 11 R385 | 0 -/
  stat : Dword := 0
  /-- MLD_CTX_AUX | 64 | 11 R385 | 0 -/
  aux : Dword := 0
  /-- MLD_CTX_TABLES | 64 | 11 R385 | 0 -/
  tables : Dword := 0
  /-- MLD_CTX_SYNC | 64 | 11 R385 | 0 -/
  sync : Dword := 0
  /-- MLD_CTX_FIRE.started and done | 16 + 16 | 11 R385 | 0 -/
  started : Nat := 0
  done : Nat := 0
  deriving DecidableEq, Repr

/-- A slab of a firing (R367). -/
structure Slab where
  shard : Nat
  index : Nat
  /-- SUM accumulators by element within the slab | 1,024 × 320 | 11 R356, R370 | 0 -/
  acc : Tbl W320 := []
  /-- MAX or MIN accumulators, FP32 | 1,024 × 32 | 11 R370 | identity -/
  ext : Tbl Word := []
  /-- Contributions folded into each element | 1,024 × 23 | 11 R372, R373 | 0 -/
  counts : Tbl Nat := []
  /-- Partials of this slab received whole | 6 | 11 R367, R370 | 0 -/
  got : Nat := 0
  /-- Result, copied or permuted bytes, by element or MX block of the slab | 1,024 × esize | 11 R374, R376 | empty -/
  bytes : Tbl (List Byte) := []
  /-- A source or packet was poisoned | 1 | 11 R382 | 0 -/
  poison : Bool := false
  /-- Its partial has been sent up | 1 | 11 R368 | 0 -/
  sent : Bool := false
  /-- Dealt with | 1 | 11 R368 | 0 -/
  dealt : Bool := false
  deriving DecidableEq, Repr

/-- A package that joined a shard of a firing (R367). -/
structure Child where
  shard : Nat
  pkg : BitVec 12
  /-- Cumulative grants sent to it | 32 | 11 R367 | 0 -/
  granted : Word := 0
  deriving DecidableEq, Repr

/-- An active firing (R365). -/
structure Firing where
  /-- Context slot and firing number | 9 + 20 | 11 R365 | - -/
  slot : Nat
  number : Nat
  /-- The firing has started here (a JOIN may be recorded before, R367) | 1 | 11 R367 | 0 -/
  started : Bool := false
  /-- A DEMAND for it has come, which may start it | 1 | 11 R365 | 0 -/
  demanded : Bool := false
  /-- Version used by version_rel sources, while the firing holds a reference on it | 8 | 11 R366 | none -/
  version : Option (BitVec 8) := none
  /-- The keep entry whose recipe this firing is | 7 | 11 R375 | none -/
  recipe : Option Nat := none
  /-- The keep entry whose home this gather fills | 7 | 08 R272 | none -/
  home : Option Nat := none
  /-- Slabs of the firing, in R367's order | - | 11 R367 | empty -/
  slabs : List Slab := []
  /-- Children | 16,384 records | 11 R356 | empty -/
  children : List Child := []
  /-- Cumulative grants received, by shard | 32 each | 11 R367 | 0 -/
  grants : Tbl Word := []
  /-- Store tracking at the root | - | 11 R373 | zero -/
  status : NumStatus := {}
  deriving DecidableEq, Repr

/-- Noise statistics gathered at the stats home for one context (R378, R379). -/
structure Noise where
  job : BitVec 12
  ctx : BitVec 12
  tensorId : BitVec 16
  /-- Source messages: package, source index, cid, A48 value | - | 11 R378 | empty -/
  sources : List (BitVec 12 × Nat × Nat × BitVec 48) := []
  /-- Shard messages: shard, A48 value | - | 11 R378 | empty -/
  shards : List (Nat × BitVec 48) := []
  /-- complete, nonfinite, more | 3 | 11 R379 | 0 -/
  complete : Bool := false
  nonfinite : Bool := false
  more : Bool := false
  /-- reduced_ssq and contrib_ssq, binary64 | 65 × 64 | 11 R379 | 0 -/
  reduced : Dword := 0
  contrib : Tbl Dword := []
  deriving DecidableEq, Repr

/-- One Meld engine. -/
structure Meld where
  /-- MLD_CTL.cfg_reject | 1 | 11 R384 | 0 -/
  reject : Bool := false
  /-- MLD_SRC_INDEX and MLD_SHARD_INDEX | 12 + 12 | 11 R384 | 0 -/
  srcIndex : BitVec 12 := 0
  shardIndex : BitVec 12 := 0
  /-- MLD_SRC_ENTRY0 and _ENTRY1 tables | 4,096 × 128 | 11 R363 | 0 -/
  sources : Tbl (Dword × Dword) := []
  /-- MLD_SHARD_ENTRY table | 4,096 × 32 | 11 R362 | 0 -/
  shards : Tbl Word := []
  /-- Context slots 0–511 | 512 × 512 | 11 R385 | 0 -/
  ctxs : Tbl MeldCtx := []
  /-- Active firings | - | 11 R365 | empty -/
  firings : List Firing := []
  /-- Deferred control messages, oldest first | 64 | 11 R369 | empty -/
  deferred : List Packet := []
  /-- Counters, offset − 0x100 over 8 | 5 × 48 | 11 R386 | 0 -/
  counters : Tbl Count48 := []
  /-- Noise records | 16 per job | 11 R379 | empty -/
  noise : List Noise := []
  deriving DecidableEq, Repr

/-! ## Dealer, tricks, telemetry, security, package -/

/-- A keep entry (R271). -/
structure Keep where
  /-- DLR_KEEP_HOME.valid, job, home | 1 + 12 + 48 | 08 R271 | 0 -/
  valid : Bool := false
  job : BitVec 12 := 0
  home : BitVec 48 := 0
  /-- DLR_KEEP_HOME.state: 0 EMPTY, 1 VALID, 2 EVICTED, 3 GATHERING | 2 | 08 R271 | 0 -/
  state : Nat := 0
  /-- DLR_KEEP_INFO.tag, recipe, size | 8 + 12 + 32 | 08 R271 | 0 -/
  tag : BitVec 8 := 0
  recipe : BitVec 12 := 0
  size : Word := 0
  deriving DecidableEq, Repr

/-- The Dealer's package-wide registers. -/
structure Dealer where
  /-- DLR_WDOG_CTL: fault_mult, margin | 32 | 05 R173 | 8, 8 -/
  wdogCtl : Word := 0x82000000
  /-- DLR_CHAN_CTL: deadlock_us, open_timeout | 32 | 08 R258 | 100, 1,000 -/
  chanCtl : Word := 0x006403E8
  /-- DLR_RECOV_CTL: pkg_loss_ms, relink_ms | 32 | 15 R489 | 150, 250 -/
  recovCtl : Word := 0x009600FA
  /-- DLR_TALON 0–7 | 8 × 32 | 15 R489 | 0 -/
  talons : Tbl Word := []
  /-- DLR_VREG_BASE and _STRIDE 0–255 | 256 × 96 | 08 R262 | 0 -/
  vregs : Tbl (Dword × Word) := []
  /-- Keep entries 0–127 | 128 × 128 | 08 R271 | 0 -/
  keeps : Tbl Keep := []
  /-- Job slots 0–15 | 16 | 05 R170 | empty -/
  jobs : Tbl Job := []
  deriving DecidableEq, Repr

/-- The trick unit and the trick coordinator. -/
structure TrickUnit where
  /-- TRK_CTL: local_limit_kc, cap_wait_us | 32 | 09 R306 | 80, 10 -/
  ctl : Word := 0x500A0000
  /-- TRK_DECK_CTL: prepare_us | 32 | 09 R306 | 1,000 -/
  deckCtl : Word := 0x03E80000
  /-- Open local tricks by slot 1–255 | 255 | 09 R278 | empty -/
  locals : List (Nat × Trick) := []
  /-- Deck shares by slot 1–255; slot 0 is a share that holds none: it stages nothing and keeps its key's attempt (log 62) | 255 | 09 R278 | empty -/
  shares : List (Nat × Share) := []
  /-- Coordinator entries | 64 | 09 R306 | empty -/
  coords : List Coord := []
  deriving DecidableEq, Repr

/-- A token bucket of an event code, full at reset (R534; R535's table gives its tokens the Reset 0, log 157). -/
structure Bucket where
  /-- Tokens held | 8 | 17 R534, R535 | 8 (full) -/
  tokens : Nat := 8
  /-- Suppressed events waiting for the next record | 32 | 17 R534 | 0 -/
  pending : Nat := 0
  /-- The burst in force, taken from the rate registers at the code's last event | 8 | 17 R534, R535 | 8 -/
  burst : Nat := 8
  deriving DecidableEq, Repr

/-- Telemetry: STS, EVR, MGT blocks. -/
structure Telemetry where
  /-- STS_LIVE_SEL | 32 | 17 R532 | 0 -/
  liveSel : Word := 0
  /-- EVR_RATE_DFLT | 32 | 17 R535 | 8, 1 -/
  rateDflt : Word := 0x00000801
  /-- EVR_RATE_OVR 0–15 | 16 × 32 | 17 R535 | 0 -/
  rateOvr : Tbl Word := []
  /-- EVR_CODE_SEL | 16 | 17 R535 | 0 -/
  codeSel : BitVec 16 := 0
  /-- Buckets by event code | 65,536 | 17 R534, R547 | full -/
  buckets : Tbl Bucket := []
  /-- The BMC has enabled PLDM event messages (log 158) | 1 | 17 R543 | 0 -/
  bmcEvents : Bool := false
  /-- Transmission unit that MCTP has negotiated, in bytes | 9 | 17 R543 | 64 -/
  mctpUnit : Nat := 64
  /-- EVR_READ_INDEX | 17 | 17 R541 | 0 -/
  readIndex : BitVec 17 := 0
  /-- EVR_STATUS.full, clearing, next | 1 + 1 + 18 | 17 R541 | 0 -/
  full : Bool := false
  clearing : Bool := false
  next : Nat := 0
  /-- EVR_QUEUE.dropped | 16 | 17 R541 | 0 -/
  dropped : Nat := 0
  /-- Recorder queue, oldest first (EVR_QUEUE.queued) | 1,024 records | 17 R537 | empty -/
  queue : List EventRec := []
  /-- Operating time in seconds (MGT_OPTIME) | 40 | 17 R538, R545 | 0 until the journal is read -/
  seconds : BitVec 40 := 0
  /-- Microseconds within the second (model) | 20 | 17 R538 | 0 -/
  micros : Nat := 0
  /-- Power-cycle count (MGT_OPTIME) | 24 | 17 R538, R545 | 0 until the journal is read -/
  powerCycles : BitVec 24 := 0
  /-- Journal counter and next entry index | 32 + 15 | 17 R538 | 0 -/
  journalCount : Word := 0
  journalNext : Nat := 0
  /-- MGT_ENERGY | 64 | 17 R545 | 0 -/
  energy : Dword := 0
  /-- Energy count per rail 0–14, µJ | 15 × 64 | 17 R531 | 0 -/
  railEnergy : Tbl Dword := []
  /-- Energy count per rail at the last 1 ms boundary (model) | 15 × 64 | 17 R544, R545 | 0 -/
  railAt : Tbl Dword := []
  /-- MGT_POWER.power_dw | 16 | 17 R545 | 0 -/
  powerDw : BitVec 16 := 0
  /-- MGT_WDOG.resets | 16 | 17 R545 | 0 -/
  wdogResets : Nat := 0
  /-- Times of the watchdog resets, µs | - | 17 R546 | empty -/
  wdogTimes : List Nat := []
  /-- The management controller's core is in reset | 1 | 17 R546 | 0 -/
  mcReset : Bool := false
  /-- The core stays in reset (third reset within 600 s) | 1 | 17 R546 | 0 -/
  mcHeld : Bool := false
  /-- The package sends heartbeats | 1 | 15 R472, R484, 17 R546 | 1 -/
  heartbeat : Bool := true
  /-- PLDM numeric sensors 1–46 and 64–67; 47–63 have no reading and report "unavailable" | 67 × 64 | 17 R544, 18 R553 | 0 -/
  sensors : Tbl Nat := []
  deriving DecidableEq, Repr

/-- Instructions of the TAP (R573). -/
inductive TapInstr where
  | bypass
  | idcode
  | samplePreload
  | extest
  | clamp
  | highz
  | extestPulse
  | extestTrain
  /-- The access instruction for the IEEE 1687 network. -/
  | access
  deriving DecidableEq, Repr

/-- The states of a TAP controller (IEEE 1149.1). -/
inductive TapState where
  | testLogicReset
  | runTestIdle
  | selectDr
  | captureDr
  | shiftDr
  | exit1Dr
  | pauseDr
  | exit2Dr
  | updateDr
  | selectIr
  | captureIr
  | shiftIr
  | exit1Ir
  | pauseIr
  | exit2Ir
  | updateIr
  deriving DecidableEq, Repr

/-- The TAP (R573): its controller, the path between TDI and TDO, its instruction, and the boundary register. -/
structure Tap where
  /-- Controller | 16 states | 18 R573 | Test-Logic-Reset: PRESUMED (IEEE 1149.1), log 153 -/
  state : TapState := .testLogicReset
  /-- What is being scanned, the bit next to TDO first | - | 18 R573 | empty: DESIGN CHOICE, log 153 -/
  path : List Bool := []
  /-- Instruction | enum | 18 R573 | IDCODE: PRESUMED (IEEE 1149.1), log 153 -/
  instr : TapInstr := .idcode
  /-- Boundary register, cell 0 nearest TDI | 1,468 | 18 R573 | 0: DESIGN CHOICE, log 153 -/
  boundary : BitVec 1468 := 0
  deriving DecidableEq, Repr

/-- The package's pins, power, clocks and test state. -/
structure Package where
  /-- The package is held in power-on reset | 1 | 18 R557, R560 | 1 -/
  inReset : Bool := true
  /-- TEST_MODE as sampled | 3 | 18 R571 | 0 -/
  testMode : BitVec 3 := 0
  /-- Built-in self-test has run | 1 | 18 R572 | 0 -/
  selfTest : Bool := false
  /-- Results of the built-in self-test, 1 = passed, of the dies 0–10 and of the modules 0–83 | 11 + 84 | 18 R572 | 0: DESIGN CHOICE, log 153 -/
  bistDies : BitVec 11 := 0
  bistModules : BitVec 84 := 0
  /-- The TAP | - | 18 R573 | as Tap -/
  tap : Tap := {}
  /-- MGT_PCAP.cfg_reject | 1 | 18 R565 | 0 -/
  capReject : Bool := false
  /-- MGT_PCAP.host_cap_w | 10 | 18 R565 | 750 -/
  hostCap : Nat := 750
  /-- MGT_PCAP_STATUS.bmc_cap_w | 10 | 18 R565 | 750 -/
  bmcCap : Nat := 750
  /-- MGT_PCAP_STATUS.prochot | 1 | 18 R565 | 0 -/
  prochot : Bool := false
  /-- MGT_PCAP_STATUS.f_set_mhz | 10 | 18 R565 | 800 -/
  fSet : Nat := 800
  /-- Evaluations in a row with P below 0.95 × C | 4 | 18 R563 | 0 -/
  lowCount : Nat := 0
  /-- Rails more than 5 % from their setpoints | 15 | 18 R554, R564 | empty -/
  badRails : List Nat := []
  /-- Stacks whose regulator has not acknowledged the last setpoint, even when it was sent again | 4 | 18 R555, R564 | empty -/
  avsLate : List Nat := []
  /-- Levels of the twenty GDDR7 device reset outputs, which rise together | 1 | 18 R561, R569 | low -/
  gddrResetN : Bool := false
  /-- Hottest sensor of each of the eleven dies, °C | 11 × 8 | 18 R566, R568 | 0 -/
  temps : Tbl (BitVec 8) := []
  /-- THERMTRIP_N asserted | 1 | 18 R552, R568 | 0 -/
  thermtrip : Bool := false
  /-- Die-to-die modules 0–83: state and failed lanes (MGT_D2D_MOD) | 84 × 8 | 15 R473 | 0, 0 -/
  d2d : Tbl (Nat × Nat) := []
  deriving DecidableEq, Repr

/-- The fuses of R494 and of R26: fixed by manufacture and by the owner's commands. -/
structure Fuses where
  /-- serial | 64 | 16 R494 | from manufacture -/
  serial : Dword := 0
  /-- uds | 256 | 16 R494 | from manufacture -/
  uds : BitVec 256 := 0
  /-- fw_key_digest | 256 | 16 R494 | from manufacture -/
  fwKeyDigest : BitVec 256 := 0
  /-- dbg_key_digest | 256 | 16 R494 | from manufacture -/
  dbgKeyDigest : BitVec 256 := 0
  /-- owner[0]–owner[3]: key digest, set, revoked | 4 × 258 | 16 R494 | not set -/
  owners : Tbl (BitVec 256 × Bool × Bool) := []
  /-- svn | 0–64 | 16 R494 | 0 -/
  svn : Nat := 0
  /-- debug_disable | 1 | 16 R494 | 0 -/
  debugDisable : Bool := false
  /-- Spare and defective physical tiles, stack × 34 + tile: 0 in service, 1 spare, 2 defective | 136 × 2 | 01 R26, 15 R467 | 0–31 in service, 32 and 33 spare -/
  tiles : Tbl Nat := []
  /-- VDD_S voltage in mV for each frequency step of each stack, stack × 17 + (MHz − 400) / 25 | 4 × 17 × 10 | 18 R555 | 550 + 50 × step / 16 -/
  volts : Tbl Nat := []
  deriving DecidableEq, Repr

/-- A result pending for a security command (R520). -/
structure SpdmSession where
  /-- Session in use, handshake finished | 2 | 16 R513 | 0 -/
  inUse : Bool := false
  finished : Bool := false
  /-- Key generation (advanced by KEY_UPDATE) | 8 | 16 R513 | 0 -/
  keyGen : Nat := 0
  /-- Secret of the key exchange | - | 16 R512 | empty -/
  secret : List Byte := []
  deriving DecidableEq, Repr

/-- One IDE direction (R516). -/
structure IdeDir where
  /-- Key sets 0 and 1, when programmed | 2 × 256 | 16 R516 | none -/
  key0 : Option (BitVec 256) := none
  key1 : Option (BitVec 256) := none
  /-- Key set in use | 1 | 16 R516 | none -/
  active : Option (Fin 2) := none
  /-- Insecure after an integrity failure | 1 | 16 R517 | 0 -/
  insecure : Bool := false
  deriving DecidableEq, Repr

/-- What the boot record holds of the last attempt on a slot (R497, R500). -/
inductive BootResult where
  | untried
  | started
  | failed
  | reported
  deriving DecidableEq, Repr

/-- A SEC command on its way to the management controller (R520, R543): SEC_CMD.cmd, SEC_ARG, the buffer's valid bytes, and what the generator
draws for it. -/
structure SecReq where
  /-- Command number | 8 | 16 R521 | - -/
  cmd : Byte
  /-- SEC_ARG, or the argument in the MCTP message | 32 | 16 R520 | - -/
  arg : Word := 0
  /-- Buffer | - | 16 R520 | - -/
  data : List Byte := []
  /-- What the generator draws for NONCE | 256 | 16 R508 | - -/
  drawn : BitVec 256 := 0
  deriving DecidableEq, Repr

/-- A copy of the boot record (R497). -/
structure BootRecord where
  /-- Sequence number | 32 | 16 R497 | - -/
  seq : Word
  /-- prefer | 1 | 16 R497 | 0 -/
  prefer : Bool := false
  /-- trial | 1 | 16 R497 | 0 -/
  trial : Bool := false
  /-- Result of the last boot attempt on slots 0 and 1 | - | 16 R497 | untried -/
  result0 : BootResult := .untried
  result1 : BootResult := .untried
  deriving DecidableEq, Repr

/-- The security block. -/
structure Security where
  /-- SEC_CMD.cmd | 8 | 16 R520 | 0 -/
  cmd : Byte := 0
  /-- SEC_ARG | 32 | 16 R520 | 0 -/
  arg : Word := 0
  /-- SEC_LEN | 16 | 16 R520 | 0 -/
  len : BitVec 16 := 0
  /-- SEC buffer | 32 KiB | 16 R520 | 0 -/
  buffer : Mem := []
  /-- SEC_STATUS.busy, done, recovery, result | 1 + 1 + 1 + 8 | 16 R520 | 0 -/
  busy : Bool := false
  done : Bool := false
  recovery : Bool := false
  result : Byte := 0
  /-- Result code the MCTP path and the instrument's status register last returned | 8 + 8 | 16 R518, R543 | 0 -/
  mctpResult : Byte := 0
  instrResult : Byte := 0
  /-- The instrument's draw, nonce and block registers | 1 + 256 + 63,872 | 16 R518 | 0, 0, 0: DESIGN CHOICE, log 153 -/
  instrDraw : Bool := false
  instrNonce : BitVec 256 := 0
  instrBlock : List Byte := []
  /-- MCTP commands that wait for one that came before them | - | 16 R520 | none -/
  waiting : List SecReq := []
  /-- The path whose SVN_COMMIT burns the svn fuse, bit by bit | - | 16 R504 | none -/
  burn : Option SecPath := none
  /-- SEC_BOOT.slot, fallback, svn_run | 1 + 1 + 7 | 16 R520 | 0 -/
  slot : Bool := false
  fallback : Bool := false
  svnRun : Nat := 0
  /-- The firmware runs | 1 | 16 R500, R502 | 0 -/
  running : Bool := false
  /-- body_digest and build of the running image | 256 + 64 | 16 R510, R515 | 0 -/
  bodyDigest : BitVec 256 := 0
  build : Dword := 0
  /-- trial at boot, for measurement 7 | 1 | 16 R515 | 0 -/
  bootTrial : Bool := false
  /-- Measurement block 2, fixed at boot | 256 | 16 R515 | 0 -/
  meas2 : BitVec 256 := 0
  /-- Nonces of the three sources (0 mailbox, 1 MCTP, 2 instrument) | 3 × 256 | 16 R508, R518 | none -/
  nonces : Tbl (Option (BitVec 256)) := []
  /-- Update session: path | - | 16 R505 | none -/
  session : Option SecPath := none
  /-- The inactive slot has passed FW_FINISH since it was last written | 1 | 16 R505 | 0 -/
  checked : Bool := false
  /-- Debug level (SEC_DEBUG) | 2 | 16 R518, R520 | 0 -/
  level : Nat := 0
  /-- The Alias key exists and signs | 1 | 16 R502, R519 | 0 -/
  aliasReady : Bool := false
  /-- The SPDM responder runs | 1 | 16 R502 | 0 -/
  responder : Bool := false
  /-- The Alias certificate | - | 16 R502, R511 | empty -/
  aliasCert : List Byte := []
  /-- SPDM connection: version, capabilities, algorithms negotiated | 3 | 16 R512, R513 | 0 -/
  versionDone : Bool := false
  capsDone : Bool := false
  algsDone : Bool := false
  /-- SPDM sessions 0 and 1 | 2 | 16 R513 | none -/
  sessions : Tbl SpdmSession := []
  /-- Response held for CHUNK_GET, and request gathered by CHUNK_SEND | 65,536 bytes each | 16 R512 | empty -/
  chunkOut : List Byte := []
  chunkIn : List Byte := []
  chunkSeq : Nat := 0
  /-- IDE directions 0–4 | 5 | 16 R516 | no keys -/
  ide : Tbl IdeDir := []
  /-- Random values drawn so far (model): index of the next free value | - | 16 generator | 0 -/
  drawn : Nat := 0
  deriving DecidableEq, Repr

/-- What the recovery lead knows of a package it watches (R484). -/
structure Watched where
  job : BitVec 12
  partner : BitVec 12
  cutOff : BitVec 16
  cutMib : BitVec 16
  half : Bool
  cutStep : Word
  deriving DecidableEq, Repr

/-- Recovery: heartbeats, losses and takeover (R484, R485). -/
structure Recovery where
  /-- Last heartbeat of each package of the deck, at the lead | - | 15 R484 | empty -/
  heard : Tbl (List Watched) := []
  /-- Packages declared lost | - | 15 R484 | empty -/
  lost : List (BitVec 12) := []
  /-- At a talon: the takeover order being carried out: the lead that sent it and the lost package's last heartbeat | - | 15 R485 | none -/
  takeover : Option (BitVec 12 × List Watched) := none
  /-- At a talon: records received of a cut, by job: stack and bytes | - | 15 R486 | empty -/
  restore : List (BitVec 12 × Nat × List Byte) := []
  /-- At the lead: degraded packages whose planned replacement is wanted | - | 15 R488 | empty -/
  planned : List (BitVec 12) := []
  /-- At the lead: lost packages whose takeover order has been sent | - | 15 R485 | empty -/
  ordered : List (BitVec 12) := []
  deriving DecidableEq, Repr

/-- What fault injection has done to a packet or control block on the wire: one bit of it inverted (R349). -/
inductive Damage where
  | none
  | header
  | payload
  deriving DecidableEq, Repr

/-- Something that has left the package at its pins (model).  A control block stands behind the packets of its frame's stream, with the
idle units of 8 zero bytes that fill the stream (R317; log 3). -/
inductive Out where
  | packet (port : Nat) (p : Packet) (seq : BitVec 24) (replayed : Bool) (damage : Damage)
  | control (port : Nat) (block : List Byte) (idle : Nat) (damage : Damage)
  | restripeMarker (port : Nat) (lanes : BitVec 8)
  | msix (vector : Nat)
  | event (r : EventRec)
  | response (bytes : List Byte)
  | memData (bytes : List Byte) (poison : Bool)
  | backInvalidate (line : Nat)
  | avs (stack millivolts : Nat)
  | idleTransmitters
  | pageRequest (tile : Nat) (addr : Nat)
  | atsInvalidated
  deriving DecidableEq, Repr

/-- The package. -/
structure State where
  /-- Commands waiting, first in first out (model) | - | - | empty -/
  pending : List Instr := []
  /-- Device memory by physical device address: stacked SRAM, scratch, GDDR7 | 48-bit space | 06 R176, R181, 07 R214, R229 | 0 -/
  mem : Mem := []
  /-- 64-byte lines that hold poisoned data, by address / 64 | - | 06 R185, 07 R221 | none -/
  poison : Tbl Bool := []
  /-- 64-byte lines with an error that no access has met, by address / 64: units of the code in error, 0 for a failed transfer (model) | - | 06
  R185, 07 R212, R219 | none -/
  flaws : Tbl Nat := []
  /-- Check chunks of each channel in its chunk cache, by stack × 20 + channel slot, most recently used first | 80 × 256 | 07 R219 | empty -/
  chunkCache : Tbl (List Nat) := []
  /-- Host memory bytes that the host or the package has written (model) | 64-bit space | 12 R398 | none -/
  hostMem : List Host.Cell := []
  /-- Board flash | 64 MiB | 16 R496 | erased (0xFF) -/
  flash : Mem := []
  /-- Physical tiles, stack × 34 + tile | 136 | 01 R25 | reset tiles -/
  tiles : Tbl Tile := []
  /-- Stacks S0–S3 | 4 | 01 R25 | reset stacks -/
  stks : Tbl Stack := []
  /-- GDDR7 controllers 0–19 | 20 | 07 R211 | reset controllers -/
  gds : Tbl Gd := []
  /-- Synchronisation objects 0x0000–0xFFFF | 65,536 × 64 | 05 R152 | unallocated -/
  objs : Tbl SyncObj := []
  /-- Dealer | - | 12, 08, 05 | reset -/
  dealer : Dealer := {}
  /-- Trick unit and coordinator | - | 09 | reset -/
  trk : TrickUnit := {}
  /-- Host interface | - | 12 | reset -/
  host : HostIf := {}
  /-- Hethlink ports, port × 2 + half | 16 | 10 R313 | reset ports -/
  ports : Tbl Port := []
  /-- Origin route table | 4,096 × 32 | 10 R344, R345 | 0x1F1F_1F00 -/
  originRoutes : Tbl Word := []
  /-- HL_ORT_INDEX | 12 | 10 R351 | 0 -/
  ortIndex : BitVec 12 := 0
  /-- Meld engines 0 and 1 | 2 | 11 R356 | reset engines -/
  melds : Tbl Meld := []
  /-- Telemetry | - | 17 | reset -/
  tel : Telemetry := {}
  /-- Package, power and test | - | 18 | reset -/
  pkg : Package := {}
  /-- Fuses | - | 16 R494 | from manufacture -/
  fuses : Fuses := {}
  /-- Security block | - | 16 | reset -/
  sec : Security := {}
  /-- Recovery | - | 15 | reset -/
  recov : Recovery := {}
  /-- Messages between units of this package, oldest first | - | 08 R241, 09 R301 | empty -/
  noc : List Packet := []
  /-- What has left the package, newest first (model) | - | - | empty -/
  out : List Out := []
  /-- Microseconds since power-on reset (model) | - | - | 0 -/
  now : Nat := 0
  /-- Index of the next free value (model) | - | - | 0 -/
  free : Nat := 0
  deriving DecidableEq, Repr

/-- The machine right after power-on reset (R21). -/
def State.reset : State := {}

/-- Why the machine stops with a fault. -/
inductive Fault where
  /-- Raised by HOST_MEM_READ and HOST_MEM_WRITE for an HDM offset at or beyond 75 GiB, which R217 and R389 give no memory.
  Safe: the model stops where no access exists. -/
  | hdmOffsetOutOfRange
  deriving DecidableEq, Repr

/-- Why the machine refuses a command. -/
inductive Refusal where
  /-- Raised by Dispatch.lean for a command without a meaning.  Safe: nothing is claimed of it. -/
  | notModelled (mnemonic : String)
  deriving DecidableEq, Repr

end Sys2Proof.Machine
end

