-- ==== Sys2Proof/Machine/Tbl.lean ====
section
/-! DEFINITION. Tbl.lean: the operations of the sparse tables of Word.lean, and the bit-field and byte-order helpers (R13, R14,
R20, R24). -/
namespace Sys2Proof.Machine

/-- The entry at index `i`, or `d` where the table lists none. -/
def tget {α : Type} (d : α) : Tbl α → Nat → α
  | [], _ => d
  | (k, v) :: r, i => if i = k then v else tget d r i

/-- The listed entry at index `i`, if any. -/
def tfind {α : Type} : Tbl α → Nat → Option α
  | [], _ => none
  | (k, v) :: r, i => if i = k then some v else tfind r i

/-- The table with `x` at index `i`. -/
def tput {α : Type} : Tbl α → Nat → α → Tbl α
  | [], i, x => [(i, x)]
  | (k, v) :: r, i, x =>
    if i = k then (i, x) :: r else if i < k then (i, x) :: (k, v) :: r else (k, v) :: tput r i x

/-- The table without an entry at index `i`. -/
def tdel {α : Type} (t : Tbl α) (i : Nat) : Tbl α := t.filter (fun e => e.1 != i)

/-- The table with the entry at `i` changed by `f`. -/
def tmod {α : Type} (d : α) (t : Tbl α) (i : Nat) (f : α → α) : Tbl α := tput t i (f (tget d t i))

/-- Whether the table's indices rise strictly. -/
def tsorted {α : Type} : Tbl α → Bool
  | [] => true
  | [_] => true
  | (a, _) :: (b, y) :: r => decide (a < b) && tsorted ((b, y) :: r)

/-! ## Bytes -/

/-- Little-endian value of a byte string (R14). -/
def leNat : List Byte → Nat
  | [] => 0
  | b :: r => b.toNat + 256 * leNat r

/-- The `n` low bytes of a value, little-endian (R14). -/
def leBytes : Nat → Nat → List Byte
  | 0, _ => []
  | n + 1, v => BitVec.ofNat 8 v :: leBytes n (v / 256)

/-- `n` bytes of a byte string from offset `o`, as a little-endian value; bytes past its end count as 0. -/
def leAt (bs : List Byte) (o n : Nat) : Nat := leNat ((bs.drop o).take n)

/-- The value of a byte string read most significant byte first. -/
def beNat (bs : List Byte) : Nat := bs.foldl (fun a b => a * 256 + b.toNat) 0

/-- Bytes from a list to which zeros are added up to `n` bytes, and no more than `n`. -/
def padTo (n : Nat) (bs : List Byte) : List Byte := (bs ++ List.replicate (n - bs.length) 0).take n

/-- A byte string with `v` written over it at offset `o`. -/
def overwrite (bs : List Byte) (o : Nat) (v : List Byte) : List Byte :=
  bs.take o ++ v ++ bs.drop (o + v.length)

/-! ## Bit fields (R13) -/

/-- Field [lo + len - 1 : lo] of a natural number. -/
def nbits (x lo len : Nat) : Nat := (x >>> lo) % 2 ^ len

/-- Bit `i` of a natural number. -/
def nbit (x i : Nat) : Bool := x.testBit i

/-- Field [lo + len - 1 : lo] of a bit vector, as a number. -/
def bits {w : Nat} (x : BitVec w) (lo len : Nat) : Nat := nbits x.toNat lo len

/-- The bit vector with `v` in field [lo + len - 1 : lo]. -/
def putBits {w : Nat} (x : BitVec w) (lo len v : Nat) : BitVec w :=
  (x &&& ~~~(BitVec.ofNat w ((2 ^ len - 1) <<< lo))) ||| BitVec.ofNat w ((v % 2 ^ len) <<< lo)

/-- The bits of `x` under `mask` and those of `y` elsewhere. -/
def maskIn {w : Nat} (mask x y : BitVec w) : BitVec w := (x &&& mask) ||| (y &&& ~~~mask)

/-- A register's value with 1 in every field, given by first bit and width, that holds 0: fields of which the spec says that 0 reads as 1. -/
def oneFor {w : Nat} (fields : List (Nat × Nat)) (x : BitVec w) : BitVec w :=
  fields.foldl (fun v f => if bits v f.1 f.2 = 0 then putBits v f.1 f.2 1 else v) x

/-- 1 or 0. -/
def b2n (b : Bool) : Nat := if b then 1 else 0

/-- A `w`-bit two's-complement field as an integer. -/
def toSigned (w v : Nat) : Int := if v < 2 ^ (w - 1) then (v : Int) else (v : Int) - (2 ^ w : Nat)

/-- An integer as a `w`-bit two's-complement field. -/
def ofSigned (w : Nat) (v : Int) : Nat := (v % ((2 ^ w : Nat) : Int)).toNat

/-! ## Counters (R23, R24) -/

/-- Whether `a` is later than `b` for a protocol counter `w` bits wide (R24). -/
def later (w a b : Nat) : Bool :=
  let d := (a + 2 ^ w - b % 2 ^ w) % 2 ^ w
  1 ≤ d && d ≤ 2 ^ (w - 1) - 1

/-- A 48-bit saturating counter advanced by `n` (R23). -/
def satAdd (c : Count48) (n : Nat) : Count48 :=
  if c.toNat + n ≥ 2 ^ 48 - 1 then BitVec.allOnes 48 else BitVec.ofNat 48 (c.toNat + n)

/-- A saturating counter of `w` bits held as a number, advanced by `n`. -/
def satNat (w c n : Nat) : Nat := min (c + n) (2 ^ w - 1)

/-! ## Lists -/

/-- The first element satisfying `p`, and the list without it. -/
def takeFirst {α : Type} (p : α → Bool) : List α → Option (α × List α)
  | [] => none
  | x :: r => if p x then some (x, r) else match takeFirst p r with
    | none => none
    | some (y, r') => some (y, x :: r')

/-- The list with its first element satisfying `p` changed by `f`. -/
def modFirst {α : Type} (p : α → Bool) (f : α → α) : List α → List α
  | [] => []
  | x :: r => if p x then f x :: r else x :: modFirst p f r

/-- `x` put into a list that rises by `key`, behind the elements whose key is not greater. -/
def insertBy {α : Type} (key : α → Nat) (x : α) : List α → List α
  | [] => [x]
  | y :: r => if key x < key y then x :: y :: r else y :: insertBy key x r

/-- A list in rising order of `key`; elements of one key keep their order. -/
def sortBy {α : Type} (key : α → Nat) (l : List α) : List α := l.foldl (fun a x => insertBy key x a) []

/-- Consecutive pieces of `n` elements, at most `k` of them. -/
def chunks {α : Type} (n : Nat) : Nat → List α → List (List α)
  | 0, _ => []
  | _, [] => []
  | k + 1, l => l.take n :: chunks n k (l.drop n)

/-- The list with `x` added at its end unless it holds it. -/
def addOnce {α : Type} [DecidableEq α] (l : List α) (x : α) : List α := if x ∈ l then l else l ++ [x]

/-- `n`, `n + 1`, …, `k` numbers. -/
def upFrom (n k : Nat) : List Nat := (List.range k).map (· + n)

/-! ## CRC-32C (R318) -/

/-- One bit step of the reflected CRC-32C register. -/
def crcBit (c : Word) : Word := if c.getLsbD 0 then (c >>> 1) ^^^ 0x82F63B78 else c >>> 1

def crcByte (c : Word) (b : Byte) : Word :=
  crcBit (crcBit (crcBit (crcBit (crcBit (crcBit (crcBit (crcBit (c ^^^ b.setWidth 32))))))))

/-- CRC-32C of a byte string. -/
def crc32c (bs : List Byte) : Word := ~~~(bs.foldl crcByte 0xFFFFFFFF)

end Sys2Proof.Machine
end

