-- ==== Sys2Proof/Machine/Access.lean ====
section
/-! DEFINITION. Access.lean: reading and changing the indexed parts of the state: stacks, tiles behind logical numbers (R26, R467),
streams, endpoints, jobs and their placement (R168 to R171), rings, ports and Meld engines. -/
namespace Sys2Proof.Machine

/-! ## Free values -/

/-- The next value below a bound that the spec leaves open (log 3). -/
def State.openBelow (s : State) (bound : Nat) : Nat := (Config.freeValue s.free).toNat % bound

/-- The state after the use of a free value. -/
def State.nextOpen (s : State) : State := { s with free := s.free + 1 }

/-! ## Stacks, tile map, tiles -/

def State.stack (s : State) (k : Nat) : Stack := tget {} s.stks k

def State.modStack (s : State) (k : Nat) (f : Stack → Stack) : State := { s with stks := tmod {} s.stks k f }

/-- A physical tile as the fuses list it: 0 in service, 1 spare, 2 defective (R26). -/
def State.fuseTile (s : State) (k t : Nat) : Nat := tget (if t < 32 then 0 else 1) s.fuses.tiles (k * 34 + t)

/-- The in-service physical tiles of a stack, as the fuses list them. -/
def State.fuseMap (s : State) (k : Nat) : List Nat := (List.range 34).filter (fun t => s.fuseTile k t = 0)

/-- The physical tile behind a logical tile of a stack (R26, R467). -/
def State.physOf (s : State) (k l : Nat) : Nat :=
  match tfind (s.stack k).tileMap l with
  | some p => p
  | none => (s.fuseMap k).getD l l

/-- STK_TILE_STATE of a physical tile (R467). -/
def State.tileStateOf (s : State) (k t : Nat) : Nat := tget (s.fuseTile k t) (s.stack k).tileState t

/-- Spares of a stack (R467). -/
def State.spares (s : State) (k : Nat) : List Nat := (List.range 34).filter (fun t => s.tileStateOf k t = 1)

/-- Index of the physical tile behind a package logical tile. -/
def State.tileIx (s : State) (L : Nat) : Nat := (L / 32) * 34 + s.physOf (L / 32) (L % 32)

def State.tileAt (s : State) (ix : Nat) : Tile := tget {} s.tiles ix

def State.modTileAt (s : State) (ix : Nat) (f : Tile → Tile) : State := { s with tiles := tmod {} s.tiles ix f }

def State.tile (s : State) (L : Nat) : Tile := s.tileAt (s.tileIx L)

def State.modTile (s : State) (L : Nat) (f : Tile → Tile) : State := s.modTileAt (s.tileIx L) f

/-- The logical tile behind which a physical tile stands, if any. -/
def State.logicalOf (s : State) (k t : Nat) : Option Nat :=
  ((List.range 32).find? (fun l => s.physOf k l = t)).map (· + k * 32)

/-! ## Streams, endpoints, banks -/

def Tile.stream (t : Tile) (n : Nat) : Stream := tget {} t.streams n

def Tile.modStream (t : Tile) (n : Nat) (f : Stream → Stream) : Tile := { t with streams := tmod {} t.streams n f }

def State.stream (s : State) (L n : Nat) : Stream := (s.tile L).stream n

def State.modStream (s : State) (L n : Nat) (f : Stream → Stream) : State := s.modTile L (fun t => t.modStream n f)

def Tile.ep (t : Tile) (e : Nat) : Endpoint := tget {} t.eps e

def Tile.modEp (t : Tile) (e : Nat) (f : Endpoint → Endpoint) : Tile := { t with eps := tmod {} t.eps e f }

def State.ep (s : State) (L e : Nat) : Endpoint := (s.tile L).ep e

def State.modEp (s : State) (L e : Nat) (f : Endpoint → Endpoint) : State := s.modTile L (fun t => t.modEp e f)

def Tile.bank (t : Tile) (b : Nat) : Bank := tget {} t.banks b

def Tile.modBank (t : Tile) (b : Nat) (f : Bank → Bank) : Tile := { t with banks := tmod {} t.banks b f }

/-! ## Jobs and placement -/

def State.job (s : State) (slot : Nat) : Job := tget {} s.dealer.jobs slot

def State.modJob (s : State) (slot : Nat) (f : Job → Job) : State :=
  { s with dealer := { s.dealer with jobs := tmod {} s.dealer.jobs slot f } }

/-- Slots whose job exists: one that was lost holds its groups until they are zeroed (R216, R415, R476). -/
def State.jobSlots (s : State) : List Nat := (List.range 16).filter (fun n => (s.job n).valid && !(s.job n).endingLost)

/-- The slot of the job with an ID, if it exists. -/
def State.findJob (s : State) (id : Nat) : Option Nat := s.jobSlots.find? (fun n => (s.job n).id.toNat = id)

def Job.holds (j : Job) (g : Nat) : Bool := j.valid && decide (j.first ≤ g) && decide (g < j.first + j.groups)

/-- The slot of the job that holds a tile group, if any. -/
def State.slotOfGroup (s : State) (g : Nat) : Option Nat := (List.range 16).find? (fun n => (s.job n).holds g)

/-- The slot of the job that holds a package logical tile, if any. -/
def State.slotOfTile (s : State) (L : Nat) : Option Nat := s.slotOfGroup (L / 8)

/-- The package logical tiles of a job (R169). -/
def Job.tiles (j : Job) : List Nat := if j.valid then upFrom (8 * j.first) (8 * j.groups) else []

/-- Whether some job holds a tile group of a stack. -/
def State.stackBusy (s : State) (k : Nat) : Bool := (upFrom (4 * k) 4).any (fun g => (s.slotOfGroup g).isSome)

def State.anyJob (s : State) : Bool :=
  !s.jobSlots.isEmpty || (List.range 64).any (fun q => (tget ({} : Sq) s.host.sqs q).window.any (fun d => leAt d.bytes 0 1 = 1))

/-- Package logical tile of a job-relative channel, with its endpoint (R169, R237). -/
def Job.tileOfChannel (j : Job) (ch : Nat) : Nat := 8 * j.first + ch / 32

/-- Job-relative channel of an endpoint of a package logical tile. -/
def Job.channelOf (j : Job) (L e : Nat) : Nat := (L - 8 * j.first) * 32 + e

/-! ## The other indexed parts -/

def State.gd (s : State) (n : Nat) : Gd := tget {} s.gds n

def State.modGd (s : State) (n : Nat) (f : Gd → Gd) : State := { s with gds := tmod {} s.gds n f }

def State.port (s : State) (p : Nat) : Port := tget {} s.ports p

def State.modPort (s : State) (p : Nat) (f : Port → Port) : State := { s with ports := tmod {} s.ports p f }

def State.meld (s : State) (e : Nat) : Meld := tget {} s.melds e

def State.modMeld (s : State) (e : Nat) (f : Meld → Meld) : State := { s with melds := tmod {} s.melds e f }

def State.obj (s : State) (o : Nat) : SyncObj := tget {} s.objs o

def State.setObj (s : State) (o : Nat) (x : SyncObj) : State := { s with objs := tput s.objs o x }

def State.modHost (s : State) (f : HostIf → HostIf) : State := { s with host := f s.host }

def State.modTel (s : State) (f : Telemetry → Telemetry) : State := { s with tel := f s.tel }

def State.modPkg (s : State) (f : Package → Package) : State := { s with pkg := f s.pkg }

def State.modSec (s : State) (f : Security → Security) : State := { s with sec := f s.sec }

def State.modDealer (s : State) (f : Dealer → Dealer) : State := { s with dealer := f s.dealer }

def State.modTrk (s : State) (f : TrickUnit → TrickUnit) : State := { s with trk := f s.trk }

def State.sq (s : State) (q : Nat) : Sq := tget {} s.host.sqs q

def State.modSq (s : State) (q : Nat) (f : Sq → Sq) : State := s.modHost (fun h => { h with sqs := tmod {} h.sqs q f })

def State.cq (s : State) (c : Nat) : Cq := tget {} s.host.cqs c

def State.modCq (s : State) (c : Nat) (f : Cq → Cq) : State := s.modHost (fun h => { h with cqs := tmod {} h.cqs c f })

/-- The package's own logical ID (R396). -/
def State.self (s : State) : BitVec 12 := s.host.package

/-- The coordinator of a job's deck tricks (R299, R306). -/
def Job.coordPkg (j : Job) : BitVec 12 := BitVec.ofNat 12 (bits j.trkCtl 16 12)

/-- The packages of a job's deck, this one among them (R299). -/
def State.deckOf (s : State) (j : Job) : List (BitVec 12) :=
  if j.deck.packages.contains s.self then j.deck.packages else s.self :: j.deck.packages

/-- The recovery lead of a job (R484): its coordinator, or when that is lost the lowest package of the deck that is not. -/
def State.leadOf (s : State) (j : Job) : BitVec 12 :=
  if s.recov.lost.contains j.coordPkg then
    let live := (s.deckOf j).filter (fun p => !s.recov.lost.contains p)
    live.foldl (fun a p => if p.toNat < a.toNat then p else a) (live.headD s.self)
  else j.coordPkg

/-- Something leaves the package at its pins. -/
def State.emit (s : State) (o : Out) : State := { s with out := o :: s.out }

/-- The open deck tricks of a job on this package: its started step and its injected passes, as step, micro-batch, whether it is a
pass, and attempt (R277). -/
def Job.openTricks (j : Job) : List (Word × BitVec 20 × Bool × BitVec 8) :=
  (match j.run with
    | some r => if r.started then [(r.step, 0, false, r.attempt)] else []
    | none => []) ++ (j.passes.filter (·.injected)).map (fun p => (p.step, p.mb, true, p.attempt))

/-! ## Tags (R35) -/

def tagJob (t : Tag) : Nat := bits t 0 12

def tagPass (t : Tag) : Nat := bits t 12 2

def tagTc (t : Tag) : Nat := bits t 14 2

def tagMb (t : Tag) : Nat := bits t 16 20

def tagVersion (t : Tag) : Nat := bits t 36 8

def tagStage (t : Tag) : Nat := bits t 44 12

def tagSlot (t : Tag) : Nat := bits t 56 8

def tagPos (t : Tag) : Nat := bits t 64 20

def tagChannel (t : Tag) : Nat := bits t 84 12

def tagStep (t : Tag) : Nat := bits t 96 20

/-- A tag from its fields (R35). -/
def mkTag (job pass tc mb version stage slot pos channel step : Nat) : Tag :=
  BitVec.ofNat 128 (job % 4096 + pass % 4 * 2 ^ 12 + tc % 4 * 2 ^ 14 + mb % 2 ^ 20 * 2 ^ 16 + version % 256 * 2 ^ 36
    + stage % 4096 * 2 ^ 44 + slot % 256 * 2 ^ 56 + pos % 2 ^ 20 * 2 ^ 64 + channel % 4096 * 2 ^ 84 + step % 2 ^ 20 * 2 ^ 96)

/-- The lowest feature level of the package's dies (R491). -/
def State.level (s : State) : Nat := (List.range 11).foldl (fun a i => min a (tget 2 s.host.levels i)) 3

/-- No engine of a tile acts: the tile is fenced (R464), or the package has tripped and the island clocks stand still (R568). -/
def State.engineStopped (s : State) (L : Nat) : Bool := (s.tile L).fenced || s.pkg.thermtrip

/-- No engine of a tile takes up work: none acts, or the link has trained without CXL.cache, and no job runs (R391). -/
def State.engineHeld (s : State) (L : Nat) : Bool := s.engineStopped L || s.host.pcieOnly

/-- The package's power is good and it has not tripped, so that what the host, its neighbours and the board's controllers send reaches it (R557,
R560, R568; log 178). -/
def State.awake (s : State) : Bool := !s.pkg.inReset && !s.pkg.thermtrip

/-- What the host sends reaches a package that is awake, and no other: `t` is the state with it done. -/
def State.fromHost (s t : State) : State := if s.awake then t else s

/-- The job is interrupted for some µs by a fault: the limits of its open step and of its passes grow (R43, R172, R459; log 20). -/
def Job.interrupt (us : Nat) (j : Job) : Job :=
  { j with
    passes := j.passes.map (fun p => if p.injected then
      { p with wdogLimit := satNat 32 p.wdogLimit us, wdogExtra := p.wdogExtra + us } else p),
    wdogLimit := satNat 32 j.wdogLimit us, wdogExtra := j.wdogExtra + us }

end Sys2Proof.Machine
end

