-- ==== Sys2Proof/Machine/Clock.lean ====
section
/-! DEFINITION. Clock.lean: island clocks and stack voltages (R555, R559, R563), and the step watchdog limits that follow them (R172, R564). -/
namespace Sys2Proof.Machine

/-- VDD_S voltage in mV that the fuses give a stack for an island frequency (R555), raised to a step of 5 mV. -/
def State.fusedMv (s : State) (k mhz : Nat) : Nat :=
  let i := (mhz - 400) / 25
  let v := tget (550 + 50 * i / 16) s.fuses.volts (k * 17 + i)
  min 800 (max 550 ((v + 4) / 5 * 5))

/-- The highest island frequency that a voltage supports on a stack (R555). -/
def State.supportedMhz (s : State) (k mv : Nat) : Nat :=
  ((List.range 17).filter (fun i => decide (s.fusedMv k (400 + 25 * i) ≤ mv))).foldl (fun a i => max a (400 + 25 * i)) 400

/-- The frequency that a logical tile's island is to run at (R465, R559, R563, R568): 400 MHz outside a job. -/
def State.targetMhz (s : State) (L : Nat) : Nat :=
  if s.pkg.thermtrip then 0
  else if s.pkg.prochot || (s.slotOfTile L).isNone then 400
  else if (s.tile L).exempt then 800
  else s.pkg.fSet

/-- Whether an island's clock holds its setting, because the management controller's core is in reset: only PROCHOT_N, a trip and a tile swap
act without it (R465, R546, R563, R568). -/
def State.clockHeld (s : State) (L : Nat) : Bool :=
  s.tel.mcReset && !s.pkg.prochot && !s.pkg.thermtrip && !(s.tile L).exempt

/-- The voltage that the islands of a stack may count on: the last one acknowledged, or a lower one that the regulator has been told (R555,
R563). -/
def Stack.sureMv (x : Stack) : Nat := min x.ackedMv (x.pendingMv.getD x.ackedMv)

/-- The islands of a stack run at their targets, and no faster than that voltage supports (R555, R563): clocks fall before the voltage is told
to, and rise after it is acknowledged. -/
def State.reclock (s : State) (k : Nat) : State :=
  let top := s.supportedMhz k (s.stack k).sureMv
  let s1 := (List.range 34).foldl (fun s t =>
    if (s.logicalOf k t).isNone then s.modTileAt (k * 34 + t) (fun x => { x with clock := if s.pkg.thermtrip then 0 else 400 }) else s) s
  (upFrom (32 * k) 32).foldl (fun s L =>
    if s.clockHeld L then s else s.modTile L (fun x => { x with clock := min top (s.targetMhz L) })) s1

/-- The setpoint that a stack's islands want: the fused voltage of the highest of their frequencies (R555). -/
def State.wantedMv (s : State) (k : Nat) : Nat :=
  s.fusedMv k ((upFrom (32 * k) 32).foldl (fun a L => max a (s.targetMhz L)) 400)

/-- The firmware sends a new setpoint to a stack's regulator, one at a time (R555). -/
def State.setVoltage (s : State) (k : Nat) : State :=
  let x := s.stack k
  if !s.sec.running || s.tel.mcReset || x.pendingMv.isSome || s.wantedMv k = x.ackedMv then s
  else (s.modStack k (fun y => { y with pendingMv := some (s.wantedMv k), avsRetried := false })).emit (.avs k (s.wantedMv k))

/-- The watchdog limit of R172 in whole µs; `tTile` and `tFixed` are in units of 100 ns. -/
def wdogLimitOf (tTile tFixed f margin : Nat) : Nat :=
  ((tTile * 800 + tFixed * f) * (64 + margin) + 640 * f - 1) / (640 * f)

/-- Lowest island clock of a job's tiles. -/
def State.minClock (s : State) (j : Job) : Nat := j.tiles.foldl (fun a L => min a (s.tile L).clock) 800

/-- The limits of the open steps after island clocks have fallen; a clock that rises shortens none (R172); f_min_mhz follows as well (R528). -/
def State.relimit (s : State) : State :=
  (List.range 16).foldl (fun s n =>
    let j := s.job n
    let f := s.minClock j
    match j.run with
    | some r =>
      let s := if r.reserved && decide (f < j.stepFmin) then s.modJob n (fun j => { j with stepFmin := f }) else s
      if r.started && decide (0 < f) && decide (f < j.wdogFmin) then
        s.modJob n (fun j => { j with
          passes := j.passes.map (fun p => if p.injected then { p with
              wdogLimit := wdogLimitOf j.tTile j.tFixed f (bits s.dealer.wdogCtl 22 6) + p.wdogExtra } else p),
          wdogFmin := f, wdogLimit := wdogLimitOf j.tTile j.tFixed f (bits s.dealer.wdogCtl 22 6) + j.wdogExtra })
      else s
    | none => s) s

/-- Clocks, voltages and limits follow what has changed of the frequencies wanted. -/
def State.retime (s : State) : State :=
  ((upFrom 0 4).foldl (fun s k => (s.reclock k).setVoltage k) s).relimit

/-- A stream no longer replays a span after a swap; when none of its tile does, the tile's clock follows the cap again (R465, R563). -/
def State.endSpan (s : State) (L n : Nat) : State :=
  let s1 := s.modStream L n (fun x => { x with swapped := false })
  let t := s1.tile L
  if t.exempt && !t.fenced && (List.range 3).all (fun n => !(t.stream n).swapped) then
    (s1.modTile L (fun t => { t with exempt := false })).retime
  else s1

end Sys2Proof.Machine
end

