-- ==== Sys2Proof/Machine/Event.lean ====
section
/-! DEFINITION. Event.lean: host memory, the records the hub writes into rings there (R398 to R408, R417, R421), MSI-X (R406), events
with their rate limit (R421, R422, R533 to R539, R577), completions (R417 to R420) and statistics counters (R23, R529, R530). -/
namespace Sys2Proof.Machine

/-! ## Host memory -/

/-- A byte of host memory: the one last written, or the host's own (log 5). -/
def State.hostByteAt (s : State) (a : Nat) : Byte :=
  match tfind s.hostMem a with
  | some b => b
  | none => Config.hostByte a

def State.hostRead (s : State) (a n : Nat) : List Byte := (List.range n).map (fun i => s.hostByteAt (a + i))

/-- Bytes written into a sparse byte table from address `a` on; every byte is listed. -/
def putBytes (m : Mem) (a : Nat) : List Byte → Mem
  | [] => m
  | b :: r => putBytes (tput m a b) (a + 1) r

def State.hostWrite (s : State) (a : Nat) (bs : List Byte) : State := { s with hostMem := putBytes s.hostMem a bs }

/-- The host's own writes that precede a command (Ambient). -/
def State.applyHw (s : State) (hw : List Host.Cell) : State :=
  { s with hostMem := hw.foldl (fun m c => tput m c.1 c.2) s.hostMem }

/-- What the surroundings contribute to a command: the host's writes, and errors in device memory, which stay until an access meets them or
the line is written whole (R185, R219). -/
def State.applyAmb (s : State) (amb : Ambient) : State :=
  { s.applyHw amb.hw with flaws := amb.errs.foldl (fun t e => tput t e.line.toNat e.units.val) s.flaws }

/-! ## Record rings (R399 to R401, R246) -/

def ringSize (cfg : Word) : Nat := 2 ^ bits cfg 0 5

def ringEnabled (cfg : Word) : Bool := nbit cfg.toNat 31

/-- Phase bit of the record that starts at counter `p` (R401). -/
def ringPhase (size p : Nat) : Nat := if (p / size) % 2 = 0 then 1 else 0

/-- Units of padding that a record of `len` units needs at counter `tail` (R246). -/
def ringPad (size tail len : Nat) : Nat := if size - tail % size < len then size - tail % size else 0

/-- A record of `len` units placed in a completion or event ring: the ring and host memory after it, or none when the ring has no
space (R246, R400). `mk` gives the record's bytes from its phase bit. -/
def placeRecord (s : State) (r : Cq) (len : Nat) (mk : Nat → List Byte) : Option (State × Cq) :=
  let size := ringSize r.cfg
  let tail := r.tail.toNat
  let pad := ringPad size tail len
  if size - (r.tail - r.head).toNat < pad + len then none
  else
    let base := r.base.toNat
    let s1 := if pad = 0 then s
      else s.hostWrite (base + (tail % size) * 32)
        ([2, BitVec.ofNat 8 (ringPhase size tail), BitVec.ofNat 8 pad] ++ List.replicate (pad * 32 - 3) 0)
    let at' := (r.tail + BitVec.ofNat 32 pad).toNat
    let s2 := s1.hostWrite (base + (at' % size) * 32) (padTo (len * 32) (mk (ringPhase size at')))
    some (s2, { r with tail := BitVec.ofNat 32 (at' + len) })

/-! ## MSI-X (R394, R406) -/

/-- An MSI-X table entry after reset: masked, as PCIe gives it (log 11). -/
def msixReset : BitVec 128 := 1 <<< 96

/-- The message of a vector, or its pending bit when the vector is masked (R406). -/
def State.sendMsix (s : State) (v : Nat) : State :=
  let e := tget msixReset s.host.msixTable v
  if nbit e.toNat 96 then s.modHost (fun h => { h with msixPending := addOnce h.msixPending v })
  else s.emit (.msix v)

/-- A vector raised by a ring: at once when coalesce_us is 0, else due (R406). -/
def State.raiseVector (s : State) (cfg : Word) : State :=
  let v := bits cfg 24 6
  if bits cfg 16 8 = 0 then s.sendMsix v else s.modHost (fun h => { h with msixDue := addOnce h.msixDue v })

/-! ## Events -/

/-- Burst and period of an event code (R535). -/
def State.rateOf (s : State) (code : Nat) : Nat × Nat :=
  match ((List.range 16).map (fun i => tget 0 s.tel.rateOvr i)).find?
      (fun w => bits w 8 8 ≠ 0 && bits w 16 16 = code) with
  | some w => (bits w 8 8, max 1 (bits w 0 8))
  | none => (max 1 (bits s.tel.rateDflt 8 8), max 1 (bits s.tel.rateDflt 0 8))

/-- Time stamp of a record (R421). -/
def State.stamp (s : State) : Dword := BitVec.ofNat 64 (s.tel.seconds.toNat + s.tel.powerCycles.toNat * 2 ^ 40)

/-- The unit of an event record in the event ring (R421). -/
def eventUnit (r : EventRec) (recFull : Bool) (phase : Nat) : List Byte :=
  [1, BitVec.ofNat 8 (phase + 2 * b2n recFull), 1, 0] ++ leBytes 2 r.code.toNat ++ leBytes 2 r.job.toNat
    ++ leBytes 8 r.stamp.toNat ++ leBytes 4 r.suppressed.toNat ++ leBytes 4 r.seq.toNat ++ leBytes 8 r.detail.toNat

/-- An event record written to the event ring, when it can be (R421, R422). -/
def State.putEvent (s : State) (r : EventRec) : Option State :=
  if s.host.attached && ringEnabled s.host.eq.cfg then
    match placeRecord s s.host.eq 1 (eventUnit r s.tel.full) with
    | none => none
    | some (s1, q) =>
      let s2 := s1.modHost (fun h => { h with eq := { q with arm := false } })
      some (if q.arm then s2.raiseVector q.cfg else s2)
  else none

/-- The held events written, oldest first, as far as the ring has space (R422). -/
def flushHeld : List EventRec → State → State
  | [], s => s.modHost (fun h => { h with heldEvents := [] })
  | r :: rs, s =>
    match s.putEvent r with
    | none => s.modHost (fun h => { h with heldEvents := r :: rs })
    | some s' => flushHeld rs s'

def State.flushEvents (s : State) : State := flushHeld s.host.heldEvents s

/-- Whether the I3C target answers (R546). -/
def State.mctpAnswers (s : State) : Bool := !s.pkg.inReset && !s.tel.mcReset && s.sec.running

/-- A passing event goes to the BMC as a PlatformEventMessage when the BMC has enabled these (R543). -/
def State.tellBmc (s : State) (r : EventRec) : State := if s.tel.bmcEvents && s.mctpAnswers then s.emit (.event r) else s

/-- A passing event on its way to the event ring: written, held, or lost when 256 are held (R422). -/
def State.toEventRing (s : State) (r : EventRec) : State :=
  if s.host.heldEvents.isEmpty then
    match s.putEvent r with
    | some s' => s'
    | none => s.modHost (fun h => { h with heldEvents := [r] })
  else if s.host.heldEvents.length < 256 then s.modHost (fun h => { h with heldEvents := h.heldEvents ++ [r] })
  else s

/-- A passing event on its way to the host and the BMC (R422, R543). -/
def State.deliverEvent (s : State) (r : EventRec) : State := (s.toEventRing r).tellBmc r

/-- A passing event on its way to the recorder (R537, R539). -/
def State.queueEvent (s : State) (r : EventRec) : State :=
  s.modTel (fun t =>
    if (t.full && !t.clearing) || t.queue.length ≥ 1024 then { t with dropped := satNat 16 t.dropped 1 }
    else { t with queue := t.queue ++ [r] })

/-- An event takes a token of its code's bucket and passes as a record with the next sequence number (R422, R534); without a token it is
suppressed.  A changed rate takes effect here (R535). -/
def State.takeToken (s : State) (code job detail : Nat) : State × Option EventRec :=
  let b := tget {} s.tel.buckets code
  let burst := (s.rateOf code).1
  let tokens := min b.tokens burst
  if tokens = 0 then
    (s.modTel (fun t => { t with buckets := tput t.buckets code { tokens := 0, pending := satNat 32 b.pending 1, burst := burst } }), none)
  else
    let r : EventRec :=
      { code := BitVec.ofNat 16 code, job := BitVec.ofNat 12 job, detail := BitVec.ofNat 64 detail,
        suppressed := BitVec.ofNat 32 b.pending, seq := s.host.evSeq, stamp := s.stamp }
    let s1 := s.modTel (fun t => { t with buckets := tput t.buckets code { tokens := tokens - 1, pending := 0, burst := burst } })
    (s1.modHost (fun h => { h with evSeq := h.evSeq + 1 }), some r)

/-- An event is raised (R421, R534, R537): one that passes goes to the recorder's queue and to the event ring. -/
def State.raise (s : State) (code job detail : Nat) : State :=
  match s.takeToken code job detail with
  | (s1, none) => s1
  | (s1, some r) => (s1.queueEvent r).deliverEvent r

/-- An event to be raised: code, job and detail. -/
abbrev Ev := Nat × Nat × Nat

/-- Events raised in the same cycle are taken in ascending code; those of one code stand in the order of their source (R533). -/
def State.raiseAll (s : State) (es : List Ev) : State := (sortBy (fun (e : Ev) => e.1) es).foldl (fun s e => s.raise e.1 e.2.1 e.2.2) s

/-- The tile-and-stream layout of R577. -/
def tsDetail (L stream instr reason a b : Nat) : Nat :=
  reason % 256 + stream % 4 * 2 ^ 8 + instr % 65536 * 2 ^ 16 + L % 128 * 2 ^ 32 + a % 256 * 2 ^ 40 + b % 4096 * 2 ^ 48

/-- `degraded` is set, for a reason of R577's 0x0C02 row (R492). -/
def State.degrade (s : State) (reason : Nat) : State :=
  (s.modHost (fun h => { h with degraded := true })).raise 0x0C02 0 reason

/-! ## Statistics counters (R23, R529, R530) -/

/-- A counter entry of a job has saturated: the event of R530, unless this step has had it. -/
def State.satEvents (s : State) (slot idx : Nat) : State × List Ev :=
  if (s.job slot).satRaised.contains idx then (s, [])
  else (s.modJob slot (fun j => { j with satRaised := j.satRaised ++ [idx] }), [(0x0C03, (s.job slot).id.toNat, idx)])

/-- A statistics counter of a job advanced by `n`, with the event of R530 at the moment it saturates. -/
def State.statQ (s : State) (slot idx n : Nat) : State × List Ev :=
  let c := tget {} (s.job slot).statistics idx
  let v := satAdd c.count n
  let sat := v = BitVec.allOnes 48
  let s1 := s.modJob slot (fun j => { j with statistics := tput j.statistics idx ⟨v, c.sat || sat⟩ })
  if n ≠ 0 && sat then s1.satEvents slot idx else (s1, [])

/-- The same, the event raised. -/
def State.stat (s : State) (slot idx n : Nat) : State :=
  let r := s.statQ slot idx n
  r.2.foldl (fun s e => s.raise e.1 e.2.1 e.2.2) r.1

/-- The same for the job that holds a tile, if one does. -/
def State.statTile (s : State) (L idx n : Nat) : State :=
  match s.slotOfTile L with
  | some slot => s.stat slot idx n
  | none => s

/-- The same for the job with an ID, if it exists. -/
def State.statJob (s : State) (id idx n : Nat) : State :=
  match s.findJob id with
  | some slot => s.stat slot idx n
  | none => s

/-! ## Completions -/

/-- The units of a completion record (R417, R418). -/
def completionBytes (c : Completion) (sqHead : Word) (phase : Nat) : List Byte :=
  [1, BitVec.ofNat 8 (phase + 2 * b2n c.held), if c.tokens.isEmpty then 1 else 3, c.status]
    ++ leBytes 2 c.job.toNat ++ [c.dtype, BitVec.ofNat 8 c.sq] ++ leBytes 4 c.cookie.toNat ++ leBytes 4 sqHead.toNat
    ++ leBytes 4 c.step.toNat ++ leBytes 4 c.ref.toNat ++ leBytes 8 c.value.toNat
    ++ (c.tokens.map (fun t => leBytes 4 t.toNat)).flatten

/-- A completion record written to its ring, when it can be. -/
def State.putCompletion (s : State) (c : Completion) : Option State :=
  let q := s.cq c.ring
  if s.host.attached && ringEnabled q.cfg then
    match placeRecord s q (if c.tokens.isEmpty then 1 else 3) (completionBytes c (s.sq c.sq).head) with
    | none => none
    | some (s1, q') =>
      let s2 := s1.modCq c.ring (fun _ => { q' with arm := false })
      some (if q'.arm then s2.raiseVector q'.cfg else s2)
  else none

/-- The buffered completions written, oldest first, as far as their rings have space; a ring that has none blocks its later records
(R420). -/
def drainBuffer : List Completion → List Nat → State → State
  | [], _, s => s
  | c :: cs, blocked, s =>
    if c.ring ∈ blocked then
      drainBuffer cs blocked (s.modHost (fun h => { h with buffer := h.buffer ++ [c] }))
    else match s.putCompletion c with
      | some s' => drainBuffer cs blocked s'
      | none => drainBuffer cs (c.ring :: blocked) (s.modHost (fun h => { h with buffer := h.buffer ++ [c] }))

/-- The oldest completions that wait for a record take those that are free (R420; log 171). -/
def State.takeOwed (s : State) : State :=
  s.modHost (fun h =>
    let n := 1024 - (h.reserved + h.buffer.length)
    { h with buffer := h.buffer ++ h.owed.take n, owed := h.owed.drop n })

def State.drain (s : State) : State :=
  let s1 := drainBuffer s.host.buffer [] (s.modHost (fun h => { h with buffer := [] }))
  (if s1.host.buffer.length < s.host.buffer.length then s1.modHost (fun h => { h with fullRaised := false }) else s1).takeOwed

/-- A completion record written, or buffered in the hub behind its ring's earlier ones; the hub has 1,024 records, and a completion that none was
reserved for waits behind them while they are all taken (R417, R420; log 171). -/
def State.complete (s : State) (c : Completion) : State :=
  let hold := fun (s : State) => s.modHost (fun h =>
    let c' := { c with held := !h.attached }
    if h.reserved + h.buffer.length < 1024 then { h with buffer := h.buffer ++ [c'] } else { h with owed := h.owed ++ [c'] })
  if (s.host.buffer ++ s.host.owed).any (fun b => b.ring = c.ring) then hold s
  else match s.putCompletion c with
    | some s' => s'
    | none => hold s

/-- A reserved completion record is given back as its completion is formed (R420). -/
def State.unreserve (s : State) : State := s.modHost (fun h => { h with reserved := h.reserved - 1 })

/-- Whether a descriptor may start: a completion record is free (R420). -/
def State.mayReserve (s : State) : Bool := s.host.reserved + s.host.buffer.length < 1024

/-- A completion record is reserved; with none free, event 0x0107 is raised once (R420). -/
def State.noRecord (s : State) : State :=
  if s.host.fullRaised then s else (s.modHost (fun h => { h with fullRaised := true })).raise 0x0107 0 0

def State.reserve (s : State) : State := s.modHost (fun h => { h with reserved := h.reserved + 1, fullRaised := false })

/-! ## Descriptor header fields (R409) -/

def Desc.dtype (d : Desc) : Nat := leAt d.bytes 0 1

def Desc.fmtVer (d : Desc) : Nat := leAt d.bytes 1 1

def Desc.jobField (d : Desc) : Nat := leAt d.bytes 2 2

def Desc.job (d : Desc) : Nat := leAt d.bytes 2 2 % 4096

def Desc.cookie (d : Desc) : Nat := leAt d.bytes 4 4

/-- The completion of a descriptor (R417). -/
def State.completeDesc (s : State) (d : Desc) (status step ref value : Nat) (tokens : List Word := []) : State :=
  s.complete
    { ring := bits (s.sq d.ring).cfg 24 6, sq := d.ring, dtype := BitVec.ofNat 8 d.dtype, status := BitVec.ofNat 8 status,
      job := BitVec.ofNat 12 d.job, cookie := BitVec.ofNat 32 d.cookie, step := BitVec.ofNat 32 step,
      ref := BitVec.ofNat 32 ref, value := BitVec.ofNat 64 value, tokens := tokens }

end Sys2Proof.Machine
end

