-- ==== Sys2Proof/Machine/Packet.lean ====
section
/-! DEFINITION. Packet.lean: Hethlink packets as bytes (R319 to R323), and how the package sends one: the route tables (R344 to
R347) and what a discarded packet does (R340). -/
namespace Sys2Proof.Machine

/-! ## Header, trailer and wire form (R319, R323) -/

/-- The header of a packet with a hop's sequence number (R319). -/
def Packet.header (p : Packet) (seq : BitVec 24) : List Byte :=
  let route := p.dst.toNat + p.src.toNat * 2 ^ 12 + p.ptype.toNat * 2 ^ 24 + p.cls.toNat * 2 ^ 28 + b2n p.bank * 2 ^ 30
    + b2n p.hopLocal * 2 ^ 31
  let seqWord := seq.toNat + p.payload.length / 64 % 128 * 2 ^ 24 + b2n p.last * 2 ^ 31
  let h := leBytes 4 route ++ leBytes 4 seqWord ++ leBytes 8 p.handle.toNat ++ leBytes 16 p.tag.toNat
    ++ leBytes 24 p.specific.toNat
  h ++ leBytes 4 (crc32c h).toNat ++ leBytes 4 0

/-- Header, payload and trailer as they are sent (R319, R323). -/
def Packet.wire (p : Packet) (seq : BitVec 24) (replayed : Bool) : List Byte :=
  p.header seq ++ p.payload ++ leBytes 4 (crc32c p.payload).toNat ++ leBytes 3 seq.toNat
    ++ [BitVec.ofNat 8 (b2n p.poison + 2 * b2n replayed)]

/-- The packet that a header and its payload describe. -/
def Packet.ofHeader (h payload : List Byte) (poison : Bool) : Packet :=
  let route := leAt h 0 4
  let seqWord := leAt h 4 4
  { hopLocal := nbit route 31, bank := nbit route 30, cls := BitVec.ofNat 2 (nbits route 28 2),
    ptype := BitVec.ofNat 4 (nbits route 24 4), src := BitVec.ofNat 12 (nbits route 12 12),
    dst := BitVec.ofNat 12 (nbits route 0 12), last := nbit seqWord 31, handle := BitVec.ofNat 64 (leAt h 8 8),
    tag := BitVec.ofNat 128 (leAt h 16 16), specific := BitVec.ofNat 192 (leAt h 32 24), payload := payload,
    poison := poison }

/-- Payload block count that a header gives (R319). -/
def headerCount (h : List Byte) : Nat := nbits (leAt h 4 4) 24 7

/-- Byte `o` of the header's bytes 32 to 55, and fields of them (offsets as in the header). -/
def Packet.spec (p : Packet) (o n : Nat) : Nat := nbits p.specific.toNat ((o - 32) * 8) (n * 8)

/-- The type-specific bytes with fields (header offset, size, value). -/
def mkSpec (fs : List (Nat × Nat × Nat)) : BitVec 192 :=
  BitVec.ofNat 192 (fs.foldl (fun a f => a + f.2.2 % 2 ^ (f.2.1 * 8) * 2 ^ ((f.1 - 32) * 8)) 0)

/-- Blocks a packet takes: its header and its payload (R328). -/
def Packet.blocks (p : Packet) : Nat := 1 + p.payload.length / 64

/-! ## Packet types (R320) -/

def ptData : Nat := 1
def ptChanCtl : Nat := 2
def ptSync : Nat := 3
def ptTrick : Nat := 4
def ptMeldData : Nat := 5
def ptMeldCtl : Nat := 6
def ptBulk : Nat := 7
def ptBulkReq : Nat := 8
def ptMgmt : Nat := 9
def ptIdentity : Nat := 10

/-- Class of a packet type (R320); none for a reserved one. -/
def classOf (t : Nat) : Option Nat :=
  match t with
  | 1 => some 2
  | 2 => some 0
  | 3 => some 0
  | 4 => some 0
  | 5 => some 1
  | 6 => some 0
  | 7 => some 3
  | 8 => some 3
  | 9 => some 0
  | 10 => some 0
  | _ => none

/-- A header that is malformed (R320). -/
def Packet.malformed (p : Packet) (count : Nat) : Bool :=
  match classOf p.ptype.toNat with
  | none => true
  | some c => p.cls.toNat != c || tagTc p.tag != c || decide (64 < count) || (p.hopLocal && p.ptype.toNat != ptIdentity)

/-! ## Routing (R344 to R346) -/

/-- A route entry's reset value (R345). -/
def routeReset : Word := 0x1F1F1F00

/-- The egress code that a route entry gives a packet (R344). -/
def egressCode (e : Word) (p : Packet) : Nat :=
  if p.cls.toNat = 0 || p.cls.toNat = 3 then bits e 24 5 else if p.bank then bits e 16 5 else bits e 8 5

/-- The port (number × 2 + half) of an egress code (R345). -/
def portOfCode (c : Nat) : Option Nat := if c < 8 then some (2 * c) else if c < 16 then some (2 * (c - 8) + 1) else none

/-- Port and half in an event's detail (R577). -/
def portDetail (p : Nat) : Nat := p / 2 + p % 2 * 8

/-! ## A discarded packet (R340) -/

/-- Event 0x0707, 0x0708 or 0x070A for a packet at a port (R577). -/
def State.packetEvent (s : State) (code port : Nat) (p : Packet) : State :=
  s.raise code (tagJob p.tag) (portDetail port + p.ptype.toNat * 2 ^ 8 + p.dst.toNat * 2 ^ 16)

/-- A counter of a port (R353), by its index (offset − 0x200) ÷ 8. -/
def State.portCount (s : State) (p i n : Nat) : State :=
  s.modPort p (fun q => { q with counters := tput q.counters i (satAdd (tget 0 q.counters i) n) })

/-- The bank of a job's originated TC1 and TC2 packets (R346, R456). -/
def State.bankOf (s : State) (job : Nat) : Bool :=
  match s.findJob job with
  | some n => nbit (s.job n).phase.toNat 28
  | none => false

/-- Message `m` of a deck trick of job `id` to its coordinator or a participant is formed here (R301). -/
def trickPacket (src dst : BitVec 12) (job : Nat) (step : Word) (mb : Nat) (isPass : Bool) (attempt : BitVec 8)
    (msg cause : Nat) (origin : BitVec 12) : Packet :=
  { cls := 0, ptype := BitVec.ofNat 4 ptTrick, src := src, dst := dst,
    tag := mkTag job 3 0 mb 0 0 0 0 0 (step.toNat % 2 ^ 20),
    specific := mkSpec [(32, 1, msg), (33, 1, cause), (34, 1, b2n isPass), (36, 4, step.toNat),
      (40, 4, if isPass then mb else 0), (44, 2, job), (46, 2, origin.toNat), (48, 1, attempt.toNat)] }

/-- A packet delivered on the package itself (R241, R301, R344). -/
def State.deliverLocal (s : State) (p : Packet) : State := { s with noc := s.noc ++ [p] }

/-- A packet is put where the origin table sends it, or on the package's own network (R241, R344, R346); what becomes of it otherwise:
the port to which a lost packet is charged (free where it has no route, log 37), and whether that port has a link that is not UP. -/
def State.route (s : State) (p : Packet) : State × Option (Nat × Bool) :=
  if p.dst = s.self then (s.deliverLocal p, none)
  else
    match portOfCode (egressCode (tget routeReset s.originRoutes p.dst.toNat) p) with
    | none => (s.nextOpen, some (s.openBelow 16, false))
    | some q =>
      if (s.port q).state = .up then
        ((s.modPort q (fun r => { r with txq := r.txq ++ [p] })).statJob (tagJob p.tag) (28 + p.cls.toNat) p.blocks, none)
      else (s, some (q, true))

/-- A packet discarded for want of a route or of an UP egress: its event and its counts (R340, R344, R353). -/
def State.dropPacket (s : State) (port : Nat) (p : Packet) : State :=
  ((s.packetEvent 0x0707 port p).portCount port 12 1).statJob (tagJob p.tag) 32 1

/-- A packet sent by the rules of R344; a discard of it has no consequence but its event and counts. -/
def State.sendQuiet (s : State) (p : Packet) : State :=
  let p := { p with bank := s.bankOf (tagJob p.tag) }
  match s.route p with
  | (s1, none) => s1
  | (s1, some (q, _)) => s1.dropPacket q p

/-- The open deck tricks of a job, a packet of which was discarded at a port, are revoked with cause FAULT (R340): this package's Dealer
sends REFUSE for each of them to its coordinator (R300).  Each job is revoked once until the port is UP again; a discard that falls
while the job has no open deck trick revokes nothing. -/
def State.revokeForDiscard (s : State) (port job : Nat) : State :=
  if (s.port port).revokedJobs.contains (BitVec.ofNat 12 job) then s
  else match s.findJob job with
    | none => s
    | some n =>
      let j := s.job n
      if j.openTricks.isEmpty then s
      else
        let coord := s.leadOf j
        j.openTricks.foldl (fun s t =>
          s.sendQuiet (trickPacket s.self coord job t.1 t.2.1.toNat t.2.2.1 t.2.2.2 2 2 s.self))
          (s.modPort port (fun q => { q with revokedJobs := q.revokedJobs ++ [BitVec.ofNat 12 job] }))

/-! ## Management messages (R484, R485; log 18) -/

/-- A MGMT packet: its first bytes are a kind (1 heartbeat, 2 takeover order, 3 fence order, 4 rollback), a count, and a package; the
spec gives no layout (log 18). -/
def mgmtPacket (src dst : BitVec 12) (kind count : Nat) (pkg : BitVec 12) (body : List Byte) : Packet :=
  let bs := leBytes 1 kind ++ leBytes 1 count ++ leBytes 2 pkg.toNat ++ leBytes 12 0 ++ body
  { cls := 0, ptype := BitVec.ofNat 4 ptMgmt, src := src, dst := dst, tag := mkTag 0 3 0 0 0 0 0 0 0 0,
    payload := padTo ((bs.length + 63) / 64 * 64) bs }

/-- A watched job in a management message, 16 bytes. -/
def Watched.bytes (w : Watched) : List Byte :=
  leBytes 2 w.job.toNat ++ leBytes 2 w.partner.toNat ++ leBytes 2 w.cutOff.toNat ++ leBytes 2 w.cutMib.toNat
    ++ leBytes 4 (b2n w.half) ++ leBytes 4 w.cutStep.toNat

def Watched.ofBytes (b : List Byte) : Watched :=
  { job := BitVec.ofNat 12 (leAt b 0 2), partner := BitVec.ofNat 12 (leAt b 2 2), cutOff := BitVec.ofNat 16 (leAt b 4 2),
    cutMib := BitVec.ofNat 16 (leAt b 6 2), half := nbit (leAt b 8 4) 0, cutStep := BitVec.ofNat 32 (leAt b 12 4) }

def Packet.mgmtKind (p : Packet) : Nat := leAt p.payload 0 1

def Packet.mgmtPkg (p : Packet) : BitVec 12 := BitVec.ofNat 12 (leAt p.payload 2 2)

def Packet.mgmtJobs (p : Packet) : List Watched :=
  (chunks 16 (leAt p.payload 1 1 % 64) (p.payload.drop 16)).map Watched.ofBytes

/-! ## Load streams (R436, R440) -/

/-- A load's request is sent by the rules of R344, with what follows when it is discarded at a port that is not UP (R340); the last says whether
it was sent. -/
def State.sendRequest (s : State) (p : Packet) : State × Bool :=
  let p := { p with bank := s.bankOf (tagJob p.tag) }
  match s.route p with
  | (s1, none) => (s1, true)
  | (s1, some (q, down)) =>
    (if down then (s1.dropPacket q p).revokeForDiscard q (tagJob p.tag) else s1.dropPacket q p, false)

/-- A load's READY or RESTART (R440). -/
def bulkRequest (src dst : BitVec 12) (job load step op : Nat) : Packet :=
  { cls := 3, ptype := BitVec.ofNat 4 ptBulkReq, src := src, dst := dst, tag := mkTag job 3 3 0 0 0 0 0 0 step,
    handle := BitVec.ofNat 64 (job + 1 * 2 ^ 12 + load * 2 ^ 16), specific := mkSpec [(32, 1, op)] }

/-- A load at the beginning of its stream: nothing read, nothing kept, no READY held or sent (R436). -/
def Load.rewind (l : Load) : Load :=
  { l with
    segments := 0, total := 0, segAt := none, owed := [], kept := 0, readyDown := l.tail, endSeen := false, readPos := 0,
    readySent := false }

/-- Step in the tag of a load's packets (R440). -/
def Load.stepOf (l : Load) : Nat := leAt l.desc.bytes 8 4

/-- A load sends READY (1) or RESTART (2) to its upstream or downstream package; one of a background load that finds the link not UP is owed
until it is (R436; log 12). -/
def State.loadRequest (s : State) (slot i : Nat) (up : Bool) (op : Nat) : State :=
  let j := s.job slot
  let l := tget ({} : Load) j.loads i
  match s.sendRequest (bulkRequest s.self (if up then l.up else l.down) j.id.toNat i l.stepOf op) with
  | (s1, true) => s1
  | (s1, false) =>
    if l.background then
      s1.modJob slot (fun j => { j with loads := tmod {} j.loads i (fun l => { l with owed := addOnce l.owed (up, op) }) })
    else s1

/-- The requests that a package's background loads owe are tried again (R436). -/
def State.sendOwed (s : State) : State :=
  s.jobSlots.foldl (fun s n =>
    (upFrom 0 16).foldl (fun s i =>
      let l := tget ({} : Load) (s.job n).loads i
      if l.active && l.background && !l.owed.isEmpty then
        l.owed.foldl (fun s e => s.loadRequest n i e.1 e.2)
          (s.modJob n (fun j => { j with loads := tmod {} j.loads i (fun l => { l with owed := [] }) }))
      else s) s) s

/-- A background load starts again here: it is rewound, the order is passed down the chain, and the tail's READY opens the chain again
(R436, R438; log 12). -/
def State.restartLoad (s : State) (slot i : Nat) : State :=
  let j := s.job slot
  let l := tget {} j.loads i
  let s1 := s.modJob slot (fun j => { j with loads := tput j.loads i { l.rewind with readySent := l.tail && !l.head } })
  if l.tail then
    if l.head then s1 else s1.loadRequest slot i true 1
  else s1.loadRequest slot i false 2

/-- A background load's stream breaks on this package: event 0x0222, and a restart request on its way to the head (R436; log 12). -/
def State.breakLoad (s : State) (slot i reason : Nat) : State :=
  let j := s.job slot
  let l := tget {} j.loads i
  if l.active && l.background then
    let s1 := s.raise 0x0222 j.id.toNat (l.total % 2 ^ 32 + i * 2 ^ 32 + reason * 2 ^ 36)
    if l.head then s1.restartLoad slot i
    else s1.loadRequest slot i true 2
  else s

/-- The consequence of a discarded load packet (R436). -/
def State.loadPacketLost (s : State) (p : Packet) : State :=
  if p.ptype.toNat = ptBulk && bits p.handle 12 4 = 1 then
    match s.findJob (tagJob p.tag) with
    | some n => s.breakLoad n (bits p.handle 16 4) 2
    | none => s
  else s

/-- A packet discarded for want of a route or of an UP egress, with all that follows (R340, R344, R436). -/
def State.discardUnroutable (s : State) (port : Nat) (down : Bool) (p : Packet) : State :=
  let s1 := (s.dropPacket port p).loadPacketLost p
  if down then s1.revokeForDiscard port (tagJob p.tag) else s1

/-- The package originates a packet: to itself over its own network, else by the origin table to a port's queue (R344, R346). -/
def State.sendCopy (s : State) (p : Packet) : State :=
  match s.route p with
  | (s1, none) => s1
  | (s1, some (q, down)) => s1.discardUnroutable q down p

/-- A packet of the package's own, with the bank of its job. -/
def State.originate (s : State) (p : Packet) : State := s.sendCopy { p with bank := s.bankOf (tagJob p.tag) }

/-- The packet's own queue position: the oldest packet on the package's own network that satisfies a test. -/
def State.takeLocal (s : State) (f : Packet → Bool) : Option (Packet × State) :=
  match takeFirst f s.noc with
  | none => none
  | some (p, r) => some (p, { s with noc := r })

end Sys2Proof.Machine
end

