-- ==== Sys2Proof/Machine/Mem.lean ====
section
/-! DEFINITION. Mem.lean: device memory: the address space and the job view (R176, R177, R215), the codes of scratch, stacked SRAM and
GDDR7 (R185, R221), poison (R220), the far cache's directory (R203), the host window (R197 to R202), staged data (R280 to R283)
and the reads and writes of engines. -/
namespace Sys2Proof.Machine

/-! ## Raw device memory -/

/-- A byte of device memory; an address that nothing has written reads 0 (R181, R229). -/
def Mem.byte (m : Mem) (a : Nat) : Byte := tget 0 m a

/-- A byte written; the byte 0 is the absence of an entry. -/
def Mem.set (m : Mem) (a : Nat) (b : Byte) : Mem := if b = 0 then tdel m a else tput m a b

/-- The canonical form: addresses strictly rising and no entry that holds 0. -/
def Memory.wf (m : Mem) : Bool := tsorted m && m.all (fun e => e.2 != 0)

/-- Cells written in order. -/
def Mem.setCells (m : Mem) : List Host.Cell → Mem
  | [] => m
  | c :: r => Mem.setCells (Mem.set m c.1 c.2) r

/-- Consecutive bytes as cells. -/
def cellsAt (a : Nat) : List Byte → List Host.Cell
  | [] => []
  | b :: r => (a, b) :: cellsAt (a + 1) r

/-- The bytes from `lo` up to `hi` written with zero. -/
def Mem.clear (m : Mem) (lo hi : Nat) : Mem := m.filter (fun e => decide (e.1 < lo) || decide (hi ≤ e.1))

def State.memByte (s : State) (a : Nat) : Byte := Mem.byte s.mem a

def State.memRead (s : State) (a n : Nat) : List Byte := (List.range n).map (fun i => s.memByte (a + i))

/-! ## Address space (R176, R182, R214) -/

def mib : Nat := 0x100000

def scratchBase : Nat := 0x000100000000

def gddrBase : Nat := 0x001000000000

def hostBase : Nat := 0x800000000000

/-- First byte of a physical tile's scratch (R176). -/
def scratchOf (k t : Nat) : Nat := scratchBase + (k * 64 + t) * 0x400000

/-- First byte of a tile group's stacked SRAM slice (R176). -/
def sramSlice (g : Nat) : Nat := g * 0x08000000

/-- Bytes of a stack's group slices in stacked SRAM (R182). -/
def State.sliceBytes (s : State) (k : Nat) : Nat := (368 - 4 * (s.stack k).far4m) / 4 * mib

/-- Bytes of a stack's group slices in GDDR7 (R214). -/
def State.gsliceBytes (s : State) (k : Nat) : Nat := (4784 - 128 * (s.stack k).cut512) * mib

/-- First byte of the GDDR7 of a stack (R214). -/
def gddrOf (k : Nat) : Nat := gddrBase + k * 0x000800000000

/-- First byte of the GDDR7 slice of tile group `g` (R214). -/
def State.gddrSlice (s : State) (g : Nat) : Nat := gddrOf (g / 4) + (g % 4) * s.gsliceBytes (g / 4)

/-- First byte of a stack's cut region, and its size (R214). -/
def State.cutRegion (s : State) (k : Nat) : Nat × Nat :=
  (gddrOf k + 4 * s.gsliceBytes k, (s.stack k).cut512 * 512 * mib)

/-- Bytes of GDDR7 of a stack (R213). -/
def gddrStackBytes : Nat := 19200 * mib

/-- A failed controller leaves the whole GDDR7 of its stack unpopulated (R230). -/
def State.gddrFailed (s : State) (k : Nat) : Bool := (upFrom (5 * k) 5).any (fun n => (s.gd n).trainFail)

/-- The memory an address lies in. -/
inductive Region where
  | scratch
  | sram (stack : Nat)
  | gddr (stack : Nat)
  | host
  deriving DecidableEq, Repr

/-- The stack of a GDDR7 or stacked SRAM address. -/
def stackOfAddr (a : Nat) : Nat :=
  if a < scratchBase then a / 0x20000000 else if a < gddrBase then (a - scratchBase) / 0x400000 / 64
  else (a - gddrBase) / 0x000800000000

/-- Whether an address lies in GDDR7. -/
def isGddr (a : Nat) : Bool := decide (gddrBase ≤ a)

/-- The controller of a GDDR7 address (R218). -/
def controllerOf (a : Nat) : Nat :=
  let o := (a - gddrBase) % 0x000800000000
  5 * stackOfAddr a + o / 256 % 20 / 4

/-- A line poisoned again within 10 steps of a rollback of a job that found it poisoned degrades the package (R470, R492). -/
def State.watchPoison (s : State) (line : Nat) : State :=
  if s.jobSlots.any (fun n => (s.job n).rolledLines.any (fun e => e.1 = line && decide (((s.job n).step - e.2).toNat ≤ 10))) then s.degrade 4
  else s

/-- The physical address of a job-view address (R177, R215), for an engine of package logical tile `L`. -/
def State.resolve (s : State) (slot L : Nat) (v : Int) : Option (Region × Nat) :=
  if v < 0 then none
  else
    let a := v.toNat
    let j := s.job slot
    if a < 0x80000000 then
      let g := a / 0x08000000
      let o := a % 0x08000000
      if g < j.groups && o < s.sliceBytes ((j.first + g) / 4) then
        some (.sram ((j.first + g) / 4), a + j.first * 0x08000000)
      else none
    else if scratchBase ≤ a && a < scratchBase + 0x400000 then
      some (.scratch, scratchOf (L / 32) (s.physOf (L / 32) (L % 32)) + (a - scratchBase))
    else if gddrBase ≤ a && a < 0x003000000000 then
      let g := (a - gddrBase) / 0x000200000000
      let o := (a - gddrBase) % 0x000200000000
      let k := (j.first + g) / 4
      if g < j.groups && nbit j.gddrGroups.toNat g && o < s.gsliceBytes k && !s.gddrFailed k then
        some (.gddr k, s.gddrSlice (j.first + g) + o)
      else none
    else if hostBase ≤ a && a < 2 ^ 48 then some (.host, a)
    else none

/-! ## Codes and poison (R185, R220, R221, R470) -/

def State.isPoisoned (s : State) (line : Nat) : Bool := tget false s.poison line

def State.setPoison (s : State) (line : Nat) : State := ({ s with poison := tput s.poison line true }).watchPoison line

def State.clearPoison (s : State) (line : Nat) : State := { s with poison := tdel s.poison line }

/-- ID of the job in a slot; 0 for an access that no job makes. -/
def State.jobIdOf (s : State) (slot : Option Nat) : Nat :=
  match slot with
  | some n => (s.job n).id.toNat
  | none => 0

/-- A job's statistics counter advanced by 1, when a job makes the access. -/
def State.statFor (s : State) (slot : Option Nat) (i : Nat) : State :=
  match slot with
  | some n => s.stat n i 1
  | none => s

/-- Detail of events 0x0601 to 0x0603: the sector's address and its controller; in scratch and stacked SRAM the address (R235, R577). -/
def lineDetail (line : Nat) : Nat := if isGddr (line * 64) then line * 64 + controllerOf (line * 64) * 2 ^ 48 else line * 64

/-- An error of a line is corrected, or a transfer retried: it is counted and reported, and gone (R185, R212, R221). -/
def State.corrected (s : State) (slot : Option Nat) (line : Nat) : State :=
  let s1 := { s with flaws := tdel s.flaws line }
  if isGddr (line * 64) then
    ((s1.modGd (controllerOf (line * 64)) (fun g => { g with ceCount := satNat 16 g.ceCount 1 })).raise 0x0601 (s.jobIdOf slot)
      (lineDetail line)).statFor slot 9
  else (s1.raise 0x0501 (s.jobIdOf slot) (lineDetail line)).statFor slot 9

/-- An error of a line that its code cannot correct: the line is poisoned (R185, R221). -/
def State.uncorrected (s : State) (slot : Option Nat) (line : Nat) : State :=
  let a := line * 64
  let s1 := { s with flaws := tdel s.flaws line }
  let s2 := if isGddr a then
      s1.modGd (controllerOf a) (fun g => { g with
        ueCount := satNat 16 g.ueCount 1,
        poisonAddr := match g.poisonAddr with
          | some x => some x
          | none => some (BitVec.ofNat 48 a) })
    else s1
  ((s2.raise (if isGddr a then 0x0602 else 0x0502) (s.jobIdOf slot) (lineDetail line)).setPoison line).statFor slot 10

/-- Units in error that a code corrects: one bit of 64 bytes in scratch and stacked SRAM (R185), one symbol of a sector in GDDR7 (R219).  Both
detect what they do not correct of the errors that a command brings (log 142). -/
def codeCorrects (units : Nat) : Bool := decide (units ≤ 1)

/-- What an access that reads a line finds: its error corrected, or the line poisoned. -/
def State.meetFlaw (s : State) (slot : Option Nat) (line : Nat) : State × Bool :=
  match tfind s.flaws line with
  | none => (s, false)
  | some n =>
    if codeCorrects n then (if isGddr (line * 64) || n ≠ 0 then s.corrected slot line else s, false)
    else (s.uncorrected slot line, true)

/-! ### The check chunks (R213, R218, R219) -/

/-- Channel slot of a GDDR7 address, stack × 20 + c (R218). -/
def channelSlot (a : Nat) : Nat :=
  20 * stackOfAddr a + (a - gddrBase) % 0x000800000000 / 256 % 20

/-- The check chunk of a GDDR7 line within its channel, of the eight sectors that share it: code group × 8 + chunk (R213, R218). -/
def chunkOf (a : Nat) : Nat :=
  let data := (a - gddrBase) % 0x000800000000 / 256 / 20
  data / 15 * 8 + (data % 15 * 256 + a % 256) / 64 / 8

/-- An access to a GDDR7 sector reads or writes its check chunk through the channel's chunk cache (R219, R220). -/
def State.touchChunk (s : State) (line : Nat) : State :=
  let a := line * 64
  let c := channelSlot a
  let old := tget [] s.chunkCache c
  { s with chunkCache := tput s.chunkCache c ((chunkOf a :: old.filter (fun k => k ≠ chunkOf a)).take 256) }

/-- What a code finds at the read of a line: the state after it and whether the data is poisoned. `slot` is the reader's job. -/
def State.readLine (s : State) (slot : Option Nat) (line : Nat) : State × Bool :=
  let s1 := if isGddr (line * 64) then s.touchChunk line else s
  if s1.isPoisoned line then
    ((s1.statFor slot 10).raise (if isGddr (line * 64) then 0x0603 else 0x0502) (s1.jobIdOf slot) (lineDetail line), true)
  else s1.meetFlaw slot line

/-- What a write does at a line before its bytes change: a whole line ends its poison and its error; in GDDR7 a failed transfer is retried, and
a part of a sector is written into the sector as read and corrected (R212, R220). -/
def State.writeLine (s : State) (slot : Option Nat) (line : Nat) (whole : Bool) : State :=
  let gddr := isGddr (line * 64)
  let s1 := if gddr then s.touchChunk line else s
  let s2 := if gddr && tfind s1.flaws line = some 0 then s1.corrected slot line else s1
  if whole then { s2.clearPoison line with flaws := tdel s2.flaws line }
  else if gddr && !s2.isPoisoned line then (s2.meetFlaw slot line).1
  else s2

/-! ## Far cache (R203, R205) -/

/-- The directory after an access to a 256-byte line: hit or allocation, least recently used line of the set replaced.  How sectors are filled the
spec does not say (log 189, DESIGN CHOICE). -/
def farTouch (far4m : Nat) (far : List FarLine) (line sector : Nat) (write bypass : Bool) : List FarLine × Bool :=
  let bit : BitVec 4 := 1 <<< sector
  match far.find? (fun f => f.line = line) with
  | some f =>
    ({ f with valid := f.valid ||| bit, dirty := if write then f.dirty ||| bit else f.dirty }
      :: far.filter (fun g => g.line != line), true)
  | none =>
    if bypass || far4m = 0 then (far, false)
    else
      let sets := far4m * 1024
      let set := fun l => Config.farSet l % sets
      let mine := far.filter (fun g => set g.line = set line)
      let kept := if mine.length < 16 then far
        else match mine.getLast? with
          | some v => far.filter (fun g => g.line != v.line)
          | none => far
      (⟨line, if write then bit else 0xF, if write then bit else 0⟩ :: kept, false)

/-- A GDDR7 sector access by a job: far-cache lookup and its counts (R203, R529 entries 15 to 18). -/
def State.gddrAccess (s : State) (slot : Option Nat) (line : Nat) (write bypass : Bool) : State :=
  let a := line * 64
  let k := stackOfAddr a
  let st := s.stack k
  let r := farTouch st.far4m st.far (a / 256) (line % 4) write bypass
  let s1 := s.modStack k (fun x => { x with far := r.1 })
  match slot with
  | none => s1
  | some n =>
    let s2 := s1.stat n (if write then 16 else 15) 64
    if st.far4m = 0 then s2 else s2.stat n (if r.2 then 17 else 18) 1

/-- A line read by an engine or by the hub: its code and the far cache. -/
def State.touchRead (s : State) (slot : Option Nat) (bypass : Bool) (line : Nat) : State × Bool :=
  let s1 := if isGddr (line * 64) then s.gddrAccess slot line false bypass else s
  s1.readLine slot line

/-- Lines read in order; whether any is poisoned. -/
def touchReads (slot : Option Nat) (bypass : Bool) : List Nat → State → State × Bool
  | [], s => (s, false)
  | l :: r, s =>
    let x := s.touchRead slot bypass l
    let y := touchReads slot bypass r x.1
    (y.1, x.2 || y.2)

/-- The distinct lines of a list of byte addresses, in order. -/
def linesOf (as : List Nat) : List Nat := (as.map (· / 64)).dedup

/-- Lines written, each whole or in part, by a job or by none (R220). -/
def State.writeLines (s : State) (slot : Option Nat) (cells : List Host.Cell) : State :=
  (linesOf (cells.map (·.1))).foldl (fun s l =>
    s.writeLine slot l ((upFrom (l * 64) 64).all (fun a => cells.any (fun c => c.1 = a)))) s

/-- Cells written to published memory. -/
def State.storeOwn (s : State) (slot : Option Nat) (cells : List Host.Cell) : State :=
  { s.writeLines slot cells with mem := Mem.setCells s.mem cells }

/-- Lines that the host holds are taken back from it: a back-invalidate snoop each (R392). -/
def State.snoopHost (s : State) (lines : List Nat) : State :=
  let held := s.host.hostHeld.filter (fun l => lines.contains l)
  held.foldl (fun s l => s.emit (.backInvalidate l))
    (if held.isEmpty then s else s.modHost (fun h => { h with hostHeld := h.hostHeld.filter (fun l => !lines.contains l) }))

/-- Cells that the package writes to published memory (R220, R392). -/
def State.storeCells (s : State) (slot : Option Nat) (cells : List Host.Cell) : State :=
  (s.snoopHost (linesOf (cells.map (·.1)))).storeOwn slot cells

/-- Staged cells published for a job (R283, R292): GDDR7 lines go through the far cache. -/
def State.publish (s : State) (slot : Nat) (cells : List Host.Cell) : State :=
  ((linesOf (cells.map (·.1))).foldl
    (fun s l => if isGddr (l * 64) then s.gddrAccess (some slot) l true false else s) s).storeCells (some slot) cells

/-! ## The host window (R197 to R202) -/

/-- A host-window translation: the host address, or R577's failure code of event 0x0110. -/
inductive Xlat where
  | ok (a : Nat)
  | fail (reason : Nat)
  deriving DecidableEq, Repr

/-- Translation of a host-window address for a job (R197): the ATS answer of a page is asked for once (R198, R393). -/
def State.translate (s : State) (job : Nat) (v : Nat) (write : Bool) : State × Xlat :=
  let p := (v - hostBase) / (2 * mib)
  if 65536 ≤ p then (s, .fail 1)
  else
    let e := (tget 0 s.host.hwt p).toNat
    if !nbit e 0 then (s, .fail 1)
    else if nbits e 9 12 ≠ job then (s, .fail 2)
    else if !nbit e (if write then 2 else 1) then (s, .fail 3)
    else
      let a := nbits e 21 43 * (2 * mib) + (v - hostBase) % (2 * mib)
      if !nbit e 3 then (s, .ok a)
      else match tfind s.host.ats (a / 4096) with
        | some h => (s, .ok (h * 4096 + a % 4096))
        | none =>
          let s1 := s.modHost (fun h => { h with atsCount := h.atsCount + 1 })
          match Config.atsTranslate s.host.atsCount (a / 4096) with
          | some h => (s1.modHost (fun x => { x with ats := tput x.ats (a / 4096) h }), .ok (h * 4096 + a % 4096))
          | none => (s1, .fail 4)

/-- Host-window addresses translated in order: the host addresses, or the first failure and its address. -/
def translateAll (job : Nat) (write : Bool) : List Nat → State → State × List Nat × Option (Nat × Nat)
  | [], s => (s, [], none)
  | v :: r, s =>
    match s.translate job v write with
    | (s1, .fail why) => (s1, [], some (v, why))
    | (s1, .ok a) =>
      let y := translateAll job write r s1
      (y.1, a :: y.2.1, y.2.2)

/-- The host fetch buffer takes a line as its newest, and gives up its oldest beyond 2,048; what it says of a line goes with the line (R200).
`ahead` says that the line has not been delivered. -/
def HostIf.holdLine (h : HostIf) (line : Nat) (ahead : Bool) : HostIf :=
  let held := (line :: h.fetchLines.filter (· != line)).take 2048
  { h with
    fetchLines := held,
    aheadLines := (if ahead then addOnce h.aheadLines line else h.aheadLines.filter (· != line)).filter held.contains,
    staleLines := (h.staleLines.filter (· != line)).filter held.contains }

/-- A line of host memory delivered through the host fetch buffer: a stale one is fetched again and counted (R200). -/
def State.fetchLine (s : State) (slot : Option Nat) (line : Nat) : State :=
  let stale := s.host.staleLines.contains line
  let s1 := s.modHost (fun h => h.holdLine line false)
  match slot with
  | some n => if stale then s1.stat n 11 1 else s1
  | none => s1

/-- Lines of host memory fetched ahead for a job (R196, R198): a translation that fails drops its line in silence. -/
def State.fetchAhead (s : State) (job : Nat) (views : List Nat) : State :=
  views.foldl (fun s v => match s.translate job v false with
    | (s1, .fail _) => s1
    | (s1, .ok a) =>
      if s1.host.fetchLines.contains (a / 64) then s1
      else s1.modHost (fun h => h.holdLine (a / 64) true)) s

/-- The hub reads `n` bytes of the host window for a job, from an address on: bytes, or the failing address and reason. -/
def State.windowRead (s : State) (slot v n : Nat) : State × Except (Nat × Nat) (List Byte) :=
  match translateAll (s.job slot).id.toNat false (upFrom v n) s with
  | (s1, _, some e) => (s1, .error e)
  | (s1, as, none) =>
    let s2 := (linesOf as).foldl (fun s l => s.fetchLine (some slot) l) s1
    ((s2.stat slot 13 n), .ok (as.map s2.hostByteAt))

/-- The hub writes bytes of the host window for a job. -/
def State.windowWrite (s : State) (slot v : Nat) (bs : List Byte) : State × Option (Nat × Nat) :=
  match translateAll (s.job slot).id.toNat true (upFrom v bs.length) s with
  | (s1, _, some e) => (s1, some e)
  | (s1, as, none) =>
    (({ s1 with hostMem := (as.zip bs).foldl (fun (m : Mem) (c : Nat × Byte) => tput m c.1 c.2) s1.hostMem }).stat slot 14 bs.length, none)

/-! ## Staged data (R280 to R283, R295) -/

/-- The work that makes an access: its job slot, tile, stream and current tag. -/
structure Who where
  slot : Nat
  tile : Nat
  stream : Nat
  tag : Tag
  /-- The work issued inside a local trick, so that its durable writes are staged (R280). -/
  inTrick : Bool := false
  deriving DecidableEq, Repr

/-- The open local trick of a stream, with its slot. -/
def State.trickOf (s : State) (L n : Nat) : Option (Nat × Trick) :=
  s.trk.locals.find? (fun e => e.2.tile = L && e.2.stream = n)

/-- Whether a share has a key (R277): the low 20 bits of the step, as a tag holds them, and for a pass the micro-batch. -/
def Share.keyed (x : Share) (job : Nat) (isPass : Bool) (step mb : Nat) : Bool :=
  x.job.toNat = job && x.isPass = isPass && x.step.toNat % 2 ^ 20 = step % 2 ^ 20 && (!isPass || x.mb.toNat = mb)

/-- The share of a key (R277). -/
def State.shareOf (s : State) (job : Nat) (isPass : Bool) (step : Nat) (mb : Nat) : Option (Nat × Share) :=
  s.trk.shares.find? (fun e => e.2.keyed job isPass step mb)

/-- What a stream's work sees staged, first in order (R282). -/
def State.stagedFor (s : State) (w : Who) : List (Tbl Byte) :=
  let job := (s.job w.slot).id.toNat
  (match s.trickOf w.tile w.stream with
    | some e => [e.2.staged]
    | none => [])
  ++ (match s.shareOf job true (tagStep w.tag) (tagMb w.tag) with
    | some e => [e.2.staged]
    | none => [])
  ++ (match s.shareOf job false (s.job w.slot).step.toNat 0 with
    | some e => [e.2.staged]
    | none => [])

/-- A byte as an instruction of a job receives it (R282). -/
def readStaged (layers : List (Tbl Byte)) (m : Mem) (a : Nat) : Byte :=
  match layers with
  | [] => Mem.byte m a
  | l :: r =>
    match tfind l a with
    | some b => b
    | none => readStaged r m a

/-- Whether a job-view address lies in a durable range of the job (R280). -/
def Job.isDurable (j : Job) (v : Nat) : Bool :=
  (List.range 16).any (fun r =>
    let e := tget (0, 0) j.durable r
    nbit e.1.toNat 63 && decide (bits e.1 0 48 ≤ v) && decide (v < bits e.2 0 48))

/-- Whether a line is staged in a trick. -/
def stagesLine (staged : Tbl Byte) (line : Nat) : Bool := staged.any (fun c => c.1 / 64 = line)

/-- Line entries in use in a stack's trick log, as (trick or share, line) pairs (R284). -/
def State.logLines (s : State) (k : Nat) : List Nat :=
  let of := fun (t : Tbl Byte) => (linesOf (t.map (·.1))).filter (fun l => stackOfAddr (l * 64) = k)
  (s.trk.locals.map (fun e => of e.2.staged)).flatten ++ (s.trk.shares.map (fun e => of e.2.staged)).flatten

/-- Line entries of a stack's trick log (R284). -/
def logCapacity : Nat := 196608

/-- What becomes of staged writes: done, in conflict with another trick (R295), or without a free line entry (R285); the last says
whether every entry of a stack without a free one belongs to the trick itself or to deck shares. -/
inductive StageRes where
  | ok
  | conflict
  | full (hopeless : Bool)
  deriving DecidableEq, Repr

/-- Whether a trick's staged write to a line meets another open trick's line (R295). -/
def State.lineConflict (s : State) (slot : Nat) (t : Trick) (line : Nat) : Bool :=
  s.trk.locals.any (fun e => e.1 != slot && stagesLine e.2.staged line)
  || s.trk.shares.any (fun e =>
    stagesLine e.2.staged line
    && !(t.deferred && e.2.job = t.job && e.2.isPass = t.perMb && e.2.step.toNat % 2 ^ 20 = t.step.toNat
      && (!t.perMb || e.2.mb = t.mb)))

/-- Cells staged in the open local trick `slot` (R283, R285, R295). -/
def State.stageCells (s : State) (slot : Nat) (t : Trick) (cells : List Host.Cell) : State × StageRes :=
  let lines := linesOf (cells.map (·.1))
  let new := lines.filter (fun l => !stagesLine t.staged l)
  let short := new.filter (fun l =>
    let k := stackOfAddr (l * 64)
    decide (logCapacity < (s.logLines k).length + (new.filter (fun m => stackOfAddr (m * 64) = k)).length))
  if lines.any (s.lineConflict slot t) then (s, .conflict)
  else if !short.isEmpty then
    (s, .full (short.any (fun l => !s.trk.locals.any (fun e => e.1 != slot
      && e.2.staged.any (fun c => stackOfAddr c.1 = stackOfAddr (l * 64))))))
  else
    let put := fun (e : Nat × Trick) =>
      (e.1, { e.2 with
        staged := cells.foldl (fun (m : Mem) (c : Nat × Byte) => tput m c.1 c.2) e.2.staged, capWait := false })
    (s.modTrk (fun u => { u with locals := modFirst (fun e => e.1 = slot) put u.locals }), .ok)

/-! ## Engine accesses -/

/-- Why an access did not take place: outside the job view or the engine's sources (R178), a failed translation (R198), or data
marked as poisoned (R469). -/
inductive AccessErr where
  | outside (v : Int)
  | xlat (v reason : Nat)
  | poisoned
  deriving DecidableEq, Repr

/-- Job-view addresses resolved, all of them in regions that the engine may reach; else the first that is not. -/
def resolveAll (s : State) (w : Who) (allow : Region → Bool) : List Int → Except Int (List (Region × Nat))
  | [] => .ok []
  | v :: r =>
    match s.resolve w.slot w.tile v with
    | none => .error v
    | some x =>
      if allow x.1 then
        match resolveAll s w allow r with
        | .error e => .error e
        | .ok l => .ok (x :: l)
      else .error v

/-- Bytes read by an engine at job-view addresses (R178, R182, R198, R200, R282, R469).  A byte that a trick or a share has staged is received
from it; only the lines of the other bytes are read. -/
def State.engineRead (s : State) (w : Who) (allow : Region → Bool) (bypass : Bool) (vs : List Int) :
    State × Except AccessErr (List Byte) :=
  match resolveAll s w allow vs with
  | .error v => (s, .error (.outside v))
  | .ok xs =>
    let hostVs := (xs.filter (fun x => x.1 = .host)).map (·.2)
    match translateAll (s.job w.slot).id.toNat false hostVs s with
    | (s1, _, some e) => (s1, .error (.xlat e.1 e.2))
    | (s1, hostAs, none) =>
      let s2 := (linesOf hostAs).foldl (fun s l => s.fetchLine (some w.slot) l) s1
      let s2 := if hostAs.isEmpty then s2 else s2.stat w.slot 13 hostAs.length
      let layers := s.stagedFor w
      let dev := (xs.filter (fun x => x.1 ≠ .host && !layers.any (fun l => (tfind l x.2).isSome))).map (·.2)
      let r := touchReads (some w.slot) bypass (linesOf dev) s2
      if r.2 then (r.1, .error .poisoned)
      else
        let pairs := hostVs.zip hostAs
        (r.1, .ok (xs.map (fun x =>
          if x.1 = .host then
            match pairs.find? (fun p => p.1 = x.2) with
            | some p => r.1.hostByteAt p.2
            | none => 0
          else readStaged layers r.1.mem x.2)))

/-- What becomes of an engine's writes. -/
inductive WriteRes where
  | ok
  | err (e : AccessErr)
  | conflict
  | full (hopeless : Bool)
  deriving DecidableEq, Repr

/-- The copies of image ranges that scratch stores are written through to (R462). -/
def State.imageCells (s : State) (w : Who) (cells : List (Int × Byte)) : List Host.Cell :=
  cells.filterMap (fun c =>
    if scratchBase ≤ c.1.toNat && c.1.toNat < scratchBase + 0x400000 then
      let o := c.1.toNat - scratchBase
      match (s.tile w.tile).image.find? (fun r => decide (r.offset.toNat ≤ o) && decide (o < r.offset.toNat + r.bytes)) with
      | some r =>
        match s.resolve w.slot w.tile ((r.copy.toNat + (o - r.offset.toNat) : Nat) : Int) with
        | some x => some (x.2, c.2)
        | none => none
      | none => none
    else none)

/-- Bytes written by an engine at job-view addresses: staged where R280 says so, else published at once; through to the image copies
(R462) and to the host window (R202). `direct` says that the writes are never staged (R281). Durable writes of work that issued inside a
trick which has ended by TREVOKE are discarded with it (R280, R290; log 140). -/
def State.engineWrite (s : State) (w : Who) (allow : Region → Bool) (bypass direct : Bool) (cells : List (Int × Byte)) :
    State × WriteRes :=
  match resolveAll s w allow (cells.map (·.1)) with
  | .error v => (s, .err (.outside v))
  | .ok xs =>
    let hostVs := (xs.filter (fun x => x.1 = .host)).map (·.2)
    match translateAll (s.job w.slot).id.toNat true hostVs s with
    | (s1, _, some e) => (s1, .err (.xlat e.1 e.2))
    | (s1, hostAs, none) =>
      let all := (xs.zip (cells.map (·.1))).zip (cells.map (·.2))
      let hostBs := (all.filter (fun x => x.1.1.1 = .host)).map (·.2)
      let dev := all.filter (fun x => x.1.1.1 ≠ .host)
      let trick := s.trickOf w.tile w.stream
      let isStaged := fun (x : ((Region × Nat) × Int) × Byte) =>
        !direct && w.inTrick && (s.job w.slot).isDurable x.1.2.toNat
      let staged := (dev.filter isStaged).map (fun x => (x.1.1.2, x.2))
      let plain := (dev.filter (fun x => !isStaged x)).map (fun x => (x.1.1.2, x.2))
      let st := match trick with
        | some (slot, t) => if staged.isEmpty then (s1, StageRes.ok) else s1.stageCells slot t staged
        | none => (s1, StageRes.ok)
      match st with
      | (s2, .conflict) => (s2, .conflict)
      | (s2, .full h) => (s2, .full h)
      | (s2, .ok) =>
        let s3 := { s2 with hostMem := (hostAs.zip hostBs).foldl (fun (m : Mem) (c : Nat × Byte) => tput m c.1 c.2) s2.hostMem }
        let s3 := if hostAs.isEmpty then s3 else s3.stat w.slot 14 hostAs.length
        let s4 := (linesOf (plain.map (·.1))).foldl
          (fun s l => if isGddr (l * 64) then s.gddrAccess (some w.slot) l true bypass else s) s3
        ((s4.storeCells (some w.slot) plain).storeCells (some w.slot) (s.imageCells w cells), .ok)

/-- Consecutive job-view addresses. -/
def viewRange (v : Int) (n : Nat) : List Int := (List.range n).map (fun i => v + (i : Int))

/-! ## A tile's own scratch -/

/-- Bytes at an offset of the scratch of a package logical tile, as its sequencers and descriptors read them. -/
def State.scratchRead (s : State) (L o n : Nat) : List Byte :=
  s.memRead (scratchOf (L / 32) (s.physOf (L / 32) (L % 32)) + o) n

/-- Whether the scratch lines of a range hold poisoned data, with what the code does at the read. -/
def State.scratchTouch (s : State) (L o n : Nat) : State × Bool :=
  touchReads (s.slotOfTile L) false (linesOf (upFrom (scratchOf (L / 32) (s.physOf (L / 32) (L % 32)) + o) n)) s

end Sys2Proof.Machine
end

