-- ==== Sys2Proof/Machine/Num.lean ====
section
/-! DEFINITION. Num.lean: numbers (02_numerics.md): formats, exact values, the one rounding of each store, A48, I48, W320, MX
blocks and Shuffle. -/
namespace Sys2Proof.Machine

def Num.isNan : Num → Bool
  | .nan => true
  | _ => false

def Num.isInf : Num → Bool
  | .inf _ => true
  | _ => false

def Num.isZero : Num → Bool
  | .fin _ 0 _ => true
  | _ => false

def Num.isFinite : Num → Bool
  | .fin _ _ _ => true
  | _ => false

def Num.neg : Num → Num
  | .nan => .nan
  | .inf s => .inf (!s)
  | .fin s m e => .fin (!s) m e

def Num.sign : Num → Bool
  | .nan => false
  | .inf s => s
  | .fin s _ _ => s

/-- +0, 1, and an integer as an exact value. -/
def Num.zero : Num := .fin false 0 0

def Num.one : Num := .fin false 1 0

def Num.ofInt (i : Int) : Num := .fin (decide (i < 0)) i.natAbs 0

/-- floor(log2 of the magnitude) of a nonzero m × 2^e. -/
def exponentOf (m : Nat) (e : Int) : Int := (Nat.log2 m : Int) + e

/-! ## Exact arithmetic and the special operands of R70 -/

/-- m × 2^e in units of 2^b, for b ≤ e. -/
def alignTo (m : Nat) (e b : Int) : Nat := m <<< (e - b).toNat

def signedMag (s : Bool) (m : Nat) : Int := if s then -(m : Int) else (m : Int)

/-- Sum (R70, Add): an exact-zero sum is +0, except (−0) + (−0) = −0. -/
def Num.add : Num → Num → Num
  | .nan, _ => .nan
  | _, .nan => .nan
  | .inf a, .inf b => if a = b then .inf a else .nan
  | .inf a, _ => .inf a
  | _, .inf b => .inf b
  | .fin a m e, .fin b n f =>
    if m = 0 ∧ n = 0 then .fin (a && b) 0 0
    else if m = 0 then .fin b n f
    else if n = 0 then .fin a m e
    else
      let g := min e f
      let t := signedMag a (alignTo m e g) + signedMag b (alignTo n f g)
      .fin (decide (t < 0)) t.natAbs g

def Num.sub (x y : Num) : Num := x.add y.neg

/-- Product (R70). -/
def Num.mul : Num → Num → Num
  | .nan, _ => .nan
  | _, .nan => .nan
  | .inf a, .inf b => .inf (a != b)
  | .inf a, .fin b m _ => if m = 0 then .nan else .inf (a != b)
  | .fin a m _, .inf b => if m = 0 then .nan else .inf (a != b)
  | .fin a m e, .fin b n f => .fin (a != b) (m * n) (e + f)

/-- Fused multiply-add (R70): product rules, then add rules. -/
def Num.fma (x y z : Num) : Num := (x.mul y).add z

/-- Quotient (R70), with 320 bits below the units of the operands and one bit that tells a nonzero remainder: a quotient of FP32
values, and its sum with one, is told from every rounding boundary and from every top 16 bits of R64 by far fewer. -/
def Num.div : Num → Num → Num
  | .nan, _ => .nan
  | _, .nan => .nan
  | .inf _, .inf _ => .nan
  | .inf a, .fin b _ _ => .inf (a != b)
  | .fin a _ _, .inf b => .fin (a != b) 0 0
  | .fin a m e, .fin b n f =>
    if n = 0 then (if m = 0 then .nan else .inf (a != b))
    else .fin (a != b) (2 * ((m <<< 320) / n) + (if (m <<< 320) % n = 0 then 0 else 1)) (e - f - 321)

/-- The integer square root, bit by bit from bit `k` down. -/
def isqrt (n : Nat) : Nat → Nat → Nat
  | 0, r => r
  | k + 1, r =>
    let r' := r + 2 ^ k
    if r' * r' ≤ n then isqrt n k r' else isqrt n k r

/-- Square root (R70), with 256 bits below the units and one bit that tells a nonzero remainder, as for the quotient. -/
def Num.sqrt : Num → Num
  | .nan => .nan
  | .inf s => if s then .nan else .inf false
  | .fin s m e =>
    if m = 0 then .fin s 0 0
    else if s then .nan
    else
      let up : Nat := if e % 2 = 0 then 512 else 513
      let n := m <<< up
      let r := isqrt n (Nat.log2 n / 2 + 1) 0
      .fin false (2 * r + (if r * r = n then 0 else 1)) ((e - (up : Int)) / 2 - 1)

/-- Ordering of two values neither of which is NaN; +0 equals −0 (R70, Compare). -/
def Num.cmp : Num → Num → Ordering
  | .inf a, .inf b => if a = b then .eq else if a then .lt else .gt
  | .inf a, _ => if a then .lt else .gt
  | _, .inf b => if b then .gt else .lt
  | .fin a m e, .fin b n f =>
    let g := min e f
    compare (signedMag a (alignTo m e g)) (signedMag b (alignTo n f g))
  | _, _ => .eq

def Num.lt (x y : Num) : Bool := !x.isNan && !y.isNan && x.cmp y == .lt

def Num.eqv (x y : Num) : Bool := !x.isNan && !y.isNan && x.cmp y == .eq

/-- Element-wise maximum (R70): NaN if either operand is NaN, max(+0, −0) = +0. -/
def Num.max (x y : Num) : Num :=
  if x.isNan || y.isNan then .nan
  else if x.isZero && y.isZero then .fin (x.sign && y.sign) 0 0
  else if x.lt y then y else x

/-- Element-wise minimum (R70): min(+0, −0) = −0. -/
def Num.min (x y : Num) : Num :=
  if x.isNan || y.isNan then .nan
  else if x.isZero && y.isZero then .fin (x.sign || y.sign) 0 0
  else if y.lt x then y else x

/-- Whether the magnitude of m × 2^e exceeds that of n × 2^f. -/
def magGt (m : Nat) (e : Int) (n : Nat) (f : Int) : Bool :=
  let g := min e f
  decide (alignTo n f g < alignTo m e g)

/-! ## Formats (R49) -/

/-- How a floating-point format spends its all-ones exponent. -/
inductive Special where
  | ieee
  | e4m3
  | none
  deriving DecidableEq, Repr

/-- A floating-point format. -/
structure FloatFmt where
  ebits : Nat
  fbits : Nat
  bias : Nat
  special : Special

/-- The formats of memory elements (R49). -/
inductive Fmt where
  | fp32
  | bf16
  | fp16
  | e5m2
  | e4m3
  | e3m2
  | e2m3
  | e2m1
  | int8
  | int32
  deriving DecidableEq, Repr

/-- Layout of a floating-point format (R49); an integer format has none. -/
def Fmt.float : Fmt → Option FloatFmt
  | .fp32 => some ⟨8, 23, 127, .ieee⟩
  | .bf16 => some ⟨8, 7, 127, .ieee⟩
  | .fp16 => some ⟨5, 10, 15, .ieee⟩
  | .e5m2 => some ⟨5, 2, 15, .ieee⟩
  | .e4m3 => some ⟨4, 3, 7, .e4m3⟩
  | .e3m2 => some ⟨3, 2, 3, .none⟩
  | .e2m3 => some ⟨2, 3, 1, .none⟩
  | .e2m1 => some ⟨2, 1, 1, .none⟩
  | .int8 => none
  | .int32 => none

/-- Element width in bits (R49). -/
def Fmt.width : Fmt → Nat
  | .fp32 => 32
  | .bf16 => 16
  | .fp16 => 16
  | .e5m2 => 8
  | .e4m3 => 8
  | .e3m2 => 6
  | .e2m3 => 6
  | .e2m1 => 4
  | .int8 => 8
  | .int32 => 32

/-- MX element formats (R52). -/
def Fmt.isMx : Fmt → Bool
  | .e3m2 | .e2m3 | .e2m1 => true
  | _ => false

def Fmt.isInt : Fmt → Bool
  | .int8 | .int32 => true
  | _ => false

/-- Exponent of one unit of a format's subnormal range. -/
def FloatFmt.minUnit (p : FloatFmt) : Int := 1 - (p.bias : Int) - (p.fbits : Int)

/-- Largest finite value, as m × 2^e (R49). -/
def FloatFmt.maxFinite (p : FloatFmt) : Nat × Int :=
  match p.special with
  | .ieee => (2 ^ (p.fbits + 1) - 1, (2 ^ p.ebits - 2 : Nat) - (p.bias : Int) - (p.fbits : Int))
  | .e4m3 => (2 ^ (p.fbits + 1) - 2, (2 ^ p.ebits - 1 : Nat) - (p.bias : Int) - (p.fbits : Int))
  | .none => (2 ^ (p.fbits + 1) - 1, (2 ^ p.ebits - 1 : Nat) - (p.bias : Int) - (p.fbits : Int))

/-- Value of a floating-point encoding (R49 to R51). -/
def FloatFmt.decode (p : FloatFmt) (x : Nat) : Num :=
  let f := nbits x 0 p.fbits
  let e := nbits x p.fbits p.ebits
  let s := nbit x (p.fbits + p.ebits)
  if e = 2 ^ p.ebits - 1 ∧ p.special = .ieee then (if f = 0 then .inf s else .nan)
  else if e = 2 ^ p.ebits - 1 ∧ f = 2 ^ p.fbits - 1 ∧ p.special = .e4m3 then .nan
  else if e = 0 then .fin s f p.minUnit
  else .fin s (2 ^ p.fbits + f) ((e : Int) - (p.bias : Int) - (p.fbits : Int))

/-- Encoding of sign and k × 2^q, a value the format represents, with q at least its subnormal unit. -/
def FloatFmt.pack (p : FloatFmt) (s : Bool) (k : Nat) (q : Int) : Nat :=
  let sg := b2n s * 2 ^ (p.fbits + p.ebits)
  if k = 0 then sg
  else
    let l := Nat.log2 k
    if (l : Int) + q < p.minUnit + (p.fbits : Int) then sg + alignTo k q p.minUnit
    else
      let field := ((l : Int) + q + (p.bias : Int)).toNat
      let frac := if l ≤ p.fbits then k <<< (p.fbits - l) else k >>> (l - p.fbits)
      sg + field * 2 ^ p.fbits + frac % 2 ^ p.fbits

/-- Canonical NaN of a format (R49, R51). -/
def FloatFmt.nan (p : FloatFmt) : Nat :=
  match p.special with
  | .ieee => (2 ^ p.ebits - 1) * 2 ^ p.fbits + 2 ^ (p.fbits - 1)
  | _ => 2 ^ (p.ebits + p.fbits) - 1

def FloatFmt.inf (p : FloatFmt) (s : Bool) : Nat :=
  b2n s * 2 ^ (p.fbits + p.ebits) + (2 ^ p.ebits - 1) * 2 ^ p.fbits

def FloatFmt.largest (p : FloatFmt) (s : Bool) : Nat := p.pack s p.maxFinite.1 p.maxFinite.2

/-- Value of an encoding of a format that is not an MX element. -/
def Fmt.decode (f : Fmt) (x : Nat) : Num :=
  match f.float with
  | some p => p.decode x
  | none => Num.ofInt (toSigned f.width (x % 2 ^ f.width))

/-! ## Rounding (R62 to R65) -/

/-- Reserved values of `rnd` (R62). -/
def rndReserved (rnd : Nat) : Bool := rnd % 4 == 3

def rndIsSr (rnd : Nat) : Bool := rnd % 4 == 2

def rndSat (rnd : Nat) : Bool := nbit rnd 2

/-- m ÷ 2^d rounded to an integer under the mode of R62, with the draw `r` for SR (R63, R64). -/
def roundShift (rnd r m d : Nat) : Nat :=
  let k := m >>> d
  let rem := m % 2 ^ d
  match rnd % 4 with
  | 0 => if 2 * rem > 2 ^ d || (2 * rem == 2 ^ d && k % 2 == 1) then k + 1 else k
  | 2 => if ((rem <<< 16) >>> d) + r % 65536 ≥ 65536 then k + 1 else k
  | _ => k

/-- m × 2^e in units of 2^q, rounded. -/
def roundUnits (rnd r m : Nat) (e q : Int) : Nat :=
  if q ≤ e then alignTo m e q else roundShift rnd r m (q - e).toNat

/-- The four counts of R72 of which an element adds to at most one (R73). -/
inductive StoreCount where
  | ovf
  | nanNew
  | sat
  | ftz
  deriving DecidableEq, Repr

/-- An element as it is written: its bits and what it adds to the store tracking. -/
structure Stored where
  bits : Nat
  count : Option StoreCount := none
  nonfinite : Bool := false
  deriving DecidableEq, Repr

/-- Rounding of a value to a floating-point format (R63).  `opNan` says whether an operand was NaN. -/
def FloatFmt.store (p : FloatFmt) (rnd r : Nat) (opNan : Bool) : Num → Stored
  | .nan => ⟨p.nan, if opNan then none else some .nanNew, true⟩
  | .inf s =>
    if rndSat rnd then ⟨p.largest s, some .sat, false⟩
    else if p.special = .e4m3 then ⟨p.nan, some .nanNew, true⟩
    else ⟨p.inf s, none, true⟩
  | .fin s m e =>
    if m = 0 then ⟨p.pack s 0 0, none, false⟩
    else
      let q := max (exponentOf m e - (p.fbits : Int)) p.minUnit
      let k := roundUnits rnd r m e q
      if magGt k q p.maxFinite.1 p.maxFinite.2 then
        if rndSat rnd || rnd % 4 == 1 then ⟨p.largest s, some .sat, false⟩
        else if p.special = .e4m3 then ⟨p.nan, some .ovf, true⟩
        else ⟨p.inf s, some .ovf, true⟩
      else
        ⟨p.pack s k q,
          if magGt m e p.maxFinite.1 p.maxFinite.2 then some .sat else if k = 0 then some .ftz else none, false⟩

/-- Conversion to a `w`-bit integer (R65). -/
def storeInt (w rnd r : Nat) : Num → Stored
  | .nan => ⟨0, some .sat, false⟩
  | .inf s => ⟨if s then 2 ^ (w - 1) else 2 ^ (w - 1) - 1, some .sat, false⟩
  | .fin s m e =>
    let k := roundUnits rnd r m e 0
    let bound := if s then 2 ^ (w - 1) else 2 ^ (w - 1) - 1
    if magGt m e bound 0 then ⟨bound, some .sat, false⟩
    else ⟨ofSigned w (signedMag s k), if k = 0 && m != 0 then some .ftz else none, false⟩

/-- One element written to a format that is not an MX element (R63, R65). -/
def Fmt.store (f : Fmt) (rnd r : Nat) (opNan : Bool) (v : Num) : Stored :=
  match f.float with
  | some p => p.store rnd r opNan v
  | none => storeInt f.width rnd r v

/-! ## MX blocks (R52, R53) -/

/-- Value of an E8M0 scale (R49): 0xFF is NaN. -/
def scaleOf (x : Nat) : Option Int := if x = 255 then none else some ((x : Int) - 127)

/-- Value of an MX element under its block's scale byte. -/
def mxDecode (f : Fmt) (scale x : Nat) : Num :=
  match scaleOf scale, f.float with
  | some k, some p =>
    match p.decode x with
    | .fin s m e => .fin s m (e + k)
    | n => n
  | _, _ => .nan

/-- Largest magnitude of a list of values, as the floor of its base-2 logarithm; none when all are zero. -/
def amaxLog (vs : List Num) : Option Int :=
  vs.foldl (fun a v => match v with
    | .fin _ m e =>
      if m = 0 then a
      else match a with
        | none => some (exponentOf m e)
        | some b => some (max b (exponentOf m e))
    | _ => a) none

def mxEmax : Fmt → Int
  | .e3m2 => 4
  | _ => 2

/-- An MX element (R53): clamped to the largest finite value when its exact magnitude exceeds it. -/
def mxElement (p : FloatFmt) (rnd r : Nat) (v : Num) : Stored :=
  match v with
  | .fin s m e =>
    if magGt m e p.maxFinite.1 p.maxFinite.2 then ⟨p.largest s, some .sat, false⟩
    else if m = 0 then ⟨p.pack s 0 0, none, false⟩
    else
      let q := max (exponentOf m e - (p.fbits : Int)) p.minUnit
      let k := roundUnits rnd r m e q
      ⟨p.pack s k q, if k = 0 then some .ftz else none, false⟩
  | _ => ⟨0, none, true⟩

/-- A block of 32 values stored in an MX format: its scale byte and its elements (R53, R73).  Each value comes with its draw and
whether an operand of it was NaN.  In a block marked NaN by an infinity an element whose own value was NaN counts in none of the four; in
one without an infinity a NaN made from operands that were not counts as elsewhere (log 136: R73 says no more).  The element bits of a
block marked NaN are open (log 136). -/
def mxStore (f : Fmt) (rnd : Nat) (vs : List (Num × Nat × Bool)) : Nat × List Stored :=
  match f.float with
  | none => (0, [])
  | some p =>
    if vs.any (fun v => !v.1.isFinite) then
      let infinite := vs.any (fun u => u.1.isInf)
      (255, vs.zipIdx.map (fun v => ⟨(Config.nanElement v.2).toNat % 2 ^ f.width,
        if v.1.1.isNan then (if infinite || v.1.2.2 then none else some .nanNew) else if infinite then some .nanNew else none, true⟩))
    else
      match amaxLog (vs.map (·.1)) with
      | none => (0, vs.map (fun v => ⟨p.pack v.1.sign 0 0, none, false⟩))
      | some l =>
        let k := max (-127) (min 127 (l - mxEmax f))
        ((k + 127).toNat, vs.map (fun v => mxElement p rnd v.2.1 (match v.1 with
          | .fin s m e => .fin s m (e - k)
          | n => n)))

/-! ## Store tracking (R72 to R74) -/

def satCount (n : Nat) : Nat := min n 0xFFFFFFFF

/-- The tracking with one more element: its index, its value before conversion and what was written (R72, R73). -/
def NumStatus.add (st : NumStatus) (idx : Nat) (v : Num) (w : Stored) : NumStatus :=
  let st := { st with elements := st.elements + 1, nonfinite := st.nonfinite + b2n w.nonfinite }
  let st := match v with
    | .fin _ m e => if m = 0 then st else { st with amaxExp := some (match st.amaxExp with
        | none => exponentOf m e
        | some b => max b (exponentOf m e)) }
    | _ => st
  let first := some (match st.firstIndex with
    | none => idx
    | some i => min i idx)
  match w.count with
  | some .ovf => { st with ovf := st.ovf + 1, firstIndex := first }
  | some .nanNew => { st with nanNew := st.nanNew + 1, firstIndex := first }
  | some .sat => { st with sat := st.sat + 1 }
  | some .ftz => { st with ftz := st.ftz + 1 }
  | none => st

/-- The tracking of two stores together. -/
def NumStatus.merge (a b : NumStatus) : NumStatus :=
  { ovf := a.ovf + b.ovf, nanNew := a.nanNew + b.nanNew, sat := a.sat + b.sat, ftz := a.ftz + b.ftz,
    nonfinite := a.nonfinite + b.nonfinite, elements := a.elements + b.elements, srUsed := a.srUsed || b.srUsed,
    firstIndex := match a.firstIndex, b.firstIndex with
      | none, y => y
      | x, none => x
      | some x, some y => some (min x y),
    amaxExp := match a.amaxExp, b.amaxExp with
      | none, y => y
      | x, none => x
      | some x, some y => some (max x y) }

/-- The 32-byte numeric status block (R72): counts saturate at all ones and set bit 0 of flags (R74). -/
def NumStatus.block (st : NumStatus) : List Byte :=
  let top := [st.ovf, st.nanNew, st.sat, st.ftz, st.nonfinite, st.elements].any (fun n => n ≥ 0xFFFFFFFF)
  leBytes 4 (satCount st.ovf) ++ leBytes 4 (satCount st.nanNew) ++ leBytes 4 (satCount st.sat) ++
  leBytes 4 (satCount st.ftz) ++ leBytes 4 (satCount st.nonfinite) ++
  leBytes 4 (match st.firstIndex with
    | none => 0xFFFFFFFF
    | some i => i) ++
  leBytes 2 (match st.amaxExp with
    | none => 0x8000
    | some x => ofSigned 16 x) ++
  leBytes 2 (b2n top + 2 * b2n st.srUsed) ++ leBytes 4 (satCount st.elements)

/-! ## A48 and I48 (R54 to R57) -/

/-- Value of an A48 encoding (R54, R56). -/
def a48Decode (x : BitVec 48) : Num :=
  let s := nbit x.toNat 47
  let e := bits x 38 9
  let f := bits x 0 38
  if e = 0 then .fin s 0 0
  else if e = 511 then (if f = 0 then .inf s else .nan)
  else .fin s (2 ^ 38 + f) ((e : Int) - 293)

/-- Rounding of an exact value to A48, to nearest even, with R56's two bounds. -/
def a48Encode : Num → BitVec 48
  | .nan => 0x7FE000000000
  | .inf s => BitVec.ofNat 48 (b2n s * 2 ^ 47 + 511 * 2 ^ 38)
  | .fin s m e =>
    if m = 0 then BitVec.ofNat 48 (b2n s * 2 ^ 47)
    else
      let q := exponentOf m e - 38
      let k := roundUnits 0 0 m e q
      let (k, q) := if k = 2 ^ 39 then (2 ^ 38, q + 1) else (k, q)
      let field := q + 38 + 255
      if field > 510 then BitVec.ofNat 48 (b2n s * 2 ^ 47 + 511 * 2 ^ 38)
      else if field < 1 then BitVec.ofNat 48 (b2n s * 2 ^ 47)
      else BitVec.ofNat 48 (b2n s * 2 ^ 47 + field.toNat * 2 ^ 38 + (k - 2 ^ 38))

/-- The exact sum of an accumulator and a product, rounded once (R55). -/
def a48Add (acc : BitVec 48) (p : Num) : BitVec 48 := a48Encode ((a48Decode acc).add p)

/-- −0 in A48. -/
def a48NegZero : BitVec 48 := 0x800000000000

/-- An I48 sum and whether it was clamped (R57). -/
def i48Add (acc : BitVec 48) (p : Int) : BitVec 48 × Bool :=
  let t := acc.toInt + p
  if t > 2 ^ 47 - 1 then (BitVec.ofInt 48 (2 ^ 47 - 1), true)
  else if t < -(2 ^ 47) then (BitVec.ofInt 48 (-(2 ^ 47)), true)
  else (BitVec.ofInt 48 t, false)

/-! ## W320 (R58 to R61) -/

/-- A contribution added (R59): a finite value exactly, an infinity or a NaN as its flag. -/
def W320.addNum (w : W320) : Num → W320
  | .nan => { w with nan := true }
  | .inf s => if s then { w with ninf := true } else { w with pinf := true }
  | .fin s m e => { w with value := w.value + BitVec.ofInt 301 (signedMag s (alignTo m e (-149))) }

/-- Two accumulators added. -/
def W320.addW (a b : W320) : W320 :=
  { nan := a.nan || b.nan, pinf := a.pinf || b.pinf, ninf := a.ninf || b.ninf, value := a.value + b.value }

/-- The value that R61 rounds on output. -/
def W320.toNum (w : W320) : Num :=
  if w.nan || (w.pinf && w.ninf) then .nan
  else if w.pinf then .inf false
  else if w.ninf then .inf true
  else .fin (decide (w.value.toInt < 0)) w.value.toInt.natAbs (-149)

/-- The accumulator as the 40 bytes of R58's 320 bits. -/
def W320.toNat (w : W320) : Nat :=
  w.value.toNat + b2n w.ninf * 2 ^ 317 + b2n w.pinf * 2 ^ 318 + b2n w.nan * 2 ^ 319

def W320.ofNat (n : Nat) : W320 :=
  { value := BitVec.ofNat 301 n, ninf := nbit n 317, pinf := nbit n 318, nan := nbit n 319 }

/-! ## Shuffle (R66) -/

/-- Round `i` of Shuffle on (x, y) with key words `k0` to `k3`. -/
def shuffleRound (k0 k1 k2 k3 : Word) (i : Nat) (xy : Word × Word) : Word × Word :=
  let k := match i % 4 with
    | 0 => k0
    | 1 => k1
    | 2 => k2
    | _ => k3
  let x := (xy.1.rotateLeft 24 + xy.2) ^^^ (k + BitVec.ofNat 32 i)
  (x, xy.2.rotateLeft 3 ^^^ x)

/-- x and y after round 9 (R69). -/
def shuffleXY (seed : Dword) (step mb tensor index : Word) : Word × Word :=
  (List.range 10).foldl
    (fun xy i => shuffleRound (seed.setWidth 32) ((seed >>> 32).setWidth 32) step mb i xy) (index, tensor)

/-- The 16 random bits of R66. -/
def shuffle (seed : Dword) (step mb tensor index : Word) : Nat :=
  let xy := shuffleXY seed step mb tensor index
  bits (xy.1 + xy.2) 16 16

/-! ## FP32 and binary64 bits -/

def fp32Fmt : FloatFmt := ⟨8, 23, 127, .ieee⟩

/-- A value rounded to nearest even in FP32. -/
def toFp32 (v : Num) : Word := BitVec.ofNat 32 (fp32Fmt.store 0 0 false v).bits

def ofFp32 (w : Word) : Num := fp32Fmt.decode w.toNat

def binary64Fmt : FloatFmt := ⟨11, 52, 1023, .ieee⟩

/-- A value rounded to nearest even in binary64 (R379). -/
def toBinary64 (v : Num) : Dword := BitVec.ofNat 64 (binary64Fmt.store 0 0 false v).bits

def ofBinary64 (w : Dword) : Num := binary64Fmt.decode w.toNat

end Sys2Proof.Machine
end

