-- ==== Sys2Proof/Machine/Ops.lean ====
section
/-! DEFINITION. Ops.lean: the shared operations: synchronisation objects and signals (R154 to R162), trick messages, the revoke and
replay of a local trick (R291, R296, R298), poisoned reads (R469), access faults (R178, R198), losing a job (R417, R476), the reset of the
compute complex (R475) and the job fault. -/
namespace Sys2Proof.Machine

/-! ## Ending a job -/

/-- Step of a descriptor for its completion (R417). -/
def descStep (j : Job) (d : Desc) : Nat :=
  match d.dtype with
  | 1 => j.step.toNat
  | 2 | 3 | 4 | 6 => leAt d.bytes 8 4
  | _ => 0

/-- `ref` of a descriptor's completion when it fails (R417). -/
def descRef (d : Desc) : Nat := if d.dtype = 3 || d.dtype = 4 then leAt d.bytes 12 4 % 2 ^ 20 else 0

/-- The job's descriptors that have left the window and not completed, with whether a completion record is reserved for each (R420). -/
def Job.startedDescs (j : Job) : List (Desc × Bool) :=
  (if j.placed then [] else [(j.desc, true)])
  ++ (match j.run with
    | some r => if r.done then [] else [(r.desc, r.reserved)]
    | none => [])
  ++ j.passes.map (fun p => (p.desc, p.reserved))
  ++ (match j.ending with
    | some d => [(d, true)]
    | none => [])
  ++ (match j.pageDesc with
    | some d => [(d.1, true)]
    | none => [])
  ++ (j.loads.filter (fun (l : Nat × Load) => l.2.active && l.2.background)).map (fun l => (l.2.desc, true))

/-- The fetched descriptors of a job that have not started, in ring order. -/
def State.waitingDescs (s : State) (slot : Nat) : List Desc :=
  ((s.sq (s.job slot).ring).window).filter (fun d => d.job = (s.job slot).id.toNat)

/-- The value of a JOB_LOST or STEP_REVOKED completion (R417). -/
def lostValue (code cause : Nat) (origin : BitVec 12) : Nat := code + cause * 2 ^ 16 + origin.toNat * 2 ^ 20

/-- Every descriptor of a job that has not completed completes with a status (R417). -/
def State.failDescs (s : State) (slot status value : Nat) : State :=
  let j := s.job slot
  let started := j.startedDescs
  let waiting := s.waitingDescs slot
  let s1 := started.foldl
    (fun s d => (if d.2 then s.unreserve else s).completeDesc d.1 status (descStep j d.1) (descRef d.1) value) s
  let s2 := waiting.foldl (fun s d => s.completeDesc d status (descStep j d) (descRef d) value) s1
  s2.modSq j.ring (fun q => { q with window := q.window.filter (fun d => d.job ≠ j.id.toNat) })

/-- Context slots of an engine that hold a job's contexts (R359, R385). -/
def Meld.slotsOf (m : Meld) (job : Nat) : List Nat :=
  (m.ctxs.filter (fun e => nbit e.2.key.toNat 63 && bits e.2.key 48 12 = job)).map (·.1)

/-- An engine without a job's contexts, their source and shard entries, firings, deferred messages and noise records (R359, R381, R388). -/
def Meld.dropJob (m : Meld) (job : Nat) : Meld :=
  let slots := m.slotsOf job
  let ctxs := slots.map (fun c => tget {} m.ctxs c)
  let inSrc := fun i => ctxs.any (fun c =>
    decide (bits c.tables 52 12 ≤ i) && decide (i < bits c.tables 52 12 + bits c.tables 47 5))
  let inShard := fun i => ctxs.any (fun c =>
    decide (bits c.tables 32 12 ≤ i) && decide (i < bits c.tables 32 12 + max 1 (bits c.tables 20 12)))
  { m with
    ctxs := m.ctxs.filter (fun e => !slots.contains e.1),
    sources := m.sources.filter (fun e => !inSrc e.1),
    shards := m.shards.filter (fun e => !inShard e.1),
    firings := m.firings.filter (fun f => !slots.contains f.slot),
    deferred := m.deferred.filter (fun p => tagJob p.tag ≠ job),
    noise := m.noise.filter (fun n => n.job.toNat ≠ job) }

/-- A package other than this one that takes part in a job's step trick or pass trick (R299). -/
def State.others (s : State) (j : Job) (isPass : Bool) : List (BitVec 12) :=
  (if isPass then j.deck.passPackages else j.deck.packages).filter (· ≠ s.self)

/-- REFUSE with a cause for each open deck trick of a job, to its coordinator (R300). -/
def State.refuseTricks (s : State) (slot cause : Nat) : State :=
  let j := s.job slot
  j.openTricks.foldl (fun s t =>
    s.originate (trickPacket s.self (s.leadOf j) j.id.toNat t.1 t.2.1.toNat t.2.2.1 t.2.2.2 2 cause s.self)) s

/-- The deck tricks of a job that this package coordinates: its coordinator entries, and its own open deck tricks that have none yet, as
step, micro-batch, whether it is a pass, and attempt (R301, R312). -/
def State.coordTricks (s : State) (j : Job) : List (Word × BitVec 20 × Bool × BitVec 8) :=
  let mine := s.trk.coords.filter (fun c => c.job = j.id)
  mine.map (fun c => (c.step, c.mb, c.isPass, c.attempt))
  ++ j.openTricks.filter (fun t => !(mine.any (fun c => c.step = t.1 && c.mb = t.2.1 && c.isPass = t.2.2.1)))

/-- What a job's loss tells the other packages (R312): as coordinator REVOKE with cause JOB_LOST, else REFUSE to the coordinator. -/
def State.tellLost (s : State) (slot : Nat) : State :=
  let j := s.job slot
  if s.leadOf j = s.self then
    (s.coordTricks j).foldl (fun s t =>
      (s.others j t.2.2.1).foldl (fun s p =>
        s.originate (trickPacket s.self p j.id.toNat t.1 t.2.1.toNat t.2.2.1 t.2.2.2 4 7 s.self)) s) s
  else s.refuseTricks slot 7

/-- The stacked SRAM and GDDR7 slices of a job's groups, as ranges [lo, hi). -/
def State.gddrSlices (s : State) (j : Job) : List (Nat × Nat) :=
  (upFrom j.first j.groups).map (fun g => (s.gddrSlice g, s.gddrSlice g + s.gsliceBytes (g / 4)))

/-- Ranges of device memory written with zero, their poison cleared (R181, R216, R220). -/
def State.zeroRanges (s : State) (rs : List (Nat × Nat)) : State :=
  rs.foldl (fun s r => { s with
    mem := Mem.clear s.mem r.1 r.2,
    poison := s.poison.filter (fun e => decide (e.1 * 64 < r.1) || decide (r.2 ≤ e.1 * 64)),
    flaws := s.flaws.filter (fun e => decide (e.1 * 64 < r.1) || decide (r.2 ≤ e.1 * 64)) })
    (s.snoopHost (s.host.hostHeld.filter (fun l => rs.any (fun r => decide (r.1 ≤ l * 64) && decide (l * 64 < r.2)))))

/-- A job's endpoints and select sets at their reset values (R275). -/
def Tile.dropChannels (t : Tile) : Tile :=
  { t with eps := [], streams := t.streams.map (fun e => (e.1, { e.2 with sels := [] })) }

/-- The job's state in every unit but the tiles' programs at its reset value: open tricks and shares, coordinator entries, region and
keep entries, Meld contexts, synchronisation objects, deferred signals (R275, R312, R359). -/
def State.dropJobUnits (s : State) (slot : Nat) : State :=
  let j := s.job slot
  let job := j.id.toNat
  let tiles := j.tiles
  let s1 := s.modTrk (fun u => { u with
    locals := u.locals.filter (fun e => !tiles.contains e.2.tile),
    shares := u.shares.filter (fun e => e.2.job.toNat ≠ job),
    coords := u.coords.filter (fun c => c.job.toNat ≠ job) })
  let s2 := s1.modDealer (fun d => { d with
    vregs := d.vregs.filter (fun e => bits e.2.1 48 12 ≠ job),
    keeps := d.keeps.filter (fun e => e.2.job.toNat ≠ job) })
  let s3 := (s2.modMeld 0 (fun m => m.dropJob job)).modMeld 1 (fun m => m.dropJob job)
  let s4 := { s3 with objs := s3.objs.filter (fun e => !(j.holds (e.1 / 4096))) }
  let s5 := (upFrom 0 4).foldl (fun s k =>
    s.modStack k (fun x => { x with deferred := x.deferred.filter (fun h => h.job.toNat ≠ job) })) s4
  tiles.foldl (fun s L => s.modTile L Tile.dropChannels) s5

/-- A job is lost: its descriptors complete with JOB_LOST, the other packages are told, its state is discarded; its groups stay taken
until they are zeroed (R216, R417, R476). -/
def State.loseJob (s : State) (slot code : Nat) (origin : BitVec 12) (tell : Bool) : State :=
  let s1 := s.failDescs slot 0x21 (lostValue code 7 origin)
  let s2 := if tell then s1.tellLost slot else s1
  let s3 := s2.dropJobUnits slot
  s3.modJob slot (fun j =>
    { ({} : Job) with valid := true, endingLost := true, id := j.id, first := j.first, groups := j.groups, ring := j.ring })

/-- The jobs whose JOB has been fetched and has not acted are lost too: their descriptors complete with JOB_LOST (R415, R417). -/
def State.loseFetched (s : State) (code : Nat) : State :=
  (List.range 64).foldl (fun s q =>
    let w := (s.sq q).window
    let gone := fun (d : Desc) => w.any (fun e => e.dtype = 1 && e.job = d.job)
    ((w.filter gone).foldl (fun s d => s.completeDesc d 0x21 (descStep {} d) (descRef d) (lostValue code 7 s.self)) s).modSq q
      (fun x => { x with window := w.filter (fun d => !gone d) })) s

/-- A tile of the compute complex after its reset (R77, R106, R138, R175, R210, R275): its clock and its fence stay. -/
def Tile.reset (t : Tile) : Tile := { ({} : Tile) with clock := t.clock, fenced := t.fenced }

/-- The reset of the compute complex (R475): every job is lost with the event code of the cause, the slices are zeroed and cc_busy is set
until CC_RESET_DONE. -/
def State.ccReset (s : State) (code : Nat) : State :=
  let lost := s.jobSlots
  let s1 := (lost.foldl (fun s n => s.loseJob n code s.self true) s).loseFetched code
  let all := (List.range 16).filter (fun n => (s1.job n).valid)
  let s2 := all.foldl (fun s n => s.zeroRanges (s.gddrSlices (s.job n))) s1
  let s3 := { s2 with
    tiles := s2.tiles.map (fun (e : Nat × Tile) => (e.1, e.2.reset)),
    objs := [],
    stks := s2.stks.map (fun (e : Nat × Stack) => (e.1, { e.2 with deferred := [] })) }
  let s4 := s3.modDealer (fun d => { d with vregs := [], keeps := [], jobs := [] })
  let s5 := s4.modTrk (fun u => { u with locals := [], shares := [], coords := [] })
  let s6 := s5.modHost (fun h => { h with ccBusy := true, fetchLines := [], staleLines := [], aheadLines := [], pageRequests := [], hubRequests := [] })
  ({ s6 with recov := { s6.recov with takeover := none, restore := [] } }).retime

/-- The reset that no event caused: the code of a lost job's value is left open (R417; log 76). -/
def State.ccResetOpen (s : State) : State := s.nextOpen.ccReset (s.openBelow (2 ^ 16))

/-- A job fault: every job on the package is lost (R475). -/
def State.jobFault (s : State) (code : Nat) : State := s.ccReset code

/-! ## Synchronisation objects (R152 to R160) -/

/-- The object that a job-relative number names (R157). -/
def Job.objectOf (j : Job) (l : Nat) : Option Nat :=
  if l / 4096 < j.groups then some ((j.first + l / 4096) * 4096 + l % 4096) else none

/-- Kind that a signal operation acts on (R154). -/
def sigKind (op : Nat) : Option Nat :=
  match op with
  | 1 => some 0
  | 2 => some 1
  | 3 => some 2
  | 4 => some 2
  | _ => none

/-- Kind that a wait operation acts on (R154). -/
def waitKind (op : Nat) : Option Nat :=
  match op with
  | 1 => some 0
  | 2 => some 1
  | 3 => some 2
  | 4 => some 2
  | _ => none

/-- An object after a signal operation that matches its kind (R154). -/
def SyncObj.apply (o : SyncObj) (op arg : Nat) : SyncObj :=
  match op with
  | 1 => { o with value := o.value + BitVec.ofNat 32 arg }
  | 2 =>
    let arrivals := bits o.value 0 12 + 1
    let gen := bits o.value 24 8
    if arrivals = o.membersM1.toNat + 1 then { o with value := BitVec.ofNat 32 ((gen + 1) % 256 * 2 ^ 24) }
    else { o with value := BitVec.ofNat 32 (gen * 2 ^ 24 + arrivals) }
  | 3 => { o with value := 1 }
  | 4 => { o with value := 0 }
  | _ => o

/-- REACH (R154): the value equals the target or is later. -/
def reached (value target : Word) : Bool := value = target || later 32 value.toNat target.toNat

/-- The route bank switches when the job's phase counter reaches its target (R454). -/
def Job.phaseCheck (j : Job) (object : Nat) (value : Word) : Job :=
  let p := j.phase.toNat
  if nbit p 31 && !nbit p 27 && j.objectOf (nbits p 0 16) = some object && reached value j.phaseTarget then
    { j with phase := putBits (putBits j.phase 28 1 (b2n (nbit p 29))) 27 1 1 }
  else j

/-- A signal operation on a job's object, when it exists and the operation matches its kind (R154, R157). -/
def State.signalObj (s : State) (slot l op arg : Nat) : Option State :=
  match (s.job slot).objectOf l with
  | none => none
  | some o =>
    let x := s.obj o
    if sigKind op = some x.kind.toNat then
      let y := x.apply op arg
      some ((s.setObj o y).modJob slot (fun j => j.phaseCheck o y.value))
    else none

/-- Fields of a handle (R156). -/
def Handle.valid (h : Handle) : Bool := nbit h.obj.toNat 31
def Handle.remote (h : Handle) : Bool := nbit h.obj.toNat 30
def Handle.kind (h : Handle) : Nat := bits h.obj 28 2
def Handle.package (h : Handle) : BitVec 12 := BitVec.ofNat 12 (bits h.obj 16 12)
def Handle.object (h : Handle) : Nat := bits h.obj 0 16
def Handle.sigOp (h : Handle) : Nat := bits h.sig 28 4
def Handle.sigArg (h : Handle) : Nat := bits h.sig 0 16
def Handle.waitOp (h : Handle) : Nat := bits h.wait 28 4
def Handle.waitStep (h : Handle) : Nat := bits h.wait 0 16

def State.handle (s : State) (L n h : Nat) : Handle := tget {} (s.stream L n).handles h

def State.modHandle (s : State) (L n h : Nat) (f : Handle → Handle) : State :=
  s.modStream L n (fun x => { x with handles := tmod {} x.handles h f })

/-- A SYNC packet (R160, R321). -/
def syncPacket (src dst : BitVec 12) (job step object op arg : Nat) : Packet :=
  { cls := 0, ptype := BitVec.ofNat 4 ptSync, src := src, dst := dst, tag := mkTag job 3 0 0 0 0 0 0 0 step,
    handle := BitVec.ofNat 64 (object + op * 2 ^ 16 + arg * 2 ^ 20) }

/-- The open local trick of a stream changed by `f`. -/
def State.modTrickOf (s : State) (L n : Nat) (f : Trick → Trick) : State :=
  let put := fun (e : Nat × Trick) => (e.1, f e.2)
  s.modTrk (fun u => { u with locals := modFirst (fun e => e.2.tile = L && e.2.stream = n) put u.locals })

/-- An instruction of a stream signals through a handle (R154, R158, R160, R162): counted in the open trick and performed; an ARRIVE
records the generation before it. -/
def State.signalHandle (s : State) (L n h : Nat) : State :=
  if h = 0 then s
  else
    match s.slotOfTile L with
    | none => s
    | some slot =>
      let s1 := s.modTrickOf L n (fun t => { t with signals := t.signals + 1 })
      let x := s1.handle L n h
      if x.remote then
        s1.originate (syncPacket s.self x.package (s.job slot).id.toNat (s.job slot).step.toNat x.object x.sigOp x.sigArg)
      else
        let gen := match (s.job slot).objectOf x.object with
          | some o => bits (s.obj o).value 24 8
          | none => 0
        match s1.signalObj slot x.object x.sigOp x.sigArg with
        | none => s1
        | some s2 => if x.sigOp = 2 then s2.modHandle L n h (fun y => { y with tgt := BitVec.ofNat 32 gen }) else s2

/-- Whether a signal that a stream issues now is one of the first that a replay suppresses (R162). -/
def State.suppresses (s : State) (L n h : Nat) : Bool := h ≠ 0 && decide (0 < (s.stream L n).pending)

/-- A signal that a replay suppresses has been issued (R162). -/
def State.countSuppressed (s : State) (L n : Nat) : State :=
  s.modStream L n (fun x => { x with pending := x.pending - 1 })

/-- The signal of an instruction that completes at issue: suppressed in a replay (R162), else performed. -/
def State.signalAtIssue (s : State) (L n h : Nat) : State :=
  if s.suppresses L n h then s.countSuppressed L n else s.signalHandle L n h

/-- Whether a handle's wait is satisfied (R154). -/
def State.waitHolds (s : State) (L n h : Nat) : Bool :=
  let x := s.handle L n h
  match s.slotOfTile L with
  | none => false
  | some slot =>
    match (s.job slot).objectOf x.object with
    | none => false
    | some o =>
      let v := (s.obj o).value
      match x.waitOp with
      | 1 => reached v x.tgt
      | 2 => decide (bits v 24 8 ≠ bits x.tgt 0 8)
      | 3 => v.getLsbD 0
      | 4 => !v.getLsbD 0
      | _ => false

/-- A satisfied wait: the target of a REACH advances (R156). -/
def State.waitTaken (s : State) (L n h : Nat) : State :=
  s.modHandle L n h (fun x => if x.waitOp = 1 then { x with tgt := x.tgt + BitVec.ofNat 32 x.waitStep } else x)

/-! ## Local tricks: revoke and replay (R288 to R298) -/

/-- The replay state of a stream, as TOPEN and the resume point record it (R288, R463). -/
def State.replayState (s : State) (L n : Nat) (pc : BitVec 16) : ReplayState :=
  let x := s.stream L n
  { pc := pc, tag := x.tag, loops := x.loops,
    targets := x.handles.map (fun e => (e.1, e.2.tgt)),
    nexts := x.sels.map (fun e => (e.1, bits e.2 59 3)),
    heads := (s.tile L).eps.map (fun e => (e.1, e.2.head)) }

/-- A stream reloaded from a replay state (R291): its issued instructions are abandoned. -/
def Stream.reload (x : Stream) (r : ReplayState) (pc : BitVec 16) : Stream :=
  { x with
    state := .run, waitHandle := 0, waitDone := false, pc := pc, tag := r.tag, loops := r.loops, ops := [], issueHeld := false,
    handles := x.handles.map (fun e => (e.1, { e.2 with tgt := tget e.2.tgt r.targets e.1 })),
    sels := x.sels.map (fun e => (e.1, putBits e.2 59 3 (tget (bits e.2 59 3) r.nexts e.1))) }

/-- The tile's engines without a stream's work: its banks FREE, its queue entries discarded (R291). -/
def Tile.dropWork (t : Tile) (n : Nat) : Tile :=
  { t with
    banks := t.banks.map (fun e => if e.2.stream = n then (e.1, {}) else e),
    finQueue := t.finQueue.filter (fun f => f.stream ≠ n),
    completeOrder := t.completeOrder.filter (fun b => (t.bank b).stream ≠ n),
    draining := match t.draining with
      | some b => if (t.bank b).stream = n then none else some b
      | none => none,
    vecStream := if t.vecStream = some n then none else t.vecStream }

/-- The receive endpoints that a stream has taken from return their take pointers to the released heads (R250, R291). -/
def Tile.returnTakes (t : Tile) (n : Nat) : Tile :=
  let back := fun (e : Nat × Endpoint) =>
    if e.2.taken.any (fun r => r.stream = n) then
      (e.1, { e.2 with take := e.2.head, spillTake := e.2.spillHead, taken := [] })
    else e
  { t with eps := t.eps.map back }

/-- Endpoint of a SEND (R148). -/
def insEp (w : Nat) : Nat := nbits w 24 5

/-- A stream's sends that wait for space wait no longer (R291). -/
def Tile.unblock (t : Tile) (n : Nat) : Tile :=
  ((t.stream n).ops.filter (fun o => o.engine = .channel && o.phase = .queued)).foldl
    (fun t o => if bits o.word 0 8 = 0x21 then
        t.modEp (insEp o.word.toNat) (fun e => { e with blocked := false, crossedWith := none, deadlockTimer := false })
      else t) t

/-- TRK_JOB_REVOKE after a revoke (R306). -/
def State.countRevoke (s : State) (slot cause : Nat) (deck : Bool) : State :=
  let word := fun (w : Word) => BitVec.ofNat 32 (cause % 16 * 2 ^ 28 + b2n deck * 2 ^ 27 + satNat 16 (bits w 0 16) 1)
  s.modJob slot (fun j => { j with trkRevoke := word j.trkRevoke })

/-! ### Version references (R265, R268, R270) -/

/-- A job's version entries with `f` at entry `i`; an OLD entry whose refs reach 0 becomes FREE (R265). -/
def Job.modVersion (j : Job) (i : Nat) (f : VerEntry → VerEntry) : Job :=
  let v := f (tget {} j.versions i)
  { j with versions := tput j.versions i (if v.state = 3 && v.refs = 0 then {} else v) }

/-- The entry of a job that holds a version tag in one of some states (R264). -/
def Job.versionEntry (j : Job) (tag : Nat) (states : List Nat) : Option Nat :=
  (List.range j.jobSlots).find? (fun i =>
    let v := tget {} j.versions i
    v.tag.toNat = tag && states.contains v.state)

/-- The references of a version change by one, up or down; a change that cannot be made raises event 0x0211 and fails the job (R268,
R270). -/
def State.refChange (s : State) (L n : Nat) (pc : BitVec 16) (version channel : Nat) (up : Bool) : State :=
  match s.slotOfTile L with
  | none => s
  | some slot =>
    let j := s.job slot
    let bad := fun (reason : Nat) =>
      (s.raise 0x0211 j.id.toNat (tsDetail L n pc.toNat reason version channel)).jobFault 0x0211
    match j.versionEntry version [2, 3] with
    | none => bad 3
    | some i =>
      let refs := (tget {} j.versions i).refs
      if up then
        if refs = 2 ^ 20 - 1 then bad 2 else s.modJob slot (fun j => j.modVersion i (fun v => { v with refs := v.refs + 1 }))
      else if refs = 0 then bad 1
      else s.modJob slot (fun j => j.modVersion i (fun v => { v with refs := v.refs - 1 }))

/-- The tag of a SEND's message (R149, R279). -/
def sendTag (o : Op) (peer slot : Nat) : Tag :=
  let w := o.word.toNat
  let t := o.tag
  mkTag (tagJob t) (if nbit w 29 then nbits w 30 2 else tagPass t) 2 (tagMb t) (tagVersion t)
    (if nbit w 48 then nbits w 52 12 else tagStage t) slot (tagPos t) peer (tagStep t)

/-- Sends that a stream has placed and not completed drop their references as the stream is abandoned: their messages have been made and
their replay is suppressed (R250, R268). -/
def State.settleSends (s : State) (L n : Nat) : State :=
  ((s.stream L n).ops.filter (fun o => o.engine = .channel && o.phase = .started && bits o.word 0 8 = 0x21 && !o.replayed)).foldl
    (fun s o =>
      let e := s.ep L (insEp o.word.toNat)
      let t := sendTag o 0 0
      match s.slotOfTile L with
      | some slot =>
        if nbit e.cfg.toNat 28 && tagPass t ≠ 3 then
          s.refChange L n o.pc (tagVersion t) ((s.job slot).channelOf L (insEp o.word.toNat)) false
        else s
      | none => s) s

/-- A stream replays its open local trick from the word after the TOPEN, with its sends, takes and signals so far suppressed (R291). -/
def State.replay (s : State) (L n : Nat) : State :=
  match s.trickOf L n with
  | none => s
  | some (_, t) =>
    let s1 := (s.settleSends L n).modTrickOf L n (fun t => { t with
      staged := [], num := {}, capWait := false, committing := false, since := s.now })
    s1.modTile L (fun x =>
      let y := ((x.unblock n).dropWork n).modStream n (fun z =>
        { z.reload t.record (t.record.pc + 1) with
          pending := t.signals, pendingSends := t.sends, pendingTakes := t.takes })
      y.returnTakes n)

/-- The stream's open local trick is discarded with its slot. -/
def State.dropTrick (s : State) (L n : Nat) : State :=
  ((s.modTrk (fun u => { u with locals := u.locals.filter (fun e => !(e.2.tile = L && e.2.stream = n)) })).modStream L n
    (fun x => { x with trick := none })).endSpan L n

/-- Event 0x0301, the job's count of local revokes and TRK_JOB_REVOKE (R296, R306, R310). -/
def State.noteRevokeQ (s : State) (L n cause instr slot : Nat) : State × List Ev :=
  match s.slotOfTile L with
  | none => (s, [])
  | some j =>
    let r := (s.countRevoke j cause false).statQ j 26 1
    (r.1, (0x0301, (s.job j).id.toNat, tsDetail L n instr cause slot 0) :: r.2)

/-- The same, its events raised. -/
def State.noteRevoke (s : State) (L n cause instr slot : Nat) : State :=
  let r := s.noteRevokeQ L n cause instr slot
  r.2.foldl (fun s e => s.raise e.1 e.2.1 e.2.2) r.1

/-- Whether a trick's TOPEN has been replayed before in this step for one of the causes that R298 counts. -/
def State.topenLimited (s : State) (L n : Nat) (t : Trick) : Bool :=
  match s.slotOfTile L with
  | some slot => (s.job slot).limited.contains (L, n, t.record.pc)
  | none => false

/-- A trick's TOPEN is replayed for such a cause (R298). -/
def State.limitTopen (s : State) (L n : Nat) (t : Trick) : State :=
  match s.slotOfTile L with
  | some slot => s.modJob slot (fun j => { j with limited := addOnce j.limited (L, n, t.record.pc) })
  | none => s

/-- A fault of a tile interrupts the job that it belongs to. -/
def State.interruptTile (s : State) (L us : Nat) : State :=
  match s.slotOfTile L with
  | some slot => s.modJob slot (Job.interrupt us)
  | none => s

/-- A local trick is revoked and replayed (R291, R296); a second revoke for CONFLICT, LOG_CAPACITY or TIMEOUT of a trick of the same TOPEN
in the same step is a job fault (R298).  `instr` is the instruction that the revoke comes from, 0xFFFF when none (R577).  The repeat of a span
interrupts the job for the time that the span has taken (R172, R459; log 20). -/
def State.revokeLocal (s : State) (L n cause : Nat) (instr : Nat := 0xFFFF) : State :=
  match s.trickOf L n with
  | none => s
  | some (slot, t) =>
    let s1 := s.noteRevoke L n cause instr slot
    if cause = 2 then (s1.interruptTile L (s.now - t.since)).replay L n
    else if s.topenLimited L n t then
      (s1.raise 0x0305 t.job.toNat (2 ^ 63 + t.step.toNat + L * 2 ^ 20 + n * 2 ^ 27 + cause * 2 ^ 41)).jobFault 0x0305
    else (s1.limitTopen L n t).replay L n

/-! ## Poisoned and failed accesses -/

/-- A deck rolls back without a talon (R469, R488): the lead is told (log 18), the deck tricks are revoked with cause FAULT, and the job
waits for its cut. -/
def State.rollback (s : State) (slot : Nat) : State :=
  let j := s.job slot
  let s1 := s.originate (mgmtPacket s.self (s.leadOf j) 4 0 j.id [])
  ((s1.refuseTricks slot 2).modJob slot (fun j => { j with restoring := true })).raise 0x0234 j.id.toNat
    (j.cutStep.toNat + s.self.toNat * 2 ^ 32)

/-- A stream's instruction at word `instr` has read poisoned published data (R469): one replay of its open trick, else a rollback of the deck. -/
def State.poisonedRead (s : State) (L n instr : Nat) : State :=
  match s.slotOfTile L with
  | none => s
  | some slot =>
    match s.trickOf L n with
    | some (_, t) =>
      if t.poisonReplay then s.rollback slot
      else (s.modTrickOf L n (fun t => { t with poisonReplay := true })).revokeLocal L n 2 instr
    | none => s.rollback slot

/-- Event 0x0425 and the job fault of an access outside the job view or the engine's sources (R178). -/
def State.accessFault (s : State) (L n engine : Nat) (v : Int) : State :=
  let job := match s.slotOfTile L with
    | some j => (s.job j).id.toNat
    | none => 0
  (s.raise 0x0425 job ((v % (2 ^ 48 : Int)).toNat + L * 2 ^ 48 + n * 2 ^ 55 + engine * 2 ^ 57)).jobFault 0x0425

/-- Event 0x0110 and the job fault of a failed host-window translation (R198); `hub` when the hub made the access. -/
def State.hostFault (s : State) (L v reason : Nat) (hub : Bool) : State :=
  let job := match s.slotOfTile L with
    | some j => (s.job j).id.toNat
    | none => 0
  (s.raise 0x0110 job (v + L * 2 ^ 48 + b2n hub * 2 ^ 55 + reason * 2 ^ 56)).jobFault 0x0110

/-- A demand access of a tile whose translation failed: a page request where R198 allows one, else the fault. The last says that the
access waits. -/
def State.xlatFailed (s : State) (L v reason : Nat) : State × Bool :=
  if reason = 4 && nbit s.host.hwtCtl.toNat 31 then
    ((s.modHost (fun h => { h with pageRequests := h.pageRequests ++ [(L, v)] })).emit (.pageRequest L v), true)
  else (s.hostFault L v reason false, false)

/-- Number under which page requests name the hub itself, behind the 128 tiles. -/
def hubTile : Nat := 128

/-- A demand fetch of the hub failed its translation: where R198 allows a page request, the fetch waits (none) until the host has answered,
and then is tried again or fails with the request's code; else it fails at once with its own. -/
def State.hubFailed (s : State) (job v reason : Nat) : State × Option Nat :=
  if reason = 4 && nbit s.host.hwtCtl.toNat 31 then
    match s.host.hubRequests.find? (fun r => r.1 = job && r.2.1 = v) with
    | some (_, _, 0) => (s, none)
    | some (_, _, why) =>
      (s.modHost (fun h => { h with hubRequests := h.hubRequests.filter (fun r => !(r.1 = job && r.2.1 = v)) }), some why)
    | none => ((s.modHost (fun h => { h with hubRequests := h.hubRequests ++ [(job, v, 0)] })).emit (.pageRequest hubTile v), none)
  else (s, some reason)

/-- The oldest operation of a stream that satisfies a test waits for the translation of an address (R198). -/
def State.opWaits (s : State) (L n : Nat) (f : Op → Bool) (v : Nat) : State :=
  let put := fun (o : Op) => { o with faultAddr := some (BitVec.ofNat 48 v) }
  s.modStream L n (fun x => { x with ops := modFirst f put x.ops })

/-- Word offset of the oldest operation of a stream that satisfies a test, as an event names it (R577). -/
def State.pcOf (s : State) (L n : Nat) (f : Op → Bool) : Nat :=
  match (s.stream L n).ops.find? f with
  | some o => o.pc.toNat
  | none => 0xFFFF

/-- What an access of an instruction that did not take place leads to (R178, R198, R469); `engine` is R206's number. -/
def State.accessErr (s : State) (L n engine : Nat) (f : Op → Bool) (e : AccessErr) : State :=
  match e with
  | .outside v => s.accessFault L n engine v
  | .poisoned => s.poisonedRead L n (s.pcOf L n f)
  | .xlat v reason =>
    match s.xlatFailed L v reason with
    | (s1, true) => s1.opWaits L n f v
    | (s1, false) => s1

/-- What writes that did not take place lead to: the access errors, a conflict (R295), or a full trick log (R285). -/
def State.writeErr (s : State) (L n engine : Nat) (f : Op → Bool) (r : WriteRes) : State :=
  match r with
  | .ok => s
  | .err e => s.accessErr L n engine f e
  | .conflict => s.revokeLocal L n 3 (s.pcOf L n f)
  | .full true => s.revokeLocal L n 4 (s.pcOf L n f)
  | .full false => s.modTrickOf L n (fun t => { t with capWait := true })

/-- A refused instruction: its event and the job fault (R105, R136, R174, R194, R311). -/
def State.refuse (s : State) (code L n : Nat) (pc : BitVec 16) (reason a : Nat) : State :=
  let job := match s.slotOfTile L with
    | some j => (s.job j).id.toNat
    | none => 0
  (s.raise code job (tsDetail L n pc.toNat reason a 0)).jobFault code

/-! ## The current work of a stream -/

/-- The stream's oldest operation that satisfies a test. -/
def Stream.findOp (x : Stream) (f : Op → Bool) : Option Op := x.ops.find? f

/-- The oldest such operation changed by `g`. -/
def State.modOp (s : State) (L n : Nat) (f : Op → Bool) (g : Op → Op) : State :=
  s.modStream L n (fun x => { x with ops := modFirst f g x.ops })

/-- The oldest such operation completes: it leaves the stream and its signal takes effect, unless a replay suppresses it (R147, R162, R164). -/
def State.finishOp (s : State) (L n : Nat) (f : Op → Bool) : State :=
  match takeFirst f (s.stream L n).ops with
  | none => s
  | some (o, r) =>
    let s1 := s.modStream L n (fun x => { x with ops := r })
    if o.mute then s1 else s1.signalHandle L n (bits o.word 14 6)

/-- The current step number that Shuffle takes for a job (R67). -/
def State.shuffleStep (s : State) (slot : Nat) : Word := (s.job slot).step

/-- Micro-batch that Shuffle takes from a tag (R67): stores of the update pass use 0x10_0000. -/
def shuffleMb (t : Tag) : Word := if tagPass t = 2 then 0x100000 else BitVec.ofNat 32 (tagMb t)

/-- The 16-bit draw of an element (R64, R67). -/
def State.draw (s : State) (slot : Nat) (t : Tag) (tensor index : Nat) : Nat :=
  shuffle (s.job slot).seed (s.shuffleStep slot) (shuffleMb t) (BitVec.ofNat 32 tensor) (BitVec.ofNat 32 index)

/-- What a demand fetch of the hub gives: bytes, a wait for a page request, or a failure (R198). -/
inductive HubRead where
  | ok (bs : List Byte)
  | waits
  | failed (v reason : Nat)

/-- The hub reads bytes of the host window under a job ID, through the host fetch buffer (R198, R200). -/
def State.hubRead (s : State) (job v n : Nat) : State × HubRead :=
  match translateAll job false (upFrom v n) s with
  | (s1, _, some (a, why)) =>
    match s1.hubFailed job a why with
    | (s2, none) => (s2, .waits)
    | (s2, some w) => (s2, .failed a w)
  | (s1, as, none) =>
    let s2 := (linesOf as).foldl (fun s l => s.fetchLine none l) s1
    (s2, .ok (as.map s2.hostByteAt))

/-- A read of a placed job's host window by the hub (R198). -/
def State.hubWindow (s : State) (slot v n : Nat) : State × HubRead :=
  match s.windowRead slot v n with
  | (s1, .ok bs) => (s1, .ok bs)
  | (s1, .error (a, why)) =>
    match s1.hubFailed (s.job slot).id.toNat a why with
    | (s2, none) => (s2, .waits)
    | (s2, some w) => (s2, .failed a w)

end Sys2Proof.Machine
end

