-- ==== Sys2Proof/Machine/Operands.lean ====
section
/-! DEFINITION. Operands.lean: the operand forms: the instruction word (R146 to R148), format codes (R92, R150), tensor descriptors
(R150, R151), version windows (R263) and declared extents (R195, R272). -/
namespace Sys2Proof.Machine

/-! ## The instruction word (R146 to R148) -/

/-- Opcode, wait handle and signal handle (R146). -/
def insOp (w : Nat) : Nat := nbits w 0 8
def insWait (w : Nat) : Nat := nbits w 8 6
def insSig (w : Nat) : Nat := nbits w 14 6

/-- The operand fields of each opcode, as (low bit, width) (R148, R287); none for a reserved opcode (R147). -/
def operandFields (op : Nat) : Option (List (Nat × Nat)) :=
  match op with
  | 0x00 => some []
  | 0x01 => some []
  | 0x02 => some [(32, 16)]
  | 0x03 => some [(24, 2), (32, 16)]
  | 0x04 => some [(24, 2), (32, 24)]
  | 0x05 => some [(24, 2), (32, 16)]
  | 0x06 => some []
  | 0x10 => some [(24, 5), (32, 92)]
  | 0x11 => some [(24, 8), (32, 22)]
  | 0x18 => some [(24, 1), (32, 16)]
  | 0x20 => some [(24, 3), (32, 16)]
  | 0x21 => some [(24, 8), (32, 17), (52, 12)]
  | 0x30 => some [(24, 2)]
  | 0x31 => some [(24, 1)]
  | 0x32 => some [(24, 1)]
  | _ => none

/-- Whether every bit of a word from bit 24 up lies in one of its opcode's fields (R148). -/
def operandsClean (w : Nat) (fields : List (Nat × Nat)) : Bool :=
  (w >>> 24) <<< 24 == fields.foldl (fun a f => a + nbits w f.1 f.2 * 2 ^ f.1) 0

def isTrickOp (op : Nat) : Bool := op == 0x30 || op == 0x31 || op == 0x32

/-- The opcode check of R174 code 1. -/
def opcodeBad (w : Nat) : Bool :=
  match operandFields (insOp w) with
  | none => true
  | some fs => nbits w 20 4 != 0 || (!isTrickOp (insOp w) && !operandsClean w fs)

/-- Branch target of JMP, LOOP and BRTAG. -/
def insTarget (w : Nat) : Nat := nbits w 32 16

/-- Tensor, DMA or loop descriptor offset in scratch, in bytes. -/
def insDesc (w : Nat) : Nat := nbits w 32 16 * 64

/-! ## Formats (R92, R150) -/

/-- Format of a code of R92, extended with INT32. -/
def fmtOfCode (c : Nat) : Option Fmt :=
  match c with
  | 0 => some .fp32
  | 1 => some .bf16
  | 2 => some .fp16
  | 3 => some .e4m3
  | 4 => some .e5m2
  | 5 => some .e2m1
  | 6 => some .e2m3
  | 7 => some .e3m2
  | 8 => some .int8
  | 9 => some .int32
  | _ => none

/-- Elements that lie together in one addressed unit: an element, or an MX block of 32 (R52). -/
def Fmt.unitElems (f : Fmt) : Nat := if f.isMx then 32 else 1

/-- Bytes of such a unit. -/
def Fmt.unitBytes (f : Fmt) : Nat := if f.isMx then 1 + 4 * f.width else f.width / 8

/-- The values that a unit's bytes hold. -/
def Fmt.decodeUnit (f : Fmt) (bs : List Byte) : List Num :=
  if f.isMx then
    let scale := leAt bs 0 1
    let bits := leNat (bs.drop 1)
    (List.range 32).map (fun i => mxDecode f scale (nbits bits (i * f.width) f.width))
  else [f.decode (leNat bs)]

/-- An MX block as bytes (R52). -/
def mxBytes (f : Fmt) (scale : Nat) (els : List Nat) : List Byte :=
  BitVec.ofNat 8 scale :: leBytes (4 * f.width)
    ((els.zip (List.range els.length)).foldl (fun a e => a + e.1 * 2 ^ (e.2 * f.width)) 0)

/-! ## Tensor descriptors (R150, R151) -/

/-- A tensor with its addresses resolved to a base: what R150's descriptor says. -/
structure Tensor where
  base : Int
  fmt : Fmt
  tensorId : Nat
  rnd : Nat
  ext : List Nat
  strides : List Int
  status : Nat
  /-- Its writes go to a version slot and are never staged (R266, R281). -/
  direct : Bool
  deriving DecidableEq, Repr

def Tensor.e (t : Tensor) (i : Nat) : Nat := t.ext.getD i 1

def Tensor.count (t : Tensor) : Nat := t.e 0 * t.e 1 * t.e 2 * t.e 3 * t.e 4

/-- Units along dimension 0, and in all. -/
def Tensor.rowUnits (t : Tensor) : Nat := t.e 0 / t.fmt.unitElems

def Tensor.units (t : Tensor) : Nat := t.rowUnits * t.e 1 * t.e 2 * t.e 3 * t.e 4

/-- Address of unit `u` in the loop order of R119 (R151). -/
def Tensor.unitAddr (t : Tensor) (u : Nat) : Int :=
  let i0 := u % t.rowUnits
  let r := u / t.rowUnits
  let i1 := r % t.e 1
  let i2 := r / t.e 1 % t.e 2
  let i3 := r / (t.e 1 * t.e 2) % t.e 3
  let i4 := r / (t.e 1 * t.e 2 * t.e 3)
  t.base + (i0 * t.fmt.unitBytes : Nat) + (i1 : Int) * t.strides.getD 0 0 + (i2 : Int) * t.strides.getD 1 0
    + (i3 : Int) * t.strides.getD 2 0 + (i4 : Int) * t.strides.getD 3 0

/-- Every byte address of the tensor, in loop order. -/
def Tensor.bytes (t : Tensor) : List Int :=
  ((List.range t.units).map (fun u => viewRange (t.unitAddr u) t.fmt.unitBytes)).flatten

/-- Size of the tensor packed without gaps (R151). -/
def Tensor.payload (t : Tensor) : Nat := t.units * t.fmt.unitBytes

/-- Declared extent [lo, hi] of loops over a base (R195). -/
def extentOf (base : Int) (rowBytes : Nat) (ext : List Nat) (strides : List Int) : Int × Int :=
  let term := fun (d : Nat) => strides.getD d 0 * ((ext.getD (d + 1) 1 : Int) - 1)
  let ds := [0, 1, 2, 3]
  (base + ds.foldl (fun a d => a + min 0 (term d)) 0,
   base + ds.foldl (fun a d => a + max 0 (term d)) 0 + (rowBytes : Int) - 1)

def Tensor.extent (t : Tensor) : Int × Int :=
  extentOf t.base (t.rowUnits * t.fmt.unitBytes) t.ext t.strides

/-- The case of R151 and R174 code 6 that a descriptor breaks. -/
def tensorBad (d : List Byte) : Bool :=
  let fmt := fmtOfCode (leAt d 8 1)
  let rank := leAt d 12 1
  let exts := (List.range 5).map (fun i => leAt d (16 + 2 * i) 2)
  leAt d 6 2 != 0 || fmt.isNone || decide (4 ≤ leAt d 9 1) || rank == 0 || decide (5 < rank) || decide (8 ≤ leAt d 13 1)
    || rndReserved (leAt d 13 1) || leAt d 14 2 != 0 || leAt d 26 2 != 0 || leAt d 54 2 != 0 || leAt d 56 8 != 0
    || exts.any (· == 0) || (exts.drop rank).any (· != 1)
    || (match fmt with
      | some f => f.isMx && exts.getD 0 0 % 32 != 0
      | none => false)

/-! ## Version windows (R263, R264) -/

/-- The base that a `version_rel` descriptor uses, and whether the window is the primary one: none when the base lies in no window of a
region of the job, the extent leaves the window, or the version is not in the state the window needs (R263). -/
def State.versionBase (s : State) (slot : Nat) (tag : Tag) (base lo hi : Int) : Option (Int × Bool) :=
  let j := s.job slot
  let regions := (List.range 256).filterMap (fun r =>
    let e := tget (0, 0) s.dealer.vregs r
    if nbit e.1.toNat 63 && bits e.1 48 12 = j.id.toNat then some (bits e.1 0 48, e.2.toNat * 256) else none)
  match regions.find? (fun r => decide ((r.1 : Int) ≤ base) && decide (base < (r.1 + 2 * r.2 : Nat))) with
  | none => none
  | some (b, d) =>
    let primary := decide (base < ((b + d : Nat) : Int))
    let w : Int := if primary then b else (b + d : Nat)
    if lo < w || w + (d : Int) ≤ hi then none
    else
      let entry :=
        if primary then j.versionEntry (tagVersion tag) (if tagPass tag = 2 then [1] else [2, 3])
        else if tagPass tag = 2 then j.versionEntry ((tagVersion tag + 255) % 256) [2]
        else none
      match entry with
      | none => none
      | some i => some (base - (if primary then 0 else (d : Int)) + ((i * d : Nat) : Int), primary)

/-- A tensor descriptor's meaning for an instruction (R150, R151, R263): none when `version_rel` names no allowed version. -/
def State.tensorOf (s : State) (slot : Nat) (tag : Tag) (d : List Byte) : Option Tensor :=
  let f := (fmtOfCode (leAt d 8 1)).getD .fp32
  let raw : Tensor :=
    { base := (leAt d 0 6 : Int), fmt := f, tensorId := leAt d 10 2, rnd := leAt d 13 1,
      ext := (List.range 5).map (fun i => leAt d (16 + 2 * i) 2),
      strides := (List.range 4).map (fun i => toSigned 32 (leAt d (28 + 4 * i) 4)),
      status := leAt d 48 6, direct := false }
  let pos : Int := if nbit (leAt d 9 1) 1 then (tagPos tag : Int) * toSigned 32 (leAt d 44 4) else 0
  if nbit (leAt d 9 1) 0 then
    let x := raw.extent
    match s.versionBase slot tag raw.base (x.1 + pos) (x.2 + pos) with
    | none => none
    | some (b, primary) => some { raw with base := b + pos, direct := primary && tagPass tag = 2 }
  else some { raw with base := raw.base + pos }

/-! ## Keep homes (R271, R272) -/

/-- The keep entries of a job whose home an extent lies in. -/
def State.keepsOf (s : State) (slot : Nat) (x : Int × Int) : List Nat :=
  (List.range 128).filter (fun k =>
    let e := tget {} s.dealer.keeps k
    e.valid && e.job = (s.job slot).id && decide ((e.home.toNat : Int) ≤ x.1)
      && decide (x.2 < (e.home.toNat + e.size.toNat * 256 : Nat)))

/-- Whether every keep entry that an instruction pins holds the version it reads (R272). -/
def State.keepsReady (s : State) (o : Op) : Bool :=
  o.pins.all (fun k =>
    let e := tget {} s.dealer.keeps k
    e.state = 1 && e.tag.toNat = tagVersion o.tag)

/-- Whether some instruction in flight pins a keep entry (R272). -/
def State.keepPinned (s : State) (k : Nat) : Bool :=
  s.tiles.any (fun t => t.2.streams.any (fun x => x.2.ops.any (fun o => o.pins.contains k)))

/-! ## The array's control registers (R103, R104) -/

/-- Bank mask of a stream (R103). -/
def Tile.bankMask (t : Tile) (n : Nat) : Nat := bits t.arrCtl (16 + 4 * n) 4

/-- Whether a write to TILE_ARR_CTL is discarded (R104). -/
def Tile.arrCtlBad (t : Tile) (v : Word) : Bool :=
  let m := fun (n : Nat) => bits v (16 + 4 * n) 4
  let p := [bits v 6 2, bits v 4 2, bits v 2 2]
  let shares := fun (a b : Nat) => (List.range 4).any (fun k => nbit (m a) k && nbit (m b) k)
  shares 0 1 || shares 0 2 || shares 1 2 || !([0, 1, 2].all (fun n => p.contains n)) || decide (2 ≤ bits v 30 2)
    || (List.range 3).any (fun n => (List.range 4).any (fun k =>
      nbit (t.bankMask n) k && !nbit (m n) k && (t.bank k).state ≠ .free))

/-- TILE_ARR_CTL written: the reserved bits read zero (R103, R104). -/
def Tile.writeArrCtl (t : Tile) (v : Word) : Tile :=
  if t.arrCtlBad v then { t with arrReject := true } else { t with arrCtl := v &&& 0xCFFFFFFE }

/-- TILE_ARR_WEIGHT written: the reserved bits read zero (R103). -/
def Tile.writeArrWeight (t : Tile) (v : Word) : Tile := { t with arrWeight := oneFor [(16, 8), (8, 8), (0, 8)] (v &&& 0x00FFFFFF) }

/-! ## The base check of R178 -/

/-- Whether a base address lies in the job view, in regions that an engine may reach. -/
def State.baseOk (s : State) (slot L : Nat) (allow : Region → Bool) (v : Int) : Bool :=
  match s.resolve slot L v with
  | some x => allow x.1
  | none => false

/-- The tile's own scratch and the stacked SRAM of its own stack (R91, R117). -/
def nearRegions (L : Nat) : Region → Bool
  | .scratch => true
  | .sram k => k = L / 32
  | _ => false

/-- What the tile DMA engine reaches (R192). -/
def dmaRegions : Region → Bool
  | _ => true

end Sys2Proof.Machine
end

