-- ==== Sys2Proof/Machine/Stream.lean ====
section
/-! DEFINITION. Stream.lean: the sequencers (R139 to R149, R156 to R158, R174): fetching an instruction, its checks and its wait at issue, and
the commands NOP, STOP, JMP, LOOP, LDLC, BRTAG, FENCE, WAIT_SATISFIED and SYNC, and the order in which engines take streams (R102). -/
namespace Sys2Proof.Machine

/-- Whether a handle's wait breaks R158 (R174 code 3); `kind` is the kind of the object it names, when that is allocated. -/
def waitBad (h : Handle) (kind : Option Nat) : Bool :=
  !h.valid || h.remote || waitKind h.waitOp != some h.kind || (match kind with
    | some k => k != h.kind
    | none => false)

/-- Whether a handle's signal breaks R158 (R174 code 3). -/
def sigBad (h : Handle) (kind : Option Nat) : Bool :=
  !h.valid || sigKind h.sigOp != some h.kind || (h.remote && h.waitOp != 0) || (match kind with
    | some k => !h.remote && k != h.kind
    | none => false)

/-- Kind of the object a local handle names: none when it lies outside the job's groups or is unallocated. -/
def State.handleKind (s : State) (slot : Nat) (h : Handle) : Option Nat :=
  match (s.job slot).objectOf h.object with
  | none => none
  | some o => if (s.obj o).kind = 3 then none else some (s.obj o).kind.toNat

/-- The header and control checks of an instruction at issue: the lowest reason of R174, from 1 to 5. -/
def State.issueBad (s : State) (slot L n w : Nat) : Option Nat :=
  let op := insOp w
  let x := s.stream L n
  let hw := s.handle L n (insWait w)
  let hs := s.handle L n (insSig w)
  let waits := insWait w ≠ 0
  let sigs := insSig w ≠ 0
  let base := bits x.prog 16 10 * 4096
  if opcodeBad w then some 1
  else if (op = 2 || op = 3 || op = 5) && decide (0x400000 < base + 16 * insTarget w + 16) then some 2
  else if (waits && waitBad hw (s.handleKind slot hw)) || (sigs && sigBad hs (s.handleKind slot hs)) then some 3
  else if (waits && (s.handleKind slot hw).isNone) || (sigs && !hs.remote && (s.handleKind slot hs).isNone) then some 4
  else if (op = 3 && tget 0 x.loops (nbits w 24 2) = 0) || (op = 4 && nbits w 32 24 = 0) then some 5
  else none

/-- The engine that executes an opcode (R147). -/
def engineOf (op : Nat) : Engine :=
  match op with
  | 0x10 => .array
  | 0x11 => .vector
  | 0x18 => .dma
  | 0x20 => .channel
  | 0x21 => .channel
  | 0x30 => .trick
  | 0x31 => .trick
  | 0x32 => .trick
  | _ => .seq

/-- Entries of an engine's queue for a stream (R143). -/
def queueDepth : Engine → Nat
  | .array => 4
  | .vector => 2
  | .dma => 8
  | .channel => 4
  | .trick => 2
  | .seq => 1

/-- Whether the queue of an engine for a stream is full. -/
def Stream.queueFull (x : Stream) (e : Engine) : Bool :=
  decide (queueDepth e ≤ (x.ops.filter (fun o => o.engine = e && o.phase = .queued)).length)

/-- FENCE, TOPEN and TCOMMIT issue only when every earlier instruction of the stream has completed (R166). -/
def issuesAlone (op : Nat) : Bool := op == 0x06 || op == 0x30 || op == 0x31

/-- Whether an accumulation of a stream is being recomputed: the stream holds its later instructions until that ends (R99). -/
def Tile.recomputing (t : Tile) (n : Nat) : Bool :=
  (upFrom 0 4).any (fun b => (t.bank b).stream = n && (t.bank b).recompute)

/-- What an attempt to issue gives: nothing issued, or the instruction word with its wait taken. -/
inductive Issue where
  | no (s : State)
  | go (s : State) (slot w : Nat)

/-- The sequencer of stream `n` of a package logical tile issues its next instruction, if it is one of the row `row`: fetch (R140), the
checks of R174, the wait (R158, R165) and the place in its engine's queue (R143). -/
def State.tryIssue (s : State) (L n : Nat) (row : Nat → Bool) : Issue :=
  let x := s.stream L n
  let at' := bits x.prog 16 10 * 4096 + 16 * x.pc.toNat
  match s.slotOfTile L with
  | none => .no s
  | some slot =>
    if x.state = .idle || x.state = .halt || x.issueHeld || s.engineHeld L || (s.tile L).recomputing n then .no s
    else if 0x400000 < at' + 16 then .no (s.refuse 0x0422 L n x.pc 2 0)
    else
      let r := s.scratchTouch L at' 16
      if r.2 then .no (r.1.poisonedRead L n x.pc.toNat)
      else
        let w := leNat (s.scratchRead L at' 16)
        match s.issueBad slot L n w with
        | some why => .no (r.1.refuse 0x0422 L n x.pc why (insOp w))
        | none =>
          if !row w then .no s
          else if issuesAlone (insOp w) && !x.ops.isEmpty then .no r.1
          else if insWait w ≠ 0 && !x.waitDone && !s.waitHolds L n (insWait w) then
            .no (r.1.modStream L n (fun x => { x with state := .wait, waitHandle := BitVec.ofNat 6 (insWait w) }))
          else if x.queueFull (engineOf (insOp w)) then
            .no (r.1.modStream L n (fun x => { x with state := .engine, waitHandle := 0 }))
          else
            .go (if insWait w ≠ 0 && !x.waitDone then r.1.waitTaken L n (insWait w) else r.1) slot w

/-- The stream goes on after an issue, at a program counter. -/
def State.advance (s : State) (L n : Nat) (pc : BitVec 16) : State :=
  s.modStream L n (fun x => { x with state := .run, waitHandle := 0, waitDone := false, pc := pc })

/-- The stream goes on at the next word; behind word 65,535 the 16-bit program counter wraps to 0 (log 141). -/
def State.advance1 (s : State) (L n : Nat) : State := s.advance L n ((s.stream L n).pc + 1)

/-- An issued instruction enters its engine's queue with the current tag (R141, R143); a replay suppresses its signal when it is one of the
first that it issues (R162), and work that issues inside a local trick stages (R280). -/
def State.enqueue (s : State) (L n w : Nat) (pins : List Nat) : State :=
  let x := s.stream L n
  let mute := s.suppresses L n (insSig w)
  let o : Op :=
    { engine := engineOf (insOp w), word := BitVec.ofNat 128 w, tag := x.tag, pc := x.pc, pins := pins, mute := mute,
      inTrick := (s.trickOf L n).isSome }
  ((if mute then s.countSuppressed L n else s).modStream L n (fun x => { x with ops := x.ops ++ [o] })).advance1 L n

/-- An instruction that its sequencer executes: it completes at issue, and its signal takes effect (R147). -/
def State.runSeq (s : State) (L n : Nat) (op : Nat) (f : State → Nat → State) : State :=
  match s.tryIssue L n (fun w => insOp w = op) with
  | .no s' => s'
  | .go s' _ w => (f s' w).signalAtIssue L n (insSig w)

/-- NOP (R147): a wait, a signal or nothing. -/
def execNop (tile : Fin 128) (stream : Fin 3) (s : State) : Host.Outcome State Fault Refusal :=
  .next (s.runSeq tile stream 0x00 (fun s _ => s.advance1 tile stream))

/-- STOP (R142): the stream goes to IDLE; what it issued still completes. -/
def execStop (tile : Fin 128) (stream : Fin 3) (s : State) : Host.Outcome State Fault Refusal :=
  .next (s.runSeq tile stream 0x01 (fun s _ =>
    (s.advance1 tile stream).modStream tile stream (fun x => { x with state := .idle })))

/-- JMP (R147). -/
def execJmp (tile : Fin 128) (stream : Fin 3) (s : State) : Host.Outcome State Fault Refusal :=
  .next (s.runSeq tile stream 0x02 (fun s w => s.advance tile stream (BitVec.ofNat 16 (insTarget w))))

/-- LOOP (R147, R149): the counter is decremented, and the stream jumps when it is not 0. -/
def execLoop (tile : Fin 128) (stream : Fin 3) (s : State) : Host.Outcome State Fault Refusal :=
  .next (s.runSeq tile stream 0x03 (fun s w =>
    let lc := nbits w 24 2
    let c := tget 0 (s.stream tile stream).loops lc - 1
    let s1 := s.modStream tile stream (fun x => { x with loops := tput x.loops lc c })
    if c = 0 then s1.advance1 tile stream else s1.advance tile stream (BitVec.ofNat 16 (insTarget w))))

/-- LDLC (R147, R148). -/
def execLdlc (tile : Fin 128) (stream : Fin 3) (s : State) : Host.Outcome State Fault Refusal :=
  .next (s.runSeq tile stream 0x04 (fun s w =>
    (s.modStream tile stream (fun x =>
      { x with loops := tput x.loops (nbits w 24 2) (BitVec.ofNat 24 (nbits w 32 24)) })).advance1 tile stream))

/-- BRTAG (R147): a jump when the current tag's pass equals `pass`. -/
def execBrtag (tile : Fin 128) (stream : Fin 3) (s : State) : Host.Outcome State Fault Refusal :=
  .next (s.runSeq tile stream 0x05 (fun s w =>
    if tagPass (s.stream tile stream).tag = nbits w 24 2 then s.advance tile stream (BitVec.ofNat 16 (insTarget w))
    else s.advance1 tile stream))

/-- FENCE (R147, R166): it issues when every earlier instruction has completed, and completes then. -/
def execFence (tile : Fin 128) (stream : Fin 3) (s : State) : Host.Outcome State Fault Refusal :=
  .next (s.runSeq tile stream 0x06 (fun s _ => s.advance1 tile stream))

/-- WAIT_SATISFIED (R154, R156, R165): a stream held on a wait that is now satisfied is released; a REACH target advances. -/
def execWaitSatisfied (tile : Fin 128) (stream : Fin 3) (s : State) : Host.Outcome State Fault Refusal :=
  let x := s.stream tile stream
  let h := x.waitHandle.toNat
  if x.state = .wait && s.waitHolds tile stream h then
    .next ((s.waitTaken tile stream h).modStream tile stream
      (fun x => { x with state := .run, waitHandle := 0, waitDone := true }))
  else .next s

/-! ## Remote signals (R160) -/

/-- Event 0x0424 (R577). -/
def State.signalDiscarded (s : State) (job object op reason : Nat) (src : BitVec 12) (step : Nat) : State :=
  s.raise 0x0424 job (object + op * 2 ^ 16 + reason * 2 ^ 20 + src.toNat * 2 ^ 24 + step * 2 ^ 36)

/-- A remote signal of the current step reaches its object, or is discarded with its reason (R160). -/
def State.applyRemote (s : State) (slot job object op arg : Nat) (src : BitVec 12) (step : Nat) : State :=
  match (s.job slot).objectOf object with
  | none => s.signalDiscarded job object op 2 src step
  | some o =>
    if (s.obj o).kind = 3 then s.signalDiscarded job object op 3 src step
    else match s.signalObj slot object op arg with
      | some s' => s'
      | none => s.signalDiscarded job object op 4 src step

/-- Entries of a stack's buffer of deferred signals (R160). -/
def deferredLimit : Nat := 256

/-- Whether a remote signal must be held and its stack's buffer is full: it stays where it is, so no TC0 credit is returned (R160). -/
def State.signalStays (s : State) (job step object : Nat) : Bool :=
  match s.findJob job with
  | none => false
  | some slot => later 20 step ((s.job slot).step.toNat % 2 ^ 20) && (match (s.job slot).objectOf object with
    | none => false
    | some o => decide (deferredLimit ≤ (s.stack (o / 16384)).deferred.length))

/-- The next place in the order of arrival of held signals. -/
def State.nextOrder (s : State) : Nat :=
  (((upFrom 0 4).map (fun k => (s.stack k).deferred)).flatten).foldl (fun a h => max a (h.order + 1)) 0

/-- A remote signal arrives (R160): applied, held for a later step, discarded as stale, or refused. -/
def State.remoteSignal (s : State) (job step object op arg : Nat) (src : BitVec 12) : State :=
  match s.findJob job with
  | none => s.signalDiscarded job object op 1 src step
  | some slot =>
    let c := (s.job slot).step.toNat % 2 ^ 20
    if step = c then s.applyRemote slot job object op arg src step
    else if later 20 step c then
      match (s.job slot).objectOf object with
      | none => s.signalDiscarded job object op 2 src step
      | some o =>
        s.modStack (o / 16384) (fun k => { k with deferred := k.deferred ++
          [⟨BitVec.ofNat 12 job, BitVec.ofNat 20 step, BitVec.ofNat 16 object, BitVec.ofNat 4 op, BitVec.ofNat 16 arg, src, s.nextOrder⟩] })
    else s.stat slot 19 1

/-- The held signals of a job after its step number has changed (R160): those of the new step applied in order of arrival, later ones
kept, earlier ones discarded and counted. -/
def State.releaseHeld (s : State) (slot : Nat) : State :=
  let j := s.job slot
  let c := j.step.toNat % 2 ^ 20
  let held := sortBy HeldSignal.order ((upFrom 0 4).map (fun k => (s.stack k).deferred)).flatten
  let mine := held.filter (fun h => h.job = j.id)
  let s1 := (upFrom 0 4).foldl (fun s k => s.modStack k (fun x =>
    { x with deferred := x.deferred.filter (fun h => h.job ≠ j.id || later 20 h.step.toNat c) })) s
  mine.foldl (fun s h =>
    if h.step.toNat = c then s.applyRemote slot h.job.toNat h.object.toNat h.op.toNat h.arg.toNat h.source h.step.toNat
    else if later 20 h.step.toNat c then s else s.stat slot 19 1) s1

/-! ## Taking a stream's work (R102, R114, R144) -/

/-- Streams of a tile in the priority order of TILE_ARR_CTL (R103). -/
def Tile.prio (t : Tile) : List Nat := [bits t.arrCtl 6 2, bits t.arrCtl 4 2, bits t.arrCtl 2 2]

def Tile.passedOf (t : Tile) (key n : Nat) : Nat := tget 0 (t.stream n).passed key

/-- The ready stream that the starvation guard chooses: the highest passed-over count that has reached the limit, the first in priority order
among equals (R102). -/
def Tile.starved (t : Tile) (key : Nat) (ready : List Nat) : Option Nat :=
  let lim := bits t.arrCtl 8 8
  if lim = 0 then none
  else (t.prio.filter (fun n => ready.contains n && decide (lim ≤ t.passedOf key n))).foldl (fun a n =>
    match a with
    | none => some n
    | some m => if t.passedOf key m < t.passedOf key n then some n else some m) none

/-- The stream that an engine takes next among the ready ones (R114, R144). -/
def Tile.pick (t : Tile) (key : Nat) (ready : List Nat) : Option Nat :=
  match t.starved key ready with
  | some n => some n
  | none => t.prio.find? (fun n => ready.contains n)

/-- Passed-over counts after a grant (R102). -/
def Tile.notePassed (t : Tile) (key : Nat) (ready : List Nat) (n : Nat) : Tile :=
  ready.foldl (fun t m => t.modStream m (fun x => { x with
    passed := tput x.passed key (if m = n then 0 else tget 0 x.passed key + 1) })) t

end Sys2Proof.Machine
end

