-- ==== Sys2Proof/Machine/Link.lean ====
section
/-! DEFINITION. Link.lean: Hethlink ports (R313 to R355, R574): link states, frames and control blocks, acknowledgement and replay, the kitty
and its credits, discovery, lanes, routing of packets that pass through, and the registers of a port. -/
namespace Sys2Proof.Machine

/-! ## Ports and halves (R313) -/

/-- `bifurcate` of a port, as half a's HL_CTL holds it. -/
def State.bifurcated (s : State) (p : Nat) : Bool := nbit (s.port (p - p % 2)).ctl.toNat 28

/-- Half b of an unbifurcated port does not exist (R350). -/
def State.portExists (s : State) (p : Nat) : Bool := p % 2 = 0 || s.bifurcated p

/-- Lanes of a port or half. -/
def State.laneMask (s : State) (p : Nat) : BitVec 8 := if s.bifurcated p then (if p % 2 = 0 then 0x0F else 0xF0) else 0xFF

def popCount (x : BitVec 8) : Nat := ((List.range 8).filter (fun i => x.getLsbD i)).length

/-- `min_lanes` as R316 and R350 read it. -/
def State.minLanes (s : State) (p : Nat) : Nat :=
  let v := max 1 (bits (s.port p).ctl 20 4)
  if s.bifurcated p then (v + 1) / 2 else v

/-- Blocks of a port's or half's kitty (R329), and of its replay buffer (R327). -/
def State.kittySize (s : State) (p : Nat) : Nat := if s.bifurcated p then 8192 else 16384

def State.replaySize (s : State) (p : Nat) : Nat := s.kittySize p / 2

/-! ## Kitty and credits (R329 to R331) -/

def kittyReset : Word := 0x20000200

def Port.reserve (q : Port) (c : Nat) : Nat := bits (tget kittyReset q.kittyClass c) 0 16

def State.kittyCap (s : State) (p c : Nat) : Nat := min (s.kittySize p) (bits (tget kittyReset (s.port p).kittyClass c) 16 16)

def Port.shareOf (q : Port) (c : Nat) : Nat := tget 0 q.share c

/-- The shared part less the sum of the shares. -/
def State.sharedFree (s : State) (p : Nat) : Nat :=
  let q := s.port p
  s.kittySize p - (q.reserve 0 + q.reserve 1 + q.reserve 2 + q.reserve 3)
    - (q.shareOf 0 + q.shareOf 1 + q.shareOf 2 + q.shareOf 3)

/-- Whether a class's `want` bit has been clear in every good control block of the last microsecond (R331). -/
def State.classIdle (s : State) (p c : Nat) : Bool :=
  match tfind (s.port p).wantAt c with
  | some t => decide (1 < s.now - t)
  | none => true

/-- Freed packets at the front of their class leave the list, and `freed` passes over them (R330). -/
def sweepKitty (blocked : List Nat) (freed : Tbl Word) : List KittyPkt → List KittyPkt × Tbl Word
  | [] => ([], freed)
  | k :: r =>
    let c := k.pkt.cls.toNat
    if k.freed && !blocked.contains c then
      sweepKitty blocked (tput freed c (tget 0 freed c + BitVec.ofNat 32 k.pkt.blocks)) r
    else
      let x := sweepKitty (c :: blocked) freed r
      (k :: x.1, x.2)

/-- `n` blocks of class `c` are freed: `released`, and an idle class's share given back (R331). -/
def State.creditFreed (s : State) (p c n : Nat) : State :=
  let give := if s.classIdle p c then min n ((s.port p).shareOf c) else 0
  s.modPort p (fun q =>
    let x := sweepKitty [] q.freed q.kitty
    { q with
      released := tput q.released c (tget 0 q.released c + BitVec.ofNat 32 n),
      share := tput q.share c (q.shareOf c - give), kitty := x.1, freed := x.2 })

/-- The first unfreed packet of a kitty that satisfies a test leaves it (R330). -/
def State.freeKitty (s : State) (p : Nat) (f : KittyPkt → Bool) : Option (Packet × State) :=
  let g := fun (k : KittyPkt) => !k.freed && f k
  match (s.port p).kitty.find? g with
  | none => none
  | some k =>
    let s1 := s.modPort p (fun q => { q with kitty := modFirst g (fun x => { x with freed := true }) q.kitty })
    some (k.pkt, s1.creditFreed p k.pkt.cls.toNat k.pkt.blocks)

/-- The oldest packet from a source that satisfies a test and is addressed to this package: from the package's own network, or from a
port's kitty, which it leaves (R330, R344). -/
def State.takePacket (s : State) (src : Src) (f : Packet → Bool) : Option (Packet × State) :=
  match src with
  | .noc => s.takeLocal f
  | .port p => s.freeKitty p (fun k => !k.pkt.hopLocal && k.pkt.dst = s.self && f k.pkt)

/-- Event 0x0708 for a delivered packet without a job or endpoint, and its count (R322, R353). -/
def State.noDestination (s : State) (src : Src) (p : Packet) : State :=
  match src with
  | .noc => (s.packetEvent 0x0708 0 p).statJob (tagJob p.tag) 32 1
  | .port q => ((s.packetEvent 0x0708 q p).portCount q 12 1).statJob (tagJob p.tag) 32 1

/-! ## Link state (R337, R338, R340) -/

/-- A link's protocol counters as it enters ALIGN (R326; log 13). -/
def Port.fresh (q : Port) : Port :=
  { q with
    expected := 0, nak := false, nakId := 0, rxLocked := false, peerLocked := false, kitty := [], released := [], freed := [],
    share := [], sent := [], limit := [], nextSeq := 0, replay := [], lastNak := 0, resend := [], replayTimes := [], txq := [],
    reorder := none, peerWant := 0, wantAt := [], restriping := false, regain := false, restoring := 0, nbr := none, placed := 0,
    hdrAt := none, hdrNext := none, markerDue := false, searching := false, rxRestripe := false }

/-- Event of a port whose detail holds the port and one more byte (R577). -/
def State.portEvent (s : State) (code p x : Nat) : State := s.raise code 0 (portDetail p + x * 2 ^ 8)

/-- The jobs of packets, each once. -/
def jobsOf (ps : List Packet) : List Nat := ((ps.filter (fun p => p.ptype.toNat ≠ ptIdentity)).map (fun p => tagJob p.tag)).dedup

/-- Whether a load's stream uses a port: the link to its upstream or downstream neighbour by the base routes (R436, R439). -/
def State.loadUses (s : State) (l : Load) (p : Nat) : Bool :=
  let port := fun (d : BitVec 12) => portOfCode (bits (tget routeReset s.originRoutes d.toNat) 24 5)
  (!l.tail && port l.down = some p) || (!l.head && port l.up = some p)

/-- Background loads whose stream uses a port that has left UP break (R436). -/
def State.breakLoads (s : State) (p : Nat) : State :=
  s.jobSlots.foldl (fun s n =>
    (upFrom 0 16).foldl (fun s i =>
      let l := tget {} (s.job n).loads i
      if l.active && l.background && s.loadUses l p then s.breakLoad n i 1 else s) s) s

/-- Every packet that a kitty still holds leaves it, and its blocks are freed (R330, R340). -/
def State.emptyKitty (s : State) (p : Nat) : State :=
  let held := (s.port p).kitty.filter (fun k => !k.freed)
  let s1 := s.modPort p (fun q => { q with kitty := q.kitty.map (fun k => { k with freed := true }) })
  held.foldl (fun s k => s.creditFreed p k.pkt.cls.toNat k.pkt.blocks) s1

/-- A port leaves UP for another state (R340): what it holds is discarded and counted, event 0x0702 is raised, and the jobs that lost a
packet have their open deck tricks revoked. -/
def State.leaveUp (s : State) (p cause : Nat) (st : LinkState) : State :=
  let q := s.port p
  let gone := (q.replay.map (·.pkt)) ++ ((q.kitty.filter (fun k => !k.freed)).map (·.pkt)) ++ q.txq
  let s1 := (s.emptyKitty p).modPort p (fun q => { q with
    state := st, replay := [], resend := [], txq := [], reorder := none, revokedJobs := [], relink := q.nbr.map (·.package) })
  let s2 := gone.foldl (fun s k => (s.portCount p 12 1).statJob (tagJob k.tag) 32 1) s1
  let s3 := s2.portEvent 0x0702 p cause
  let s4 := (jobsOf gone).foldl (fun s j => s.revokeForDiscard p j) s3
  s4.breakLoads p

/-- A port enters DOWN with a cause (R338). -/
def State.portDown (s : State) (p cause : Nat) : State :=
  let s1 := s.modPort p (fun q => { q with lastDown := BitVec.ofNat 4 cause })
  let s2 := if (s.port p).state = .up then s1.leaveUp p cause .down else s1
  s2.modPort p (fun q => { q with
    state := .down, nbr := none, restoring := 0, rxLocked := false, regain := false, restriping := false, markerDue := false, rxRestripe := false })

/-- Whether a port has fewer active lanes in a direction than `min_lanes` (R338). -/
def State.lanesLow (s : State) (p : Nat) : Bool :=
  decide (popCount (s.port p).rxLanes < s.minLanes p) || decide (popCount (s.port p).txLanes < s.minLanes p)

/-- An UP port with too few lanes enters DOWN (R338). -/
def State.checkLanes (s : State) (p : Nat) : State :=
  if (s.port p).state = .up && s.lanesLow p then s.portDown p 2 else s

/-- A port enters DETECT, or LOOPBACK at once when `loopback` is 1 (R338, R574). -/
def State.enterDetect (s : State) (p : Nat) : State :=
  s.modPort p (fun q =>
    if nbit q.ctl.toNat 27 then { q with state := .loopback, lbLanes := [] } else { q with state := .detect })

/-- PORT_ENABLE (R338). -/
def State.portEnable (s : State) (p : Nat) : State :=
  if s.portExists p then
    let s1 := s.modPort p (fun q => { q with ctl := putBits q.ctl 31 1 1 })
    if (s.port p).state = .disabled then s1.enterDetect p else s1
  else s

def execPortEnable (port : Fin 16) (s : State) : Host.Outcome State Fault Refusal := .next (s.fromHost (s.portEnable port))

/-- PORT_DISABLE (R338, R340): from any state. -/
def State.portDisable (s : State) (p : Nat) : State :=
  if s.portExists p then
    let s1 := s.modPort p (fun q => { q with ctl := putBits q.ctl 31 1 0 })
    let s2 := if (s.port p).state = .up then s1.leaveUp p 6 .disabled else s1
    s2.modPort p (fun q => { q with
      state := .disabled, nbr := none, restoring := 0, rxLocked := false, regain := false, restriping := false, markerDue := false, rxRestripe := false })
  else s

def execPortDisable (port : Fin 16) (s : State) : Host.Outcome State Fault Refusal := .next (s.fromHost (s.portDisable port))

/-! ## Identity (R334 to R336) -/

/-- The identity block of a port (R334). -/
def State.identityBlock (s : State) (p : Nat) : List Byte :=
  padTo 64 (leBytes 8 s.fuses.serial.toNat ++ leBytes 8 s.host.train.toNat ++ leBytes 2 s.host.package.toNat
    ++ [BitVec.ofNat 8 (p / 2 + p % 2 * 8 + b2n (s.bifurcated p) * 16), BitVec.ofNat 8 s.host.role.toNat,
      BitVec.ofNat 8 (tget 2 s.host.levels (if p < 8 then 9 else 10)), BitVec.ofNat 8 (popCount (s.port p).txLanes)]
    ++ leBytes 4 s.host.epoch.toNat)

def Identity.ofBlock (b : List Byte) : Identity :=
  { serial := BitVec.ofNat 64 (leAt b 0 8), trainId := BitVec.ofNat 64 (leAt b 8 8),
    package := BitVec.ofNat 12 (leAt b 16 2), port := BitVec.ofNat 3 (leAt b 18 1), half := nbit (leAt b 18 1) 3,
    bifurcated := nbit (leAt b 18 1) 4, role := BitVec.ofNat 2 (leAt b 19 1), level := BitVec.ofNat 8 (leAt b 20 1),
    lanes := BitVec.ofNat 8 (leAt b 21 1), epoch := BitVec.ofNat 32 (leAt b 22 4) }

/-- An IDENTITY packet waits for its first transmission at a port in DISCOVER, HELD or UP (R334). -/
def State.sendIdentity (s : State) (p : Nat) : State :=
  let st := (s.port p).state
  if st = .discover || st = .held || st = .up then
    let k : Packet :=
      { hopLocal := true, cls := 0, ptype := BitVec.ofNat 4 ptIdentity, src := s.self, dst := 0, tag := 0, last := true,
        payload := s.identityBlock p }
    s.modPort p (fun q => { q with txq := q.txq ++ [k] })
  else s

/-- The conditions of R335. -/
def State.mayCarry (s : State) (p : Nat) : Bool :=
  match (s.port p).nbr with
  | none => false
  | some n =>
    !nbit (s.port p).ctl.toNat 30 && n.trainId = s.host.train && s.host.train ≠ 0 && n.bifurcated = s.bifurcated p

/-- A port in DISCOVER or HELD is judged by R335: UP, or HELD with one event for each entry. -/
def State.judgePort (s : State) (p : Nat) : State :=
  let st := (s.port p).state
  if (st = .discover || st = .held) && (s.port p).nbr.isSome then
    if s.mayCarry p then (((s.modPort p (fun q => { q with state := .up, relink := none })).portEvent 0x0701 p 0).checkLanes p).sendOwed
    else if st = .held then s
    else (s.modPort p (fun q => { q with state := .held })).portEvent 0x0705 p 0
  else s

/-- The package's own identity has changed (R334, R335, R397). -/
def State.identityChanged (s : State) : State :=
  (upFrom 0 16).foldl (fun s p =>
    let s1 := s.sendIdentity p
    if (s1.port p).state = .held then s1.judgePort p else s1) s

/-- IDENTITY (R334 to R336): the oldest identity block in the port's kitty is consumed at the port. -/
def execIdentity (port : Fin 16) (s : State) : Host.Outcome State Fault Refusal :=
  let st := (s.port port).state
  if st = .discover || st = .held || st = .up then
    match s.freeKitty port (fun k => k.pkt.ptype.toNat = ptIdentity) with
    | none => .next s
    | some (k, s1) =>
      let n := Identity.ofBlock k.payload
      let s2 := s1.modPort port (fun q => { q with nbr := some n })
      if st = .up then .next (if (s.port port).nbr = some n then s2 else s2.portEvent 0x0706 port 0)
      else .next (s2.judgePort port)
  else .next s

/-- PORT_FENCE (R335, R338). -/
def State.portFence (s : State) (p : Nat) : State :=
  if s.portExists p then
    let s1 := s.modPort p (fun q => { q with ctl := putBits q.ctl 30 1 1 })
    if (s.port p).state = .up then (s1.leaveUp p 7 .held).portEvent 0x0705 p 0 else s1
  else s

def execPortFence (port : Fin 16) (s : State) : Host.Outcome State Fault Refusal := .next (s.fromHost (s.portFence port))

/-- PORT_UNFENCE (R335). -/
def State.portUnfence (s : State) (p : Nat) : State :=
  if s.portExists p then
    let s1 := s.modPort p (fun q => { q with ctl := putBits q.ctl 30 1 0 })
    if (s.port p).state = .held then s1.judgePort p else s1
  else s

def execPortUnfence (port : Fin 16) (s : State) : Host.Outcome State Fault Refusal := .next (s.fromHost (s.portUnfence port))

/-! ## Bringing a link up (R316, R338) -/

/-- SIGNAL_DETECT (R338): signal on the lanes of a mask. -/
def execSignalDetect (port : Fin 16) (lanes : BitVec 8) (s : State) : Host.Outcome State Fault Refusal :=
  if (s.port port).state = .detect && !s.pkg.thermtrip && decide (s.minLanes port ≤ popCount (lanes &&& s.laneMask port)) then
    .next (s.modPort port (fun q => { q with state := .train }))
  else .next s

/-- Training fails (R338). -/
def State.trainFailed (s : State) (p : Nat) : State := (s.portDown p 5).portEvent 0x070B p 0

/-- TRAINING_DONE (R316): the lanes that trained; too few of them are a failure. -/
def execTrainingDone (port : Fin 16) (rxLanes txLanes : BitVec 8) (s : State) : Host.Outcome State Fault Refusal :=
  let rx := rxLanes &&& s.laneMask port
  let tx := txLanes &&& s.laneMask port
  if (s.port port).state = .train then
    if popCount rx < s.minLanes port || popCount tx < s.minLanes port then .next (s.trainFailed port)
    else .next (s.modPort port (fun q =>
      { q.fresh with state := .align, rxLanes := rx, txLanes := tx, failedLanes := s.laneMask port &&& ~~~rx }))
  else .next s

/-- TRAINING_FAILED (R316, R338). -/
def execTrainingFailed (port : Fin 16) (s : State) : Host.Outcome State Fault Refusal :=
  if (s.port port).state = .train then .next (s.trainFailed port) else .next s

/-- ALIGN_LOCK (R338, R334): lock held at both ends. -/
def execAlignLock (port : Fin 16) (s : State) : Host.Outcome State Fault Refusal :=
  if (s.port port).state = .align then
    .next ((s.modPort port (fun q => { q with state := .discover, rxLocked := true, peerLocked := true })).sendIdentity port)
  else .next s

/-- ALIGN_TIMEOUT (R338). -/
def execAlignTimeout (port : Fin 16) (s : State) : Host.Outcome State Fault Refusal :=
  if (s.port port).state = .align then .next (s.portDown port 3) else .next s

/-- DISCOVER_TIMEOUT (R338). -/
def execDiscoverTimeout (port : Fin 16) (s : State) : Host.Outcome State Fault Refusal :=
  if (s.port port).state = .discover && (s.port port).nbr.isNone then .next (s.portDown port 8) else .next s

/-- FRAME_LOCK_LOST (R338, R341): the regain window starts. -/
def execFrameLockLost (port : Fin 16) (s : State) : Host.Outcome State Fault Refusal :=
  if (s.port port).state = .up && (s.port port).rxLocked then
    .next (s.modPort port (fun q => { q with rxLocked := false, regain := true }))
  else .next s

/-- FRAME_LOCK_REGAINED (R338). -/
def execFrameLockRegained (port : Fin 16) (s : State) : Host.Outcome State Fault Refusal :=
  if ((s.port port).state = .discover || (s.port port).state = .held || (s.port port).state = .up) && (s.port port).regain
      && !(s.port port).rxRestripe then
    .next (s.modPort port (fun q => { q with rxLocked := true, regain := false }))
  else .next s

/-- FRAME_LOCK_TIMEOUT (R338). -/
def execFrameLockTimeout (port : Fin 16) (s : State) : Host.Outcome State Fault Refusal :=
  if (s.port port).state = .up && (s.port port).regain then .next (s.portDown port 3) else .next s

/-- PEER_IDLE (R338). -/
def execPeerIdle (port : Fin 16) (s : State) : Host.Outcome State Fault Refusal :=
  let st := (s.port port).state
  if st = .train || st = .align || st = .discover || st = .held || st = .up then .next (s.portDown port 4) else .next s

/-- HOLDOFF_EXPIRY (R338). -/
def execHoldoffExpiry (port : Fin 16) (s : State) : Host.Outcome State Fault Refusal :=
  if (s.port port).state = .down && nbit (s.port port).ctl.toNat 29 then .next (s.enterDetect port) else .next s

/-- LOOPBACK_CHECKER_LOCK (R574). -/
def execLoopbackCheckerLock (port : Fin 16) (lane : Fin 8) (s : State) : Host.Outcome State Fault Refusal :=
  if (s.port port).state = .loopback && (s.laneMask port).getLsbD lane then
    .next (s.modPort port (fun q => { q with lbLanes := tput q.lbLanes lane (putBits (tget 0 q.lbLanes lane) 63 1 1) }))
  else .next s

/-! ## Frames, acknowledgement and replay (R325 to R328, R339, R342) -/

/-- `nak` is raised for a gap or a CRC failure, unless it is set (R326). -/
def Port.raiseNak (q : Port) : Port := if q.nak then q else { q with nak := true, nakId := q.nakId + 1 }

/-- Whether a port's frames carry packets: it is aligned. -/
def Port.aligned (q : Port) : Bool := q.state = .discover || q.state = .held || q.state = .up

/-- A replay starts: every packet in the replay buffer is to be sent again, and the error window is checked (R328, R339). -/
def State.startReplay (s : State) (p : Nat) : State :=
  let q := s.port p
  let window := max 1 (bits q.errCfg 8 16)
  let times := q.replayTimes.filter (fun t => decide (s.now - t ≤ window)) ++ [s.now]
  let s1 := (s.modPort p (fun q => { q with resend := q.replay, replayTimes := times })).portCount p 3 1
  if q.state = .up && decide (max 1 (bits q.errCfg 24 8) < times.length) then s1.portDown p 1 else s1

/-- Packets acknowledged at the front of a replay buffer leave it (R327, R328). -/
def purge (ack : Nat) (freed : Nat → Nat) : List ReplayPkt → List ReplayPkt
  | [] => []
  | r :: rs =>
    if !later 24 r.seq.toNat ack || !later 32 r.chargeEnd.toNat (freed r.pkt.cls.toNat) then purge ack freed rs else r :: rs

/-- What injection does to a packet or control block (R349). -/
inductive Injected where
  | none
  | drop
  | corrupt
  | reorder
  deriving DecidableEq, Repr

/-- Fault injection by register `t` on a unit with sequence number `seq`; `hit` is the rate trigger's choice (R349). -/
def Port.inject (q : Port) (t seq : Nat) (replayed hit : Bool) : Port × Injected :=
  let f := (tget 0 q.fi t).toNat
  if nbit f 63 && (!replayed || nbit f 57) then
    let act : Injected := match nbits f 61 2 with
      | 0 => .drop
      | 1 => .corrupt
      | _ => .reorder
    match nbits f 59 2 with
    | 0 => (q, if hit then act else .none)
    | 1 =>
      let left := tget 0 q.fiLeft t
      let clear := fun (q : Port) => { q with fi := tput q.fi t (putBits (tget 0 q.fi t) 63 1 0) }
      if left = 0 then (clear q, .none)
      else
        let q1 := { q with fiLeft := tput q.fiLeft t (left - 1) }
        (if left = 1 then clear q1 else q1, act)
    | _ => (q, if seq &&& nbits f 0 24 = nbits f 24 24 &&& nbits f 0 24 then act else .none)
  else (q, .none)

/-- Bytes of packet stream in a frame (R317). -/
def frameStream : Nat := 4168

/-- A packet's bytes join the stream of the port's next frame (R317, R325). -/
def State.place (s : State) (p : Nat) (r : ReplayPkt) (replayed : Bool) (damage : Damage) : State :=
  (s.modPort p (fun q => { q with
    placed := q.placed + 72 + r.pkt.payload.length,
    hdrAt := if q.hdrAt.isNone && decide (q.placed < frameStream) then some q.placed else q.hdrAt,
    hdrNext := if q.hdrNext.isNone && decide (frameStream ≤ q.placed) then some (q.placed - frameStream) else q.hdrNext })).emit
    (.packet p r.pkt r.seq replayed damage)

/-- The packet held by reorder injection is sent, unless the port holds its packets (R342, R349). -/
def State.sendReordered (s : State) (p : Nat) : State :=
  match (s.port p).reorder with
  | none => s
  | some r => if (s.port p).restriping then s else (s.modPort p (fun q => { q with reorder := none })).place p r.1 r.2 .none

/-- What corruption inverts a bit of: the header when `hdr` is 1 or the packet has no payload (R349). -/
def damageOf (f : Dword) (k : Packet) : Damage := if nbit f.toNat 58 || k.payload.isEmpty then .header else .payload

/-- A packet goes onto the wire, as injection lets it; a packet held for reordering follows it (R349). -/
def State.transmit (s : State) (p : Nat) (r : ReplayPkt) (replayed hit : Bool) : State :=
  let x := (s.port p).inject r.pkt.cls.toNat r.seq.toNat replayed hit
  let s1 := s.modPort p (fun _ => x.1)
  match x.2 with
  | .none => (s1.place p r replayed .none).sendReordered p
  | .drop => s1.portCount p 13 1
  | .corrupt =>
    ((s1.portCount p 13 1).place p r replayed (damageOf (tget 0 (s.port p).fi r.pkt.cls.toNat) r.pkt)).sendReordered p
  | .reorder =>
    if (s.port p).reorder.isSome then (s1.place p r replayed .none).sendReordered p
    else (s1.portCount p 13 1).modPort p (fun q => { q with reorder := some (r, replayed) })

/-- Replayed packets, the oldest first, while room is left in the frame's packet stream; the last may cross into the next frame (R317,
R328). -/
def State.sendReplays (s : State) (p : Nat) : List Bool → Nat → State
  | _, 0 => s
  | hits, n + 1 =>
    match (s.port p).resend with
    | [] => s
    | r :: rs =>
      if frameStream ≤ (s.port p).placed then s
      else State.sendReplays ((s.modPort p (fun q => { q with resend := rs })).transmit p r true (hits.headD false)) p hits.tail n

/-- Class `c` gets 256 blocks of the shared part when its sender wants credits and R331 lets it. -/
def State.grantShare (s : State) (p c : Nat) : State :=
  let q := s.port p
  if q.peerWant.getLsbD c && decide (256 ≤ s.sharedFree p) && decide (q.reserve c + q.shareOf c + 256 ≤ s.kittyCap p c) then
    s.modPort p (fun q => { q with share := tput q.share c (q.shareOf c + 256) })
  else s

/-- limit[c] of the next control block (R331). -/
def Port.limitOf (q : Port) (c : Nat) : Word := tget 0 q.released c + BitVec.ofNat 32 (q.reserve c + q.shareOf c)

/-- Credits left for first transmissions of class `c` (R328). -/
def Port.credits (q : Port) (c : Nat) : Nat := (tget 0 q.limit c - tget 0 q.sent c).toNat

/-- The packets of a class in a kitty that pass through, the oldest first, each with the port it is routed to; an IDENTITY packet is consumed
at the port that receives it (R344). -/
def State.transit (s : State) (p c : Nat) : List (Packet × Option Nat) :=
  let f := fun (k : KittyPkt) =>
    !k.freed && !k.pkt.hopLocal && k.pkt.ptype.toNat ≠ ptIdentity && k.pkt.cls.toNat = c && k.pkt.dst ≠ s.self
  ((s.port p).kitty.filter f).map (fun k =>
    (k.pkt, portOfCode (egressCode (tget routeReset (s.port p).routes k.pkt.dst.toNat) k.pkt)))

/-- The oldest of them that goes to an egress port: those to other ports do not hold it (R332). -/
def State.transitTo (s : State) (p c q : Nat) : Option Packet := ((s.transit p c).find? (fun e => e.2 = some q)).map (·.1)

/-- Whether a packet of class `c`, the package's own or one that passes through, waits for credits at a port (R325). -/
def State.wants (s : State) (p c : Nat) : Bool :=
  let lacks := fun (k : Packet) => decide ((s.port p).credits c < k.blocks)
  (match (s.port p).txq.find? (fun k => k.cls.toNat = c) with
    | some k => lacks k
    | none => false)
  || (upFrom 0 16).any (fun i => (s.transitTo i c p).any lacks)

/-- The control block of the frame that a port sends next (R325); `first_hdr` is where the first header of its stream begins. -/
def State.controlBlock (s : State) (p : Nat) : List Byte :=
  let q := s.port p
  let ack := (q.expected - 1).toNat
  let status := b2n q.nak + b2n q.rxLocked * 2 + q.nakId.toNat * 16
  let want := b2n (s.wants p 0) + b2n (s.wants p 1) * 2 + b2n (s.wants p 2) * 4 + b2n (s.wants p 3) * 8
  let firstHdr := q.hdrAt.getD 0xFFFF
  let b := leBytes 4 (ack + 15 * 2 ^ 24)
    ++ [BitVec.ofNat 8 status, BitVec.ofNat 8 want, q.rxLanes, 0] ++ leBytes 2 firstHdr ++ [0, 0]
    ++ ((upFrom 0 4).map (fun c => leBytes 4 (q.limitOf c).toNat)).flatten
    ++ ((upFrom 0 4).map (fun c => leBytes 4 (tget 0 q.freed c).toNat)).flatten ++ List.replicate 12 0
  b ++ leBytes 4 (crc32c b).toNat ++ [0, 0, 0, 0]

/-- The frame is finished: a re-stripe marker that is due goes out on the remaining lanes, and idle fill takes the place of the packets' bytes
that are left (R342). -/
def State.sendMarker (s : State) (p : Nat) : State :=
  if (s.port p).markerDue then
    (s.modPort p (fun q => { q with markerDue := false, placed := 0, hdrAt := none, hdrNext := none })).emit (.restripeMarker p (s.port p).txLanes)
  else s

/-- FRAME_TRANSMIT (R317, R325, R328, R331, R349): the frame leaves.  Replays fill what its packets leave of the stream, shares are granted,
the control block is formed, and idle units fill the rest; a packet that crosses the frame's end takes the first bytes of the next
(log 3). -/
def execFrameTransmit (port : Fin 16) (rateHits : List Bool) (s : State) : Host.Outcome State Fault Refusal :=
  let q := s.port port
  if (q.aligned || q.state = .align) && !s.pkg.thermtrip then
    let s0 := if q.aligned && !q.restriping then s.sendReplays port rateHits.tail 64 else s
    let s1 := (upFrom 0 4).foldl (fun s c => s.grantShare port c) s0
    let block := s1.controlBlock port
    let idle := (frameStream - (s1.port port).placed) / 8
    let x := (s1.port port).inject 4 0 false (rateHits.headD false)
    let s2 := s1.modPort port (fun _ => { x.1 with placed := x.1.placed - frameStream, hdrAt := x.1.hdrNext, hdrNext := none })
    .next ((match x.2 with
      | .none => s2.emit (.control port block idle .none)
      | .drop => s2.portCount port 13 1
      | _ => (s2.portCount port 13 1).emit (.control port block idle .header)).sendMarker port)
  else .next s

/-- CONTROL_BLOCK (R325, R327, R328, R342): limits, purging, then `nak`; a change of the partner's receive lanes re-stripes.  The
frame's codewords that the FEC corrected and could not correct are counted (R353).  In ALIGN a good block shows that frame lock is held here
(R338; log 150). -/
def execControlBlock (port : Fin 16) (frame : FrameEnd) (s : State) : Host.Outcome State Fault Refusal :=
  let q := s.port port
  let block := frame.block
  let s := if q.aligned || q.state = .align then (s.portCount port 9 frame.fec.1).portCount port 10 frame.fec.2 else s
  if !(q.aligned || q.state = .align) then .next s
  else if leAt block 56 4 ≠ (crc32c (block.take 56)).toNat || nbits (leAt block 0 4) 24 4 ≠ 15 then .next (s.portCount port 8 1)
  else
    let ack := leAt block 0 4 % 2 ^ 24
    let status := leAt block 4 1
    let want := leAt block 5 1 % 16
    let lanes : BitVec 8 := BitVec.ofNat 8 (leAt block 6 1) &&& s.laneMask port
    let freed := fun (c : Nat) => leAt block (28 + 4 * c) 4
    let limit := (upFrom 0 4).foldl (fun (t : Tbl Word) c =>
      let v := leAt block (12 + 4 * c) 4
      if later 32 v (tget 0 t c).toNat then tput t c (BitVec.ofNat 32 v) else t) q.limit
    let wantAt := (upFrom 0 4).foldl (fun (t : Tbl Nat) c => if nbit want c then tput t c s.now else t) q.wantAt
    let replay := purge ack freed q.replay
    let locked := nbit status 1
    let changed := q.aligned && lanes ≠ q.txLanes
    let s1 := s.modPort port (fun q => { q with
      limit := limit, wantAt := wantAt, peerWant := BitVec.ofNat 4 want, replay := replay, peerLocked := locked,
      rxLocked := q.rxLocked || q.state = .align, searching := q.searching && leAt block 8 2 = 0xFFFF,
      resend := q.resend.filter (fun r => replay.any (fun k => k.seq = r.seq)),
      txLanes := if changed then lanes else q.txLanes,
      restriping := if changed then true else q.restriping && (!locked || q.markerDue), markerDue := q.markerDue || changed })
    let s2 := if changed then s1.sendIdentity port else s1
    let s3 := if nbit status 0 && nbits status 4 4 ≠ q.lastNak.toNat then
        (s2.modPort port (fun q => { q with lastNak := BitVec.ofNat 4 (nbits status 4 4) })).startReplay port
      else s2
    .next (if changed then s3.checkLanes port else s3)

/-- REPLAY_TIMER (R328): it runs while the replay buffer holds a packet. -/
def execReplayTimer (port : Fin 16) (s : State) : Host.Outcome State Fault Refusal :=
  if (s.port port).aligned && !(s.port port).replay.isEmpty then .next (s.startReplay port) else .next s

/-! ## Arrival (R320, R323, R326) -/

/-- An accepted packet that goes no further: its blocks are released and it is counted (R320, R330). -/
def State.discardAccepted (s : State) (p : Nat) (k : Packet) : State :=
  match s.freeKitty p (fun x => x.pkt = k) with
  | some (_, s1) => s1.portCount p 12 1
  | none => s

/-- PACKET_ARRIVAL (R317, R320, R326, R330): the bytes of a packet as the port decodes them; after a header that it cannot trust, the port
skips the stream until a good control block shows where a header begins. -/
def execPacketArrival (port : Fin 16) (wire : List (BitVec 8)) (s : State) : Host.Outcome State Fault Refusal :=
  let q := s.port port
  if !(q.aligned && q.rxLocked) || q.searching then .next s
  else
    let h := wire.take 64
    let payload := (wire.drop 64).take (wire.length - 72)
    let trailer := wire.drop (wire.length - 8)
    let seq := leAt h 4 3
    let e := q.expected.toNat
    let bad := fun (i : Nat) => (s.portCount port i 1).modPort port Port.raiseNak
    if leAt h 56 4 ≠ (crc32c (h.take 56)).toNat then
      .next ((bad 4).modPort port (fun q => { q with searching := true }))
    else if leAt trailer 0 4 ≠ (crc32c payload).toNat || leAt trailer 4 3 ≠ seq
        || (headerCount h ≤ 64 && payload.length ≠ 64 * headerCount h) then .next (bad 5)
    else if seq = e then
      let k := Packet.ofHeader h payload (nbit (leAt trailer 7 1) 0)
      let s1 := (s.modPort port (fun q => { q with
        kitty := q.kitty ++ [{ pkt := k }], expected := q.expected + 1, nak := false })).portCount port 2 1
      if k.malformed (headerCount h) then .next ((s1.discardAccepted port k).packetEvent 0x070A port k)
      else if q.state ≠ .up && k.ptype.toNat ≠ ptIdentity then .next ((s1.discardAccepted port k).statJob (tagJob k.tag) 32 1)
      else .next s1
    else if later 24 e seq then .next (s.portCount port 6 1)
    else .next (bad 7)

/-- KITTY_STALL (R333): the packet stays. -/
def execKittyStall (port : Fin 16) (cls : Fin 4) (s : State) : Host.Outcome State Fault Refusal :=
  let f := fun (k : KittyPkt) => !k.freed && k.pkt.cls.toNat = cls.val && !k.stalled
  if (s.port port).kitty.any f then
    .next ((s.modPort port (fun q => { q with kitty := modFirst f (fun x => { x with stalled := true }) q.kitty })).portEvent
      0x0709 port 0)
  else .next s

/-! ## Sending (R327, R328, R332, R344, R349) -/

/-- Blocks held in a replay buffer. -/
def Port.replayBlocks (q : Port) : Nat := q.replay.foldl (fun a r => a + r.pkt.blocks) 0

/-- Whether a packet's credits and replay space are available (R327, R332). -/
def State.sendReady (s : State) (p : Nat) (k : Packet) : Bool :=
  let q := s.port p
  decide (k.blocks ≤ q.credits k.cls.toNat) && decide (q.replayBlocks + k.blocks ≤ s.replaySize p)

/-- Whether class `c` has a ready packet for an egress port (R332). -/
def State.classReady (s : State) (p c : Nat) : Bool :=
  (match (s.port p).txq.find? (fun k => k.cls.toNat = c) with
    | some k => s.sendReady p k
    | none => false)
  || (upFrom 0 16).any (fun i => (s.transitTo i c p).any (s.sendReady p))

/-- Packets per turn of TC1, TC2 and TC3 (R332). -/
def turnQuota (c : Nat) : Nat := if c = 3 then 1 else 4

/-- The class whose packet an egress port sends next (R332). -/
def State.nextClass (s : State) (p : Nat) : Option Nat :=
  let q := s.port p
  let after := fun (n : Nat) => (q.turn - 1 + n) % 3 + 1
  if s.classReady p 0 then some 0
  else
    ((if q.turnUsed < turnQuota q.turn then [q.turn] else []) ++ [after 1, after 2, after 3]).find? (s.classReady p)

/-- The rotation after a packet of class `c` (R332). -/
def Port.tookTurn (q : Port) (c : Nat) : Port :=
  if c = 0 then q
  else if c = q.turn && decide (q.turnUsed < turnQuota c) then { q with turnUsed := q.turnUsed + 1 }
  else { q with turn := c, turnUsed := 1 }

/-- A first transmission: credits charged, sequence number given, kept in the replay buffer and sent (R327, R328). -/
def State.firstSend (s : State) (p : Nat) (k : Packet) (hit : Bool) : State :=
  let q := s.port p
  let c := k.cls.toNat
  let sent := tget 0 q.sent c + BitVec.ofNat 32 k.blocks
  let r : ReplayPkt := { pkt := k, seq := q.nextSeq, chargeEnd := sent }
  let s1 := s.modPort p (fun q =>
    { (q.tookTurn c) with sent := tput q.sent c sent, nextSeq := q.nextSeq + 1, replay := q.replay ++ [r] })
  ((s1.portCount p 0 1).portCount p 1 k.blocks).transmit p r false hit

/-- Whether a port sends first transmissions: aligned, not re-striping, no replay is due, and the frame's packet stream has room (R317,
R328, R332, R342). -/
def Port.sending (q : Port) : Bool := q.aligned && !q.restriping && q.resend.isEmpty && decide (q.placed < frameStream)

/-- PACKET_FIRST_SEND (R327, R332, R349): the oldest waiting packet of a class, when R332 lets the class send. -/
def execPacketFirstSend (port : Fin 16) (cls : Fin 4) (rateHit : Bool) (s : State) : Host.Outcome State Fault Refusal :=
  if (s.port port).sending && !s.pkg.thermtrip && s.nextClass port = some cls.val then
    match takeFirst (fun k => k.cls.toNat = cls.val) (s.port port).txq with
    | none => .next s
    | some (k, r) =>
      if s.sendReady port k then .next ((s.modPort port (fun q => { q with txq := r })).firstSend port k rateHit) else .next s
  else .next s

/-- REORDER_TIMEOUT (R349). -/
def execReorderTimeout (port : Fin 16) (s : State) : Host.Outcome State Fault Refusal :=
  if s.pkg.thermtrip then .next s else .next (s.sendReordered port)

/-- The oldest packet of a class in a port's kitty that can pass on: it has no route, its egress port is not UP, or it is the oldest for its
egress port and that port sends it next (R332, R340, R344). -/
def State.passing (s : State) (p c : Nat) : Option (Packet × Option Nat) :=
  (s.transit p c).find? (fun e => match e.2 with
    | none => true
    | some q => (s.port q).state ≠ .up || (s.transitTo p c q = some e.1 && (s.port q).sending && !s.pkg.thermtrip && s.nextClass q = some c && s.sendReady q e.1))

/-- PACKET_FORWARD (R330, R344, R348): a packet of a class that can pass on is copied from a port's kitty into its egress port's replay
buffer, or discarded when it has no route or its egress is not UP. -/
def execPacketForward (port : Fin 16) (cls : Fin 4) (rateHit : Bool) (s : State) : Host.Outcome State Fault Refusal :=
  match s.passing port cls with
  | none => .next s
  | some (k, egress) =>
    let free := match s.freeKitty port (fun x => x.pkt = k) with
      | some (_, s1) => s1
      | none => s
    match egress with
    | none => .next (free.discardUnroutable port false k)
    | some q =>
      if (s.port q).state ≠ .up then .next (((free.dropPacket port k).loadPacketLost k).revokeForDiscard q (tagJob k.tag))
      else .next (free.firstSend q k rateHit)

/-! ## Lanes (R341 to R343) -/

/-- LANE_FAILURE (R341, R338). -/
def execLaneFailure (port : Fin 16) (lane : Fin 8) (s : State) : Host.Outcome State Fault Refusal :=
  let q := s.port port
  if (q.aligned || q.state = .align) && q.rxLanes.getLsbD lane then
    let bit : BitVec 8 := 1 <<< lane.val
    let s1 := s.modPort port (fun q => { q with
      rxLocked := false, regain := q.aligned, rxRestripe := q.aligned, rxLanes := q.rxLanes &&& ~~~bit,
      failedLanes := q.failedLanes ||| bit })
    .next (((s1.portCount port 11 1).portEvent 0x0703 port lane).checkLanes port)
  else .next s

/-- RESTRIPE_LOCK (R342): lock on the remaining lanes; `nak` is set with a new `nak_id`, as the example of R343 has it. -/
def execRestripeLock (port : Fin 16) (s : State) : Host.Outcome State Fault Refusal :=
  let q := s.port port
  if q.aligned && q.rxRestripe then
    .next (s.modPort port (fun q => { q with
      rxLocked := true, regain := false, rxRestripe := false, nak := true, nakId := q.nakId + 1 }))
  else .next s

/-- LANE_RESTORE (R343): each failed lane is equalised alone. -/
def State.laneRestore (s : State) (p : Nat) : State :=
  if (s.port p).aligned then s.modPort p (fun q => { q with restoring := q.failedLanes }) else s

def execLaneRestore (port : Fin 16) (s : State) : Host.Outcome State Fault Refusal := .next (s.fromHost (s.laneRestore port))

/-- LANE_RESTORED (R342, R343): a lane that has trained is added. -/
def execLaneRestored (port : Fin 16) (lane : Fin 8) (s : State) : Host.Outcome State Fault Refusal :=
  let q := s.port port
  if q.aligned && q.restoring.getLsbD lane then
    let bit : BitVec 8 := 1 <<< lane.val
    .next ((s.modPort port (fun q => { q with
      restoring := q.restoring &&& ~~~bit, failedLanes := q.failedLanes &&& ~~~bit, rxLanes := q.rxLanes ||| bit,
      rxLocked := false, regain := true, rxRestripe := true })).portEvent 0x0704 port lane)
  else .next s

/-! ## Registers (R345 to R351, R353) -/

/-- `cfg_reject` of a port is set (R350). -/
def State.portReject (s : State) (p : Nat) : State := s.modPort p (fun q => { q with reject := true })

/-- HL_CNT_CLR (R353). -/
def State.clearCounters (s : State) (p : Nat) : State := s.modPort p (fun q => { q with counters := [] })

def execHlCntClr (port : Fin 16) (s : State) : Host.Outcome State Fault Refusal := .next (s.fromHost (s.clearCounters port))

/-- Bits of HL_FI that take a write (R349). -/
def fiWritable : Dword := 0xFE00FFFFFFFFFFFF

/-- HL_FI_WRITE (R349). -/
def State.writeFi (s : State) (p t : Nat) (v : Dword) : State :=
  let mode := bits v 61 2
  let trig := bits v 59 2
  if mode = 3 || trig = 3 || (t = 4 && (mode = 2 || trig = 2)) then s.portReject p
  else s.modPort p (fun q => { q with fi := tput q.fi t (oneFor (if trig = 0 then [(24, 5)] else []) (v &&& fiWritable)), fiLeft := tput q.fiLeft t (bits v 24 24) })

def execHlFiWrite (port : Fin 16) (cls : Fin 5) (value : BitVec 64) (s : State) : Host.Outcome State Fault Refusal :=
  .next (s.fromHost (s.writeFi port cls value))

/-- Whether a route field may hold a code (R345). -/
def codeOk (c : Nat) : Bool := c < 16 || c = 0x1F

/-- Whether the deck of a job on this package uses a destination's route (R347). -/
def State.deckUses (s : State) (dest : Nat) : Bool :=
  s.jobSlots.any (fun n => (s.job n).deck.routes.any (fun r => r.dest.toNat = dest))

/-- RT_ENTRY_WRITE (R345, R347, R351): an entry of a port's ingress table, or of the origin table (none), whose refusals HL0 half a
records. -/
def State.writeRoute (s : State) (table : Option Nat) (dest : Nat) (v : Word) : State :=
  let old := match table with
    | some p => tget routeReset (s.port p).routes dest
    | none => tget routeReset s.originRoutes dest
  let new : Word := v &&& 0x1F1F1F00
  let banks := bits old 8 5 ≠ bits new 8 5 || bits old 16 5 ≠ bits new 16 5
  if !(codeOk (bits v 24 5) && codeOk (bits v 16 5) && codeOk (bits v 8 5)) || (banks && s.deckUses dest) then
    s.portReject (table.getD 0)
  else match table with
    | some p => s.modPort p (fun q => { q with routes := tput q.routes dest new })
    | none => { s with originRoutes := tput s.originRoutes dest new }

def execRtEntryWrite (table : Option (Fin 16)) (dest : Fin 4096) (value : BitVec 32) (s : State) :
    Host.Outcome State Fault Refusal :=
  .next (s.fromHost (s.writeRoute (table.map (·.val)) dest value))

/-- KITTY_CLASS_WRITE (R350). -/
def State.writeKittyClass (s : State) (p c : Nat) (v : Word) : State :=
  let q := s.port p
  let others := ((upFrom 0 4).filter (· ≠ c)).foldl (fun a i => a + q.reserve i) 0
  if !(q.state = .disabled || q.state = .down) || bits v 0 16 < 65 || bits v 16 16 < bits v 0 16
      || s.kittySize p / 2 < others + bits v 0 16 then s.portReject p
  else s.modPort p (fun q => { q with kittyClass := tput q.kittyClass c v })

def execKittyClassWrite (port : Fin 16) (cls : Fin 4) (value : BitVec 32) (s : State) : Host.Outcome State Fault Refusal :=
  .next (s.fromHost (s.writeKittyClass port cls value))

/-- A write of HL_CTL, 0 meaning that nothing of W1S is wanted (R313, R335, R338, R343, R350): the plain fields, then each change of
`enable` and `fence`, `lane_restore`, `loopback` of a port that waits in DETECT (R574), and `cnt_clr`. -/
def State.writeHlCtl (s : State) (p : Nat) (v : Word) : State :=
  if !s.portExists p then s
  else
    let old := (s.port p).ctl
    let halves := if (s.port p).state = .disabled && (s.port (p + 1)).state = .disabled && p % 2 = 0 then bits v 28 1 else bits old 28 1
    let plain := putBits (putBits (putBits (putBits old 0 16 (bits v 0 16)) 20 4 (bits v 20 4)) 27 3 (bits v 27 3)) 28 1 halves
    let s1 := s.modPort p (fun q => { q with ctl := oneFor [(20, 4), (0, 16)] plain, reject := q.reject && !nbit v.toNat 24 })
    let s2 := if nbit v.toNat 30 ≠ nbit old.toNat 30 then (if nbit v.toNat 30 then s1.portFence p else s1.portUnfence p) else s1
    let s3 := if nbit v.toNat 31 ≠ nbit old.toNat 31 then (if nbit v.toNat 31 then s2.portEnable p else s2.portDisable p) else s2
    let s4 := if nbit v.toNat 26 then s3.laneRestore p else s3
    let s5 := if (s4.port p).state = .detect then s4.enterDetect p else s4
    (if nbit v.toNat 25 then s5.clearCounters p else s5).checkLanes p

/-! ## SYNC (R160, R321) -/

/-- SYNC: a remote signal reaches this package. -/
def execSync (src : Src) (s : State) : Host.Outcome State Fault Refusal :=
  match s.takePacket src (fun p => p.ptype.toNat = ptSync
      && !s.signalStays (tagJob p.tag) (tagStep p.tag) (bits p.handle 0 16)) with
  | none => .next s
  | some (p, s1) =>
    .next (s1.remoteSignal (tagJob p.tag) (tagStep p.tag) (bits p.handle 0 16) (bits p.handle 16 4) (bits p.handle 20 16) p.src)

end Sys2Proof.Machine
end

