-- ==== Sys2Proof/Machine/Channel.lean ====
section
/-! DEFINITION. Channel.lean: channels (R237 to R259, R321, R322): opening and closing, ring and spill placement, SEND and RECV, head updates,
crossed sends and spill, and DATA and CHAN_CTL packets. -/
namespace Sys2Proof.Machine

/-! ## Endpoint fields (R239) -/

def Endpoint.valid (e : Endpoint) : Bool := nbit e.cfg.toNat 31
def Endpoint.isRecv (e : Endpoint) : Bool := nbit e.cfg.toNat 30
def Endpoint.vrefIn (e : Endpoint) : Bool := nbit e.cfg.toNat 29
def Endpoint.vrefOut (e : Endpoint) : Bool := nbit e.cfg.toNat 28
def Endpoint.maxUnits (e : Endpoint) : Nat := bits e.cfg 0 20
def Endpoint.peerPkg (e : Endpoint) : BitVec 12 := BitVec.ofNat 12 (bits e.peer 16 12)
def Endpoint.isDealer (e : Endpoint) : Bool := nbit e.peer.toNat 15
def Endpoint.peerChannel (e : Endpoint) : Nat := bits e.peer 0 12

/-- Ring and spill sizes in units, as a receive endpoint's registers give them (R239). -/
def Endpoint.ringOf (e : Endpoint) : Nat := 2 ^ (6 + bits e.cfg 24 4)

def Endpoint.spillOf (e : Endpoint) : Nat := if bits e.cfg 20 4 = 0 then 0 else 2 ^ (9 + bits e.cfg 20 4)

/-- Whether an endpoint may be received from: OPEN or CLOSING (R252). -/
def Endpoint.receives (e : Endpoint) : Bool := e.state = .opened || e.state = .closing

/-- An endpoint with every pointer 0 and spill mode off (R242, R302). -/
def Endpoint.restart (e : Endpoint) : Endpoint :=
  { e with
    spill := false, blocked := false, head := 0, take := 0, tail := 0, spillHead := 0, spillTake := 0, spillTail := 0, reported := 0,
    crossedWith := none, deadlockTimer := false, taken := [], retry := false }

/-! ## CHAN_CTL packets (R321) -/

def opOpen : Nat := 1
def opAccept : Nat := 2
def opRefuse : Nat := 3
def opClose : Nat := 4
def opHead : Nat := 5
def opBlocked : Nat := 6
def opSpillReq : Nat := 7
def opSpillEnd : Nat := 8

/-- A CHAN_CTL packet of a job to a channel. -/
def chanCtl (src dst : BitVec 12) (job step channel op reason srcChannel value ring spill : Nat) : Packet :=
  { cls := 0, ptype := BitVec.ofNat 4 ptChanCtl, src := src, dst := dst, tag := mkTag job 3 0 0 0 0 0 0 channel step, last := true,
    handle := BitVec.ofNat 64 channel,
    specific := mkSpec [(32, 1, op), (33, 1, reason), (34, 2, srcChannel), (36, 4, value), (40, 4, ring), (44, 4, spill)] }

/-- A CHAN_CTL packet from an endpoint of a job to its peer. -/
def State.tellPeer (s : State) (slot L e op value : Nat) : State :=
  let x := s.ep L e
  let j := s.job slot
  let mine := if op = opBlocked then L - 8 * j.first else j.channelOf L e
  s.originate (chanCtl s.self x.peerPkg j.id.toNat (j.step.toNat % 2 ^ 20) x.peerChannel op 0 mine value 0 0)

/-- The endpoint that a channel of a job names on this package, as (slot, tile, endpoint), when it is one of the job's (R322). -/
def State.endpointOf (s : State) (job channel : Nat) : Option (Nat × Nat × Nat) :=
  match s.findJob job with
  | none => none
  | some slot =>
    let j := s.job slot
    if channel / 32 < 8 * j.groups then
      let L := j.tileOfChannel channel
      if (s.ep L (channel % 32)).valid then some (slot, L, channel % 32) else none
    else none

/-- A CHAN_CTL packet with an operation is taken, with the endpoint it addresses; without one it is discarded (R322). -/
def State.takeChanCtl (s : State) (src : Src) (op : Nat) (f : State → Packet → Nat → Nat → Nat → State) : State :=
  match s.takePacket src (fun p => p.ptype.toNat = ptChanCtl && p.spec 32 1 = op) with
  | none => s
  | some (p, s1) =>
    match s1.endpointOf (tagJob p.tag) (bits p.handle 0 12) with
    | none => s1.noDestination src p
    | some (slot, L, e) => f s1 p slot L e

/-! ## Opening and closing (R241 to R244) -/

/-- A send endpoint sends OPEN (R242). -/
def State.sendOpen (s : State) (slot L e : Nat) : State :=
  (s.modEp L e (fun x => { x with state := .opening, retry := false })).tellPeer slot L e opOpen (s.ep L e).maxUnits

/-- Every channel of a placed job opens: those of the Dealer at once, the others by OPEN (R242). -/
def State.openChannels (s : State) (slot : Nat) : State :=
  (s.job slot).tiles.foldl (fun s L =>
    (upFrom 0 32).foldl (fun s e =>
      let x := s.ep L e
      if !x.valid then s
      else if x.isDealer then
        s.modEp L e (fun x => { x.restart with
          state := .opened, msgSeq := 0,
          ringUnits := BitVec.ofNat 32 (if x.isRecv then x.ringOf else 0),
          spillUnits := BitVec.ofNat 32 (if x.isRecv then x.spillOf else 0) })
      else if x.isRecv then s
      else s.sendOpen slot L e) s) s

/-- A channel's open fails (R242). -/
def State.openFailed (s : State) (slot L e reason : Nat) : State :=
  let x := s.ep L e
  let j := s.job slot
  let s1 := s.modEp L e (fun x => { x with state := .closed, retry := false })
  (s1.raise 0x0430 j.id.toNat (j.channelOf L e + L * 2 ^ 12 + reason * 2 ^ 24 + x.peerPkg.toNat * 2 ^ 32)).jobFault 0x0430

/-- The refusal reason of an OPEN, or none (R241).  A job is NOT_READY for the microseconds that its zeroing and loading take (log 15). -/
def State.openRefusal (s : State) (job channel srcChannel maxUnits : Nat) (src : BitVec 12) : Option Nat :=
  match s.findJob job with
  | none => some 1
  | some slot =>
    if (s.job slot).loadUs ≠ 0 then some 2
    else match s.endpointOf job channel with
    | none => some 3
    | some (_, L, e) =>
      let x := s.ep L e
      if !x.isRecv then some 3
      else if x.isDealer || x.peerPkg ≠ src || x.peerChannel ≠ srcChannel then some 4
      else if x.state ≠ .closed then some 5
      else if x.maxUnits < maxUnits || x.ringOf / 2 < maxUnits then some 6
      else none

/-- OPEN (R241, R242): answered with ACCEPT or REFUSE, never discarded (R322). -/
def execOpen (src : Src) (s : State) : Host.Outcome State Fault Refusal :=
  match s.takePacket src (fun p => p.ptype.toNat = ptChanCtl && p.spec 32 1 = opOpen) with
  | none => .next s
  | some (p, s1) =>
    let ch := bits p.handle 0 12
    let sch := p.spec 34 2 % 4096
    let answer := fun (op reason ring spill : Nat) =>
      chanCtl s.self p.src (tagJob p.tag) (tagStep p.tag) sch op reason ch 0 ring spill
    match s1.openRefusal (tagJob p.tag) ch sch (p.spec 36 4) p.src with
    | some r => .next (s1.originate (answer opRefuse r 0 0))
    | none =>
      match s1.endpointOf (tagJob p.tag) ch with
      | none => .next s1
      | some (_, L, e) =>
        let x := s1.ep L e
        .next ((s1.modEp L e (fun x => { x.restart with
          state := .opened, msgSeq := 0, ringUnits := BitVec.ofNat 32 x.ringOf, spillUnits := BitVec.ofNat 32 x.spillOf })).originate
          (answer opAccept 0 x.ringOf x.spillOf))

/-- ACCEPT (R242). -/
def execAccept (src : Src) (s : State) : Host.Outcome State Fault Refusal :=
  .next (s.takeChanCtl src opAccept (fun s p _ L e =>
    if (s.ep L e).state = .opening then
      s.modEp L e (fun x => { x.restart with
        state := .opened, msgSeq := 0, ringUnits := BitVec.ofNat 32 (p.spec 40 4), spillUnits := BitVec.ofNat 32 (p.spec 44 4) })
    else s))

/-- REFUSE (R242): a NO_JOB or NOT_READY is to be retried, any other reason fails the open. -/
def execRefuse (src : Src) (s : State) : Host.Outcome State Fault Refusal :=
  .next (s.takeChanCtl src opRefuse (fun s p slot L e =>
    let r := p.spec 33 1 % 8
    if (s.ep L e).state = .opening then
      let s1 := s.modEp L e (fun x => { x with refuse := BitVec.ofNat 3 r })
      if r = 1 || r = 2 then s1.modEp L e (fun x => { x with retry := true }) else s1.openFailed slot L e r
    else s))

/-- OPEN_RETRY (R242). -/
def execOpenRetry (tile : Fin 128) (ep : Fin 32) (s : State) : Host.Outcome State Fault Refusal :=
  match s.slotOfTile tile with
  | none => .next s
  | some slot =>
    let x := s.ep tile ep
    if x.state = .opening && x.retry then .next (s.sendOpen slot tile ep) else .next s

/-- OPEN_TIMEOUT (R242). -/
def execOpenTimeout (tile : Fin 128) (ep : Fin 32) (s : State) : Host.Outcome State Fault Refusal :=
  match s.slotOfTile tile with
  | none => .next s
  | some slot => if (s.ep tile ep).state = .opening then .next (s.openFailed slot tile ep 0) else .next s

/-- A closing receive endpoint whose records have all been taken and released reaches CLOSED and returns CLOSE (R244). -/
def State.finishClose (s : State) (slot L e : Nat) : State :=
  let x := s.ep L e
  if x.state = .closing && x.isRecv && x.head = x.tail && x.spillHead = x.spillTail then
    (s.modEp L e (fun x => { x with state := .closed })).tellPeer slot L e opClose 0
  else s

/-- The Dealer closes the channels of a job that ends: each send endpoint sends CLOSE behind its last message (R244). -/
def State.closeChannels (s : State) (slot : Nat) : State :=
  (s.job slot).tiles.foldl (fun s L =>
    (upFrom 0 32).foldl (fun s e =>
      let x := s.ep L e
      if x.valid && !x.isRecv && !x.isDealer && x.state = .opened then
        (s.modEp L e (fun x => { x with state := .closing })).tellPeer slot L e opClose 0
      else s) s) s

/-- CLOSE (R244). -/
def execClose (src : Src) (s : State) : Host.Outcome State Fault Refusal :=
  .next (s.takeChanCtl src opClose (fun s _ slot L e =>
    let x := s.ep L e
    if x.isRecv then
      if x.state = .opened then (s.modEp L e (fun x => { x with state := .closing })).finishClose slot L e else s
    else if x.state = .closing then s.modEp L e (fun x => { x with state := .closed })
    else s))

/-! ## Head updates and release (R249, R250, R256) -/

/-- A receive endpoint reports its released head to a remote sender (R249). -/
def State.reportHead (s : State) (slot L e : Nat) : State :=
  let h := (s.ep L e).head
  (s.modEp L e (fun x => { x with reported := x.head })).tellPeer slot L e opHead h.toNat

/-- What follows an advance of the released heads: an update at an eighth of the ring, the end of spill mode, the end of a close
(R244, R249, R256). -/
def State.afterRelease (s : State) (slot L e : Nat) : State :=
  let x := s.ep L e
  let s1 := if !x.isDealer && x.peerPkg ≠ s.self && x.head ≠ x.reported && decide (x.ringOf ≤ 8 * (x.head - x.reported).toNat) then
      s.reportHead slot L e
    else s
  let s2 := if x.spill && x.spillHead = x.spillTail then
      (s1.modEp L e (fun x => { x with spill := false })).tellPeer slot L e opSpillEnd x.spillHead.toNat
    else s1
  s2.finishClose slot L e

/-- The released records at the front of an endpoint's taken records free their space (R250). -/
def Endpoint.advanceHead (x : Endpoint) : Endpoint :=
  let gone := x.taken.takeWhile (·.released)
  match gone.getLast? with
  | none => x
  | some r => { x with head := r.take, spillHead := r.spillTake, taken := x.taken.drop gone.length }

/-- The records that a stream has taken from an endpoint are released (R250). -/
def State.releaseTaken (s : State) (slot L n e : Nat) : State :=
  let free := fun (r : TakenRec) => if r.stream = n then { r with released := true } else r
  (s.modEp L e (fun x => Endpoint.advanceHead { x with taken := x.taken.map free })).afterRelease slot L e

/-- At the end of a trick of a stream: everything it has taken is released (R250, R289). -/
def State.releaseAll (s : State) (slot L n : Nat) : State :=
  (upFrom 0 32).foldl (fun s e =>
    if (s.ep L e).taken.any (fun r => r.stream = n) then s.releaseTaken slot L n e else s) s

/-- HEAD_UPDATE (R249): cumulative. -/
def execHeadUpdate (src : Src) (s : State) : Host.Outcome State Fault Refusal :=
  .next (s.takeChanCtl src opHead (fun s p _ L e =>
    let x := s.ep L e
    let v := p.spec 36 4
    if !x.isRecv && later 32 v x.head.toNat then s.modEp L e (fun x => { x with head := BitVec.ofNat 32 v }) else s))

/-- HEAD_UPDATE_TIMER (R249). -/
def execHeadUpdateTimer (tile : Fin 128) (ep : Fin 32) (s : State) : Host.Outcome State Fault Refusal :=
  match s.slotOfTile tile with
  | none => .next s
  | some slot =>
    let x := s.ep tile ep
    if x.valid && x.isRecv && !x.isDealer && x.receives && x.peerPkg ≠ s.self && x.head ≠ x.reported then
      .next (s.reportHead slot tile ep)
    else .next s

/-! ## Records (R245, R246) -/

/-- The header of a record. -/
def recordHeader (kind flags units payload seq : Nat) (tag : Tag) (srcPkg srcCh : Nat) : List Byte :=
  padTo 64 (leBytes 2 kind ++ leBytes 2 flags ++ leBytes 4 units ++ leBytes 4 payload ++ leBytes 4 seq ++ leBytes 16 tag.toNat
    ++ leBytes 2 srcPkg ++ leBytes 2 srcCh)

/-- Units of a message with a payload of `n` bytes (R245). -/
def recordUnits (n : Nat) : Nat := 1 + (n + 63) / 64

/-- Where a message of `len` units goes in a ring of `size` units: the units of its pad, or none when it must wait (R246). -/
def placeIn (size : Nat) (tail head : Word) (len : Nat) : Option Nat :=
  let pad := ringPad size tail.toNat len
  if size - (tail - head).toNat < pad + len then none else some pad

/-- Bytes written into a ring or spill area of a receive endpoint at a unit offset; poisoned data marks its lines (R322, R323). -/
def State.writeArea (s : State) (slot L e : Nat) (spill poison : Bool) (off : Nat) (bs : List Byte) : State :=
  let x := s.ep L e
  let base := bits (if spill then x.spillBase else x.base) 0 48
  let cells := ((upFrom 0 bs.length).zip bs).filterMap (fun (c : Nat × Byte) =>
    match s.resolve slot L ((base + off * 64 + c.1 : Nat) : Int) with
    | some (_, a) => some (a, c.2)
    | none => none)
  let lines := linesOf (cells.map (·.1))
  let s1 := lines.foldl (fun s l => if isGddr (l * 64) then s.gddrAccess (some slot) l true false else s) s
  let s2 := s1.storeCells (some slot) cells
  if poison then lines.foldl (fun s l => s.setPoison l) s2 else s2

/-- The DATA packets of a record: at most 64 blocks each, in order (R321, R322). -/
def dataPackets (src dst : BitVec 12) (tag : Tag) (channel : Nat) (spill : Bool) (off units seq : Nat) (bytes : List Byte) :
    List Packet :=
  let parts := chunks 4096 (bytes.length + 1) bytes
  (parts.zip (List.range parts.length)).map (fun (c : List Byte × Nat) =>
    { cls := 2, ptype := BitVec.ofNat 4 ptData, src := src, dst := dst, tag := tag, last := decide (c.2 + 1 = parts.length),
      handle := BitVec.ofNat 64 channel,
      specific := mkSpec [(32, 4, off + 64 * c.2), (36, 4, units), (40, 4, seq), (44, 1, b2n spill)], payload := c.1 })

/-- DATA (R322): the blocks are written where the packet says; the record becomes visible with its last packet. -/
def execData (src : Src) (s : State) : Host.Outcome State Fault Refusal :=
  match s.takePacket src (fun p => p.ptype.toNat = ptData) with
  | none => .next s
  | some (p, s1) =>
    match s1.endpointOf (tagJob p.tag) (bits p.handle 0 12) with
    | none => .next (s1.noDestination src p)
    | some (slot, L, e) =>
      if !(s1.ep L e).isRecv then .next (s1.noDestination src p)
      else
        let spill := p.spec 44 1 = 1
        let s2 := s1.writeArea slot L e spill p.poison (p.spec 32 4) p.payload
        let units := BitVec.ofNat 32 (p.spec 36 4)
        if p.last then
          .next (s2.modEp L e (fun x =>
            if spill then { x with spillTail := x.spillTail + units, spill := true } else { x with tail := x.tail + units }))
        else .next s2

/-! ## SEND (R149, R246 to R248, R274) -/

/-- The tensor of a RECV or SEND whose descriptor lies in scratch: its bytes. -/
def State.descBytes (s : State) (L w : Nat) : List Byte := s.scratchRead L (insDesc w) 64

/-- The lowest misuse code of a SEND (R247, R274). -/
def Endpoint.sendMisuse (x : Endpoint) (units : Nat) : Option Nat :=
  if x.state ≠ .opened || !x.valid then some 1
  else if x.isRecv then some 2
  else if x.maxUnits < units then some 4
  else none

/-- Payload bytes of a SEND: a control-pass message has none (R245). -/
def sendPayload (o : Op) (t : Tensor) : Nat := if tagPass (sendTag o 0 0) = 3 then 0 else t.payload

/-- SEND (R149, R174, R247): issued to the channel unit. -/
def execSend (tile : Fin 128) (stream : Fin 3) (s : State) : Host.Outcome State Fault Refusal :=
  let L := tile.val
  let n := stream.val
  match s.tryIssue L n (fun w => insOp w = 0x21) with
  | .no s' => .next s'
  | .go s' slot w =>
    let x := s'.stream L n
    let r := s'.scratchTouch L (insDesc w) 64
    if r.2 then .next (r.1.poisonedRead L n x.pc.toNat)
    else
      let d := s'.descBytes L w
      if tensorBad d then .next (r.1.refuse 0x0422 L n x.pc 6 0x21)
      else match s'.tensorOf slot x.tag d with
        | none => .next (r.1.refuse 0x0422 L n x.pc 6 0x21)
        | some t =>
          let o : Op := { engine := .channel, word := BitVec.ofNat 128 w, tag := x.tag, pc := x.pc }
          match (s'.ep L (insEp w)).sendMisuse (recordUnits (sendPayload o t)) with
          | some c => .next (r.1.refuse 0x0433 L n x.pc c (insEp w))
          | none => .next (r.1.enqueue L n w (s'.keepsOf slot t.extent))

/-- The next instruction of a stream for the channel unit, when it is a RECV or SEND as asked (R144). -/
def Stream.channelHead (x : Stream) (op : Nat) : Option Op :=
  match x.ops.find? (fun o => o.engine = .channel && o.phase = .queued) with
  | some o => if bits o.word 0 8 = op then some o else none
  | none => none

def isQueuedChannel (o : Op) : Bool := o.engine = .channel && o.phase = .queued

def isStarted (op : Nat) (o : Op) : Bool := o.engine = .channel && o.phase = .started && bits o.word 0 8 = op

/-- The released head of a channel as its sender knows it: a local one is read at once (R249). -/
def State.knownHead (s : State) (slot : Nat) (x : Endpoint) : Word :=
  if x.peerPkg = s.self then
    match s.endpointOf (s.job slot).id.toNat x.peerChannel with
    | some (_, L, e) => (s.ep L e).head
    | none => x.head
  else x.head

/-! ## Select sets and the oldest record (R250, R252, R253) -/

/-- The members of a select set, as (member, endpoint) (R252). -/
def selMembers (sel : Dword) : List (Nat × Nat) :=
  ((upFrom 0 8).filter (fun k => nbit sel.toNat (48 + k))).map (fun k => (k, bits sel (5 * k) 5))

/-- A select set with `next` at its lowest valid member, as at a step start (R253). -/
def selRestart (sel : Dword) : Dword :=
  match selMembers sel with
  | [] => putBits sel 59 3 0
  | m :: _ => putBits sel 59 3 m.1

/-- The record header at a pointer of a ring or spill area. -/
def State.recordAt (s : State) (slot L e : Nat) (spill : Bool) (ptr : Word) : List Byte :=
  let x := s.ep L e
  let base := bits (if spill then x.spillBase else x.base) 0 48
  let size := if spill then x.spillOf else x.ringOf
  match s.resolve slot L ((base + ptr.toNat % size * 64 : Nat) : Int) with
  | some (_, a) => s.memRead a 64
  | none => List.replicate 64 0

/-- The oldest message from a pointer up to a tail, pads passed over (R250). -/
def State.seekRecord (s : State) (slot L e : Nat) (spill : Bool) : Nat → Word → Word → Option (Word × List Byte)
  | 0, _, _ => none
  | k + 1, ptr, tail =>
    if ptr = tail then none
    else
      let h := s.recordAt slot L e spill ptr
      if leAt h 0 2 = 2 then s.seekRecord slot L e spill k (ptr + BitVec.ofNat 32 (leAt h 4 4)) tail else some (ptr, h)

/-- The oldest record of a receive endpoint: the ring before the spill area (R250, R256). -/
def State.nextRecord (s : State) (slot L e : Nat) : Option (Bool × Word × List Byte) :=
  let x := s.ep L e
  match s.seekRecord slot L e false 2 x.take x.tail with
  | some (p, h) => some (false, p, h)
  | none =>
    match s.seekRecord slot L e true 2 x.spillTake x.spillTail with
    | some (p, h) => some (true, p, h)
    | none => none

/-- Lines of the record headers that the channel unit reads to take an endpoint's oldest message: the message's own, and those of the pads
that it passes over (R185, R250). -/
def State.headerLines (s : State) (slot L e : Nat) : List Nat :=
  let x := s.ep L e
  let at' := fun (spill : Bool) (ptr : Word) =>
    let base := bits (if spill then x.spillBase else x.base) 0 48
    match s.resolve slot L ((base + ptr.toNat % (if spill then x.spillOf else x.ringOf) * 64 : Nat) : Int) with
    | some (_, a) => [a / 64]
    | none => []
  let ring := if x.take = x.tail then [] else at' false x.take
  match s.nextRecord slot L e with
  | none => []
  | some (false, p, _) => (ring ++ at' false p).dedup
  | some (true, p, _) => (ring ++ at' true x.spillTake ++ at' true p).dedup

/-- The member that a RECV takes from (R253); the reserved policy takes from none (log 14). -/
def State.chooseMember (s : State) (slot L : Nat) (sel : Dword) : Option (Nat × Nat) :=
  let ms := selMembers sel
  let has := fun (m : Nat × Nat) => (s.nextRecord slot L m.2).isSome
  let next := bits sel 59 3
  match bits sel 62 2 with
  | 0 => ms.find? has
  | 1 => (ms.filter (fun m => decide (next ≤ m.1)) ++ ms.filter (fun m => decide (m.1 < next))).find? has
  | 2 => (ms.filter (fun m => m.1 = next)).find? has
  | _ => none

/-! ## The channel unit's order (R144) -/

/-- Where a stream's SEND goes: its payload's tensor, the tag of its message, the units of its record, whether it spills, and the units of
its pad, or none while it must wait for space (R246, R256). -/
structure SendPlan where
  tensor : Tensor
  tag : Tag
  len : Nat
  spill : Bool
  size : Nat
  tail : Word
  head : Word
  pad : Option Nat

/-- Whether the tensor of a RECV or SEND touches the host window (R182, R424). -/
def State.descOnHost (s : State) (slot L : Nat) (o : Op) : Bool :=
  match s.tensorOf slot o.tag (s.descBytes L o.word.toNat) with
  | some t => decide ((hostBase : Int) ≤ t.extent.2)
  | none => false

/-- The plan of a SEND; none when its descriptor names no allowed version. -/
def State.sendPlan (s : State) (slot L n : Nat) (o : Op) : Option SendPlan :=
  let x := s.ep L (insEp o.word.toNat)
  match s.tensorOf slot o.tag (s.descBytes L o.word.toNat) with
  | none => none
  | some t =>
    let trick := match s.trickOf L n with
      | some e => e.1
      | none => 0
    let tag := sendTag o x.peerChannel trick
    let len := recordUnits (if tagPass tag = 3 then 0 else t.payload)
    let spill := x.spill && x.spillUnits ≠ 0
    let size := if spill then x.spillUnits.toNat else x.ringUnits.toNat
    let tail := if spill then x.spillTail else x.tail
    let head := if spill then x.spillHead else s.knownHead slot x
    some ⟨t, tag, len, spill, size, tail, head, if x.isDealer then some 0 else placeIn size tail head len⟩

/-- Whether the channel unit can go on with a stream's next instruction: a SEND that has space or is not made again, a RECV with a record to
take (R144; log 149). -/
def State.chanReady (s : State) (slot L n : Nat) : Bool :=
  let x := s.stream L n
  match x.channelHead 0x21, x.channelHead 0x20 with
  | some o, _ => o.faultAddr.isNone && (decide (0 < x.pendingSends) || (s.keepsReady o && (s.host.attached || !s.descOnHost slot L o) && match s.sendPlan slot L n o with
    | some p => p.pad.isSome
    | none => true))
  | none, some o => o.faultAddr.isNone && (s.chooseMember slot L (tget 0 x.sels (nbits o.word.toNat 24 3))).isSome
  | none, none => false

/-- The streams that the channel unit can go on with, and the one that it takes (R144). -/
def State.chanStreams (s : State) (slot L : Nat) : List Nat := (List.range 3).filter (fun n => s.chanReady slot L n)

def State.chanTakes (s : State) (slot L n : Nat) : Bool := (s.tile L).pick 3 (s.chanStreams slot L) = some n

/-- The channel unit takes a stream's next instruction; the others that were ready are passed over (R102, R144). -/
def State.chanTake (s : State) (slot L n : Nat) : State := s.modTile L (fun t => t.notePassed 3 (s.chanStreams slot L) n)

/-! ## SEND_PLACE and SEND_COMPLETE -/

/-- A SEND whose space is found places its pad and its message, which counts as sent (R245, R246, R249, R259). -/
def State.placeSend (s : State) (slot L n : Nat) (o : Op) (p : SendPlan) (pad : Nat) : State :=
  let e := insEp o.word.toNat
  let x := s.ep L e
  let j := s.job slot
  let who : Who := ⟨slot, L, n, o.tag, o.inTrick⟩
  match s.engineRead who dmaRegions false (if tagPass p.tag = 3 then [] else p.tensor.bytes) with
  | (s1, .error err) => s1.accessErr L n 6 isQueuedChannel err
  | (s1, .ok bs) =>
    let s2 := s1.modTrickOf L n (fun t => { t with sends := t.sends + 1 })
    let seq := x.msgSeq.toNat
    let at' := p.tail + BitVec.ofNat 32 pad
    let header := recordHeader 1 (b2n p.spill) p.len bs.length seq p.tag s.self.toNat (j.channelOf L e)
    let packets :=
      (if pad = 0 then []
        else dataPackets s.self x.peerPkg p.tag x.peerChannel p.spill (p.tail.toNat % p.size) pad seq
          (recordHeader 2 (b2n p.spill) pad 0 seq p.tag s.self.toNat (j.channelOf L e)))
      ++ dataPackets s.self x.peerPkg p.tag x.peerChannel p.spill (at'.toNat % p.size) p.len seq
        (padTo (64 * p.len) (header ++ bs))
    let s3 := if x.isDealer then s2 else packets.foldl (fun s p => s.originate p) s2
    let tail' := at' + BitVec.ofNat 32 p.len
    let s4 := s3.modEp L e (fun x =>
      let y : Endpoint := { x with
        msgSeq := x.msgSeq + 1, msgs := satAdd x.msgs 1, bytes := satAdd x.bytes bs.length, blocked := false, crossedWith := none, deadlockTimer := false,
        head := if p.spill then x.head else p.head }
      if x.isDealer then y else if p.spill then { y with spillTail := tail' } else { y with tail := tail' })
    ((s4.stat slot 21 1).stat slot 22 bs.length).modOp L n isQueuedChannel (fun o => { o with phase := .started, recPtr := at', inSpill := p.spill, msgSeq := x.msgSeq })

/-- SEND_PLACE (R144, R246, R248, R250, R256): the channel unit takes the stream's SEND in its order, and places its pad and its message; a
send without space waits. -/
def execSendPlace (tile : Fin 128) (stream : Fin 3) (amb : Ambient) (s : State) : Host.Outcome State Fault Refusal :=
  let L := tile.val
  let n := stream.val
  let s := s.applyAmb amb
  match s.slotOfTile L, (s.stream L n).channelHead 0x21 with
  | some slot, some o =>
    if s.engineHeld L || o.faultAddr.isSome then .next s
    else if !s.chanReady slot L n then
      match s.sendPlan slot L n o with
      | some p =>
        .next (if s.keepsReady o then
          s.modEp L (insEp o.word.toNat) (fun x => { x with blocked := true, head := if p.spill then x.head else p.head }) else s)
      | none => .next s
    else if !s.chanTakes slot L n then .next s
    else
      let s1 := s.chanTake slot L n
      if 0 < (s.stream L n).pendingSends then
        .next ((s1.modOp L n isQueuedChannel (fun o => { o with phase := .started, replayed := true })).modStream L n
          (fun y => { y with pendingSends := y.pendingSends - 1 }))
      else
        let r := s1.scratchTouch L (insDesc o.word.toNat) 64
        if r.2 then .next (r.1.poisonedRead L n o.pc.toNat)
        else match s.sendPlan slot L n o with
          | none => .next (r.1.refuse 0x0422 L n o.pc 6 0x21)
          | some p =>
            match p.pad with
            | none => .next s
            | some pad => .next (r.1.placeSend slot L n o p pad)
  | _, _ => .next s

/-- SEND_COMPLETE (R147, R268): the payload has been read; the version reference is dropped and the signal takes effect. -/
def execSendComplete (tile : Fin 128) (stream : Fin 3) (s : State) : Host.Outcome State Fault Refusal :=
  let L := tile.val
  let n := stream.val
  match s.slotOfTile L, (s.stream L n).findOp (isStarted 0x21) with
  | some slot, some o =>
    let e := insEp o.word.toNat
    let x := s.ep L e
    let tag := sendTag o x.peerChannel 0
    let s1 := s.finishOp L n (isStarted 0x21)
    if !o.replayed && x.vrefOut && tagPass tag ≠ 3 then
      .next (s1.refChange L n o.pc (tagVersion tag) ((s.job slot).channelOf L e) false)
    else .next s1
  | _, _ => .next s

/-! ## RECV (R149, R250 to R253) -/

/-- The lowest misuse code of a RECV on a select set, with the endpoint it names (R252, R274). -/
def State.recvMisuse (s : State) (L : Nat) (sel : Dword) : Option (Nat × Nat) :=
  let ms := selMembers sel
  match ms.find? (fun m => !((s.ep L m.2).valid && (s.ep L m.2).receives)) with
  | some m => some (1, m.2)
  | none =>
    match ms.find? (fun m => !(s.ep L m.2).isRecv) with
    | some m => some (2, m.2)
    | none => if ms.isEmpty then some (3, 0) else none

/-- RECV (R149, R174, R252): issued to the channel unit; nothing more issues until it has taken its message. -/
def execRecv (tile : Fin 128) (stream : Fin 3) (s : State) : Host.Outcome State Fault Refusal :=
  let L := tile.val
  let n := stream.val
  match s.tryIssue L n (fun w => insOp w = 0x20) with
  | .no s' => .next s'
  | .go s' _ w =>
    let x := s'.stream L n
    let r := s'.scratchTouch L (insDesc w) 64
    if r.2 then .next (r.1.poisonedRead L n x.pc.toNat)
    else if tensorBad (s'.descBytes L w) then .next (r.1.refuse 0x0422 L n x.pc 6 0x20)
    else match s'.recvMisuse L (tget 0 x.sels (nbits w 24 3)) with
      | some c => .next (r.1.refuse 0x0433 L n x.pc c.1 c.2)
      | none => .next ((r.1.enqueue L n w []).modStream L n (fun x => { x with issueHeld := true }))

/-- A select set after a take from member `k` (R253). -/
def selAdvance (sel : Dword) (k : Nat) : Dword :=
  let ms := selMembers sel
  match bits sel 62 2 with
  | 0 => sel
  | _ =>
    match (ms.filter (fun m => decide (k < m.1)) ++ ms).head? with
    | some m => putBits sel 59 3 m.1
    | none => sel

/-- A RECV completes: its counts, its version reference, the release of its space, and its signal (R147, R250, R259, R268). -/
def State.finishRecv (s : State) (slot L n : Nat) (o : Op) (e bytes : Nat) : State :=
  let s1 := s.finishOp L n (isStarted 0x20)
  let fresh := if 0 < (s.stream L n).pendingTakes then 0 else 1
  let s2 := if (s.trickOf L n).isSome then s1.modTrickOf L n (fun t => { t with takes := t.takes + fresh }) else s1.releaseTaken slot L n e
  let s3 := s2.modEp L e (fun x => { x with msgs := satAdd x.msgs 1, bytes := satAdd x.bytes bytes })
  if 0 < (s.stream L n).pendingTakes then s3.modStream L n (fun x => { x with pendingTakes := x.pendingTakes - 1 })
  else if (s.ep L e).vrefIn && tagPass o.tag = 0 then
    s3.refChange L n o.pc (tagVersion o.tag) ((s.job slot).channelOf L e) true
  else s3

/-- RECV_TAKE (R144, R149, R250, R251, R253): the channel unit takes the stream's RECV in its order, and it takes the oldest record of the member its set chooses, whose endpoint
is charged with the RECV's wait (R259). -/
def execRecvTake (tile : Fin 128) (stream : Fin 3) (s : State) : Host.Outcome State Fault Refusal :=
  let L := tile.val
  let n := stream.val
  match s.slotOfTile L, (s.stream L n).channelHead 0x20 with
  | some slot, some o =>
    if s.engineHeld L || o.faultAddr.isSome || !s.chanTakes slot L n then .next s
    else
      let s := s.chanTake slot L n
      let w := o.word.toNat
      let si := nbits w 24 3
      let sel := tget 0 (s.stream L n).sels si
      match s.chooseMember slot L sel with
      | none => .next s
      | some (k, e) =>
        match s.nextRecord slot L e with
        | none => .next s
        | some (spill, ptr, h) =>
          let r0 := s.scratchTouch L (insDesc w) 64
          let r1 := touchReads (some slot) false (s.headerLines slot L e) r0.1
          let s := r1.1
          if r0.2 || r1.2 then .next (s.poisonedRead L n o.pc.toNat)
          else
          let tag : Tag := BitVec.ofNat 128 (leAt h 16 16)
          let bytes := leAt h 8 4
          let size := match s.tensorOf slot tag (s.descBytes L w) with
            | some t => some t.payload
            | none => none
          if tagPass tag ≠ 3 && size.isNone then .next (s.refuse 0x0422 L n o.pc 6 0x20)
          else if tagPass tag ≠ 3 && size ≠ some bytes then .next (s.refuse 0x0433 L n o.pc 5 e)
          else
            let after := ptr + BitVec.ofNat 32 (leAt h 4 4)
            let s1 := s.modEp L e (fun x =>
              let y : Endpoint := if spill then { x with spillTake := after } else { x with take := after }
              { y with taken := y.taken ++ [⟨n, y.take, y.spillTake, false⟩], rstall := satAdd y.rstall o.waited })
            let s2 := s1.modOp L n isQueuedChannel (fun o =>
              { o with phase := .started, takenEp := some e, recPtr := ptr, inSpill := spill, tag := tag })
            let s3 := s2.modStream L n (fun x => { x with
              tag := tag, issueHeld := false, sels := tput x.sels si (selAdvance sel k) })
            if tagPass tag = 3 then .next (s3.finishRecv slot L n { o with tag := tag } e bytes) else .next s3
  | _, _ => .next s

/-- RECV_COMPLETE (R147, R151, R280): the payload is written under the tensor descriptor. -/
def execRecvComplete (tile : Fin 128) (stream : Fin 3) (amb : Ambient) (s : State) : Host.Outcome State Fault Refusal :=
  let L := tile.val
  let n := stream.val
  let s := s.applyAmb amb
  match s.slotOfTile L, (s.stream L n).findOp (isStarted 0x20) with
  | some slot, some o =>
    let e := o.takenEp.getD 0
    let x := s.ep L e
    let r := s.scratchTouch L (insDesc o.word.toNat) 64
    if o.faultAddr.isSome || (!s.host.attached && s.descOnHost slot L o) then .next s
    else if r.2 then .next (r.1.poisonedRead L n o.pc.toNat)
    else match s.tensorOf slot o.tag (s.descBytes L o.word.toNat) with
    | none => .next (r.1.refuse 0x0422 L n o.pc 6 0x20)
    | some t =>
      let base := bits (if o.inSpill then x.spillBase else x.base) 0 48
      let size := if o.inSpill then x.spillOf else x.ringOf
      let who : Who := ⟨slot, L, n, o.tag, o.inTrick⟩
      let src := viewRange ((base + o.recPtr.toNat % size * 64 + 64 : Nat) : Int) t.payload
      match r.1.engineRead who dmaRegions false src with
      | (s1, .error err) => .next (s1.accessErr L n 6 (isStarted 0x20) err)
      | (s1, .ok bs) =>
        match s1.engineWrite who dmaRegions false t.direct (t.bytes.zip bs) with
        | (s2, .ok) => .next (s2.finishRecv slot L n o e bs.length)
        | (s2, r) => .next (s2.writeErr L n 6 (isStarted 0x20) r)
  | _, _ => .next s

/-! ## Crossed sends and spill (R255 to R257) -/

/-- The units of the send that waits at an endpoint, if one does. -/
def State.waitingUnits (s : State) (slot L e : Nat) : Option Nat :=
  if !(s.ep L e).blocked then none
  else ((upFrom 0 3).filterMap (fun n =>
    match (s.stream L n).channelHead 0x21 with
    | some o =>
      if insEp o.word.toNat = e then
        match s.tensorOf slot o.tag (s.descBytes L o.word.toNat) with
        | some t => some (recordUnits (sendPayload o t))
        | none => none
      else none
    | none => none)).head?

/-- Whether a waiting send's channel can spill it (R257). -/
def Endpoint.canSpill (x : Endpoint) (units : Nat) : Bool :=
  x.spillUnits ≠ 0 && !x.spill && (placeIn x.spillUnits.toNat x.spillTail x.spillHead units).isSome

/-- A waiting send of this tile meets a blocked notice from the tile of its receive endpoint: the crossing is counted once, its channel
enters spill mode when it has a spill area, and when it cannot spill the deadlock timer runs (R255 to R257). -/
def State.cross (s : State) (slot L e units : Nat) (src : BitVec 12) (x : Nat) : State :=
  let y := s.ep L e
  let job := (s.job slot).id.toNat
  let new := y.crossedWith ≠ some (src, x)
  let detail := (s.job slot).channelOf L e + L * 2 ^ 12 + x * 2 ^ 32 + src.toNat * 2 ^ 48
  let s1 := if new then (s.raise 0x0431 job detail).stat slot 20 1 else s
  let stuck := !y.canSpill units
  s1.modEp L e (fun z => { z with
    crossedWith := some (src, x), spill := z.spill || z.spillUnits ≠ 0,
    deadlockTimer := z.deadlockTimer || (stuck && bits s.dealer.chanCtl 16 16 ≠ 0) })

/-- BLOCKED (R249, R255, R256). -/
def execBlocked (src : Src) (s : State) : Host.Outcome State Fault Refusal :=
  .next (s.takeChanCtl src opBlocked (fun s p slot L e =>
    let re := s.ep L e
    let x := p.spec 34 2 % 128
    let s1 := if re.isRecv && re.receives && !re.isDealer then s.reportHead slot L e else s
    let crossing := (upFrom 0 32).filter (fun i =>
      let y := s1.ep L i
      y.valid && !y.isRecv && y.blocked && !y.isDealer && y.peerPkg = p.src && y.peerChannel / 32 = x)
    let new := crossing.any (fun i => (s1.ep L i).crossedWith ≠ some (p.src, x))
    let s2 := crossing.foldl (fun s i =>
      match s.waitingUnits slot L i with
      | some u => s.cross slot L i u p.src x
      | none => s) s1
    if new && re.spillOf ≠ 0 then s2.tellPeer slot L e opSpillReq 0 else s2))

/-- SPILL_REQ (R256). -/
def execSpillReq (src : Src) (s : State) : Host.Outcome State Fault Refusal :=
  .next (s.takeChanCtl src opSpillReq (fun s _ _ L e =>
    let x := s.ep L e
    if !x.isRecv && x.state = .opened && x.spillUnits ≠ 0 then s.modEp L e (fun x => { x with spill := true }) else s))

/-- SPILL_END (R256): later messages return to the ring when nothing was spilled since. -/
def execSpillEnd (src : Src) (s : State) : Host.Outcome State Fault Refusal :=
  .next (s.takeChanCtl src opSpillEnd (fun s p _ L e =>
    let v : Word := BitVec.ofNat 32 (p.spec 36 4)
    if !(s.ep L e).isRecv then
      s.modEp L e (fun x => { x with spillHead := v, spill := x.spill && x.spillTail ≠ v })
    else s))

/-- BLOCKED_NOTICE_TIMER (R255). -/
def execBlockedNoticeTimer (tile : Fin 128) (ep : Fin 32) (s : State) : Host.Outcome State Fault Refusal :=
  match s.slotOfTile tile with
  | none => .next s
  | some slot =>
    let x := s.ep tile ep
    if x.valid && !x.isRecv && x.blocked then .next (s.tellPeer slot tile ep opBlocked 0) else .next s

/-- CHANNEL_DEADLOCK (R257). -/
def execChannelDeadlock (tile : Fin 128) (ep : Fin 32) (s : State) : Host.Outcome State Fault Refusal :=
  match s.slotOfTile tile with
  | none => .next s
  | some slot =>
    let x := s.ep tile ep
    if x.deadlockTimer && x.blocked then
      let c := x.crossedWith.getD (0, 0)
      let detail := (s.job slot).channelOf tile ep + tile * 2 ^ 12 + c.2 * 2 ^ 32 + c.1.toNat * 2 ^ 48
      .next ((s.raise 0x0432 (s.job slot).id.toNat detail).jobFault 0x0432)
    else .next s

/-- DEADLOCK_TIMER_STOP (R257): no blocked notice for 8 µs. -/
def execDeadlockTimerStop (tile : Fin 128) (ep : Fin 32) (s : State) : Host.Outcome State Fault Refusal :=
  .next (if (s.ep tile ep).deadlockTimer then
      s.modEp tile ep (fun x => { x with deadlockTimer := false, crossedWith := none })
    else s)

end Sys2Proof.Machine
end

