-- ==== Sys2Proof/Machine/Trick.lean ====
section
/-! DEFINITION. Trick.lean: local tricks (R276 to R298, R311): TOPEN, TCOMMIT and TREVOKE, their timeouts, and the hand-over of a trick to a
deck share. -/
namespace Sys2Proof.Machine

/-! ## Numeric contributions (R74, R293) -/

/-- The larger of two amax exponents. -/
def maxExp (a b : Option Int) : Option Int :=
  match a, b with
  | some x, some y => some (max x y)
  | none, y => y
  | x, none => x

/-- Published numeric contributions of a job (R74, R293, R529). -/
def State.addNumeric (s : State) (slot : Nat) (n : NumStatus) : State :=
  let s1 := (((((s.stat slot 0 n.ovf).stat slot 1 n.nanNew).stat slot 2 n.sat).stat slot 3 n.ftz).stat slot 4 n.nonfinite)
  s1.modJob slot (fun j => { j with amaxExp := maxExp j.amaxExp n.amaxExp })

/-- Contributions of a stream's stores: those of work that issued inside a trick are held with it, and go with one that has been discarded; the
others count at once (R293). -/
def State.recordNumeric (s : State) (L n slot : Nat) (inTrick : Bool) (x : NumStatus) : State :=
  if inTrick then s.modTrickOf L n (fun t => { t with num := t.num.merge x }) else s.addNumeric slot x

/-! ## Slots and records (R278, R284) -/

/-- The free trick slots (R278). -/
def State.freeSlots (s : State) : List Nat :=
  (upFrom 1 255).filter (fun i => !(s.trk.locals.any (fun e => e.1 = i)) && !(s.trk.shares.any (fun e => e.1 = i)))

/-- The free slot that the next trick receives: which one is left open (R279; log 16). -/
def State.freeSlot (s : State) : Option Nat := s.freeSlots[s.openBelow s.freeSlots.length]?

/-- Open local tricks of a stack's streams. -/
def State.stackTricks (s : State) (k : Nat) : Nat := (s.trk.locals.filter (fun e => e.2.tile / 32 = k)).length

/-! ## TOPEN (R287, R288, R311) -/

/-- Whether a trick instruction has a reserved operand bit set (R287, R311 code 6). -/
def trickOperandBad (w : Nat) : Bool :=
  match operandFields (insOp w) with
  | some fs => !operandsClean w fs
  | none => true

/-- Whether a stream holds a bank in ACCUMULATING or HELD, or a finished-tile-queue entry (R294, R311 code 3). -/
def Tile.carries (t : Tile) (n : Nat) : Bool :=
  (upFrom 0 4).any (fun b => (t.bank b).stream = n && ((t.bank b).state = .accumulating || (t.bank b).state = .held))
  || t.finQueue.any (fun f => f.stream = n)

/-- TOPEN (R288): a slot and a record are taken and the replay state recorded; without a free one it waits. -/
def execTopen (tile : Fin 128) (stream : Fin 3) (s : State) : Host.Outcome State Fault Refusal :=
  let L := tile.val
  let n := stream.val
  match s.tryIssue L n (fun w => insOp w = 0x30) with
  | .no s' => .next s'
  | .go s' slot w =>
    let x := s'.stream L n
    if (s'.trickOf L n).isSome then .next (s'.refuse 0x0304 L n x.pc 1 0x30)
    else if (s'.tile L).carries n then .next (s'.refuse 0x0304 L n x.pc 3 0x30)
    else if trickOperandBad w || (nbit w 25 && !nbit w 24) then .next (s'.refuse 0x0304 L n x.pc 6 0x30)
    else match s'.freeSlot with
      | none => .next s
      | some i =>
        if 64 ≤ s'.stackTricks (L / 32) then .next s
        else
          let t : Trick :=
            { tile := L, stream := n, deferred := nbit w 24, perMb := nbit w 25, job := (s'.job slot).id,
              step := BitVec.ofNat 20 (tagStep x.tag), mb := BitVec.ofNat 20 (tagMb x.tag), record := s'.replayState L n x.pc, since := s'.now }
          let s1 := ((s'.advance1 L n).signalAtIssue L n (insSig w)).nextOpen
          .next ((s1.modTrk (fun u => { u with locals := u.locals ++ [(i, t)] })).modStream L n (fun x => { x with trick := some i }))

/-! ## TCOMMIT (R285, R286, R289) -/

def isTrickOpIn (o : Op) : Bool := o.engine = .trick

/-- TCOMMIT (R289, R311): issued; the stream waits for its publication or hand-over. -/
def execTcommit (tile : Fin 128) (stream : Fin 3) (s : State) : Host.Outcome State Fault Refusal :=
  let L := tile.val
  let n := stream.val
  match s.tryIssue L n (fun w => insOp w = 0x31) with
  | .no s' => .next s'
  | .go s' _ w =>
    let pc := (s'.stream L n).pc
    match s'.trickOf L n with
    | none => .next (s'.refuse 0x0304 L n pc 2 0x31)
    | some (_, t) =>
      if nbit w 24 && !(t.deferred && t.perMb) then .next (s'.refuse 0x0304 L n pc 5 0x31)
      else if trickOperandBad w then .next (s'.refuse 0x0304 L n pc 6 0x31)
      else
        .next (((s'.enqueue L n w []).modStream L n (fun x => { x with issueHeld := true })).modTrickOf L n
          (fun t => { t with committing := true, vote := nbit w 24 }))

/-- The 32-bit step of a deck trick of a job whose tag holds its low 20 bits (R277). -/
def Job.fullStep (j : Job) (low : Nat) : Word :=
  if j.step.toNat % 2 ^ 20 = low then j.step else BitVec.ofNat 32 low

/-- Attempt number of an open deck trick of a job. -/
def Job.attemptOf (j : Job) (isPass : Bool) (mb : BitVec 20) : BitVec 8 :=
  if isPass then
    match j.passes.find? (fun p => p.mb = mb) with
    | some p => p.attempt
    | none => 0
  else match j.run with
    | some r => r.attempt
    | none => j.attempt

/-- A deck share of a key is opened in a slot unless it holds one (R277, R278). -/
def State.openShare (s : State) (slot i : Nat) (isPass : Bool) (low : Nat) (mb : BitVec 20) : State :=
  let j := s.job slot
  match s.shareOf j.id.toNat isPass low mb.toNat with
  | some (k, _) =>
    let put := fun (e : Nat × Share) => (i, e.2)
    if k ≠ 0 then s
    else s.modTrk (fun u => { u with shares := modFirst (fun e => e.2.keyed j.id.toNat isPass low mb.toNat) put u.shares })
  | none =>
    let x : Share :=
      { job := j.id, step := j.fullStep low, mb := if isPass then mb else 0, isPass := isPass, attempt := j.attemptOf isPass mb }
    s.modTrk (fun u => { u with shares := u.shares ++ [(i, x)] })

/-- The share of a key changed by `f`. -/
def State.modShare (s : State) (job : Nat) (isPass : Bool) (low mb : Nat) (f : Share → Share) : State :=
  let put := fun (e : Nat × Share) => (e.1, f e.2)
  s.modTrk (fun u => { u with shares := modFirst (fun e => e.2.keyed job isPass low mb) put u.shares })

/-- Staged bytes merged over others: the later ones win (R283, R295). -/
def mergeStaged (old new : Tbl Byte) : Tbl Byte := new.foldl (fun (m : Tbl Byte) (c : Nat × Byte) => tput m c.1 c.2) old

/-- The stream's open trick hands its lines and contributions to its deck share, which it opens when none exists (R278, R289). -/
def State.handOver (s : State) (L n slot : Nat) : State :=
  match s.trickOf L n with
  | none => s
  | some (i, t) =>
    let at' := s.freeSlot.getD i
    let s1 := (s.dropTrick L n).nextOpen
    let s2 := s1.openShare slot at' t.perMb t.step.toNat t.mb
    s2.modShare t.job.toNat t.perMb t.step.toNat t.mb.toNat (fun x => { x with
      staged := mergeStaged x.staged t.staged, num := x.num.merge t.num, votes := if t.vote then satNat 8 x.votes 1 else x.votes })

/-- TCOMMIT_COMPLETE (R285, R286, R289, R292, R463): the lines are published or handed over, ring space is released, the trick ends, and the
TCOMMIT's signal takes effect.  An uncorrectable log entry revokes the trick instead. -/
def execTcommitComplete (tile : Fin 128) (stream : Fin 3) (logError : Bool) (s : State) : Host.Outcome State Fault Refusal :=
  let L := tile.val
  let n := stream.val
  match s.slotOfTile L, s.trickOf L n with
  | some slot, some (_, t) =>
    if !t.committing || s.engineStopped L then .next s
    else if logError then .next (s.revokeLocal L n 2)
    else
      let s1 := if t.deferred then s.handOver L n slot
        else (((s.publish slot t.staged).addNumeric slot t.num).dropTrick L n)
      let s2 := (s1.releaseAll slot L n).stat slot 25 1
      let s3 := (s2.finishOp L n isTrickOpIn).modStream L n (fun x => { x with
        issueHeld := false, pending := 0, pendingSends := 0, pendingTakes := 0 })
      .next (s3.modStream L n (fun x => { x with resume := s3.replayState L n x.pc }))
  | _, _ => .next s

/-! ## TREVOKE (R290, R311) -/

/-- TREVOKE with retry = 1 (R290, R291). -/
def execTrevokeRetry (tile : Fin 128) (stream : Fin 3) (s : State) : Host.Outcome State Fault Refusal :=
  let L := tile.val
  let n := stream.val
  match s.tryIssue L n (fun w => insOp w = 0x32 && nbit w 24) with
  | .no s' => .next s'
  | .go s' _ w =>
    let pc := (s'.stream L n).pc
    match s'.trickOf L n with
    | none => .next (s'.refuse 0x0304 L n pc 2 0x32)
    | some (i, _) =>
      if trickOperandBad w then .next (s'.refuse 0x0304 L n pc 6 0x32)
      else .next ((s'.noteRevoke L n 1 pc.toNat i).replay L n)

/-- TREVOKE with retry = 0 (R290): the trick is discarded and the stream continues behind the instruction. -/
def execTrevokeContinue (tile : Fin 128) (stream : Fin 3) (s : State) : Host.Outcome State Fault Refusal :=
  let L := tile.val
  let n := stream.val
  match s.tryIssue L n (fun w => insOp w = 0x32 && !nbit w 24) with
  | .no s' => .next s'
  | .go s' _ w =>
    let pc := (s'.stream L n).pc
    match s'.trickOf L n with
    | none => .next (s'.refuse 0x0304 L n pc 2 0x32)
    | some (i, t) =>
      if t.sends ≠ 0 || t.signals ≠ 0 then .next (s'.refuse 0x0304 L n pc 4 0x32)
      else if trickOperandBad w then .next (s'.refuse 0x0304 L n pc 6 0x32)
      else
        let s1 := (s'.noteRevoke L n 1 pc.toNat i).dropTrick L n
        .next (((s1.modTile L (fun x => x.returnTakes n)).advance1 L n).signalAtIssue L n (insSig w))

/-! ## Timeouts (R285, R297) -/

/-- The local trick in a slot. -/
def State.trickAt (s : State) (i : Nat) : Option Trick := (s.trk.locals.find? (fun e => e.1 = i)).map (·.2)

/-- LOCAL_TRICK_TIMEOUT (R297); a limit of 0 is none. -/
def execLocalTrickTimeout (slot : Fin 256) (s : State) : Host.Outcome State Fault Refusal :=
  match s.trickAt slot with
  | none => .next s
  | some t => if bits s.trk.ctl 24 8 = 0 then .next s else .next (s.revokeLocal t.tile t.stream 5)

/-- LOG_CAPACITY_TIMEOUT (R285). -/
def execLogCapacityTimeout (slot : Fin 256) (s : State) : Host.Outcome State Fault Refusal :=
  match s.trickAt slot with
  | none => .next s
  | some t => if t.capWait then .next (s.revokeLocal t.tile t.stream 4) else .next s

end Sys2Proof.Machine
end

