-- ==== Sys2Proof/Machine/Dma.lean ====
section
/-! DEFINITION. Dma.lean: the tile DMA engine (R144, R190 to R194). -/
namespace Sys2Proof.Machine

/-! ## Descriptors (R190, R191, R194) -/

/-- A DMA descriptor's fields (R190). -/
structure DmaDesc where
  src : List Byte
  dst : List Byte
  tmode : Nat
  accw : Bool
  bypass : Bool
  reserved : Bool
  deriving DecidableEq, Repr

/-- The DMA descriptor and the two tensor descriptors that an instruction names. -/
def State.dmaDesc (s : State) (L w : Nat) : DmaDesc :=
  let d := s.scratchRead L (insDesc w) 64
  let mode := leAt d 4 1
  { src := s.scratchRead L (leAt d 0 2 * 64) 64, dst := s.scratchRead L (leAt d 2 2 * 64) 64, tmode := mode % 4, accw := nbit mode 2,
    bypass := nbit mode 3, reserved := decide (16 ≤ mode) || (d.drop 6).any (· ≠ 0) }

/-- Where the source's elements may lie: a transposed one's in the stacked SRAM of the tile's own stack (R187, R192). -/
def DmaDesc.srcRegions (d : DmaDesc) (L : Nat) (r : Region) : Bool := if d.tmode ≠ 0 then decide (r = .sram (L / 32)) else dmaRegions r

/-- Where the destination's elements may lie: an accumulated one's in scratch or stacked SRAM (R192). -/
def DmaDesc.dstRegions (d : DmaDesc) : Region → Bool
  | .scratch => true
  | .sram _ => true
  | _ => !d.accw

/-- Element size in bits that a transposer mode takes (R187). -/
def tmodeBits (m : Nat) : Nat := if m = 1 then 8 else if m = 2 then 16 else 32

/-- The lowest reason of R194 for which a DMA instruction is refused. -/
def State.dmaBad (s : State) (slot L n : Nat) (tag : Tag) (d : DmaDesc) : Option Nat :=
  if d.reserved || tensorBad d.src || tensorBad d.dst then some 1
  else
    let ext := fun (b : List Byte) => (List.range 5).map (fun i => leAt b (16 + 2 * i) 2)
    let count := fun (b : List Byte) => (ext b).foldl (· * ·) 1
    if count d.src ≠ count d.dst then some 2
    else match s.tensorOf slot tag d.src, s.tensorOf slot tag d.dst with
      | some a, some b =>
        let baseIn := fun (t : List Byte) (allow : Region → Bool) => s.baseOk slot L allow (leAt t 0 6 : Int)
        let staged := (s.trickOf L n).isSome && b.bytes.any (fun v => (s.job slot).isDurable v.toNat)
        if !baseIn d.src dmaRegions || !baseIn d.dst d.dstRegions || (d.accw && staged) then some 3
        else if d.tmode ≠ 0 && (a.fmt ≠ b.fmt || d.accw || leAt d.src 12 1 < 2 || a.e 0 ≠ b.e 1 || a.e 1 ≠ b.e 0
            || !baseIn d.src (d.srcRegions L)) then some 4
        else if ((a.fmt.isMx || b.fmt.isMx) && (a.fmt ≠ b.fmt || d.accw || d.tmode ≠ 0))
            || (d.tmode ≠ 0 && a.fmt.width ≠ tmodeBits d.tmode) then some 5
        else none
      | _, _ => some 3

/-- The guard of R196: whether the 4 KiB page of an address holds a byte of a tensor's extent [lo, hi]. -/
def pageInExtent (t : Tensor) (v : Nat) : Bool :=
  decide (t.extent.1 < ((v / 4096 + 1) * 4096 : Nat)) && decide (((v / 4096 * 4096 : Nat) : Int) ≤ t.extent.2)

/-- Run-ahead of a DMA instruction from the host window (R196, R200, R209): the first lines of its element order, up to its limit; `ra_limit`
0 takes TILE_DMA_CTL.ra_lines.  The guard suppresses and counts what lies in a page outside the extent (R529).  The model fetches them when the instruction issues (log 143). -/
def State.runAhead (s : State) (slot L : Nat) (tag : Tag) (w : Nat) (d : DmaDesc) : State :=
  let own := leAt (s.scratchRead L (insDesc w) 64) 5 1
  let limit := if own = 0 then bits (s.tile L).dmaCtl 0 8 else own
  match s.tensorOf slot tag d.src with
  | none => s
  | some t =>
    let host := (t.bytes.filter (fun v => decide ((hostBase : Int) ≤ v) && (s.resolve slot L v).isSome)).map Int.toNat
    let ahead := ((linesOf host).take limit).map (· * 64)
    (s.fetchAhead (s.job slot).id.toNat (ahead.filter (pageInExtent t))).stat slot 12 (ahead.filter (fun v => !(pageInExtent t v))).length

/-- A DMA instruction's descriptor and its two tensor descriptors are read (R185): whether a line of them is poisoned. -/
def State.dmaTouch (s : State) (L w : Nat) : State × Bool :=
  let r0 := s.scratchTouch L (insDesc w) 64
  let r1 := r0.1.scratchTouch L (leAt (s.scratchRead L (insDesc w) 4) 0 2 * 64) 64
  let r2 := r1.1.scratchTouch L (leAt (s.scratchRead L (insDesc w) 4) 2 2 * 64) 64
  (r2.1, r0.2 || r1.2 || r2.2)

/-- DMA (R79, R147, R190, R194): its descriptors are checked at issue, and it enters the DMA engine's queue. -/
def execDma (tile : Fin 128) (stream : Fin 3) (s : State) : Host.Outcome State Fault Refusal :=
  let L := tile.val
  let n := stream.val
  match s.tryIssue L n (fun w => insOp w = 0x18) with
  | .no s' => .next s'
  | .go s' slot w =>
    let x := s'.stream L n
    let d := s'.dmaDesc L w
    let r := s'.dmaTouch L w
    if r.2 then .next (r.1.poisonedRead L n x.pc.toNat)
    else match s'.dmaBad slot L n x.tag d with
      | some why => .next (r.1.refuse 0x0423 L n x.pc why 0)
      | none =>
        let fpAcc := match fmtOfCode (leAt d.dst 8 1) with
          | some f => d.accw && !f.isInt
          | none => false
        if fpAcc && (s'.job slot).det then .next (r.1.refuse 0x0410 L n x.pc 1 5)
        else
          let pins := match s'.tensorOf slot x.tag d.src with
            | some t => s'.keepsOf slot t.extent
            | none => []
          .next ((r.1.runAhead slot L x.tag w d).enqueue L n w pins)

/-! ## The transfer (R186 to R193) -/

def isDmaQueued (o : Op) : Bool := o.engine = .dma && o.phase = .queued

def isDmaMoved (o : Op) : Bool := o.engine = .dma && o.phase = .moved

/-- The transfer that the engine holds while it waits for a page request (R198) or for line entries of the trick log (R285). -/
def isDmaHeld (o : Op) : Bool := o.engine = .dma && o.phase = .started

/-- The next DMA work of a stream: a low-priority instruction only when there is no other (R144). -/
def Stream.dmaHead (x : Stream) : Option Op :=
  match x.ops.find? (fun o => isDmaQueued o && !o.word.getLsbD 24) with
  | some o => some o
  | none => x.ops.find? isDmaQueued

/-- Source units in the order in which the destination takes them (R188). -/
def transposeUnits (a : Tensor) (units : List (List Byte)) : List (List Byte) :=
  let e0 := a.e 0
  let e1 := a.e 1
  (List.range units.length).map (fun i =>
    let r := i % e1
    let c := i / e1 % e0
    units.getD (c + e0 * (r + e1 * (i / (e0 * e1)))) [])

/-- Bytes at some addresses after a transfer's earlier elements: what those wrote, over what memory held (R186). -/
def overlaid (seen : Tbl Byte) (as : List Int) (old : List Byte) : List Byte :=
  (as.zip old).map (fun e => (tfind seen e.1.toNat).getD e.2)

/-- Converted or summed elements with their tracking (R63, R67, R73, R191).  Under accw `old` holds each element's destination addresses and
the bytes there, and each element is added into what the elements before it left (R186).  The exact source value is added, and the sum is
rounded once, to the destination's format (log 188, DEDUCED). -/
def State.dmaConvert (s : State) (slot : Nat) (tag : Tag) (a b : Tensor) (src : List (List Byte))
    (old : Option (List (List Int × List Byte))) : List (List Byte) × NumStatus :=
  let sr := rndIsSr b.rnd
  let r := (src.zipIdx).foldl (fun (acc : (List (List Byte) × NumStatus) × Tbl Byte) e =>
    let v := a.fmt.decode (leNat e.1)
    let at' := match old with
      | none => []
      | some os => (os.getD e.2 ([], [])).1
    let w := match old with
      | none => (v, v.isNan)
      | some os =>
        let o := b.fmt.decode (leNat (overlaid acc.2 at' (os.getD e.2 ([], [])).2))
        (o.add v, v.isNan || o.isNan)
    let st := b.fmt.store b.rnd (if sr then s.draw slot tag b.tensorId e.2 else 0) w.2 w.1
    let bs := leBytes b.fmt.unitBytes st.bits
    ((acc.1.1 ++ [bs], acc.1.2.add e.2 w.1 st),
      (at'.zip bs).foldl (fun m c => tput m c.1.toNat c.2) acc.2)) (([], { srUsed := sr }), [])
  r.1

/-- Bytes cut into a tensor's units. -/
def Tensor.split (t : Tensor) (bs : List Byte) : List (List Byte) := chunks t.fmt.unitBytes t.units bs

/-- What a transfer writes: the destination's bytes, and the tracking of one that computes values (R191); none when a read did not take
place. -/
def State.dmaValues (s : State) (w : Who) (d : DmaDesc) (bypass : Bool) (a b : Tensor) :
    State × Except AccessErr (List Byte × Option NumStatus) :=
  match s.engineRead w (d.srcRegions w.tile) bypass a.bytes with
  | (s1, .error e) => (s1, .error e)
  | (s1, .ok bs) =>
    if a.fmt = b.fmt && !d.accw then
      (s1, .ok (if d.tmode = 0 then bs else (transposeUnits a (a.split bs)).flatten, none))
    else if d.accw then
      match s1.engineRead w d.dstRegions bypass b.bytes with
      | (s2, .error e) => (s2, .error e)
      | (s2, .ok os) =>
        let r := s2.dmaConvert w.slot w.tag a b (a.split bs) (some ((chunks b.fmt.unitBytes b.units b.bytes).zip (b.split os)))
        (s2, .ok (r.1.flatten, some r.2))
    else
      let r := s1.dmaConvert w.slot w.tag a b (a.split bs) none
      (s1, .ok (r.1.flatten, some r.2))

/-- The numeric status block written to a status address, unless that is zero (R72). -/
def State.writeStatus (s : State) (w : Who) (allow : Region → Bool) (addr : Nat) (st : NumStatus) : State × WriteRes :=
  if addr = 0 then (s, .ok) else s.engineWrite w allow false false ((viewRange (addr : Int) 32).zip st.block)

/-- The engine keeps a transfer whose access waits, and takes it up again before any other (R193, R198, R285). -/
def State.dmaHold (s : State) (L n : Nat) (f : Op → Bool) : State := s.modOp L n f (fun p => { p with phase := .started })

/-- A read or a write of a transfer did not take place. -/
def State.dmaFailed (s : State) (L n : Nat) (f : Op → Bool) (r : WriteRes) : State :=
  let s1 := s.writeErr L n 5 f r
  match r with
  | .err (.xlat _ _) => s1.dmaHold L n f
  | .full _ => s1.dmaHold L n f
  | _ => s1

/-- A taken transfer of a stream moves its elements (R191, R193); its tracking and its status address stay with it until it completes
(R72). -/
def State.dmaMove (s : State) (slot L n : Nat) (f : Op → Bool) (o : Op) : State :=
  let w : Who := ⟨slot, L, n, o.tag, o.inTrick⟩
  let r := s.dmaTouch L o.word.toNat
  if r.2 then r.1.dmaFailed L n f (.err .poisoned)
  else
  let s := r.1
  let d := s.dmaDesc L o.word.toNat
  let bypass := d.bypass || o.word.getLsbD 24
  match s.tensorOf slot o.tag d.src, s.tensorOf slot o.tag d.dst with
  | some a, some b =>
    match s.dmaValues w d bypass a b with
    | (s1, .error e) => s1.dmaFailed L n f (.err e)
    | (s1, .ok (bs, st)) =>
      match s1.engineWrite w d.dstRegions bypass b.direct (b.bytes.zip bs) with
      | (s2, .ok) =>
        s2.modOp L n f (fun p => { p with
          phase := .moved, status := st.getD {}, statusAt := if st.isSome then b.status else 0, tracks := st.isSome })
      | (s2, e) => s2.dmaFailed L n f e
  | _, _ => s.refuse 0x0423 L n o.pc 3 0

/-- Whether a transfer touches the host window while the host link is lost: it then waits (R424). -/
def State.dmaHeld (s : State) (slot L : Nat) (o : Op) : Bool :=
  let d := s.dmaDesc L o.word.toNat
  let host := fun (b : List Byte) => match s.tensorOf slot o.tag b with
    | some t => decide ((hostBase : Int) ≤ t.extent.2)
    | none => false
  !s.host.attached && (host d.src || host d.dst)

/-- DMA_TRANSFER_START (R144, R193, R272): the engine takes the next queued transfer and moves its elements. -/
def execDmaTransferStart (tile : Fin 128) (amb : Ambient) (s : State) : Host.Outcome State Fault Refusal :=
  let L := tile.val
  let t := s.tile L
  match s.slotOfTile L with
  | none => .next s
  | some slot =>
    let moved := (List.range 3).any (fun n => (t.stream n).ops.any isDmaMoved)
    let ready := (List.range 3).filter (fun n => match (t.stream n).dmaHead with
      | some o => s.keepsReady o && !s.dmaHeld slot L o
      | none => false)
    if moved || s.engineHeld L then .next s
    else match (List.range 3).find? (fun n => (t.stream n).ops.any isDmaHeld) with
      | some n =>
        match (t.stream n).ops.find? isDmaHeld with
        | none => .next s
        | some o =>
          if o.faultAddr.isSome || s.dmaHeld slot L o then .next s else .next ((s.applyAmb amb).dmaMove slot L n isDmaHeld o)
      | none =>
        match t.pick 2 ready with
        | none => .next s
        | some n =>
          match (t.stream n).dmaHead with
          | none => .next s
          | some o =>
            let f := fun (p : Op) => isDmaQueued p && p.word = o.word && p.pc = o.pc
            .next (((s.applyAmb amb).modTile L (fun t => t.notePassed 2 ready n)).dmaMove slot L n f o)

/-- A moved transfer ends: the numeric status block of one that computed values is written after its last element, and its tracking counts
(R72, R74, R191). -/
def State.dmaEnd (s : State) (slot L n : Nat) (o : Op) : State :=
  match s.writeStatus ⟨slot, L, n, o.tag, o.inTrick⟩ dmaRegions o.statusAt o.status with
  | (s1, .ok) => (if o.tracks then s1.recordNumeric L n slot o.inTrick o.status else s1).finishOp L n isDmaMoved
  | (s1, r) => s1.writeErr L n 5 isDmaMoved r

/-- DMA_COMPLETE (R72, R147): the status block is written, every write of the moved transfer is visible, and its signal takes effect.  A block
that waits for a page request, for a line entry of the trick log, or for a lost host link keeps the engine (R424). -/
def execDmaComplete (tile : Fin 128) (s : State) : Host.Outcome State Fault Refusal :=
  let L := tile.val
  let t := s.tile L
  match s.slotOfTile L, (List.range 3).find? (fun n => (t.stream n).ops.any isDmaMoved) with
  | some slot, some n =>
    match (t.stream n).ops.find? isDmaMoved with
    | none => .next s
    | some o =>
      if s.engineStopped L || o.faultAddr.isSome || (!s.host.attached && decide (hostBase ≤ o.statusAt)) then .next s
      else .next (s.dmaEnd slot L n o)
  | _, _ => .next s

end Sys2Proof.Machine
end

