-- ==== Sys2Proof/Machine/Array.lean ====
section
/-! DEFINITION. Array.lean: the matrix array (03_matrix_array.md): the MMA instruction and its refusals (R84 to R95, R105), the operand feeder,
the K-block grant with its sums (R55, R81, R88, R102), first-overflow capture (R75, R76), the sparsity predictor with its checks and
recompute (R96 to R101), and the drain of finished banks (R90, R109, R110). -/
namespace Sys2Proof.Machine

/-! ## The MMA instruction (R85, R148) -/

def mmaBank (w : Nat) : Nat := nbits w 24 2
def mmaInit (w : Nat) : Bool := nbit w 26
def mmaFinal (w : Nat) : Bool := nbit w 27
def mmaSparse (w : Nat) : Bool := nbit w 28
def mmaWest (w : Nat) : Nat := nbits w 32 16 * 64
def mmaNorth (w : Nat) : Nat := nbits w 48 16 * 64
def mmaRow (w : Nat) : Nat := nbits w 64 16
def mmaCol (w : Nat) : Nat := nbits w 80 16
def mmaFirst (w : Nat) : Nat := nbits w 96 16
def mmaCount (w : Nat) : Nat := nbits w 112 12

/-! ## Feeder descriptors (R92) -/

/-- A depth, height and width of R92, from 4-bit fields. -/
structure Dims where
  d : Nat
  h : Nat
  w : Nat
  deriving DecidableEq, Repr

def Dims.ofNibbles (x : Nat) : Dims := ⟨nbits x 8 4, nbits x 4 4, nbits x 0 4⟩

def Dims.anyZero (x : Dims) : Bool := x.d == 0 || x.h == 0 || x.w == 0

/-- A feeder descriptor's fields (R92). -/
structure Feeder where
  base : Nat
  fmtCode : Nat
  conv : Bool
  versionRel : Bool
  transpose : Bool
  tensorId : Nat
  rowStride : Nat
  extent : Nat
  kTotal : Nat
  channels : Nat
  kernel : Dims
  stride : Dims
  dilation : Dims
  pad : Dims
  ins : Dims
  outs : Dims
  deriving DecidableEq, Repr

def feederOf (d : List Byte) : Feeder :=
  let fl := leAt d 9 1
  { base := leAt d 0 6, fmtCode := leAt d 8 1, conv := nbit fl 0, versionRel := nbit fl 1, transpose := nbit fl 2,
    tensorId := leAt d 10 2, rowStride := leAt d 12 4, extent := leAt d 16 4, kTotal := leAt d 20 4, channels := leAt d 24 2,
    kernel := Dims.ofNibbles (leAt d 26 2), stride := Dims.ofNibbles (leAt d 28 2), dilation := Dims.ofNibbles (leAt d 30 2),
    pad := Dims.ofNibbles (leAt d 32 2), ins := ⟨leAt d 40 2, leAt d 38 2, leAt d 36 2⟩,
    outs := ⟨leAt d 46 2, leAt d 44 2, leAt d 42 2⟩ }

/-- Operand format of a descriptor (R92). -/
def Feeder.fmt (f : Feeder) : Fmt := (fmtOfCode f.fmtCode).getD .fp32

/-- A format of the multiplier (R92): INT32 is none. -/
def feederFmtOk (c : Nat) : Bool := decide (c < 9)

/-- A descriptor that breaks R95; `blk` is the instruction's row or column block. -/
def feederBad (d : List Byte) (west : Bool) (w : Nat) : Bool :=
  let f := feederOf d
  let blk := if west then mmaRow w else mmaCol w
  let blocks := (f.kTotal + 127) / 128
  (f.conv && (!west || f.fmt.isMx || f.fmtCode == 0))
    || (f.transpose && (west || f.fmt.isMx))
    || (f.conv && (f.kernel.anyZero || f.stride.anyZero || f.dilation.anyZero || f.channels == 0 || f.ins.anyZero || f.outs.anyZero))
    || (f.conv && f.kTotal != f.channels * f.kernel.w * f.kernel.h * f.kernel.d)
    || f.extent == 0 || f.kTotal == 0 || mmaCount w == 0
    || !feederFmtOk f.fmtCode || leAt d 9 1 / 8 != 0 || leAt d 6 2 != 0 || leAt d 48 16 != 0
    || (f.conv && (leAt d 34 2 != 0 || nbits (leAt d 26 2) 12 4 != 0 || nbits (leAt d 28 2) 12 4 != 0
      || nbits (leAt d 30 2) 12 4 != 0 || nbits (leAt d 32 2) 12 4 != 0))
    || decide (blocks < mmaFirst w + mmaCount w)
    || decide (f.extent ≤ blk * 128)

/-- Twice the arithmetic cycles per k-step of a pair of format codes (R86); a package whose lowest feature level is 1 refuses MXFP4 with
MXFP6 (R491). -/
def pairCycles (w n level : Nat) : Option Nat :=
  let fp8 := fun (c : Nat) => c == 3 || c == 4
  let mx6 := fun (c : Nat) => c == 6 || c == 7
  if fp8 w && fp8 n then some 2
  else if w = n && (w = 1 || w = 2) then some 4
  else if w = 5 && n = 5 then some 1
  else if mx6 w && mx6 n then some 2
  else if (w = 5 && mx6 n) || (mx6 w && n = 5) then (if level = 1 then none else some 2)
  else if w = 8 && n = 8 then some 2
  else if w = 0 && n = 0 then some 16
  else none

/-! ## Operand addresses (R91, R93, R94) -/

/-- Declared extent of an operand (R195, R263). -/
def Feeder.span (f : Feeder) (west : Bool) : Int × Int :=
  let e := f.fmt.unitBytes
  let n :=
    if f.conv then
      let per := f.outs.w * f.outs.h * f.outs.d
      (f.extent + per - 1) / per * (f.ins.d * f.ins.h * f.ins.w * f.channels) * e
    else if f.fmt.isMx then (f.extent - 1) * f.rowStride + (f.kTotal + 31) / 32 * e
    else if west || f.transpose then (f.extent - 1) * f.rowStride + f.kTotal * e
    else (f.kTotal - 1) * f.rowStride + f.extent * e
  (f.base, (f.base : Int) + n - 1)

/-- What the feeder may read (R91): a transposed operand lies in stacked SRAM (R187). -/
def feedRegions (L : Nat) (west : Bool) (f : Feeder) : Region → Bool
  | .scratch => west || !f.transpose
  | .sram k => !west && k = L / 32
  | _ => false

/-- The base from which an operand is read: with `version_rel` that of the version's slot (R91, R263). -/
def State.feedBase (s : State) (slot : Nat) (tag : Tag) (f : Feeder) (west : Bool) : Option Int :=
  if f.versionRel then
    match s.versionBase slot tag f.base (f.span west).1 (f.span west).2 with
    | some (b, _) => some b
    | none => none
  else some f.base

/-- Address of a convolution's west operand (R94): none where the position reads no input. -/
def Feeder.convAddr (f : Feeder) (base : Int) (p k : Nat) : Option Int :=
  let ow := p % f.outs.w
  let oh := p / f.outs.w % f.outs.h
  let od := p / f.outs.w / f.outs.h % f.outs.d
  let img := p / f.outs.w / f.outs.h / f.outs.d
  let c := k % f.channels
  let r := k / f.channels
  let kw := r % f.kernel.w
  let kh := r / f.kernel.w % f.kernel.h
  let kd := r / f.kernel.w / f.kernel.h
  let ix : Int := (ow * f.stride.w : Nat) - (f.pad.w : Int) + (kw * f.dilation.w : Nat)
  let iy : Int := (oh * f.stride.h : Nat) - (f.pad.h : Int) + (kh * f.dilation.h : Nat)
  let iz : Int := (od * f.stride.d : Nat) - (f.pad.d : Int) + (kd * f.dilation.d : Nat)
  if f.extent ≤ p || ix < 0 || (f.ins.w : Int) ≤ ix || iy < 0 || (f.ins.h : Int) ≤ iy || iz < 0 || (f.ins.d : Int) ≤ iz then none
  else some (base + (((((img : Int) * f.ins.d + iz) * f.ins.h + iy) * f.ins.w + ix) * f.channels + c) * f.fmt.unitBytes)

/-- Units of one west row or north column for the k-steps k0 to k0 + kn − 1: the address of each element, or of each MX block (R93, R94,
R188); none is fed +0 without a read. -/
def Feeder.unitsOf (f : Feeder) (base : Int) (west : Bool) (m k0 kn : Nat) : List (Option Int) :=
  let e := f.fmt.unitBytes
  if f.fmt.isMx then
    (upFrom (k0 / 32) ((k0 + kn + 31) / 32 - k0 / 32)).map (fun b => some (base + (m * f.rowStride + b * e : Nat)))
  else if f.conv then (upFrom k0 kn).map (f.convAddr base m)
  else if west || f.transpose then (upFrom k0 kn).map (fun k => some (base + (m * f.rowStride + k * e : Nat)))
  else (upFrom k0 kn).map (fun k => some (base + (k * f.rowStride + m * e : Nat)))

/-- K-steps of K-block `b` (R88). -/
def Feeder.ksteps (f : Feeder) (b : Nat) : Nat := min 128 (f.kTotal - 128 * b)

/-- Rows or columns of the descriptor in a block of 128 (R88, R109). -/
def Feeder.lines (f : Feeder) (blk : Nat) : Nat := min 128 (f.extent - 128 * blk)

/-- Values of units from their bytes, in order. -/
def takeUnits (f : Fmt) : List (Option Int) → List Byte → List Num × List Byte
  | [], bs => ([], bs)
  | none :: r, bs =>
    let x := takeUnits f r bs
    (Num.zero :: x.1, x.2)
  | some _ :: r, bs =>
    let x := takeUnits f r (bs.drop f.unitBytes)
    (f.decodeUnit (bs.take f.unitBytes) ++ x.1, x.2)

/-- Rows of values from their bytes, in order. -/
def takeRows (f : Fmt) (kn : Nat) : List (List (Option Int)) → List Byte → List (List Num)
  | [], _ => []
  | us :: r, bs =>
    let x := takeUnits f us bs
    x.1.take kn :: takeRows f kn r x.2

/-- Some rows (or columns) of an operand for one K-block, read from memory: `rows` are their numbers (R91, R178, R469). -/
def State.feedRead (s : State) (w : Who) (f : Feeder) (base : Int) (west : Bool) (rows : List Nat) (b : Nat) :
    State × Except AccessErr (List (List Num)) :=
  let us := rows.map (fun m => f.unitsOf base west m (128 * b) (f.ksteps b))
  let vs := ((us.map (fun r => r.filterMap id)).flatten.map (fun a => viewRange a f.fmt.unitBytes)).flatten
  match s.engineRead w (feedRegions w.tile west f) false vs with
  | (s1, .error e) => (s1, .error e)
  | (s1, .ok bs) => (s1, .ok (takeRows f.fmt (f.ksteps b) us bs))

/-! ## Issue (R84, R86, R91, R95, R105) -/

/-- The lowest reason of R105 that holds at issue. A bank that is FREE with no instruction of the stream issued to it stays FREE, so
`acc_init` = 0 on it is refused with the other reasons (R84). -/
def State.mmaBad (s : State) (slot L n : Nat) (tag : Tag) (w : Nat) : Option Nat :=
  let dw := s.scratchRead L (mmaWest w) 64
  let dn := s.scratchRead L (mmaNorth w) 64
  let fw := feederOf dw
  let fn := feederOf dn
  let srcOk := fun (f : Feeder) (west : Bool) =>
    s.baseOk slot L (feedRegions L west f) f.base && (s.feedBase slot tag f west).isSome
  let idle := ((s.tile L).bank (mmaBank w)).state = .free
    && !(s.stream L n).ops.any (fun o => o.engine = .array && mmaBank o.word.toNat = mmaBank w)
  if !nbit ((s.tile L).bankMask n) (mmaBank w) then some 1
  else if !mmaInit w && idle then some 2
  else if (pairCycles fw.fmtCode fn.fmtCode s.level).isNone then some 3
  else if !srcOk fw true || !srcOk fn false then some 4
  else if feederBad dw true w || feederBad dn false w then some 5
  else none

/-- The two feeder descriptors of an instruction read for its execution (R185): whether a line of them is poisoned. -/
def State.feederTouch (s : State) (L w : Nat) : State × Bool :=
  let r0 := s.scratchTouch L (mmaWest w) 64
  let r1 := r0.1.scratchTouch L (mmaNorth w) 64
  (r1.1, r0.2 || r1.2)

/-- MMA (R85, R95, R105, R147): checked at issue, it enters the array queue. -/
def execMma (tile : Fin 128) (stream : Fin 3) (s : State) : Host.Outcome State Fault Refusal :=
  let L := tile.val
  let n := stream.val
  match s.tryIssue L n (fun w => insOp w = 0x10) with
  | .no s' => .next s'
  | .go s' slot w =>
    let x := s'.stream L n
    let r := s'.feederTouch L w
    if r.2 then .next (r.1.poisonedRead L n x.pc.toNat)
    else match s'.mmaBad slot L n x.tag w with
      | some why => .next (r.1.refuse 0x0420 L n x.pc why (mmaBank w))
      | none =>
        let f := feederOf (s'.scratchRead L (mmaNorth w) 64)
        .next (r.1.enqueue L n w (s'.keepsOf slot (f.span false)
          ++ s'.keepsOf slot ((feederOf (s'.scratchRead L (mmaWest w) 64)).span true)).dedup)

/-! ## Arithmetic of one K-block (R55, R57, R75, R81, R87) -/

/-- An integer operand's value. -/
def Num.toInt : Num → Int
  | .fin s m e => signedMag s (alignTo m e 0)
  | _ => 0

/-- One addition of a cell: the new accumulator and the capture kind of R75 it raises. -/
def cellAdd (isInt : Bool) (a : BitVec 48) (x y : Num) : BitVec 48 × Option Nat :=
  if isInt then
    let r := i48Add a (x.toInt * y.toInt)
    (r.1, if r.2 then some 2 else none)
  else
    let r := a48Add a (x.mul y)
    let v := a48Decode r
    (r, if v.isInf && (a48Decode a).isFinite && x.isFinite && y.isFinite then some 0
        else if v.isNan && !(a48Decode a).isNan && !x.isNan && !y.isNan then some 1 else none)

/-- An accumulator event: cycle from the first k-step, row, column, kind (R75, R89). -/
structure AccEvent where
  cycle : Nat
  row : Nat
  col : Nat
  kind : Nat
  deriving DecidableEq, Repr

/-- The order in which R75 takes events: cycle, then row, then column. -/
def AccEvent.before (a b : AccEvent) : Bool :=
  a.cycle < b.cycle || (a.cycle == b.cycle && (a.row < b.row || (a.row == b.row && a.col < b.col)))

/-- The earlier of two sets of events, each as its first event and its number. -/
def joinEvents (a b : Option AccEvent × Nat) : Option AccEvent × Nat :=
  (match a.1, b.1 with
    | none, y => y
    | x, none => x
    | some x, some y => some (if y.before x then y else x), a.2 + b.2)

/-- The k-steps of a K-block in one cell, in ascending k (R81, R87): the accumulator, and the events with their number. `c2` is R86's
cycle count doubled. -/
def cellFeed (isInt : Bool) (c2 i j : Nat) : Nat → BitVec 48 → List Num → List Num → BitVec 48 × Option AccEvent × Nat
  | _, a, [], _ => (a, none, 0)
  | _, a, _, [] => (a, none, 0)
  | k, a, x :: xs, y :: ys =>
    let r := cellAdd isInt a x y
    let ev : Option AccEvent × Nat := match r.2 with
      | some kind => (some ⟨c2 * k / 2 + i + j, i, j, kind⟩, 1)
      | none => (none, 0)
    let z := cellFeed isInt c2 i j (k + 1) r.1 xs ys
    (z.1, joinEvents ev z.2)

/-- One row of cells: 128 accumulators under the row's operands. -/
def rowFeed (isInt : Bool) (c2 i : Nat) (ws : List Num) : Nat → List (BitVec 48) → List (List Num) →
    List (BitVec 48) × Option AccEvent × Nat
  | _, [], _ => ([], none, 0)
  | _, as, [] => (as, none, 0)
  | j, a :: as, n :: ns =>
    let r := cellFeed isInt c2 i j 0 a ws n
    let z := rowFeed isInt c2 i ws (j + 1) as ns
    (r.1 :: z.1, joinEvents r.2 z.2)

/-- The rows of the array: a row without operands is skipped (R97). -/
def arrayFeed (isInt : Bool) (c2 : Nat) (ns : List (List Num)) : Nat → List (List (BitVec 48)) → List (Option (List Num)) →
    List (List (BitVec 48)) × Option AccEvent × Nat
  | _, [], _ => ([], none, 0)
  | _, as, [] => (as, none, 0)
  | i, a :: as, none :: ws =>
    let z := arrayFeed isInt c2 ns (i + 1) as ws
    (a :: z.1, z.2)
  | i, a :: as, some w :: ws =>
    let r := rowFeed isInt c2 i w 0 a ns
    let z := arrayFeed isInt c2 ns (i + 1) as ws
    (r.1 :: z.1, joinEvents r.2 z.2)

/-- A bank's 16,384 values in order: a bank that lists fewer is filled with +0 (R106). -/
def Bank.values (b : Bank) : List (BitVec 48) :=
  let l := b.cells.map (fun (e : Nat × BitVec 48) => e.2)
  l ++ List.replicate (16384 - l.length) 0

/-- The last operand of each line of a K-block, by row or column: what its registers hold after it has passed (R25).  What
they hold then, and at a skip marker, the spec does not say; the model keeps the last operand (log 184, DESIGN CHOICE). -/
def lastPassed (old : Tbl Num) (lines : List (Option (List Num))) : Tbl Num :=
  lines.zipIdx.foldl (fun t e => match e.1.bind (·.getLast?) with
    | some x => tput t e.2 x
    | none => t) old

/-- Values as a bank lists them. -/
def cellsOf (vs : List (BitVec 48)) : Tbl (BitVec 48) := (List.range vs.length).zip vs

/-- Whether an accumulator holds a zero of either sign. -/
def accZero (isInt : Bool) (a : BitVec 48) : Bool := if isInt then a == 0 else (a48Decode a).isZero

/-! ## First-overflow capture (R75, R76) -/

/-- The capture registers after events of a K-block: index `kb` within the instruction (R76). -/
def Tile.capture (t : Tile) (n bank : Nat) (o : AccStep) (kb : Nat) (ev : Option AccEvent × Nat) : Tile :=
  match ev.1 with
  | none => t
  | some e =>
    if nbit t.fovfStatus.toNat 31 then { t with fovfStatus := putBits t.fovfStatus 30 1 1 }
    else { t with
      fovfStatus := BitVec.ofNat 32 (o.pc.toNat + bank * 2 ^ 24 + n * 2 ^ 26 + e.kind * 2 ^ 28 + b2n (2 ≤ ev.2) * 2 ^ 30 + 2 ^ 31),
      fovfWhere := BitVec.ofNat 32 (e.col + e.row * 2 ^ 8 + kb % 65536 * 2 ^ 16),
      fovfTag := BitVec.ofNat 32 (tagMb o.tag + tagJob o.tag * 2 ^ 20),
      fovfStep := BitVec.ofNat 32 (tagStep o.tag + tagStage o.tag * 2 ^ 20),
      fovfCycle := BitVec.ofNat 32 (satNat 32 t.stepCycle e.cycle) }

/-! ## The K-block grant (R96, R97, R102) -/

/-- Index of an activation block's history entry (R96). -/
def historyIndex (tensorId group kBlock : Nat) : Nat := tensorId % 32 * 64 + group * 8 + kBlock % 8

/-- Whether the instruction and the tile let the predictor act (R96). -/
def Tile.predicts (t : Tile) (w : Nat) : Bool := mmaSparse w && nbit t.arrCtl.toNat 1

/-- Whether all values of a row group's west elements are zero (R96); rows at or beyond the extent count as +0. -/
def groupZero (rows : List (Option (List Num))) (g : Nat) : Bool :=
  ((rows.drop (16 * g)).take 16).all (fun r => match r with
    | none => true
    | some l => l.all Num.isZero)

/-- One K-block of an instruction fed into its bank (R81, R88, R96, R97): K-block `b`, the `kb`-th of the instruction, in step `i` of the
accumulation. `again` says that a recompute feeds it (R99); `fresh` that it is the accumulation's first. -/
def State.feedBlock (s : State) (slot L n : Nat) (o : AccStep) (i kb : Nat) (again fresh : Bool) :
    State × Option AccessErr :=
  let w := o.word.toNat
  let bk := mmaBank w
  let who : Who := ⟨slot, L, n, o.tag, false⟩
  let r := s.feederTouch L w
  if r.2 then (r.1, some .poisoned)
  else
  let s := r.1
  let fw := feederOf (s.scratchRead L (mmaWest w) 64)
  let fn := feederOf (s.scratchRead L (mmaNorth w) 64)
  let b := mmaFirst w + kb
  let t := s.tile L
  let bank := t.bank bk
  let isInt := fw.fmt.isInt
  let predicts := t.predicts w && !again
  let skip := (List.range 8).filter (fun g => predicts && !fresh && tget false t.history (historyIndex fw.tensorId g b))
  let rows := fw.lines (mmaRow w)
  let cols := fn.lines (mmaCol w)
  let fed := (List.range rows).filter (fun r => !skip.contains (r / 16))
  match s.feedBase slot o.tag fw true, s.feedBase slot o.tag fn false with
  | some bw, some bn =>
    match s.feedRead who fw bw true (fed.map (· + 128 * mmaRow w)) b with
    | (s1, .error e) => (s1, some e)
    | (s1, .ok ws) =>
      match (if skip.length = 8 then (s1, Except.ok []) else s1.feedRead who fn bn false (upFrom (128 * mmaCol w) cols) b) with
      | (s2, .error e) => (s2, some e)
      | (s2, .ok ns) =>
        let kn := min (fw.ksteps b) (fn.ksteps b)
        let zeros := List.replicate kn Num.zero
        let rowOf := fun (r : Nat) =>
          if skip.contains (r / 16) then none else some ((ws.getD (fed.idxOf r) zeros).take kn)
        let west := (List.range 128).map (fun r => if r < rows then rowOf r else if skip.contains (r / 16) then none else some zeros)
        let north := ns ++ List.replicate (128 - ns.length) zeros
        let start := if fresh then List.replicate 16384 (if isInt then (0 : BitVec 48) else a48NegZero) else bank.values
        let grid := chunks 128 128 start
        let c2 := (pairCycles fw.fmtCode fn.fmtCode 2).getD 2
        let r := arrayFeed isInt c2 north 0 grid west
        let sawZero := fun (g : Nat) => (upFrom (16 * g) 16).any (fun x =>
          decide (x < rows) && ((grid.getD x []).take cols).any (accZero isInt))
        let new := skip.map (fun g => (⟨i, b, g, sawZero g⟩ : SkipCheck))
        let history := if predicts then
            ((List.range 8).filter (fun g => !skip.contains g)).foldl
              (fun h g => tput h (historyIndex fw.tensorId g b) (groupZero west g)) t.history
          else t.history
        let s3 := s2.modTile L (fun t => ({ t with
            history := history, west := lastPassed t.west west, north := lastPassed t.north (north.map some) }.modBank bk (fun x => { x with
          state := .accumulating, stream := n, isInt := isInt, cells := cellsOf r.1.flatten, rows := rows, cols := cols, tag := o.tag,
          checks := x.checks ++ new })).capture n bk o kb r.2)
        let s4 := if skip.isEmpty then s3 else s3.stat slot 5 skip.length
        let s5 := if skip.length = 8 then s4.stat slot 6 1 else s4
        (if again then s5.stat slot 8 ((c2 * kn + 1) / 2) else s5, none)
  | _, _ => (s, some (.outside fn.base))

/-- What a stream offers to the feed point: nothing, a refusal with its reason, or a K-block of its current instruction or of a recompute. -/
inductive Offer where
  | nothing
  | bad (o : Op) (reason : Nat)
  | block (o : Op)
  | again (bank : Nat)
  deriving DecidableEq, Repr

def isArrayCurrent (o : Op) : Bool := o.engine = .array && (o.phase = .queued || o.phase = .started)

/-- Whether an operation is the one that a bank's last instruction still feeds. -/
def feedsBank (bk : Nat) (o : Op) : Bool := o.engine = .array && o.phase = .started && mmaBank o.word.toNat = bk

/-- Instructions of a bank's accumulation that a recompute feeds again before the one in progress (R99). -/
def Tile.redoCount (t : Tile) (bk : Nat) : Nat :=
  let b := t.bank bk
  if (t.stream b.stream).ops.any (feedsBank bk) then b.steps.length - 1 else b.steps.length

/-- The bank of a stream whose recompute has instructions to feed again (R99). -/
def Tile.redoBank (t : Tile) (n : Nat) : Option Nat :=
  (List.range 4).find? (fun k => (t.bank k).recompute && (t.bank k).stream = n && decide ((t.bank k).redoStep < t.redoCount k))

/-- A stream's offer (R84, R99, R102, R272). -/
def State.offer (s : State) (L n : Nat) : Offer :=
  let t := s.tile L
  match t.redoBank n with
  | some k => .again k
  | none =>
    match (t.stream n).ops.find? isArrayCurrent with
    | none => .nothing
    | some o =>
      let w := o.word.toNat
      let b := t.bank (mmaBank w)
      if o.faultAddr.isSome then .nothing
      else if o.phase = .started then .block o
      else if mmaInit w then (if b.state = .free && s.keepsReady o then .block o else .nothing)
      else if b.state = .free then .bad o 2
      else if b.state = .held && b.stream = n then
        (if 32 ≤ b.steps.length && (b.sparse || mmaSparse w) then .bad o 6 else if s.keepsReady o then .block o else .nothing)
      else .nothing

def Offer.ready : Offer → Bool
  | .block _ => true
  | .again _ => true
  | _ => false

/-- Weight of a stream in K-blocks per turn (R103): 0 reads as 1. -/
def Tile.weight (t : Tile) (n : Nat) : Nat := max 1 (bits t.arrWeight (8 * n) 8)

/-- A K-block boundary under weighted rotation: the turn of a stream that is not ready ends (R102). -/
def Tile.endTurn (t : Tile) (ready : List Nat) : Tile :=
  if bits t.arrCtl 30 2 = 1 && !ready.contains t.turn then { t with turnUsed := t.weight t.turn } else t

/-- The stream that takes the next grant, and the tile with its rotation and passed-over counts after it (R102). -/
def Tile.arbitrate (t : Tile) (ready : List Nat) : Option (Nat × Tile) :=
  match t.starved 0 ready with
  | some n => some (n, t.notePassed 0 ready n)
  | none =>
    if bits t.arrCtl 30 2 ≠ 1 then (t.prio.find? (fun n => ready.contains n)).map (fun n => (n, t.notePassed 0 ready n))
    else if ready.contains t.turn && t.turnUsed < t.weight t.turn then
      some (t.turn, { t with turnUsed := t.turnUsed + 1 }.notePassed 0 ready t.turn)
    else
      ([(t.turn + 1) % 3, (t.turn + 2) % 3, t.turn].find? (fun n => ready.contains n)).map
        (fun n => (n, { t with turn := n, turnUsed := 1 }.notePassed 0 ready n))

/-- An accumulation's last K-block has been fed: its last product will be added, or it is held for the next instruction (R82, R83, R90). -/
def Bank.afterLast (b : Bank) (final : Bool) : Bank :=
  if final then { b with fed := true, recompute := false, state := if b.checks.isEmpty then b.state else .checking }
  else { b with state := .held, recompute := false }

/-- A granted K-block of the current instruction (R81, R100, R102, R147). -/
def State.grantBlock (s : State) (slot L n : Nat) (o : Op) : State :=
  let w := o.word.toNat
  let bk := mmaBank w
  let first := o.phase = .queued
  let step : AccStep := ⟨o.word, o.tag, o.pc⟩
  let s1 := if first then s.modTile L (fun t => t.modBank bk (fun b =>
      let c : Bank := if mmaInit w then {} else b
      { c with steps := c.steps ++ [step], sparse := c.sparse || mmaSparse w }))
    else s
  let b := (s1.tile L).bank bk
  let fresh := decide (b.steps.length = 1) && o.granted = 0
  match s1.feedBlock slot L n step (b.steps.length - 1) o.granted b.recompute fresh with
  | (s2, some e) => s2.accessErr L n 3 isArrayCurrent e
  | (s2, none) =>
    let last := o.granted + 1 = mmaCount w
    let s3 := if last then s2.modTile L (fun t => t.modBank bk (fun x => x.afterLast (mmaFinal w))) else s2
    s3.modOp L n isArrayCurrent (fun p => { p with
      granted := o.granted + 1,
      phase := if !last then .started else if b.sparse then .waiting else .moved })

/-- A granted K-block of a recompute (R99). -/
def State.grantAgain (s : State) (slot L n bk : Nat) : State :=
  let b := (s.tile L).bank bk
  match b.steps[b.redoStep]? with
  | none => s
  | some step =>
    let fresh := b.redoStep = 0 && b.redone = 0
    match s.feedBlock slot L n step b.redoStep b.redone true fresh with
    | (s1, some e) => s1.accessErr L n 3 isArrayCurrent e
    | (s1, none) =>
      let last := b.redone + 1 = mmaCount step.word.toNat
      let s2 := s1.modTile L (fun t => t.modBank bk (fun x =>
        if last then { x with redoStep := x.redoStep + 1, redone := 0 } else { x with redone := x.redone + 1 }))
      let b2 := (s2.tile L).bank bk
      if last && b2.redoStep = b2.steps.length then
        s2.modTile L (fun t => t.modBank bk (fun x => x.afterLast (mmaFinal step.word.toNat)))
      else s2

/-- An uncorrectable error in a held copy (R468): a clean line is dropped and fetched again, a dirty sector is published data and poisoned, a
replay buffer's error takes its link down, and an error in a trick's copy revokes the trick with cause FAULT, or
rolls the deck back where no trick is open (log 155). -/
def State.meetHeld (s : State) (e : HeldErr) : State :=
  match e with
  | .farSector k l =>
    let hit := fun (f : FarLine) => f.line = l.toNat / 4
    let bit := BitVec.ofNat 4 (2 ^ (l.toNat % 4))
    if (s.stack k).far.any (fun f => hit f && f.dirty &&& bit ≠ 0) then s.uncorrected none l.toNat
    else (s.modStack k (fun x => { x with
      far := x.far.map (fun f => if hit f then { f with valid := f.valid &&& ~~~bit } else f) })).raise 0x0502 0 (lineDetail l.toNat)
  | .fetchLine l => s.modHost (fun h => { h with
      fetchLines := h.fetchLines.filter (· ≠ l.toNat), aheadLines := h.aheadLines.filter (· ≠ l.toNat),
      staleLines := h.staleLines.filter (· ≠ l.toNat) })
  | .replayBuffer p => if (s.port p).state = .up then s.portDown p 1 else s
  | .trickCopy t n =>
    match s.trickOf t n, s.slotOfTile t with
    | some (_, x), _ => (s.raise 0x0502 x.job.toNat 0).revokeLocal t n 2
    | none, some slot => (s.raise 0x0502 (s.job slot).id.toNat 0).rollback slot
    | none, none => s

/-- ARRAY_GRANT (R97, R102, R468): at a K-block boundary the array grants the feed point to a ready stream. -/
def execArrayGrant (tile : Fin 128) (amb : Ambient) (s : State) : Host.Outcome State Fault Refusal :=
  let L := tile.val
  match s.slotOfTile L with
  | none => .next s
  | some slot =>
    if s.engineHeld L then .next s
    else
      let s0 := amb.held.foldl State.meetHeld (s.applyAmb amb)
      let refused := (List.range 3).filterMap (fun n => match s0.offer L n with
        | .bad o r => some (n, o, r)
        | _ => none)
      match refused with
      | (n, o, r) :: _ => .next (s0.refuse 0x0420 L n o.pc r (mmaBank o.word.toNat))
      | [] =>
        let ready := (List.range 3).filter (fun n => (s0.offer L n).ready)
        match ((s0.tile L).endTurn ready).arbitrate ready with
        | none => .next (s0.modTile L (fun t => t.endTurn ready))
        | some (n, t) =>
          let s1 := s0.modTile L (fun _ => t)
          match s0.offer L n with
          | .block o => .next (s1.grantBlock slot L n o)
          | .again k => .next (s1.grantAgain slot L n k)
          | _ => .next s0

/-! ## Completion, checks and drain (R90, R98 to R100, R109, R110) -/

def isArrayMoved (o : Op) : Bool := o.engine = .array && o.phase = .moved

/-- MMA_COMPLETE (R100, R147): every operand of the oldest such instruction has been read, and its signal takes effect. -/
def execMmaComplete (tile : Fin 128) (stream : Fin 3) (s : State) : Host.Outcome State Fault Refusal :=
  if s.engineStopped tile then .next s else .next (s.finishOp tile stream isArrayMoved)

/-- What the check of a skipped block finds (R98): condition 1, and whether the skip is confirmed; none when an operand cannot be read. -/
def State.checkSkip (s : State) (slot L n : Nat) (b : Bank) (c : SkipCheck) : State × Except AccessErr (Bool × Bool) :=
  match b.steps[c.step]? with
  | none => (s, .ok (true, true))
  | some step =>
    let w := step.word.toNat
    let who : Who := ⟨slot, L, n, step.tag, false⟩
    let r := s.feederTouch L w
    if r.2 then (r.1, .error .poisoned)
    else
    let s := r.1
    let fw := feederOf (s.scratchRead L (mmaWest w) 64)
    let fn := feederOf (s.scratchRead L (mmaNorth w) 64)
    let rows := (upFrom (16 * c.group) 16).filter (fun r => decide (r < fw.lines (mmaRow w)))
    match s.feedBase slot step.tag fw true, s.feedBase slot step.tag fn false with
    | some bw, some bn =>
      match s.feedRead who fw bw true (rows.map (· + 128 * mmaRow w)) c.kBlock with
      | (s1, .error e) => (s1, .error e)
      | (s1, .ok ws) =>
        match s1.feedRead who fn bn false (upFrom (128 * mmaCol w) (fn.lines (mmaCol w))) c.kBlock with
        | (s2, .error e) => (s2, .error e)
        | (s2, .ok ns) =>
          let zero := ws.all (fun r => r.all Num.isZero)
          (s2, .ok (zero, zero && ns.all (fun r => r.all Num.isFinite) && !c.sawZero))
    | _, _ => (s, .error (.outside fn.base))

/-- The checks of a bank ended: each writes its outcome (R96); those that fail are counted (R101). -/
def State.checkAll (slot L n : Nat) (b : Bank) : List SkipCheck → State → State × Option AccessErr
  | [], s => (s, none)
  | c :: r, s =>
    match s.checkSkip slot L n b c with
    | (s1, .error e) => (s1, some e)
    | (s1, .ok (zero, good)) =>
      let f := match b.steps[c.step]? with
        | some step => (feederOf (s1.scratchRead L (mmaWest step.word.toNat) 64)).tensorId
        | none => 0
      let s2 := s1.modTile L (fun t => { t with history := tput t.history (historyIndex f c.group c.kBlock) zero })
      State.checkAll slot L n b r (if good then s2 else s2.stat slot 7 1)

/-- A failed check (R99): the bank's contents are discarded and the accumulation is fed again with prediction off. -/
def Tile.recomputeBank (t : Tile) (bk : Nat) : Tile :=
  let n := (t.bank bk).stream
  let back := fun (o : Op) => { o with granted := 0 }
  (t.modBank bk (fun b => { b with
    state := .accumulating, checks := [], recompute := true, redone := 0, redoStep := 0, fed := false })).modStream n
      (fun x => { x with ops := modFirst (feedsBank bk) back x.ops })

/-- SPARSITY_CHECK (R98, R99): the check of a bank's oldest skipped block ends. One that fails ends the bank's other outstanding checks with
it, and the recompute begins. -/
def execSparsityCheck (tile : Fin 128) (bank : Fin 4) (s : State) : Host.Outcome State Fault Refusal :=
  let L := tile.val
  let bk := bank.val
  let b := (s.tile L).bank bk
  match s.slotOfTile L, b.checks with
  | some slot, c :: r =>
    if s.engineStopped L then .next s
    else match s.checkSkip slot L b.stream b c with
      | (s1, .error e) => .next (s1.accessErr L b.stream 3 isArrayCurrent e)
      | (s1, .ok (_, good)) =>
        let run := if good then [c] else c :: r
        match State.checkAll slot L b.stream b run s1 with
        | (s2, some e) => .next (s2.accessErr L b.stream 3 isArrayCurrent e)
        | (s2, none) =>
          if good then .next (s2.modTile L (fun t => t.modBank bk (fun x => { x with checks := r })))
          else .next (s2.modTile L (fun t => t.recomputeBank bk))
  | _, _ => .next s

/-- BANK_COMPLETE (R83, R90): row 0 of a bank holds its final sum and no check of the accumulation is outstanding. -/
def execBankComplete (tile : Fin 128) (bank : Fin 4) (s : State) : Host.Outcome State Fault Refusal :=
  let b := (s.tile tile).bank bank
  if b.fed && b.checks.isEmpty && !b.recompute && (b.state = .accumulating || b.state = .checking) && !s.engineStopped tile then
    .next (s.modTile tile (fun t =>
      { t.modBank bank (fun x => { x with state := .complete }) with completeOrder := t.completeOrder ++ [bank.val] }))
  else .next s

/-- DRAIN_START (R90, R100, R110): the bank that became COMPLETE first starts to drain into a free entry of the finished-tile queue; the
instructions that R100 holds complete. -/
def execDrainStart (tile : Fin 128) (s : State) : Host.Outcome State Fault Refusal :=
  let t := s.tile tile
  match t.completeOrder with
  | [] => .next s
  | bk :: r =>
    if t.draining.isSome || 2 ≤ t.finQueue.length || s.engineStopped tile then .next s
    else
      let b := t.bank bk
      let free := fun (o : Op) =>
        if o.engine = .array && o.phase = .waiting && mmaBank o.word.toNat = bk then { o with phase := .moved } else o
      let e : FinEntry :=
        { stream := b.stream, bank := bk, isInt := b.isInt, rows := b.rows, cols := b.cols, tag := b.tag, cells := b.cells,
          readable := false }
      .next (s.modTile tile (fun t => { (t.modBank bk (fun x => { x with state := .draining })).modStream b.stream
          (fun x => { x with ops := x.ops.map free }) with
        completeOrder := r, draining := some bk, finQueue := t.finQueue ++ [e] }))

/-- DRAIN_END (R84, R110): the bank is FREE at the end of its last drain cycle, and its entry becomes readable. -/
def execDrainEnd (tile : Fin 128) (s : State) : Host.Outcome State Fault Refusal :=
  let t := s.tile tile
  match t.draining with
  | none => .next s
  | some bk =>
    let done := fun (e : FinEntry) => if e.bank = bk then { e with readable := true } else e
    if s.engineStopped tile then .next s
    else .next (s.modTile tile (fun t => { t.modBank bk (fun x => ({ cells := x.cells } : Bank)) with
      draining := none, finQueue := t.finQueue.map done }))

/-! ## TILE_ARR_CTL (R103, R104) -/

/-- Whether a job holds a physical tile (R169, R576). -/
def State.tileHeld (s : State) (k t : Nat) : Bool :=
  match s.logicalOf k t with
  | some L => (s.slotOfTile L).isSome
  | none => false

/-- A write of a tile register reserved to the Dealer: discarded with cfg_reject of GLB_CTL while a job holds the tile (R576). -/
def State.writeTile (s : State) (k t : Nat) (f : Tile → Tile) : State :=
  if s.tileHeld k t then s.modHost (fun h => { h with glbReject := true }) else s.modTileAt (k * 34 + t) f

/-- ARR_CTL_WRITE (R103, R104, R576): a host write to TILE_ARR_CTL of a physical tile. -/
def execArrCtlWrite (stack : Fin 4) (phys : Fin 34) (value : BitVec 32) (s : State) : Host.Outcome State Fault Refusal :=
  .next (s.fromHost (s.writeTile stack phys (fun t => t.writeArrCtl value)))

end Sys2Proof.Machine
end

