-- ==== Sys2Proof/Machine/Meld.lean ====
section
/-! DEFINITION. Meld.lean: the two Meld engines (R356 to R388, R580): contexts, firings, exact sums on the wire, results, keep recipes and
noise statistics. -/
namespace Sys2Proof.Machine

/-! ## Context registers (R385), shard and source entries (R362, R363) -/

def MeldCtx.valid (c : MeldCtx) : Bool := nbit c.key.toNat 63
def MeldCtx.stats (c : MeldCtx) : Bool := nbit c.key.toNat 60
def MeldCtx.job (c : MeldCtx) : Nat := bits c.key 48 12
def MeldCtx.ctx (c : MeldCtx) : Nat := bits c.key 36 12
def MeldCtx.kind (c : MeldCtx) : Nat := bits c.key 32 4
def MeldCtx.op (c : MeldCtx) : Nat := bits c.key 30 2
def MeldCtx.rnd (c : MeldCtx) : Nat := bits c.key 27 3
def MeldCtx.inPlace (c : MeldCtx) : Bool := nbit c.key.toNat 26
def MeldCtx.tensorId (c : MeldCtx) : Nat := bits c.key 8 16
def MeldCtx.win (c : MeldCtx) : Nat := max 1 (bits c.key 4 4)
def MeldCtx.elems (c : MeldCtx) : Nat := bits c.shape 32 32
def MeldCtx.fmt (c : MeldCtx) : Fmt := (fmtOfCode (bits c.shape 28 4)).getD .fp32
def MeldCtx.contribs (c : MeldCtx) : Nat := bits c.shape 0 24
def MeldCtx.dstAddr (c : MeldCtx) : Nat := bits c.dst 0 48
def MeldCtx.statAddr (c : MeldCtx) : Nat := bits c.stat 0 48
def MeldCtx.bounce (c : MeldCtx) : Nat := bits c.aux 0 48
def MeldCtx.statsSrcs (c : MeldCtx) : Nat := bits c.aux 48 16
def MeldCtx.srcBase (c : MeldCtx) : Nat := bits c.tables 52 12
def MeldCtx.srcCount (c : MeldCtx) : Nat := bits c.tables 47 5
def MeldCtx.shardBase (c : MeldCtx) : Nat := bits c.tables 32 12
def MeldCtx.shardCount (c : MeldCtx) : Nat := max 1 (bits c.tables 20 12)
def MeldCtx.statsPkg (c : MeldCtx) : BitVec 12 := BitVec.ofNat 12 (bits c.tables 8 12)
def MeldCtx.trigObj (c : MeldCtx) : Nat := bits c.sync 48 16
def MeldCtx.trigBase (c : MeldCtx) : Nat := bits c.sync 32 16
def MeldCtx.trigStep (c : MeldCtx) : Nat := bits c.sync 16 16
def MeldCtx.doneObj (c : MeldCtx) : Nat := bits c.sync 0 16

/-- REDUCE, REDUCE_SCATTER and ALLREDUCE (R360). -/
def MeldCtx.reduces (c : MeldCtx) : Bool := decide (c.kind < 3)
/-- ALLREDUCE and ALLGATHER send each finished slab on (R374). -/
def MeldCtx.spreads (c : MeldCtx) : Bool := c.kind = 2 || c.kind = 3

def shardRoot (w : Word) : Bool := nbit w.toNat 31
def shardPart (w : Word) : Bool := nbit w.toNat 30
def shardUp (w : Word) : Nat := bits w 24 6
def shardParent (w : Word) : BitVec 12 := BitVec.ofNat 12 (bits w 0 12)

/-- A source of a context (R363). -/
structure MeldSrc where
  index : Nat
  fmt : Fmt
  versionRel : Bool
  cid : Nat
  addr : Nat
  first : Nat
  count : Nat
  deriving DecidableEq, Repr

def MeldSrc.ofWords (i : Nat) (w : Dword × Dword) : MeldSrc :=
  { index := i, fmt := (fmtOfCode (bits w.1 60 4)).getD .fp32, versionRel := nbit w.1.toNat 58, cid := bits w.1 48 10,
    addr := bits w.1 0 48, first := bits w.2 32 32, count := bits w.2 0 32 }

def State.mctx (s : State) (e c : Nat) : MeldCtx := tget {} (s.meld e).ctxs c

def State.modMctx (s : State) (e c : Nat) (f : MeldCtx → MeldCtx) : State :=
  s.modMeld e (fun m => { m with ctxs := tmod {} m.ctxs c f })

def State.meldSources (s : State) (e : Nat) (c : MeldCtx) : List MeldSrc :=
  (List.range c.srcCount).map (fun i => MeldSrc.ofWords i (tget (0, 0) (s.meld e).sources (c.srcBase + i)))

def State.shardWord (s : State) (e : Nat) (c : MeldCtx) (sh : Nat) : Word := tget 0 (s.meld e).shards (c.shardBase + sh)

/-- Shards in which the package takes part. -/
def State.partShards (s : State) (e : Nat) (c : MeldCtx) : List Nat :=
  (List.range c.shardCount).filter (fun sh => shardPart (s.shardWord e c sh))

/-- First element of a shard and the first past it (R362). -/
def MeldCtx.shardRange (c : MeldCtx) (sh : Nat) : Nat × Nat :=
  let q := (c.elems + c.shardCount - 1) / c.shardCount
  (min (sh * q) c.elems, min ((sh + 1) * q) c.elems)

/-- Slabs of a shard (R367). -/
def MeldCtx.slabsIn (c : MeldCtx) (sh : Nat) : Nat := ((c.shardRange sh).2 - (c.shardRange sh).1 + 1023) / 1024

/-- First element of a slab and the first past it. -/
def MeldCtx.slabRange (c : MeldCtx) (sh k : Nat) : Nat × Nat :=
  let r := c.shardRange sh
  (r.1 + k * 1024, min (r.1 + (k + 1) * 1024) r.2)

/-- Byte offset of an element: an MX element lies in block e div 32 (R360). -/
def Fmt.offset (f : Fmt) (e : Nat) : Nat := (e + f.unitElems - 1) / f.unitElems * f.unitBytes

/-- Units (elements, or MX blocks) of a slab. -/
def MeldCtx.slabUnits (c : MeldCtx) (sh k : Nat) : Nat :=
  let r := c.slabRange sh k
  (r.2 - r.1 + c.fmt.unitElems - 1) / c.fmt.unitElems

/-- Engine and slot of a job's context (R359). -/
def State.findCtx (s : State) (job ctx : Nat) : Option (Nat × Nat) :=
  let look := fun (e : Nat) =>
    ((s.meld e).ctxs.find? (fun (x : Nat × MeldCtx) => x.2.valid && x.2.job = job && x.2.ctx = ctx)).map (fun x => (e, x.1))
  match look 0 with
  | some x => some x
  | none => look 1

/-! ## Counters, events and packets -/

/-- A counter of an engine (R386), by its index. -/
def State.meldCount (s : State) (e i n : Nat) : State :=
  s.modMeld e (fun m => { m with counters := tput m.counters i (satAdd (tget 0 m.counters i) n) })

/-- An event of R387 (R577). -/
def State.meldEvent (s : State) (code e job ctx shard reason step : Nat) : State :=
  s.raise code job (e + ctx * 2 ^ 4 + shard % 4096 * 2 ^ 16 + reason * 2 ^ 28 + step % 2 ^ 20 * 2 ^ 32)

/-- Event 0x0801 and the job fault (R373, R376). -/
def State.meldMismatch (s : State) (e : Nat) (c : MeldCtx) (shard reason : Nat) : State :=
  (s.meldEvent 0x0801 e c.job c.ctx shard reason 0).jobFault 0x0801

/-- Event 0x0807 and the job fault (R383). -/
def State.meldOutside (s : State) (e : Nat) (c : MeldCtx) (v : Int) : State :=
  (s.raise 0x0807 c.job (e + c.ctx * 2 ^ 4 + (v % (2 ^ 48 : Int)).toNat * 2 ^ 16)).jobFault 0x0807

/-- A Meld packet of a firing (R369, R372). -/
def meldPacket (src dst : BitVec 12) (c : MeldCtx) (ptype step number version shard : Nat) (spec : BitVec 192) (payload : List Byte)
    (poison : Bool) : Packet :=
  let tc := if ptype = ptMeldData then 1 else 0
  { cls := BitVec.ofNat 2 tc, ptype := BitVec.ofNat 4 ptype, src := src, dst := dst,
    tag := mkTag c.job 3 tc number version 0 0 0 0 step, handle := BitVec.ofNat 64 (c.ctx + shard * 2 ^ 12), specific := spec,
    payload := payload, poison := poison }

/-- A Meld packet is sent and counted (R386, R529). -/
def State.meldSend (s : State) (e : Nat) (p : Packet) : State :=
  ((s.meldCount e 1 1).statJob (tagJob p.tag) 35 1).originate p

/-- Step number in the tags of a job's Meld packets (R369). -/
def State.jobStep (s : State) (job : Nat) : Nat :=
  match s.findJob job with
  | some n => (s.job n).step.toNat % 2 ^ 20
  | none => 0

/-- A MELD_CTL message (R372). -/
def State.meldCtl (s : State) (e : Nat) (c : MeldCtx) (dst : BitVec 12) (number version shard op : Nat)
    (fields : List (Nat × Nat × Nat)) : State :=
  s.meldSend e (meldPacket s.self dst c ptMeldCtl (s.jobStep c.job) number version shard (mkSpec ((32, 1, op) :: fields)) [] false)

/-- A MELD_DATA packet: payload padded to whole blocks (R319, R372). -/
def State.meldDataTo (s : State) (e : Nat) (c : MeldCtx) (dst : BitVec 12) (number shard first n enc total : Nat) (last poison : Bool)
    (bs : List Byte) : State :=
  s.meldSend e (meldPacket s.self dst c ptMeldData (s.jobStep c.job) number 0 shard
    (mkSpec [(32, 4, first), (36, 2, n), (38, 1, enc), (39, 1, b2n last), (40, 4, total)])
    (padTo ((bs.length + 63) / 64 * 64) bs) poison)

/-! ## Memory (R357, R358, R382, R383) -/

def meldRegions : Region → Bool
  | .sram _ => true
  | .gddr _ => true
  | _ => false

/-- Physical addresses of job-view addresses, all in stacked SRAM or GDDR7; else the first that is not. -/
def State.meldResolve (s : State) (slot : Nat) : List Int → Except Int (List Nat)
  | [] => .ok []
  | v :: r =>
    match s.resolve slot 0 v with
    | none => .error v
    | some x =>
      if meldRegions x.1 then
        match s.meldResolve slot r with
        | .error e => .error e
        | .ok l => .ok (x.2 :: l)
      else .error v

/-- Published bytes read by an engine, and whether any was poisoned; the address of a failed access else. -/
def State.meldRead (s : State) (slot : Nat) (vs : List Int) : State × Except Int (List Byte × Bool) :=
  match s.meldResolve slot vs with
  | .error v => (s, .error v)
  | .ok as =>
    let r := touchReads (some slot) false (linesOf as) s
    (r.1, .ok (as.map r.1.memByte, r.2))

/-- Bytes written directly to memory; a poisoned slab's write marks its lines (R358, R382). -/
def State.meldWrite (s : State) (slot v : Nat) (bs : List Byte) (poison : Bool) : State × Option Int :=
  match s.meldResolve slot (viewRange (v : Int) bs.length) with
  | .error x => (s, some x)
  | .ok as =>
    let s1 := s.publish slot (as.zip bs)
    (if poison then (linesOf as).foldl (fun s l => s.setPoison l) s1 else s1, none)

/-- A value that the spec leaves open (log 3), as `n` bytes. -/
def State.freeBytes (s : State) (n : Nat) : State × List Byte :=
  ({ s with free := s.free + n }, (List.range n).map (fun i => (Config.freeValue (s.free + i)).setWidth 8))

/-! ## Firings and slabs -/

def State.firing (s : State) (e c n : Nat) : Option Firing := (s.meld e).firings.find? (fun f => f.slot = c && f.number = n)

/-- The context's firings that have started and not ended, by number; a context may have several (R365, R367). -/
def State.activeFirings (s : State) (e c : Nat) : List Firing :=
  ((s.meld e).firings.filter (fun f => f.slot = c && f.started)).mergeSort (fun a b => decide (a.number ≤ b.number))

def State.modFiring (s : State) (e c n : Nat) (g : Firing → Firing) : State :=
  s.modMeld e (fun m => { m with firings := modFirst (fun f => f.slot = c && f.number = n) g m.firings })

/-- A firing's entry, made when a packet or a start names it first. -/
def State.haveFiring (s : State) (e c n : Nat) : State :=
  if (s.firing e c n).isSome then s
  else s.modMeld e (fun m => { m with firings := m.firings ++ [{ slot := c, number := n }] })

def Firing.slab (f : Firing) (sh k : Nat) : Option Slab := f.slabs.find? (fun x => x.shard = sh && x.index = k)

def State.modSlab (s : State) (e c n sh k : Nat) (g : Slab → Slab) : State :=
  s.modFiring e c n (fun f => { f with slabs := modFirst (fun x => x.shard = sh && x.index = k) g f.slabs })

/-- A slab becomes poisoned: event 0x0804 once (R382). -/
def State.poisonSlab (s : State) (e c n sh k : Nat) : State :=
  match s.firing e c n with
  | none => s
  | some f =>
    match f.slab sh k with
    | none => s
    | some x =>
      if x.poison then s
      else (s.modSlab e c n sh k (fun x => { x with poison := true })).meldEvent 0x0804 e (s.mctx e c).job (s.mctx e c).ctx sh 0 0

/-- Identity of MAX or MIN (R580). -/
def extIdentity (op : Nat) : Word := if op = 1 then 0xFF800000 else 0x7F800000

/-- A value folded into an element of a slab (R59, R361, R370). -/
def Slab.fold (x : Slab) (op i : Nat) (v : Num) : Slab :=
  let x := { x with counts := tput x.counts i (tget 0 x.counts i + 1) }
  if op = 0 then { x with acc := tput x.acc i ((tget ({} : W320) x.acc i).addNum v) }
  else
    let a := ofFp32 (tget (extIdentity op) x.ext i)
    { x with ext := tput x.ext i (toFp32 (if op = 1 then a.max v else a.min v)) }

/-- Values folded into consecutive elements from `i` on. -/
def Slab.foldAll (x : Slab) (op i : Nat) : List Num → Slab
  | [] => x
  | v :: r => (x.fold op i v).foldAll op (i + 1) r

/-- Contributions folded into a slab. -/
def Slab.total (x : Slab) : Nat := x.counts.foldl (fun a e => a + e.2) 0

/-- Byte strings put at consecutive units from `i` on. -/
def putUnits (t : Tbl (List Byte)) (i : Nat) : List (List Byte) → Tbl (List Byte)
  | [] => t
  | b :: r => putUnits (tput t i b) (i + 1) r

/-! ## Partials on the wire (R371, R580) -/

/-- The five limbs of a value field, sign-extended to 320 bits. -/
def limbsOf (v : BitVec 301) : List Nat := (List.range 5).map (fun k => nbits (v.signExtend 320).toNat (64 * k) 64)

def limbSign (x : Nat) : Nat := if nbit x 63 then 2 ^ 64 - 1 else 0

/-- The lowest limb above which every limb repeats its sign. -/
def topLimb (ls : List Nat) : Nat :=
  ((List.range 5).find? (fun k => (ls.drop (k + 1)).all (fun x => x == limbSign (ls.getD k 0)))).getD 4

/-- Descriptor and kept limbs of an accumulator. -/
def trimmed (w : W320) : Nat × List Nat :=
  let flags := b2n w.nan * 2 ^ 8 + b2n w.pinf * 2 ^ 7 + b2n w.ninf * 2 ^ 6
  if w.value = 0 then (flags, [])
  else
    let ls := limbsOf w.value
    let first := ((List.range 5).find? (fun k => ls.getD k 0 != 0)).getD 0
    let kept := (ls.take (topLimb ls + 1)).drop first
    (flags + kept.length * 2 ^ 3 + first, kept)

/-- Payload of a SUM partial. -/
def packSum (ws : List W320) : List Byte :=
  let ts := ws.map trimmed
  padTo ((2 * ts.length + 7) / 8 * 8) (ts.map (fun t => leBytes 2 t.1)).flatten
    ++ ((ts.map (fun t => t.2)).flatten.map (leBytes 8)).flatten

/-- An accumulator from its descriptor and kept limbs. -/
def untrim (d : Nat) (kept : List Nat) : W320 :=
  let ext := match kept.getLast? with
    | some x => limbSign x
    | none => 0
  let ls := List.replicate (nbits d 0 3) 0 ++ kept ++ List.replicate 5 ext
  let v := ((ls.take 5).zip (List.range 5)).foldl (fun a x => a + x.1 * 2 ^ (64 * x.2)) 0
  { value := BitVec.ofNat 301 v, nan := nbit d 8, pinf := nbit d 7, ninf := nbit d 6 }

/-- Accumulators of descriptors whose limbs begin at a byte string. -/
def unpackLimbs : List Nat → List Byte → List W320
  | [], _ => []
  | d :: r, bs =>
    let n := nbits d 3 3
    untrim d ((List.range n).map (fun i => leAt bs (8 * i) 8)) :: unpackLimbs r (bs.drop (8 * n))

/-- The `n` accumulators of a SUM payload. -/
def unpackSum (n : Nat) (bs : List Byte) : List W320 :=
  unpackLimbs ((List.range n).map (fun i => leAt bs (2 * i) 2)) (bs.drop ((2 * n + 7) / 8 * 8))

/-- Elements divided into packets of at most 4,096 payload bytes: `cur` the packet being filled, last element first, `limbs` its limbs. -/
def splitSum (cur : List W320) (limbs : Nat) : List W320 → List (List W320)
  | [] => [cur.reverse]
  | w :: r =>
    let k := (trimmed w).2.length
    if cur ≠ [] && decide (4096 < (2 * (cur.length + 1) + 7) / 8 * 8 + 8 * (limbs + k)) then cur.reverse :: splitSum [w] k r
    else splitSum (w :: cur) (limbs + k) r

/-- The packets of a SUM partial sent in element order from element index `i` of the slab on. -/
def sendSums (e : Nat) (c : MeldCtx) (dst : BitVec 12) (number : Nat) (x : Slab) (first : Nat) :
    List (List W320) → Nat → State → State
  | [], _, s => s
  | g :: r, i, s =>
    let total := (upFrom i g.length).foldl (fun a j => a + tget 0 x.counts j) 0
    sendSums e c dst number x first r (i + g.length)
      (s.meldDataTo e c dst number x.shard (first + i) g.length 1 total r.isEmpty x.poison (packSum g))

/-- A package sends a completed slab to its parent (R371). -/
def State.sendPartial (s : State) (e : Nat) (c : MeldCtx) (number : Nat) (x : Slab) : State :=
  let r := c.slabRange x.shard x.index
  let parent := shardParent (s.shardWord e c x.shard)
  let n := r.2 - r.1
  if c.op = 0 then
    sendSums e c parent number x r.1 (splitSum [] 0 ((List.range n).map (fun i => tget {} x.acc i))) 0 s
  else
    s.meldDataTo e c parent number x.shard r.1 n 2 x.total true x.poison
      ((List.range n).map (fun i => leBytes 4 (tget (extIdentity c.op) x.ext i).toNat)).flatten

/-- Consecutive units of a slab as (first unit, bytes) runs of at most `per` units. -/
def unitRuns (per : Nat) : List (Nat × List Byte) → List (Nat × List (List Byte)) → List (Nat × List (List Byte))
  | [], acc => acc.reverse.map (fun (r : Nat × List (List Byte)) => (r.1, r.2.reverse))
  | (i, b) :: r, acc =>
    match acc with
    | (f, bs) :: t => if f + bs.length = i && bs.length < per then unitRuns per r ((f, b :: bs) :: t)
      else unitRuns per r ((i, [b]) :: acc)
    | [] => unitRuns per r [(i, [b])]

/-- The packets of a slab's units, as values in dst_fmt. -/
def sendRuns (e : Nat) (c : MeldCtx) (dst : BitVec 12) (number shard first stop : Nat) (poison : Bool) :
    List (Nat × List (List Byte)) → State → State
  | [], s => s
  | (i, us) :: r, s =>
    let u := c.fmt.unitElems
    let n := min (us.length * u) (stop - (first + i * u))
    sendRuns e c dst number shard first stop poison r
      (s.meldDataTo e c dst number shard (first + i * u) n 3 0 r.isEmpty poison us.flatten)

/-- The units of a slab sent to a package (R374, R375, R376). -/
def State.sendUnits (s : State) (e : Nat) (c : MeldCtx) (dst : BitVec 12) (number : Nat) (x : Slab) : State :=
  let r := c.slabRange x.shard x.index
  sendRuns e c dst number x.shard r.1 r.2 x.poison (unitRuns (4096 / c.fmt.unitBytes) x.bytes []) s

/-! ## Noise statistics (R378, R379) -/

/-- The A48 sum of squares of values in order, from −0. -/
def sumSquares (vs : List Num) : BitVec 48 := vs.foldl (fun a v => a48Add a (v.mul v)) a48NegZero

/-- The A48 sum of A48 values, from −0. -/
def sumA48 (vs : List (BitVec 48)) : BitVec 48 := vs.foldl (fun a v => a48Add a (a48Decode v)) a48NegZero

/-- SSQ_SOURCE for a source of a stats context, to the stats home. -/
def State.sendSsqSource (s : State) (e : Nat) (c : MeldCtx) (number : Nat) (x : MeldSrc) (v : BitVec 48) : State :=
  s.meldCtl e c c.statsPkg number 0 0 4 [(34, 2, x.index % 16 + x.cid * 16), (40, 8, v.toNat)]

/-- SSQ_SHARD for a shard that this package roots. -/
def State.sendSsqShard (s : State) (e : Nat) (c : MeldCtx) (number shard : Nat) (v : BitVec 48) : State :=
  s.meldCtl e c c.statsPkg number 0 shard 5 [(40, 8, v.toNat)]

/-- A noise record with every message held: the combinations of R378. -/
def Noise.combine (x : Noise) (n shards : Nat) : Noise :=
  if x.complete || x.sources.length ≠ n || x.shards.length ≠ shards then x
  else
    let key := fun (m : BitVec 12 × Nat × Nat × BitVec 48) => m.1.toNat * 16 + m.2.1
    let cids := (x.sources.map (fun m => m.2.2.1)).dedup
    let sums := cids.map (fun cid => (cid,
      sumA48 (((x.sources.filter (fun m => m.2.2.1 = cid)).mergeSort (fun a b => decide (key a ≤ key b))).map (fun m => m.2.2.2))))
    let red := sumA48 ((x.shards.mergeSort (fun a b => decide (a.1 ≤ b.1))).map (fun m => m.2))
    { x with
      complete := true,
      nonfinite := (red :: sums.map (fun m => m.2)).any (fun v => !(a48Decode v).isFinite),
      reduced := toBinary64 (a48Decode red),
      contrib := sums.foldl (fun (t : Tbl Dword) (m : Nat × BitVec 48) => tput t m.1 (toBinary64 (a48Decode m.2))) [] }

/-- A message at the stats home: only the first firing of a step feeds the record (R379). -/
def State.feedNoise (s : State) (e : Nat) (c : MeldCtx) (number : Nat) (g : Noise → Noise) : State :=
  let mine := fun (x : Noise) => x.job.toNat = c.job && x.ctx.toNat = c.ctx
  let upd := fun (x : Noise) => if number = 0 then (g x).combine c.statsSrcs c.shardCount else { x with more := true }
  s.modMeld e (fun m =>
    { m with noise :=
        modFirst mine upd (if m.noise.any mine then m.noise
          else m.noise ++ [{ job := BitVec.ofNat 12 c.job, ctx := BitVec.ofNat 12 c.ctx, tensorId := BitVec.ofNat 16 c.tensorId }]) })

/-! ## Results (R373, R374) -/

/-- Where a slab's result lies (R360, R376). -/
def MeldCtx.dstOffset (c : MeldCtx) (sh k : Nat) : Nat :=
  let r := c.slabRange sh k
  c.fmt.offset (if c.kind = 1 || c.kind = 4 then r.1 - (c.shardRange sh).1 else r.1)

/-- The units of a slab in order; a unit that nothing supplied is a free value. -/
def fillUnits (x : Tbl (List Byte)) (size : Nat) : List Nat → State → State × List (List Byte)
  | [], s => (s, [])
  | i :: r, s =>
    match tfind x i with
    | some b =>
      let y := fillUnits x size r s
      (y.1, b :: y.2)
    | none =>
      let f := s.freeBytes size
      let y := fillUnits x size r f.1
      (y.1, f.2 :: y.2)

/-- The slabs of a shard once every one of them has its result: the SSQ_SHARD of a stats context (R378). -/
def State.shardDone (s : State) (e cs n sh : Nat) : State :=
  let c := s.mctx e cs
  match s.firing e cs n with
  | none => s
  | some f =>
    let xs := f.slabs.filter (fun x => x.shard = sh)
    if c.stats && shardRoot (s.shardWord e c sh) && xs.all (fun x => x.dealt) then
      s.sendSsqShard e c n sh (sumSquares ((xs.map (fun x => x.bytes.map (fun b => c.fmt.decodeUnit b.2))).flatten.flatten))
    else s

/-- A slab has its result: written where the package has a destination, sent to every package that joined the shard (R374); the address of
a failed write else. -/
def State.slabResult (s : State) (e cs slot n sh k : Nat) : State :=
  let c := s.mctx e cs
  match s.firing e cs n with
  | none => s
  | some f =>
    match f.slab sh k with
    | none => s
    | some x =>
      let u := fillUnits x.bytes c.fmt.unitBytes (List.range (c.slabUnits sh k)) s
      let y := { x with bytes := putUnits [] 0 u.2, dealt := true }
      let s1 := u.1.modSlab e cs n sh k (fun _ => y)
      let w := if c.dstAddr ≠ 0 && (shardRoot (s.shardWord e c sh) || c.spreads) then
          s1.meldWrite slot (c.dstAddr + c.dstOffset sh k) u.2.flatten x.poison
        else (s1, none)
      match w with
      | (s2, some v) => s2.meldOutside e c v
      | (s2, none) =>
        let s3 := if c.spreads then
            (f.children.filter (fun h => h.shard = sh)).foldl (fun s h => s.sendUnits e c h.pkg n y) s2
          else s2
        s3.shardDone e cs n sh

/-- One element of a root's slab rounded to dst_fmt (R61, R63, R373). -/
def roundElement (s : State) (slot : Nat) (c : MeldCtx) (number elem : Nat) (x : Slab) (i : Nat) : Num × Stored :=
  let r := if rndIsSr c.rnd then
      shuffle (s.job slot).seed (s.job slot).step (BitVec.ofNat 32 number) (BitVec.ofNat 32 c.tensorId) (BitVec.ofNat 32 elem)
    else 0
  if c.op = 0 then
    let w := tget {} x.acc i
    (w.toNum, c.fmt.store c.rnd r w.nan w.toNum)
  else
    let v := ofFp32 (tget (extIdentity c.op) x.ext i)
    (v, c.fmt.store c.rnd r v.isNan v)

/-- The root's slab with every contribution: its count check, its rounding and its tracking (R373). -/
def State.rootSlab (s : State) (e cs slot n : Nat) (x : Slab) : State :=
  let c := s.mctx e cs
  let r := c.slabRange x.shard x.index
  let len := r.2 - r.1
  if x.total ≠ c.contribs * len then s.meldMismatch e c x.shard 1
  else
    let els := (List.range len).map (fun i => (r.1 + i, roundElement s slot c n (r.1 + i) x i))
    let status := els.foldl (fun (a : NumStatus) (m : Nat × Num × Stored) => a.add m.1 m.2.1 m.2.2)
      { srUsed := rndIsSr c.rnd : NumStatus }
    let units := els.map (fun m => leBytes c.fmt.unitBytes m.2.2.bits)
    let s1 := (s.modSlab e cs n x.shard x.index (fun x => { x with bytes := putUnits [] 0 units })).modFiring e cs n
      (fun f => { f with status := f.status.merge status })
    (s1.stat slot 34 len).slabResult e cs slot n x.shard x.index

/-! ## Progress of a firing (R367, R370, R376) -/

/-- A job's context may act: its job exists and its step runs here, neither revoked (R365, R381). -/
def State.meldLive (s : State) (slot : Nat) : Bool :=
  match (s.job slot).run with
  | some r => r.started && !r.revoked && !s.host.pcieOnly
  | none => false

/-- The slabs in a context's window, as firing, shard and index: the first win_slabs, by firing, then shard, then slab, that are neither sent nor
dealt with (R367). -/
def State.window (s : State) (e cs : Nat) : List (Nat × Nat × Nat) :=
  (((s.activeFirings e cs).map (fun f => (f.slabs.filter (fun x => !x.dealt && !x.sent)).map (fun x => (f.number, x.shard, x.index)))).flatten).take
    (s.mctx e cs).win

/-- Slabs of a shard of a firing that the package has granted or may grant: those dealt with or sent, and those in the window, in order (R367). -/
def Firing.grantable (f : Firing) (win : List (Nat × Nat × Nat)) (sh : Nat) : Nat :=
  ((f.slabs.filter (fun x => x.shard = sh)).takeWhile (fun x => x.dealt || x.sent || win.contains (f.number, sh, x.index))).length

/-- GRANTs of a firing to the packages that have joined it and may send more than they know (R367; log 55): once a slab of the firing may be
granted, every slab of the shard's earlier firings has been. -/
def State.grantFiring (s : State) (e cs : Nat) (f : Firing) : State :=
  let c := s.mctx e cs
  let win := s.window e cs
  f.children.foldl (fun s h =>
    let g := BitVec.ofNat 32 (f.number * c.slabsIn h.shard + f.grantable win h.shard)
    if f.grantable win h.shard ≠ 0 && later 32 g.toNat h.granted.toNat then
      (s.modFiring e cs f.number (fun f => { f with
        children := modFirst (fun x => x.shard = h.shard && x.pkg = h.pkg) (fun x => { x with granted := g }) f.children })).meldCtl e c
          h.pkg f.number 0 h.shard 1 [(36, 4, g.toNat)]
    else s) s

/-- GRANTs of every firing of a context. -/
def State.grantAll (s : State) (e cs : Nat) : State := (s.activeFirings e cs).foldl (fun s f => s.grantFiring e cs f) s

/-- Whether the parent has granted a slab, and every earlier slab of its shard has been sent. -/
def Firing.maySend (f : Firing) (c : MeldCtx) (x : Slab) : Bool :=
  later 32 (tget 0 f.grants x.shard).toNat (f.number * c.slabsIn x.shard + x.index)
  && f.slabs.all (fun y => y.shard ≠ x.shard || decide (x.index ≤ y.index) || y.sent || y.dealt)

/-- One slab of the window taken further. -/
def State.slabStep (s : State) (e cs slot n sh k : Nat) : State :=
  let c := s.mctx e cs
  match s.firing e cs n with
  | none => s
  | some f =>
    match f.slab sh k with
    | none => s
    | some x =>
      let w := s.shardWord e c sh
      if x.dealt || x.sent || f.recipe.isSome then s
      else if c.reduces then
        if x.got < shardUp w then s
        else if shardRoot w then s.rootSlab e cs slot n x
        else if f.maySend c x then
          (s.modSlab e cs n sh k (fun x => { x with sent := true, dealt := c.kind ≠ 2 })).sendPartial e c n x
        else s
      else if c.kind = 4 then
        if shardRoot w then
          if x.bytes.length = c.slabUnits sh k then s.modSlab e cs n sh k (fun x => { x with dealt := true }) else s
        else if x.bytes.isEmpty then s.modSlab e cs n sh k (fun x => { x with sent := true, dealt := true })
        else if f.maySend c x then
          (s.modSlab e cs n sh k (fun x => { x with sent := true, dealt := true })).sendUnits e c
            (shardParent w) n x
        else s
      else if shardRoot w then s.slabResult e cs slot n sh k
      else s

/-- Every slab of the window once, in order, and the grants before it. -/
def State.windowPass (s : State) (e cs slot : Nat) : State :=
  (s.window e cs).foldl (fun s x => s.slabStep e cs slot x.1 x.2.1 x.2.2) (s.grantAll e cs)

/-- Passes until nothing moves: one slab at least leaves the window in each. -/
def meldLoop (e cs slot : Nat) : Nat → State → State
  | 0, s => s
  | k + 1, s =>
    let s1 := s.windowPass e cs slot
    if s.window e cs = s1.window e cs then s1 else meldLoop e cs slot k s1

/-- The firings of a context go on. -/
def State.meldProgress (s : State) (e cs slot : Nat) : State :=
  meldLoop e cs slot ((s.activeFirings e cs).foldl (fun a f => a + f.slabs.length) 1) s

/-! ## The start of a firing (R365, R366, R370, R375, R376) -/

/-- Offset that version_rel adds to a source's address: none when the source breaks R366. -/
def State.sourceBase (s : State) (slot : Nat) (version : Nat) (x : MeldSrc) : Option Int :=
  if !x.versionRel then some (x.addr : Int)
  else
    match s.versionBase slot (mkTag 0 0 0 0 version 0 0 0 0 0) (x.addr : Int) (x.addr : Int)
        ((x.addr + x.fmt.offset x.count : Nat) - 1 : Int) with
    | some (b, true) => some b
    | _ => none

/-- What a source reads of a slab: the first element covered within the slab and the bytes; the failing address else. -/
def State.readSource (s : State) (slot version : Nat) (c : MeldCtx) (x : MeldSrc) (sh k : Nat) :
    State × Except Int (Option (Nat × List Byte × Bool)) :=
  let r := c.slabRange sh k
  let lo := max r.1 x.first
  let hi := min r.2 (x.first + x.count)
  if hi ≤ lo then (s, .ok none)
  else
    match s.sourceBase slot version x with
    | none => (s, .error (x.addr : Int))
    | some b =>
      let o := x.fmt.offset (lo - x.first)
      match s.meldRead slot (viewRange (b + o) (x.fmt.offset (hi - x.first) - o)) with
      | (s1, .error v) => (s1, .error v)
      | (s1, .ok y) => (s1, .ok (some (lo - r.1, y.1, y.2)))

/-- The values of a source's bytes. -/
def decodeUnits (f : Fmt) (bs : List Byte) : List Num := ((chunks f.unitBytes bs.length bs).map f.decodeUnit).flatten

/-- What a source gives a slab: contributions, or the bytes to copy. -/
def Slab.take (x : Slab) (c : MeldCtx) (f : Fmt) (i : Nat) (bs : List Byte) : Slab :=
  if c.reduces then x.foldAll c.op i (decodeUnits f bs)
  else { x with bytes := putUnits x.bytes (i / c.fmt.unitElems) (chunks c.fmt.unitBytes bs.length bs) }

/-- Every (source, slab) of a firing read in order; the failing address at the end. -/
def readAll (e cs slot n version : Nat) : List (MeldSrc × Nat × Nat) → State → State × Option Int
  | [], s => (s, none)
  | (x, sh, k) :: r, s =>
    let c := s.mctx e cs
    match s.readSource slot version c x sh k with
    | (s1, .error v) => (s1, some v)
    | (s1, .ok none) => readAll e cs slot n version r s1
    | (s1, .ok (some (i, bs, p))) =>
      let s2 := s1.modSlab e cs n sh k (fun y => y.take c x.fmt i bs)
      let s3 := if p then s2.poisonSlab e cs n sh k else s2
      let s4 := if c.reduces then s3.meldCount e 2 (decodeUnits x.fmt bs).length else s3
      readAll e cs slot n version r s4

/-- SSQ_SOURCE of every source of a stats context (R378). -/
def ssqAll (e cs slot n version : Nat) : List MeldSrc → State → State
  | [], s => s
  | x :: r, s =>
    let c := s.mctx e cs
    match s.sourceBase slot version x with
    | none => ssqAll e cs slot n version r s
    | some b =>
      match s.meldResolve slot (viewRange b (x.fmt.offset x.count)) with
      | .error _ => ssqAll e cs slot n version r s
      | .ok as =>
        ssqAll e cs slot n version r (s.sendSsqSource e c n x (sumSquares (decodeUnits x.fmt (as.map s.memByte))))

/-- Whether the job of a slot is there: a job fault takes every job away (R475). -/
def State.hasJob (s : State) (slot : Nat) : Bool := (s.job slot).valid && !(s.job slot).endingLost

/-- A reference of a job's gather or keep entry on a version changes by one, or is an error (R268, R270, R273, R366).  The error's event names
the job's first tile, no stream and no instruction (log 147). -/
def State.jobRef (s : State) (slot version : Nat) (up : Bool) : State :=
  let j := s.job slot
  let bad := fun (reason : Nat) =>
    (s.raise 0x0211 j.id.toNat (tsDetail (8 * j.first) 3 0xFFFF reason version 0)).jobFault 0x0211
  if !s.hasJob slot then s
  else match j.versionEntry version [2, 3] with
  | none => bad 3
  | some i =>
    let refs := (tget {} j.versions i).refs
    if up then
      if refs = 2 ^ 20 - 1 then bad 2 else s.modJob slot (fun j => j.modVersion i (fun v => { v with refs := v.refs + 1 }))
    else if refs = 0 then bad 1
    else s.modJob slot (fun j => j.modVersion i (fun v => { v with refs := v.refs - 1 }))

/-! ### Gathers into keep homes (R272, R273) -/

/-- Whether two homes overlap. -/
def Keep.overlaps (a b : Keep) : Bool :=
  decide (a.home.toNat < b.home.toNat + b.size.toNat * 256) && decide (b.home.toNat < a.home.toNat + a.size.toNat * 256)

def State.keep (s : State) (k : Nat) : Keep := tget {} s.dealer.keeps k

def State.modKeep (s : State) (k : Nat) (f : Keep → Keep) : State := s.modDealer (fun d => { d with keeps := tmod {} d.keeps k f })

/-- The other entries of the job whose homes overlap that of an entry. -/
def State.keepShares (s : State) (k : Nat) : List Nat :=
  let x := s.keep k
  (List.range 128).filter (fun i => i ≠ k && (s.keep i).valid && (s.keep i).job = x.job && (s.keep i).overlaps x)

/-- A keep entry becomes EVICTED, and its reference on its version is released (R273). -/
def State.evict (s : State) (slot k : Nat) : State :=
  let s1 := s.jobRef slot (s.keep k).tag.toNat false
  if s1.hasJob slot then s1.modKeep k (fun x => { x with state := 2 }) else s1

/-- Whether an entry holds a reference: VALID or GATHERING (R273). -/
def Keep.holdsRef (x : Keep) : Bool := x.state = 1 || x.state = 3

/-- A gather into an entry's home waits while an overlapping entry is pinned (R272). -/
def State.gatherWaits (s : State) (k : Nat) : Bool := (s.keepShares k).any s.keepPinned

/-- A gather of a version into an entry's home begins (R272, R273): overlapping VALID entries are evicted, and the entry is GATHERING. -/
def State.gatherStart (s : State) (slot k : Nat) (version : Byte) : State :=
  let s1 := ((s.keepShares k).filter (fun i => (s.keep i).state = 1)).foldl (fun s i => s.evict slot i) s
  let s2 := if (s1.keep k).holdsRef then s1.evict slot k else s1
  let s3 := s2.jobRef slot version.toNat true
  if s3.hasJob slot then s3.modKeep k (fun y => { y with state := 3, tag := version }) else s3

/-- Every write of a gather is visible: its entry is VALID, unless it has been evicted meanwhile (R272, R273). -/
def State.gatherEnd (s : State) (k : Option Nat) : State :=
  match k with
  | some k => s.modKeep k (fun x => if x.state = 3 then { x with state := 1 } else x)
  | none => s

/-- The keep entry whose home an ALLGATHER context's destination lies in: its recipe's own before another (R272). -/
def State.homeOf (s : State) (slot : Nat) (c : MeldCtx) : Option Nat :=
  if c.kind ≠ 3 || c.dstAddr = 0 then none
  else
    let ks := s.keepsOf slot ((c.dstAddr : Int), ((c.dstAddr + c.fmt.offset c.elems : Nat) : Int) - 1)
    match ks.find? (fun k => (s.keep k).recipe.toNat = c.ctx) with
    | some k => some k
    | none => ks.head?

/-- Elements of a PERMUTE whose root is the package itself are copied locally: to the destination, or to the bounce area in place (R376,
R377). -/
def copyOwn (e cs slot n : Nat) : List (Nat × List (List Byte)) → Slab → State → State × Option Int
  | [], _, s => (s, none)
  | (i, us) :: r, x, s =>
    let c := s.mctx e cs
    let base := if c.inPlace then c.bounce else c.dstAddr
    match s.meldWrite slot (base + c.dstOffset x.shard x.index + i * c.fmt.unitBytes) us.flatten x.poison with
    | (s1, some v) => (s1, some v)
    | (s1, none) => copyOwn e cs slot n r x s1

/-- The own elements of every slab that a PERMUTE's package roots. -/
def copyOwns (e cs slot n : Nat) : List Slab → State → State × Option Int
  | [], s => (s, none)
  | x :: r, s =>
    match copyOwn e cs slot n (unitRuns 1024 x.bytes []) x s with
    | (s1, some v) => (s1, some v)
    | (s1, none) => copyOwns e cs slot n r s1

/-- The slabs of a firing whose shards this package roots. -/
def State.rootSlabs (s : State) (e cs n : Nat) : List Slab :=
  match s.firing e cs n with
  | none => []
  | some f => f.slabs.filter (fun x => shardRoot (s.shardWord e (s.mctx e cs) x.shard))

/-- SSQ_SHARD for the shards of a stats context that this package roots and that have no elements (R362, R378). -/
def State.emptyShards (s : State) (e : Nat) (c : MeldCtx) (n : Nat) : State :=
  if c.stats then
    ((s.partShards e c).filter (fun sh => shardRoot (s.shardWord e c sh) && c.slabsIn sh = 0)).foldl (fun s sh =>
      s.sendSsqShard e c n sh (sumSquares [])) s
  else s

/-- A firing starts (R365 to R370): its sources are read, its JOINs sent, the shards that need no other package dealt with. -/
def State.startFiring (s : State) (e cs slot n : Nat) : State :=
  let c := s.mctx e cs
  let srcs := s.meldSources e c
  let parts := s.partShards e c
  let order := (parts.map (fun sh => (List.range (c.slabsIn sh)).map (fun k => (sh, k)))).flatten
  let vrel := srcs.any (fun x => x.versionRel)
  let version := (s.job slot).curTag
  let home := s.homeOf slot c
  let s1 := ((s.haveFiring e cs n).modFiring e cs n (fun f => { f with
    started := true, version := if vrel then some version else none, home := home,
    slabs := order.map (fun x => { shard := x.1, index := x.2 }) })).modMctx e cs (fun x => { x with started := x.started + 1 })
  let s1 := match home with
    | some k => s1.gatherStart slot k version
    | none => s1
  let s2 := if vrel then s1.jobRef slot version.toNat true else s1
  let mine := fun (sh : Nat) => c.kind ≠ 3 || shardRoot (s.shardWord e c sh)
  let work := (srcs.map (fun x => (order.filter (fun y => mine y.1)).map (fun y => (x, y.1, y.2)))).flatten
  if !s2.hasJob slot then s2
  else match readAll e cs slot n version.toNat work s2 with
  | (s3, some v) => s3.meldOutside e c v
  | (s3, none) =>
    match (if c.kind = 4 then copyOwns e cs slot n (s3.rootSlabs e cs n) s3 else (s3, none)) with
    | (s4, some v) => s4.meldOutside e c v
    | (s4, none) =>
      let s5 := (if c.stats then ssqAll e cs slot n version.toNat srcs s4 else s4).emptyShards e c n
      ((parts.filter (fun sh => !shardRoot (s.shardWord e c sh))).foldl (fun s sh =>
        s.meldCtl e c (shardParent (s.shardWord e c sh)) n 0 sh 2 []) s5).meldProgress e cs slot

/-- Whether a firing of a context must wait before its gather begins (R272). -/
def State.homeWaits (s : State) (slot : Nat) (c : MeldCtx) : Bool :=
  match s.homeOf slot c with
  | some k => s.gatherWaits k
  | none => false

/-- The next firing of a context that needs no trigger starts when a JOIN or a DEMAND is recorded for it, and so on with the one after it
(R365). -/
def relayLoop (e cs slot : Nat) : Nat → State → State
  | 0, s => s
  | k + 1, s =>
    let c := s.mctx e cs
    match s.firing e cs c.started with
    | some f =>
      if (f.children.isEmpty && !f.demanded) || !s.meldLive slot || c.srcCount ≠ 0 || s.homeWaits slot c then s
      else relayLoop e cs slot k (s.startFiring e cs slot c.started)
    | none => s

def State.relayStart (s : State) (e cs slot : Nat) : State := relayLoop e cs slot (s.meld e).firings.length s

/-- Every context of a job starts what it can at the step's start (R365, R367). -/
def State.meldStepStart (s : State) (slot : Nat) : State :=
  (List.range 2).foldl (fun s e =>
    ((s.meld e).slotsOf (s.job slot).id.toNat).foldl (fun s cs => s.relayStart e cs slot) s) s

/-- MELD_TRIGGER (R365): the counter has reached the target of the context's next firing. -/
def execMeldTrigger (engine : Fin 2) (slot : Fin 512) (amb : Ambient) (s : State) : Host.Outcome State Fault Refusal :=
  let e := engine.val
  let cs := slot.val
  let c := s.mctx e cs
  match s.findJob c.job with
  | none => .next s
  | some n =>
    let target := BitVec.ofNat 32 (c.trigBase + c.started * c.trigStep)
    let hit := match (s.job n).objectOf c.trigObj with
      | some o => reached (s.obj o).value target
      | none => false
    if c.valid && c.trigStep ≠ 0 && (c.srcCount ≠ 0 || c.dstAddr ≠ 0) && s.meldLive n && hit
        && !s.homeWaits n c then
      .next ((s.applyAmb amb).startFiring e cs n c.started)
    else .next (s.relayStart e cs n)

/-! ## Packets (R369) -/

/-- What becomes of a Meld packet before it is used: discarded, held for a later step, or for a context (R369, R381). -/
inductive MeldFate where
  | noContext
  | stale (e cs : Nat)
  | early (e : Nat)
  | use (e cs slot : Nat)
  deriving DecidableEq, Repr

def State.meldFate (s : State) (p : Packet) : MeldFate :=
  match s.findJob (tagJob p.tag), s.findCtx (tagJob p.tag) (bits p.handle 0 12) with
  | some n, some (e, cs) =>
    let cur := (s.job n).step.toNat % 2 ^ 20
    let halted := match (s.job n).run with
      | some r => r.revoked
      | none => false
    if tagStep p.tag = cur then (if halted then .stale e cs else .use e cs n)
    else if later 20 (tagStep p.tag) cur && p.ptype.toNat = ptMeldCtl then .early e
    else .stale e cs
  | _, _ => .noContext

/-- The engine to which a packet without a context is charged: of the die on which it arrived, and left open for the package's own
network (log 60). -/
def State.srcEngine (s : State) : Src → Nat × State
  | .noc => (s.openBelow 2, s.nextOpen)
  | .port p => (p.val / 8, s)

/-- A Meld packet of one kind is taken from a source: discarded with its event and count, deferred, or handed to `f` with engine, slot,
context and job slot; a deferred buffer that is full leaves it where it is (R369, R386). -/
def State.takeMeld (s : State) (src : Src) (want : Packet → Bool) (f : State → Packet → Nat → Nat → Nat → State) : State :=
  match s.takePacket src want with
  | none => s
  | some (p, s1) =>
    match s1.meldFate p with
    | .noContext =>
      let (e, s1) := s1.srcEngine src
      ((s1.meldCount e 0 1).meldCount e 4 1).meldEvent 0x0803 e (tagJob p.tag) (bits p.handle 0 12) (bits p.handle 12 12) 0 0
    | .stale e cs =>
      let c := s1.mctx e cs
      ((s1.meldCount e 0 1).meldCount e 3 1).meldEvent 0x0802 e c.job c.ctx (bits p.handle 12 12) 0 (tagStep p.tag)
    | .early e =>
      if 64 ≤ (s1.meld e).deferred.length then s
      else (s1.meldCount e 0 1).modMeld e (fun m => { m with deferred := m.deferred ++ [p] })
    | .use e cs n => f (s1.meldCount e 0 1) p e cs n

def isMeldCtl (op : Nat) (p : Packet) : Bool := p.ptype.toNat = ptMeldCtl && p.spec 32 1 = op

/-- Whether a packet's shard is one in which the package takes part. -/
def State.shardOk (s : State) (e : Nat) (c : MeldCtx) (sh : Nat) : Bool :=
  decide (sh < c.shardCount) && shardPart (s.shardWord e c sh)

/-- A JOIN is recorded (R367): GRANTs once the firing has started, finished slabs for a late joiner (R374), the start of a firing that needs
no trigger (R365). -/
def State.applyJoin (s : State) (p : Packet) (e cs n : Nat) : State :=
  let c := s.mctx e cs
  let sh := bits p.handle 12 12
  let num := tagMb p.tag
  let s1 := s.haveFiring e cs num
  let f := (s1.firing e cs num).getD { slot := cs, number := num }
  let mine := f.children.filter (fun h => h.shard = sh)
  if !s.shardOk e c sh then s.meldMismatch e c sh 2
  else if mine.any (fun h => h.pkg = p.src) then s
  else if shardUp (s.shardWord e c sh) ≤ mine.length then s.meldMismatch e c sh 2
  else
    let s2 := s1.modFiring e cs num (fun f => { f with children := f.children ++ [{ shard := sh, pkg := p.src }] })
    let s3 := if c.spreads && f.started then
        (f.slabs.filter (fun x => x.shard = sh && x.dealt)).foldl (fun s x => s.sendUnits e c p.src num x) s2
      else s2
    (s3.meldProgress e cs n).relayStart e cs n

/-- JOIN (R367). -/
def execJoin (src : Src) (s : State) : Host.Outcome State Fault Refusal :=
  .next (s.takeMeld src (isMeldCtl 2) (fun s p e cs n => s.applyJoin p e cs n))

/-- A GRANT is recorded when its count is later (R24, R367). -/
def State.applyGrant (s : State) (p : Packet) (e cs n : Nat) : State :=
  let sh := bits p.handle 12 12
  let num := tagMb p.tag
  let g := BitVec.ofNat 32 (p.spec 36 4)
  if !s.shardOk e (s.mctx e cs) sh then s.meldMismatch e (s.mctx e cs) sh 2
  else
    (s.modFiring e cs num (fun f =>
      if later 32 g.toNat (tget 0 f.grants sh).toNat then { f with grants := tput f.grants sh g } else f)).meldProgress e cs n

/-- GRANT (R367). -/
def execGrant (src : Src) (s : State) : Host.Outcome State Fault Refusal :=
  .next (s.takeMeld src (isMeldCtl 1) (fun s p e cs n => s.applyGrant p e cs n))

/-- The slabs of an owned shard read for a DEMAND and sent to the demanding package alone (R375). -/
def answerDemand (e cs slot num version : Nat) (dst : BitVec 12) (srcs : List MeldSrc) (sh : Nat) :
    List Nat → State → State × Option Int
  | [], s => (s, none)
  | k :: r, s =>
    let c := s.mctx e cs
    let read := srcs.foldl (fun (a : State × Slab × Option Int) (x : MeldSrc) =>
      match a with
      | (s, y, some v) => (s, y, some v)
      | (s, y, none) =>
        match s.readSource slot version c x sh k with
        | (s1, .error v) => (s1, y, some v)
        | (s1, .ok none) => (s1, y, none)
        | (s1, .ok (some (i, bs, p))) => (s1, { y.take c x.fmt i bs with poison := y.poison || p }, none))
      (s, { shard := sh, index := k }, none)
    match read with
    | (s1, _, some v) => (s1, some v)
    | (s1, y, none) =>
      let u := fillUnits y.bytes c.fmt.unitBytes (List.range (c.slabUnits sh k)) s1
      let s2 := if y.poison then u.1.meldEvent 0x0804 e c.job c.ctx sh 0 0 else u.1
      answerDemand e cs slot num version dst srcs sh r (s2.sendUnits e c dst num { y with bytes := putUnits [] 0 u.2 })

/-- A DEMAND at a parent (R365, R375): the shard is sent or the DEMAND passed on; where it may start a firing it is recorded, as a JOIN is, for
the moment at which the firing may start. -/
def State.applyDemand (s : State) (p : Packet) (e cs n : Nat) : State :=
  let c := s.mctx e cs
  let sh := bits p.handle 12 12
  let w := s.shardWord e c sh
  if !s.shardOk e c sh then s.meldMismatch e c sh 2
  else
    let s1 := if shardRoot w then
        match answerDemand e cs n (tagMb p.tag) (tagVersion p.tag) p.src (s.meldSources e c) sh (List.range (c.slabsIn sh)) s with
        | (s1, some v) => s1.meldOutside e c v
        | (s1, none) => s1
      else s.meldSend e { p with dst := shardParent w }
    if c.trigStep ≠ 0 && c.srcCount = 0 && decide (c.started ≤ tagMb p.tag) then
      ((s1.haveFiring e cs (tagMb p.tag)).modFiring e cs (tagMb p.tag) (fun f => { f with demanded := true })).relayStart e cs n
    else s1

/-- DEMAND (R375). -/
def execDemand (src : Src) (amb : Ambient) (s : State) : Host.Outcome State Fault Refusal :=
  .next (s.takeMeld src (isMeldCtl 3) (fun s p e cs n => (s.applyAmb amb).applyDemand p e cs n))

/-- Values of a partial spread over its elements: the packet's total of contributions in even parts (R372; log 17). -/
def Slab.addCounts (x : Slab) (i n total : Nat) : Slab :=
  { x with counts := (List.range n).foldl (fun (t : Tbl Nat) j =>
      tput t (i + j) (tget 0 t (i + j) + total / n + (if j < total % n then 1 else 0))) x.counts }

/-- A partial's elements folded into a slab (R370). -/
def Slab.addPartial (x : Slab) (op enc i n : Nat) (bs : List Byte) : Slab :=
  if enc = 1 then
    { x with acc := ((unpackSum n bs).zip (List.range n)).foldl (fun (t : Tbl W320) (w : W320 × Nat) =>
        tput t (i + w.2) ((tget {} t (i + w.2)).addW w.1)) x.acc }
  else
    { x with ext := (List.range n).foldl (fun (t : Tbl Word) j =>
        let a := ofFp32 (tget (extIdentity op) t (i + j))
        let v := ofFp32 (BitVec.ofNat 32 (leAt bs (4 * j) 4))
        tput t (i + j) (toFp32 (if op = 1 then a.max v else a.min v))) x.ext }

/-- An element of a PERMUTE reaches the root of its shard: written at once to the destination, or to the bounce area (R376, R377). -/
def State.permuted (s : State) (e cs slot num sh k i : Nat) (poison : Bool) (us : List (List Byte)) : State :=
  let c := s.mctx e cs
  match s.firing e cs num with
  | none => s
  | some f =>
    match f.slab sh k with
    | none => s.meldMismatch e c sh 4
    | some x =>
      if c.slabUnits sh k < i + us.length then s.meldMismatch e c sh 4
      else if (List.range us.length).any (fun j => (tfind x.bytes (i + j)).isSome) then s.meldMismatch e c sh 3
      else
        let base := if c.inPlace then c.bounce else c.dstAddr
        match s.meldWrite slot (base + c.dstOffset sh k + i * c.fmt.unitBytes) us.flatten (poison || x.poison) with
        | (s1, some v) => s1.meldOutside e c v
        | (s1, none) => s1.modSlab e cs num sh k (fun x => { x with bytes := putUnits x.bytes i us })

/-- A MELD_DATA packet at its context (R370, R374, R376, R382). -/
def State.applyMeldData (s : State) (p : Packet) (e cs slot : Nat) : State :=
  let c := s.mctx e cs
  let sh := bits p.handle 12 12
  let num := tagMb p.tag
  let first := p.spec 32 4
  let n := p.spec 36 2
  let enc := p.spec 38 1
  let last := nbit (p.spec 39 1) 0
  let r := c.shardRange sh
  if !s.shardOk e c sh || decide (first < r.1) || decide (r.2 < first + n) then s.meldMismatch e c sh 4
  else
    let k := (first - r.1) / 1024
    let i := (first - r.1) % 1024
    match s.firing e cs num with
    | none => s.meldMismatch e c sh 4
    | some f =>
      match f.slab sh k with
      | none => s.meldMismatch e c sh 4
      | some x =>
        let s1 := if p.poison then s.poisonSlab e cs num sh k else s
        let us := chunks c.fmt.unitBytes 1024 (p.payload.take ((n + c.fmt.unitElems - 1) / c.fmt.unitElems * c.fmt.unitBytes))
        if enc = 3 then
          if c.kind = 4 then (s1.permuted e cs slot num sh k (i / c.fmt.unitElems) p.poison us).meldProgress e cs slot
          else
            let s2 := s1.modSlab e cs num sh k (fun x => { x with bytes := putUnits x.bytes (i / c.fmt.unitElems) us })
            if last then (s2.slabResult e cs slot num sh k).meldProgress e cs slot else s2
        else if !c.reduces || shardUp (s.shardWord e c sh) ≤ x.got || x.dealt || x.sent then s1.meldMismatch e c sh 1
        else
          let s2 := s1.modSlab e cs num sh k (fun x =>
            let y := (x.addPartial c.op enc i n p.payload).addCounts i n (p.spec 40 4)
            { y with got := if last then y.got + 1 else y.got })
          (s2.meldCount e 2 n).meldProgress e cs slot

/-- MELD_DATA (R370, R374, R376). -/
def execMeldData (src : Src) (s : State) : Host.Outcome State Fault Refusal :=
  .next (s.takeMeld src (fun p => p.ptype.toNat = ptMeldData) (fun s p e cs n => s.applyMeldData p e cs n))

/-- SSQ_SOURCE at the stats home (R378). -/
def State.applySsqSource (s : State) (p : Packet) (e cs : Nat) : State :=
  let ix := p.spec 34 2
  s.feedNoise e (s.mctx e cs) (tagMb p.tag) (fun x => { x with
    sources := x.sources ++ [(p.src, ix % 16, ix / 16 % 1024, BitVec.ofNat 48 (p.spec 40 6))] })

def execSsqSource (src : Src) (s : State) : Host.Outcome State Fault Refusal :=
  .next (s.takeMeld src (isMeldCtl 4) (fun s p e cs _ => s.applySsqSource p e cs))

/-- SSQ_SHARD at the stats home (R378). -/
def State.applySsqShard (s : State) (p : Packet) (e cs : Nat) : State :=
  s.feedNoise e (s.mctx e cs) (tagMb p.tag) (fun x => { x with
    shards := x.shards ++ [(bits p.handle 12 12, BitVec.ofNat 48 (p.spec 40 6))] })

def execSsqShard (src : Src) (s : State) : Host.Outcome State Fault Refusal :=
  .next (s.takeMeld src (isMeldCtl 5) (fun s p e cs _ => s.applySsqShard p e cs))

/-- A deferred control message of the step that has begun (R369). -/
def State.applyDeferred (s : State) (p : Packet) : State :=
  match s.meldFate p with
  | .use e cs n =>
    match p.spec 32 1 with
    | 1 => s.applyGrant p e cs n
    | 2 => s.applyJoin p e cs n
    | 3 => s.applyDemand p e cs n
    | 4 => s.applySsqSource p e cs
    | 5 => s.applySsqShard p e cs
    | _ => s
  | .stale e cs =>
    let c := s.mctx e cs
    (s.meldCount e 3 1).meldEvent 0x0802 e c.job c.ctx (bits p.handle 12 12) 0 (tagStep p.tag)
  | .early e => s.modMeld e (fun m => { m with deferred := m.deferred ++ [p] })
  | .noContext => s

/-- An engine without a job's firings, its firing numbers back at 0 (R365, R381). -/
def Meld.restart (m : Meld) (job : Nat) : Meld :=
  let slots := m.slotsOf job
  { m with
    firings := m.firings.filter (fun f => !slots.contains f.slot),
    ctxs := m.ctxs.map (fun (x : Nat × MeldCtx) => if slots.contains x.1 then (x.1, { x.2 with started := 0, done := 0 }) else x) }

/-- The references that a job's firings hold are dropped (R366, R381). -/
def State.dropFirings (s : State) (slot : Nat) : State :=
  let job := (s.job slot).id.toNat
  (List.range 2).foldl (fun s e =>
    let slots := (s.meld e).slotsOf job
    let s1 := ((s.meld e).firings.filter (fun f => slots.contains f.slot)).foldl (fun s f =>
      match f.version with
      | some v => s.jobRef slot v.toNat false
      | none => s) s
    s1.modMeld e (fun m => m.restart job)) s

/-- The step of a job has become the next: firings are numbered from 0 and the deferred messages of the new step are applied (R365, R369). -/
def State.meldCommitted (s : State) (slot : Nat) : State :=
  let job := (s.job slot).id.toNat
  let s1 := s.dropFirings slot
  (List.range 2).foldl (fun s e =>
    let mine := (s.meld e).deferred.filter (fun p => tagJob p.tag = job)
    mine.foldl (fun s p => s.applyDeferred p)
      (s.modMeld e (fun m => { m with deferred := m.deferred.filter (fun p => tagJob p.tag ≠ job) }))) s1

/-- What a participant's engines discard at a REVOKE (R381). -/
def State.meldRevoke (s : State) (slot : Nat) : State :=
  let job := (s.job slot).id.toNat
  let keeps := (List.range 128).filter (fun k =>
    let x := tget {} s.dealer.keeps k
    x.valid && x.job.toNat = job && x.state = 3)
  let s1 := keeps.foldl (fun s k => s.evict slot k) (s.dropFirings slot)
  (List.range 2).foldl (fun s e => s.modMeld e (fun m => { m with
    deferred := m.deferred.filter (fun p => tagJob p.tag ≠ job), noise := m.noise.filter (fun x => x.job.toNat ≠ job) })) s1

/-! ## The end of a firing (R368) -/

/-- Whether every slab has been dealt with and every package that is to join has joined. -/
def State.firingOver (s : State) (e cs : Nat) (f : Firing) : Bool :=
  let c := s.mctx e cs
  f.slabs.all (fun x => x.dealt) && (f.recipe.isSome || (s.partShards e c).all (fun sh =>
    (f.children.filter (fun h => h.shard = sh)).length = shardUp (s.shardWord e c sh)))

/-- Bytes copied from the bounce area to the destination, slab by slab; a poisoned read or slab poisons what is written (R377, R382). -/
def copyBounce (e cs slot : Nat) : List Slab → State → State × Option Int
  | [], s => (s, none)
  | x :: r, s =>
    let c := s.mctx e cs
    let o := c.dstOffset x.shard x.index
    match s.meldRead slot (viewRange ((c.bounce + o : Nat) : Int) (c.slabUnits x.shard x.index * c.fmt.unitBytes)) with
    | (s1, .error v) => (s1, some v)
    | (s1, .ok (bs, bad)) =>
      match s1.meldWrite slot (c.dstAddr + o) bs (bad || x.poison) with
      | (s2, some v) => (s2, some v)
      | (s2, none) => copyBounce e cs slot r s2

/-- MELD_FIRING_END (R368, R272, R366, R373, R377): the lowest firing of the context that is over ends. -/
def execMeldFiringEnd (engine : Fin 2) (slot : Fin 512) (s : State) : Host.Outcome State Fault Refusal :=
  let e := engine.val
  let cs := slot.val
  let c := s.mctx e cs
  match s.findJob c.job, (s.activeFirings e cs).find? (fun f => s.firingOver e cs f) with
  | some n, some f =>
      let roots := f.slabs.filter (fun x => shardRoot (s.shardWord e c x.shard))
      match (if c.kind = 4 && c.inPlace then copyBounce e cs n roots s else (s, none)) with
      | (s1, some v) => .next (s1.meldOutside e c v)
      | (s1, none) =>
        let tracked := c.reduces && (s.partShards e c).any (fun sh => shardRoot (s.shardWord e c sh))
        match (if tracked && c.statAddr ≠ 0 then s1.meldWrite n c.statAddr f.status.block false else (s1, none)) with
        | (s2, some v) => .next (s2.meldOutside e c v)
        | (s2, none) =>
          let s3 := if tracked then s2.addNumeric n f.status else s2
          let s4 := match f.version with
            | some v => s3.jobRef n v.toNat false
            | none => s3
          let s5 := s4.gatherEnd f.home
          let s6 := ((s5.stat n 33 1).modMctx e cs (fun x => { x with done := x.done + 1 })).modMeld e (fun m => { m with
            firings := m.firings.filter (fun g => !(g.slot = cs && g.number = f.number)) })
          let s7 := (s6.signalObj n c.doneObj 1 1).getD s6
          .next (s7.relayStart e cs n)
  | _, _ => .next s

/-! ## Keep recipes (R272, R273, R375) -/

/-- At each commit of the step trick, every entry that holds another version than the new CURRENT one becomes EVICTED (R273). -/
def State.evictStale (s : State) (slot : Nat) : State :=
  ((List.range 128).filter (fun k =>
    let x := tget {} s.dealer.keeps k
    x.valid && x.job = (s.job slot).id && x.holdsRef && x.tag ≠ (s.job slot).curTag)).foldl (fun s k => s.evict slot k) s

/-- Whether some instruction in flight waits for a keep entry at a version (R272). -/
def State.keepWanted (s : State) (k version : Nat) : Bool :=
  s.tiles.any (fun (t : Nat × Tile) => t.2.streams.any (fun x => x.2.ops.any (fun o =>
    o.pins.contains k && tagVersion o.tag = version && o.phase = .queued)))

/-- KEEP_RECIPE_FIRING (R272, R375): overlapping entries are evicted, the owned shards copied, and a DEMAND sent for every other shard. -/
def execKeepRecipeFiring (entry : Fin 128) (version : BitVec 8) (amb : Ambient) (s : State) : Host.Outcome State Fault Refusal :=
  let k := entry.val
  let x := tget {} s.dealer.keeps k
  match s.findJob x.job.toNat, s.findCtx x.job.toNat x.recipe.toNat with
  | some n, some (e, cs) =>
    let c := s.mctx e cs
    if !x.valid || x.state = 3 || (x.state = 1 && x.tag = version) || !s.keepWanted k version.toNat || c.kind ≠ 3 || c.trigStep ≠ 0
        || s.gatherWaits k then .next s
    else
      let s0 := s.applyAmb amb
      let s3 := s0.gatherStart n k version
      let vrel := (s.meldSources e c).any (fun x => x.versionRel)
      let num := c.started
      let parts := s.partShards e c
      let order := (parts.map (fun sh => (List.range (c.slabsIn sh)).map (fun i => (sh, i)))).flatten
      let own := order.filter (fun y => shardRoot (s.shardWord e c y.1))
      let s4 := ((s3.haveFiring e cs num).modFiring e cs num (fun f => { f with
        started := true, version := if vrel then some version else none, recipe := some k, home := some k,
        slabs := order.map (fun y => { shard := y.1, index := y.2 }) })).modMctx e cs (fun y => { y with started := y.started + 1 })
      let work := ((s.meldSources e c).map (fun x => own.map (fun y => (x, y.1, y.2)))).flatten
      if !s3.hasJob n then .next s3
      else match readAll e cs n num version.toNat work (if vrel then s4.jobRef n version.toNat true else s4) with
      | (s5, some v) => .next (s5.meldOutside e c v)
      | (s5, none) =>
        let s6 := own.foldl (fun s y => s.slabResult e cs n num y.1 y.2) s5
        .next ((parts.filter (fun sh => !shardRoot (s.shardWord e c sh))).foldl (fun s sh =>
          s.meldCtl e c (shardParent (s.shardWord e c sh)) num version.toNat sh 3 []) s6)
  | _, _ => .next s

/-! ## Entry writes (R364, R384) -/

/-- A context register of slot `i` written with its reserved and read-only bits as they read (R385). -/
def MeldCtx.write (c : MeldCtx) (r : Nat) (v : Dword) : MeldCtx :=
  match r with
  | 0 => { c with key := oneFor [(4, 4)] (maskIn 0x9FFFFFFFFCFFFFF0 v c.key) }
  | 1 => { c with shape := v &&& 0xFFFFFFFFF0FFFFFF }
  | 2 => { c with dst := v &&& 0xFFFFFFFFFFFF }
  | 3 => { c with stat := v &&& 0xFFFFFFFFFFFF }
  | 4 => { c with aux := v }
  | 5 => { c with tables := oneFor [(20, 12)] (v &&& 0xFFFF8FFFFFFFFF00) }
  | 6 => { c with sync := v }
  | _ => c

/-- Fields of a context that break R364 by themselves. -/
def MeldCtx.bad (c : MeldCtx) : Bool :=
  decide (4 < c.kind) || decide (2 < c.op) || rndReserved c.rnd || decide (9 < bits c.shape 28 4)
  || (c.stats && (c.op ≠ 0 || decide (2 < c.kind))) || c.contribs = 0 || decide (8388608 < c.contribs) || decide (16 < c.srcCount)
  || (c.reduces && decide (4 < bits c.shape 28 4)) || (decide (3 ≤ c.kind) && c.op ≠ 0)

/-- A source entry that breaks R364 in a context. -/
def sourceBad (c : MeldCtx) (w : Dword × Dword) : Bool :=
  let f := bits w.1 60 4
  (if c.reduces then decide (4 < f) else f ≠ bits c.shape 28 4) || (c.stats && decide (64 ≤ bits w.1 48 10))

/-- Whether the deck's synchronisation table makes an object of the job a counter (R364). -/
def Job.tableCounter (j : Job) (o : Nat) : Bool :=
  (j.objectOf o).isSome && j.deck.sync.any (fun r => r.object.toNat = o && r.kind = 0)

/-- Slab slots reserved by an engine's contexts (R356, R367). -/
def Meld.slabsUsed (m : Meld) : Nat := (m.ctxs.filter (fun (x : Nat × MeldCtx) => x.2.valid)).foldl (fun a x => a + x.2.win) 0

/-- Child records that an engine's shard entries can take (R356, R364). -/
def Meld.childrenUsed (m : Meld) : Nat := m.shards.foldl (fun a x => a + shardUp x.2) 0

/-- The first `n` consecutive indices below 4,096 that satisfy a test. -/
def freeRun (used : Nat → Bool) (n : Nat) : Option Nat :=
  (List.range (4097 - n)).find? (fun b => (upFrom b n).all (fun i => !used i))

/-- Bits of a source's first word and of a shard entry that take a write (R362, R363). -/
def sourceMask : Dword := 0xF7FFFFFFFFFFFFFF
def shardMask : Word := 0xFF000FFF

/-- A context of the deck as the eight registers, their reserved bits zero (R385). -/
def ctxOfCfg (m : MeldCfg) (job srcBase shardBase : Nat) : MeldCtx :=
  let plain := [(0, putBits (putBits m.key 63 1 1) 48 12 job), (1, m.shape), (2, m.dst), (3, m.stat), (4, m.aux), (6, m.sync)].foldl
    (fun (c : MeldCtx) (x : Nat × Dword) => c.write x.1 x.2) {}
  { plain with
    tables := BitVec.ofNat 64 (srcBase * 2 ^ 52 + m.sources.length % 32 * 2 ^ 47 + shardBase * 2 ^ 32 + m.shards.length % 4096 * 2 ^ 20
      + m.statsPkg.toNat * 2 ^ 8) }

/-- Whether the Dealer's checks of R364 refuse a context of the deck. -/
def State.meldRefused (s : State) (slot : Nat) (m : MeldCfg) (c : MeldCtx) : Bool :=
  let eng := s.meld m.engine.val
  let j := s.job slot
  c.bad || decide (16 < m.sources.length) || m.shards.isEmpty || decide (4095 < m.shards.length)
  || m.sources.any (sourceBad c) || decide (128 < eng.slabsUsed + c.win)
  || decide (16384 < eng.childrenUsed + m.shards.foldl (fun a w => a + shardUp w) 0)
  || (c.reduces && m.sources.isEmpty && m.shards.any (fun w => shardPart w && !shardRoot w && shardUp w = 0))
  || (c.trigStep ≠ 0 && !j.tableCounter c.trigObj) || !j.tableCounter c.doneObj || (s.findCtx c.job c.ctx).isSome

/-- The Dealer writes a context of the deck with its entries; none when R364 discards one of them. -/
def State.loadMeld (s : State) (slot : Nat) (m : MeldCfg) : Option State :=
  let e := m.engine.val
  let eng := s.meld e
  match freeRun (fun i => (tfind eng.sources i).isSome) m.sources.length, freeRun (fun i => (tfind eng.shards i).isSome) m.shards.length,
      (List.range 512).find? (fun i => !(tget {} eng.ctxs i).valid) with
  | some sb, some hb, some i =>
    let c := ctxOfCfg m (s.job slot).id.toNat sb hb
    if s.meldRefused slot m c then none
    else some (s.modMeld e (fun x => { x with
      ctxs := tput x.ctxs i c,
      sources := (m.sources.zip (upFrom sb m.sources.length)).foldl (fun (t : Tbl (Dword × Dword)) (y : (Dword × Dword) × Nat) =>
        tput t y.2 (y.1.1 &&& sourceMask, y.1.2)) x.sources,
      shards := (m.shards.zip (upFrom hb m.shards.length)).foldl (fun (t : Tbl Word) (y : Word × Nat) =>
        tput t y.2 (y.1 &&& shardMask)) x.shards }))
  | _, _, _ => none

/-- Every context of the deck; the engine whose cfg_reject a discarded entry set, else. -/
def loadMelds (slot : Nat) : List MeldCfg → State → State × Bool
  | [], s => (s, true)
  | m :: r, s =>
    match s.loadMeld slot m with
    | some s1 => loadMelds slot r s1
    | none => (s.modMeld m.engine.val (fun x => { x with reject := true }), false)

/-- MLD_CNT_CLR (R386). -/
def State.meldClear (s : State) (e : Nat) : State := s.modMeld e (fun m => { m with counters := [] })

def execMldCntClr (engine : Fin 2) (s : State) : Host.Outcome State Fault Refusal := .next (s.fromHost (s.meldClear engine))

/-- Whether a source or shard entry is named by a context that a slot holds for a placed job (R384, R576). -/
def State.sourceHeld (s : State) (e i : Nat) : Bool :=
  (s.meld e).ctxs.any (fun (x : Nat × MeldCtx) => x.2.valid && (s.findJob x.2.job).isSome && decide (x.2.srcBase ≤ i)
    && decide (i < x.2.srcBase + x.2.srcCount))

def State.shardHeld (s : State) (e i : Nat) : Bool :=
  (s.meld e).ctxs.any (fun (x : Nat × MeldCtx) => x.2.valid && (s.findJob x.2.job).isSome && decide (x.2.shardBase ≤ i)
    && decide (i < x.2.shardBase + x.2.shardCount))

/-- `cfg_reject` of MLD_CTL (R364). -/
def State.meldReject (s : State) (e : Nat) : State := s.modMeld e (fun m => { m with reject := true })

/-- `cfg_reject` of GLB_CTL (R576). -/
def State.glbReject (s : State) : State := s.modHost (fun h => { h with glbReject := true })

/-- The checks of R364 that one register's value can break. -/
def ctxWriteBad (m : Meld) (i r : Nat) (c : MeldCtx) : Bool :=
  match r with
  | 0 => decide (4 < c.kind) || decide (2 < c.op) || rndReserved c.rnd || (c.stats && (c.op ≠ 0 || decide (2 < c.kind)))
      || (decide (3 ≤ c.kind) && c.op ≠ 0)
      || (c.valid && decide (128 < { m with ctxs := tput m.ctxs i c }.slabsUsed))
  | 1 => decide (9 < bits c.shape 28 4) || c.contribs = 0 || decide (8388608 < c.contribs)
  | 5 => decide (16 < c.srcCount)
  | _ => false

/-- Whether a valid context and the entries it names break R364 together: contributions, formats, statistics, participants of a reduction with nothing to
give, and, for a placed job, the objects it names. -/
def State.ctxClash (s : State) (m : Meld) (c : MeldCtx) : Bool :=
  let srcs := (List.range c.srcCount).map (fun i => tget (0, 0) m.sources (c.srcBase + i))
  let shards := (List.range c.shardCount).map (fun i => tget 0 m.shards (c.shardBase + i))
  c.contribs = 0 || (c.reduces && decide (4 < bits c.shape 28 4)) || srcs.any (sourceBad c)
  || (c.reduces && srcs.isEmpty && shards.any (fun w => shardPart w && !shardRoot w && shardUp w = 0))
  || (match s.findJob c.job with
    | some n => (c.trigStep ≠ 0 && !(s.job n).tableCounter c.trigObj) || !(s.job n).tableCounter c.doneObj
    | none => false)

/-- An engine takes an entry write unless some valid context then breaks R364 (R364: the write is discarded whole). -/
def State.meldTake (s : State) (e : Nat) (m : Meld) : State :=
  if m.ctxs.any (fun (x : Nat × MeldCtx) => x.2.valid && s.ctxClash m x.2) then s.modMeld e (fun m => { m with reject := true })
  else s.modMeld e (fun _ => m)

/-- An entry write of an engine at an offset of its block (R364, R384, R385); the host may write none that a placed job uses (R576). -/
def State.meldEntryWrite (s : State) (e off : Nat) (v : Dword) (byDealer : Bool) : State :=
  let m := s.meld e
  if off = 0x200 then s.modMeld e (fun m => { m with srcIndex := BitVec.ofNat 12 (bits v 0 12) })
  else if off = 0x218 then s.modMeld e (fun m => { m with shardIndex := BitVec.ofNat 12 (bits v 0 12) })
  else if off = 0x208 || off = 0x210 then
    let i := m.srcIndex.toNat
    let old := tget (0, 0) m.sources i
    if !byDealer && s.sourceHeld e i then s.glbReject
    else if off = 0x208 && decide (9 < bits v 60 4) then s.meldReject e
    else
      let new := if off = 0x208 then (v &&& sourceMask, old.2) else (old.1, v)
      s.meldTake e { m with sources := tput m.sources i new }
  else if off = 0x21C then
    let i := m.shardIndex.toNat
    let w := BitVec.ofNat 32 (bits v 0 32) &&& shardMask
    if !byDealer && s.shardHeld e i then s.glbReject
    else if 16384 < { m with shards := tput m.shards i w }.childrenUsed then s.meldReject e
    else s.meldTake e { m with shards := tput m.shards i w }
  else if 0x8000 ≤ off then
    let i := (off - 0x8000) / 0x40 % 512
    let r := off % 0x40 / 8
    let old := tget {} m.ctxs i
    let c := old.write r v
    if !byDealer && old.valid && (s.findJob old.job).isSome then s.glbReject
    else if ctxWriteBad m i r c then s.meldReject e
    else s.meldTake e { m with ctxs := tput m.ctxs i c }
  else s

/-- MLD_ENTRY_WRITE (R364). -/
def execMldEntryWrite (engine : Fin 2) (offset : BitVec 16) (value : BitVec 64) (byDealer : Bool) (s : State) :
    Host.Outcome State Fault Refusal := .next (s.fromHost (s.meldEntryWrite engine offset.toNat value byDealer))

end Sys2Proof.Machine
end

