-- ==== Sys2Proof/Machine/Stats.lean ====
section
/-! DEFINITION. Stats.lean: the statistics page of a job (R525 to R531): its snapshot at the commit of a step, the restart of the counters
(R23, R77, R380), and the command STATS_PAGE_WRITTEN. -/
namespace Sys2Proof.Machine

/-! ## Counter entries (R528, R529) -/

/-- Sum of counters with saturation (R529). -/
def sumCount (xs : List Count48) : Count48 := xs.foldl (fun a x => satAdd a x.toNat) 0

/-- Value and saturation flag of a counter entry of a job: entries 23, 24 and 40 to 123 are sums over its tiles (R529). -/
def State.statEntry (s : State) (slot i : Nat) : Stat :=
  let j := s.job slot
  let summed := fun (xs : List Count48) =>
    let v := sumCount xs
    (⟨v, v = BitVec.allOnes 48⟩ : Stat)
  let tiles := j.tiles.map s.tile
  if i = 23 then summed ((tiles.map (fun t => t.eps.map (fun e => e.2.sstall))).flatten)
  else if i = 24 then summed ((tiles.map (fun t => t.eps.map (fun e => e.2.rstall))).flatten)
  else if 40 ≤ i && i < 124 then summed (tiles.map (fun t => tget 0 t.stalls (i - 40)))
  else tget {} j.statistics i

/-- A counter entry as the page and STS_LIVE_DATA lay it out (R528, R532). -/
def Stat.entry (x : Stat) : Nat := x.count.toNat + b2n x.sat * 2 ^ 63

/-! ## Energy (R531) -/

/-- Increase of a rail's energy count since the start of the step's first attempt. -/
def State.railSince (s : State) (slot rail : Nat) : Nat :=
  (tget 0 s.tel.railEnergy rail).toNat - tget 0 (s.job slot).energyAt rail

/-- The rails of the five groups of R528: compute, base, port, hub and GDDR7 I/O. -/
def energyGroups : List (List Nat) := [[0, 1, 2, 3], [4, 5, 6, 7], [9, 10, 11], [8, 13, 14], [12]]

/-! ## The page -/

/-- A capture entry of a tile (R528). -/
def captureEntry (L : Nat) (t : Tile) : List Byte :=
  padTo 32 (leBytes 4 L ++ leBytes 4 t.fovfStatus.toNat ++ leBytes 4 t.fovfWhere.toNat ++ leBytes 4 t.fovfTag.toNat
    ++ leBytes 4 t.fovfStep.toNat ++ leBytes 4 t.fovfCycle.toNat)

/-- A noise record (R379). -/
def Noise.bytes (x : Noise) : List Byte :=
  let n := (x.sources.map (fun m => m.2.2.1)).foldl Nat.max 0 + 1
  leBytes 2 x.ctx.toNat ++ leBytes 2 x.tensorId.toNat ++ leBytes 2 n
    ++ leBytes 2 (b2n x.complete + 2 * b2n x.nonfinite + 4 * b2n x.more) ++ leBytes 8 x.reduced.toNat ++ leBytes 16 0
    ++ ((List.range 64).map (fun i => leBytes 8 (tget 0 x.contrib i).toNat)).flatten

/-- The noise records of a job that an engine's package is the stats home of, one for each of its `stats` contexts (R379). -/
def State.noiseIn (s : State) (job e : Nat) : List Noise :=
  ((s.meld e).ctxs.filter (fun (x : Nat × MeldCtx) => x.2.valid && x.2.job = job && x.2.stats && x.2.statsPkg = s.self)).map (fun x =>
    (((s.meld e).noise.find? (fun (r : Noise) => r.job.toNat = job && r.ctx.toNat = x.2.ctx)).getD
      { job := BitVec.ofNat 12 job, ctx := BitVec.ofNat 12 x.2.ctx, tensorId := BitVec.ofNat 16 x.2.tensorId }))

/-- Records in ascending ctx. -/
def byCtx (xs : List Noise) : List Noise := xs.mergeSort (fun a b => decide (a.ctx.toNat ≤ b.ctx.toNat))

/-- The noise records of a job, in ascending ctx (R380). -/
def State.noiseOf (s : State) (job : Nat) : List Noise := (byCtx (s.noiseIn job 0 ++ s.noiseIn job 1)).take 16

/-- The half of 16 KiB that the latch of a step writes (R528). -/
def State.pageBytes (s : State) (slot attempt : Nat) : List Byte :=
  let j := s.job slot
  let entries := (List.range 128).map (s.statEntry slot)
  let captures := (j.tiles.filter (fun L => (s.tile L).fovfStatus.getLsbD 31)).map (fun L => captureEntry L (s.tile L))
  let noise := s.noiseOf j.id.toNat
  let energy := energyGroups.map (fun g => g.foldl (fun a r => a + s.railSince slot r) 0)
  let amax := match j.amaxExp with
    | some e => ofSigned 16 e
    | none => 0x8000
  let head := leBytes 2 j.id.toNat
    ++ leBytes 2 (b2n (entries.any (·.sat)) + 2 * b2n (attempt ≠ 0) + 8 * b2n s.tel.full)
    ++ leBytes 4 j.step.toNat ++ leBytes 4 (j.pageSeq + 1).toNat ++ leBytes 1 attempt ++ leBytes 1 noise.length ++ leBytes 2 amax
    ++ leBytes 8 (j.stepUs * 1000) ++ leBytes 2 captures.length ++ leBytes 2 j.stepFmin ++ leBytes 4 0
    ++ leBytes 8 (energy.foldl (· + ·) 0) ++ (energy.map (leBytes 8)).flatten
  padTo 0x100 head ++ (entries.map (fun x => leBytes 8 x.entry)).flatten ++ padTo 0x300 []
    ++ padTo 0x1000 captures.flatten ++ padTo 0x2800 (noise.map Noise.bytes).flatten

/-! ## The latch (R526) -/

/-- A tile after the latch: its captures and counters restart (R77, R208, R259). -/
def Tile.latched (t : Tile) : Tile :=
  { t with
    stalls := [],
    fovfStatus := putBits t.fovfStatus 30 2 0,
    eps := t.eps.map (fun (e : Nat × Endpoint) => (e.1, { e.2 with msgs := 0, bytes := 0, sstall := 0, rstall := 0 })) }

/-- The noise records of a job leave an engine; an incomplete one raises event 0x0806 (R380, R577). -/
def State.clearNoise (s : State) (job e : Nat) : State :=
  let s1 := ((byCtx (s.noiseIn job e)).filter (fun x => !x.complete)).foldl (fun s x => s.meldEvent 0x0806 e job x.ctx.toNat 0 0 0) s
  s1.modMeld e (fun m => { m with noise := m.noise.filter (fun x => x.job.toNat ≠ job) })

/-- The step-boundary latch of a job at the commit of its step at an attempt (R526). -/
def State.latchPage (s : State) (slot attempt : Nat) : State :=
  let j := s.job slot
  let page := s.pageBytes slot attempt
  let s1 := j.tiles.foldl (fun s L => s.modTile L Tile.latched) s
  let s2 := (List.range 2).foldl (fun s e => s.clearNoise j.id.toNat e) s1
  s2.modJob slot (fun j => { j with
    page := some page, pageHeld := !s.host.attached, pageSeq := j.pageSeq + 1, statistics := [], satRaised := [], amaxExp := none })

/-! ## Writing the page (R525, R526, R528) -/

/-- The step's completion, once its publication has ended and its page is written or discarded (R302, R526); during a host link loss the
page is held, and the completion goes to the hub's buffer behind it (R424, R425). -/
def State.completeStep (s : State) (slot : Nat) : State :=
  let j := s.job slot
  match j.pageDesc with
  | none => s
  | some (d, step) =>
    let publishing := s.trk.shares.any (fun e => e.2.job = j.id && !e.2.isPass && e.2.phase = .publishing)
    if (j.page.isSome && s.host.attached) || publishing then s
    else (s.unreserve.completeDesc d 0 step.toNat 0 0).modJob slot (fun j => { j with pageDesc := none })

/-- Address of the half that the latch of a step writes (R525). -/
def Job.pageAddr (j : Job) (step : Word) : Nat := j.stats.toNat + step.toNat % 2 * 0x4000

/-- The hub writes the half of a job; a page whose translation fails is discarded with event 0x0111. -/
def State.writePage (s : State) (n : Nat) : State :=
  let j := s.job n
  match j.page with
  | none => s
  | some page =>
    let step := BitVec.ofNat 32 (leAt page 4 4)
    let bytes := if j.pageHeld then overwrite page 2 [BitVec.ofNat 8 (leAt page 2 1 + 4)] else page
    match s.windowWrite n (j.pageAddr step) bytes with
    | (s1, some _) =>
      (((s1.modJob n (fun j => { j with page := none })).raise 0x0111 j.id.toNat (j.pageAddr step % 2 ^ 48))).completeStep n
    | (s1, none) =>
      (s1.modJob n (fun j => { j with page := none, pageStep := step })).completeStep n

/-- STATS_PAGE_WRITTEN (R525, R526, R528). -/
def execStatsPageWritten (slot : Fin 16) (s : State) : Host.Outcome State Fault Refusal :=
  if s.host.attached then .next (s.writePage slot) else .next s

end Sys2Proof.Machine
end

