-- ==== Sys2Proof/Machine/Commit.lean ====
section
/-! DEFINITION. Commit.lean: deck tricks (R277, R299 to R312, R578, R579): shares becoming ready, the coordinator's messages, the commit of a
step or pass, revoke, drain and RESUME, and the talon order of a takeover (R485, order 2). -/
namespace Sys2Proof.Machine

/-! ## Loaded state of a job (R161, R265) -/

/-- The deck's configuration of a job-relative tile. -/
def deckTile (d : Deck) (rel : Nat) : TileCfg := (d.tiles.find? (fun t => t.rel = rel)).getD { rel := rel }

/-- The handles of a stream as the deck loads them; reserved bits read zero (R156). -/
def loadedHandles (c : StreamCfg) : Tbl Handle :=
  c.handles.map (fun (e : Nat × HandleCfg) =>
    (e.1, { obj := e.2.obj, sig := e.2.sig &&& 0xF000FFFF, wait := e.2.wait &&& 0xF000FFFF, tgt := e.2.tgt }))

/-- Every object and every handle of a job as the deck gives it (R161); an object that the deck does not allocate has kind 3 and the job field 0
(log 187, DESIGN CHOICE). -/
def State.syncReset (s : State) (slot : Nat) : State :=
  let j := s.job slot
  let kept := s.objs.filter (fun e => !(j.holds (e.1 / 4096)))
  let put := fun (t : Tbl SyncObj) (x : SyncInit) =>
    match j.objectOf x.object.toNat with
    | some o => tput t o { job := j.id, kind := x.kind, membersM1 := x.membersM1, value := x.value }
    | none => t
  let s1 := { s with objs := j.deck.sync.foldl put kept }
  j.tiles.foldl (fun s L =>
    let c := deckTile j.deck (L - 8 * j.first)
    s.modTile L (fun t => (List.range 3).foldl (fun t n =>
      t.modStream n (fun x => { x with handles := loadedHandles (tget {} c.streams n) })) t)) s1

/-- The STAGED entry of a job becomes FREE (R265, R433). -/
def Job.unstage (j : Job) : Job :=
  { j with versions := j.versions.filter (fun (e : Nat × VerEntry) => e.2.state ≠ 1) }

/-- The STAGED entry becomes CURRENT, the CURRENT one OLD or FREE (R265). -/
def Job.publishVersion (j : Job) : Job :=
  match (List.range 16).find? (fun i => (tget ({} : VerEntry) j.versions i).state = 1) with
  | none => j
  | some i =>
    let tag := (tget ({} : VerEntry) j.versions i).tag
    let old := j.versions.map (fun (e : Nat × VerEntry) =>
      if e.2.state = 2 then (e.1, if e.2.refs = 0 then {} else { e.2 with state := 3 }) else e)
    { j with versions := tput old i { tag := tag, state := 2 }, curTag := tag, nextTag := tag + 1 }

/-- References that a job's VALID keep entries hold on a version (R273). -/
def State.keepRefs (s : State) (slot : Nat) (tag : Byte) : Nat :=
  ((List.range 128).filter (fun k =>
    let x := tget {} s.dealer.keeps k
    x.valid && x.job = (s.job slot).id && x.state = 1 && x.tag = tag)).length

/-- Version entries after the messages of a job have been discarded: the references of micro-batches in flight are gone (R302). -/
def State.versionReset (s : State) (slot : Nat) : State :=
  let fix := fun (e : Nat × VerEntry) =>
    let refs := s.keepRefs slot e.2.tag
    (e.1, if e.2.state = 3 && refs = 0 then {} else { e.2 with refs := refs })
  s.modJob slot (fun j => { j with versions := (j.unstage).versions.map fix })

/-- The bank of originated packets is the one that the last commit published (R305, R455). -/
def Job.pipeBank (j : Job) : Job :=
  { j with phase := putBits (putBits j.phase 28 1 (bits j.phase 30 1)) 27 1 0 }

/-- The objects of a job have restarted: it switches banks at once where the phase object's value has reached the target already (R154, R454). -/
def State.phaseRestart (s : State) (slot : Nat) : State :=
  s.modJob slot (fun j =>
    match j.objectOf (bits j.phase 0 16) with
    | some o => j.pipeBank.phaseCheck o (s.obj o).value
    | none => j.pipeBank)

/-! ## Keys (R277, R301) -/

/-- Key of a deck trick without its job: step, micro-batch and kind. -/
structure TrickKey where
  step : Word
  mb : BitVec 20
  isPass : Bool
  deriving DecidableEq, Repr

def trickKeyOf (p : Packet) : TrickKey :=
  ⟨BitVec.ofNat 32 (p.spec 36 4), if p.spec 34 1 = 1 then BitVec.ofNat 20 (p.spec 40 4) else 0, p.spec 34 1 = 1⟩

def stepKey (step : Word) : TrickKey := ⟨step, 0, false⟩

def passKey (step : Word) (mb : BitVec 20) : TrickKey := ⟨step, mb, true⟩

def Coord.hasKey (c : Coord) (job : Nat) (k : TrickKey) : Bool :=
  c.job.toNat = job && c.step = k.step && c.mb = k.mb && c.isPass = k.isPass

def Share.hasKey (x : Share) (job : Nat) (k : TrickKey) : Bool :=
  x.job.toNat = job && x.step = k.step && x.mb = k.mb && x.isPass = k.isPass

def State.coordAt (s : State) (job : Nat) (k : TrickKey) : Option Coord := s.trk.coords.find? (fun c => c.hasKey job k)

def State.modCoord (s : State) (job : Nat) (k : TrickKey) (f : Coord → Coord) : State :=
  s.modTrk (fun u => { u with coords := modFirst (fun c => c.hasKey job k) f u.coords })

def State.dropCoord (s : State) (job : Nat) (k : TrickKey) : State :=
  s.modTrk (fun u => { u with coords := u.coords.filter (fun c => !(c.hasKey job k)) })

def State.keyShare (s : State) (job : Nat) (k : TrickKey) : Option Share :=
  (s.trk.shares.find? (fun (e : Nat × Share) => e.2.hasKey job k)).map (·.2)

def State.modKeyShare (s : State) (job : Nat) (k : TrickKey) (f : Share → Share) : State :=
  let put := fun (e : Nat × Share) => (e.1, f e.2)
  s.modTrk (fun u => { u with shares := modFirst (fun (e : Nat × Share) => e.2.hasKey job k) put u.shares })

def State.dropShare (s : State) (job : Nat) (k : TrickKey) : State :=
  s.modTrk (fun u => { u with shares := u.shares.filter (fun (e : Nat × Share) => !(e.2.hasKey job k)) })

/-- The current attempt of a key on this package: of its share, its pass or its step. -/
def State.attemptAt (s : State) (slot : Nat) (k : TrickKey) : BitVec 8 :=
  let j := s.job slot
  match s.keyShare j.id.toNat k with
  | some x => x.attempt
  | none => if k.isPass || k.step = j.step then j.attemptOf k.isPass k.mb else 0

/-- The share of a key with no slot, which stages nothing and keeps the key's attempt, unless there is a share (log 62). -/
def State.markShare (s : State) (slot : Nat) (k : TrickKey) : State :=
  let j := s.job slot
  if (s.keyShare j.id.toNat k).isSome then s
  else
    let x : Share := { job := j.id, step := k.step, mb := k.mb, isPass := k.isPass, attempt := s.attemptAt slot k }
    s.modTrk (fun u => { u with shares := u.shares ++ [(0, x)] })

/-- Whether the share of a key holds a slot, or can take a free one (R278). -/
def State.shareFits (s : State) (job : Nat) (k : TrickKey) : Bool :=
  s.freeSlot.isSome || s.trk.shares.any (fun e => e.1 ≠ 0 && e.2.hasKey job k)

/-- The share of a key in a slot: an empty one is opened when nothing has been handed over (R277, R278). -/
def State.haveShare (s : State) (slot : Nat) (k : TrickKey) : State :=
  match s.freeSlot with
  | some i => (s.openShare slot i k.isPass (k.step.toNat % 2 ^ 20) k.mb).nextOpen
  | none => s

/-- Participants of a deck trick (R299). -/
def State.membersOf (s : State) (j : Job) (isPass : Bool) : List (BitVec 12) :=
  if isPass then (if j.deck.passPackages.contains s.self then j.deck.passPackages else s.self :: j.deck.passPackages)
  else s.deckOf j

/-- Those of them that are not lost. -/
def State.liveMembers (s : State) (j : Job) (isPass : Bool) : List (BitVec 12) :=
  (s.membersOf j isPass).filter (fun p => !s.recov.lost.contains p)

/-- A message of a key to the lead (READY, REFUSE, DONE). -/
def State.tellCoord (s : State) (slot : Nat) (k : TrickKey) (attempt : BitVec 8) (msg cause : Nat) : State :=
  let j := s.job slot
  s.originate (trickPacket s.self (s.leadOf j) j.id.toNat k.step k.mb.toNat k.isPass attempt msg cause s.self)

/-- A message of the coordinator to packages (COMMIT, REVOKE, RESUME). -/
def State.tellMembers (s : State) (ps : List (BitVec 12)) (job : Nat) (k : TrickKey) (attempt : BitVec 8) (msg cause : Nat)
    (origin : BitVec 12) : State :=
  ps.foldl (fun s p => s.originate (trickPacket s.self p job k.step k.mb.toNat k.isPass attempt msg cause origin)) s

/-! ## SHARE_READY (R286, R300) -/

/-- The tile work of a step on this package is finished (R142). -/
def State.tileWorkDone (s : State) (j : Job) : Bool :=
  j.tiles.all (fun L => (upFrom 0 3).all (fun n =>
    let x := s.stream L n
    x.state = .idle && x.ops.isEmpty))

/-- The Dealer has made every injection of a step (R260, R300). -/
def injectionsDone (j : Job) (r : StepRun) : Bool :=
  j.deck.firstStage.isNone || r.load.isSome || (decide (r.mbCount ≤ r.nextMb) && r.ctlDone)

/-- The step's share may become ready (R300, R432, R479). -/
def State.stepReady (s : State) (slot : Nat) (r : StepRun) : Bool :=
  let j := s.job slot
  let work := match r.load with
    | some i => (tget {} j.loads i).complete
    | none => s.tileWorkDone j && injectionsDone j r
  r.started && !r.revoked && !r.readySent && work && (j.cutCopy.isNone || j.cutReady || j.cutBad)

/-- The coordinator's entry of a key, made when the first message of the key arrives; there are 64, and without a free one none is made
(R301, R306). -/
def State.haveCoord (s : State) (slot : Nat) (k : TrickKey) : State :=
  let j := s.job slot
  if (s.coordAt j.id.toNat k).isSome || decide (64 ≤ s.trk.coords.length) then s
  else
    let c : Coord := { job := j.id, step := k.step, mb := k.mb, isPass := k.isPass, attempt := s.attemptAt slot k,
                       members := s.membersOf j k.isPass }
    s.modTrk (fun u => { u with coords := u.coords ++ [c] })

/-- The coordinator's own share is ready: its timer starts (R301), or starts with the entry that its READY takes when none is free (R306). -/
def State.startPrepare (s : State) (slot : Nat) (k : TrickKey) : State :=
  let j := s.job slot
  if s.leadOf j ≠ s.self then s
  else
    let job := j.id.toNat
    (s.haveCoord slot k).modCoord job k (fun c => { c with timer := c.phase = .collecting })

/-- A pass whose share is ready on this package without a vote (R299, R300): `pass_voters` is 0 and the package coordinates the pass. -/
def State.votelessPass (s : State) (slot : Nat) (m : BitVec 20) : Option TrickKey :=
  let j := s.job slot
  if bits j.trkCtl 8 8 ≠ 0 || s.leadOf j ≠ s.self then none
  else match j.passes.find? (fun p => p.mb = m && p.injected) with
    | some p => some (passKey p.step m)
    | none => (s.trk.coords.find? (fun c => c.job = j.id && c.isPass && c.mb = m && c.phase = .collecting)).map
        (fun c => passKey c.step m)

/-- A share whose scan has ended: READY, or REFUSE with cause FAULT when the scan failed (R286, R300). -/
def State.answerShare (s : State) (slot : Nat) (k : TrickKey) (failed : Bool) : State :=
  let job := (s.job slot).id.toNat
  let s1 := s.haveShare slot k
  let a := s1.attemptAt slot k
  if failed then s1.tellCoord slot k a 2 2
  else ((s1.modKeyShare job k (fun x => { x with phase := .ready })).startPrepare slot k).tellCoord slot k a 1 0

/-- SHARE_READY (R278, R286, R300): the scan of the step's share (`mb` none) or of a pass's share ends; a share that nothing has been handed
over to waits for a free slot. -/
def execShareReady (slot : Fin 16) (mb : Option (BitVec 20)) (logError : Bool) (s : State) : Host.Outcome State Fault Refusal :=
  let j := s.job slot
  match mb with
  | none =>
    match j.run with
    | none => .next s
    | some r =>
      if !s.stepReady slot r || !s.shareFits j.id.toNat (stepKey r.step) then .next s
      else
        let s1 := s.modJob slot (fun j => { j with run := some { r with readySent := true } })
        .next (s1.answerShare slot (stepKey r.step) logError)
  | some m =>
    let wanted := bits j.trkCtl 8 8
    let answer := fun (k : TrickKey) =>
      (s.modJob slot (fun j => { j with
        passes := modFirst (fun p => p.mb = m) (fun p => { p with readySent := true }) j.passes })).answerShare slot k logError
    match s.shareOf j.id.toNat true j.step.toNat m.toNat, s.votelessPass slot m with
    | none, none => .next s
    | none, some k => if s.shareFits j.id.toNat k then .next (answer k) else .next s
    | some (i, x), v =>
      let votes := if wanted = 0 then v.isSome else decide (wanted ≤ x.votes)
      if x.phase ≠ .opened || !votes || (i = 0 && s.freeSlot.isNone) then .next s
      else .next (answer ⟨x.step, x.mb, true⟩)

/-! ## The coordinator (R301) -/

/-- A trick message of a kind is taken from a source, unless it must stay where it is. -/
def State.onTrick (s : State) (src : Src) (msg : Nat) (stay : Packet → Nat → Bool) (f : State → Packet → Nat → State) : State :=
  let stays := fun (p : Packet) =>
    match s.findJob (p.spec 44 2) with
    | some n => stay p n
    | none => false
  match s.takePacket src (fun p => p.ptype.toNat = ptTrick && p.spec 32 1 = msg && !stays p) with
  | none => s
  | some (p, s1) =>
    match s1.findJob (p.spec 44 2) with
    | none => s1.noDestination src p
    | some n => f s1 p n

/-- Attempt that a message carries, and its cause and origin. -/
def Packet.attempt (p : Packet) : BitVec 8 := BitVec.ofNat 8 (p.spec 48 1)
def Packet.cause (p : Packet) : Nat := p.spec 33 1 % 16
def Packet.origin (p : Packet) : BitVec 12 := BitVec.ofNat 12 (p.spec 46 2)

/-- Whether a participant's message must wait for a free coordinator entry. -/
def State.coordFull (s : State) (p : Packet) (n : Nat) : Bool :=
  (s.coordAt (s.job n).id.toNat (trickKeyOf p)).isNone && decide (64 ≤ s.trk.coords.length) && !(s.job n).restoring

/-- Whether a participant's message concerns the coordinator: it is the lead, and the sender takes part (R299). -/
def State.coordTakes (s : State) (p : Packet) (n : Nat) : Bool :=
  s.leadOf (s.job n) = s.self && (s.membersOf (s.job n) (trickKeyOf p).isPass).contains p.src

/-- Detail of events 0x0302, 0x0303 and 0x0305 (R577). -/
def deckDetail (k : TrickKey) (cause : Nat) (origin : BitVec 12) : Nat :=
  k.step.toNat % 2 ^ 20 + k.mb.toNat * 2 ^ 20 + b2n k.isPass * 2 ^ 40 + cause * 2 ^ 41 + origin.toNat * 2 ^ 45

/-- The coordinator revokes a deck trick (R298, R301): REVOKE to every participant that is not lost; a second LOG_CAPACITY or TIMEOUT is
a job fault. -/
def State.coordRevoke (s : State) (job : Nat) (k : TrickKey) (cause : Nat) (origin : BitVec 12) : State :=
  match s.coordAt job k with
  | none => s
  | some c =>
    let counted := cause = 4 || cause = 5
    if counted && c.limited then (s.raise 0x0305 job (deckDetail k cause origin)).jobFault 0x0305
    else
      let s1 := s.modCoord job k (fun c => { c with
        phase := .revoking, cause := BitVec.ofNat 4 cause, origin := origin, ready := [], done := [], timer := false,
        limited := c.limited || counted })
      s1.tellMembers (c.members.filter (fun p => !s.recov.lost.contains p)) job k c.attempt 4 cause origin

/-- READY at the coordinator (R301).  While the job loses a package or rolls back, a share that the lead had not known to be open is revoked with
cause FAULT (R309, R485, order 1). -/
def State.coordReady (s : State) (p : Packet) (n : Nat) : State :=
  let job := (s.job n).id.toNat
  let k := trickKeyOf p
  if !s.coordTakes p n then s
  else
    let s1 := s.haveCoord n k
    match s1.coordAt job k with
    | none => if (s.job n).restoring then s.tellMembers (s.liveMembers (s.job n) k.isPass) job k p.attempt 4 2 s.self else s
    | some c =>
      if c.attempt ≠ p.attempt then s
      else if c.phase ≠ .collecting then s1
      else if (s.job n).restoring then s1.coordRevoke job k 2 s.self
      else
        let ready := addOnce c.ready p.src
        if c.members.all (fun m => ready.contains m) then
          (s1.modCoord job k (fun c => { c with ready := ready, phase := .committed, timer := false })).tellMembers c.members job k
            c.attempt 3 0 s.self
        else s1.modCoord job k (fun c => { c with ready := ready, timer := c.timer || p.src = s.self })

/-- TRICK_READY (R301). -/
def execTrickReady (src : Src) (s : State) : Host.Outcome State Fault Refusal :=
  .next (s.onTrick src 1 s.coordFull State.coordReady)

/-- REFUSE at the coordinator (R301, R312): with cause JOB_LOST the job is lost on every other package. -/
def State.coordRefuse (s : State) (p : Packet) (n : Nat) : State :=
  let job := (s.job n).id.toNat
  let k := trickKeyOf p
  if !s.coordTakes p n then s
  else
    let s1 := s.haveCoord n k
    match s1.coordAt job k with
    | none => s
    | some c =>
      if c.attempt ≠ p.attempt then s
      else if p.cause = 7 then
        (s1.tellMembers (c.members.filter (fun m => m ≠ p.src && !s.recov.lost.contains m)) job k c.attempt 4 7 p.src).dropCoord job k
      else if c.phase = .collecting then s1.coordRevoke job k p.cause p.src
      else s1

/-- TRICK_REFUSE (R301). -/
def execTrickRefuse (src : Src) (s : State) : Host.Outcome State Fault Refusal :=
  .next (s.onTrick src 2 s.coordFull State.coordRefuse)

/-- PREPARE_TIMEOUT (R301): the timer of a coordinator entry expires. -/
def execPrepareTimeout (entry : Fin 64) (s : State) : Host.Outcome State Fault Refusal :=
  match s.trk.coords[entry.val]? with
  | none => .next s
  | some c =>
    if c.timer && c.phase = .collecting then .next (s.coordRevoke c.job.toNat ⟨c.step, c.mb, c.isPass⟩ 5 s.self) else .next s

/-! ## COMMIT (R302) -/

/-- The deck's cut state at the commit of a step (R479): a complete copy becomes the valid cut, and a cut falls due when the new step
counter is a multiple of k. -/
def Job.cutCommit (j : Job) : Job :=
  let c := j.cut.toNat
  let k := max 1 (nbits c 8 8)
  let j1 := match j.cutCopy with
    | none => j
    | some step =>
      let cleared := putBits j.cut 28 1 0
      if j.cutReady && !j.cutBad then
        { j with cut := putBits (putBits cleared 30 1 1) 29 1 (1 - nbits c 29 1), cutStep := step, imageCut := true }
      else { j with cut := cleared }
  { j1 with
    cutCopy := none, cutReady := false, cutBad := false,
    cutDue := nbit c 31 && decide (j.step.toNat % k = 0) }

/-- The step trick of a job is committed on this package: every item of R38 is published in one act (R302). -/
def State.commitStep (s : State) (slot : Nat) (r : StepRun) (x : Share) : State :=
  let job := (s.job slot).id.toNat
  let k := stepKey r.step
  let s1 := (s.publish slot x.staged).addNumeric slot x.num
  let s2 := (s1.modJob slot Job.publishVersion).latchPage slot r.attempt.toNat
  let s3 := s2.modJob slot (fun j =>
    let j1 := ({ j with step := j.step + 1, limited := [] }).cutCommit
    { j1 with
      attempt := 0, run := none, pageDesc := some (r.desc, r.step),
      loads := match r.load with
        | some i => tmod {} j1.loads i (fun l => { l with active := false })
        | none => j1.loads })
  let s4 := (((s3.syncReset slot).phaseRestart slot).evictStale slot).meldCommitted slot
  (s4.releaseHeld slot).modKeyShare job k (fun x => { x with phase := .publishing, staged := [], num := {} })

/-- The pass trick of a job is committed on this package (R302, R304). -/
def State.commitPass (s : State) (slot : Nat) (x : Share) : State :=
  ((s.publish slot x.staged).addNumeric slot x.num).modKeyShare x.job.toNat ⟨x.step, x.mb, x.isPass⟩
    (fun x => { x with phase := .publishing, staged := [], num := {} })

def Job.cutPartner (j : Job) : BitVec 12 := BitVec.ofNat 12 (bits j.cut 16 12)

def Job.cutOff (j : Job) : Nat := bits j.cutSize 16 16 * mib

def Job.cutMib (j : Job) : Nat := bits j.cutSize 0 16 * mib

/-- A job as a heartbeat carries it. -/
def Job.watched (j : Job) : Watched :=
  { job := j.id, partner := j.cutPartner, cutOff := BitVec.ofNat 16 (bits j.cutSize 16 16), cutMib := BitVec.ofNat 16 (bits j.cutSize 0 16),
    half := nbit j.cut.toNat 29, cutStep := j.cutStep }

/-- A job waits for its cut, and packages of its deck are known to be lost (R485, R488). -/
def State.awaitCut (s : State) (slot : Nat) (lost : List (BitVec 12)) : State :=
  ({ s with recov := { s.recov with lost := lost.foldl addOnce s.recov.lost } }).modJob slot (fun j => { j with
    restoring := true, restored := false })

/-- Whether the coordinator holds DONE from every participant that is not lost. -/
def State.doneAll (s : State) (c : Coord) : Bool :=
  c.members.all (fun m => c.done.contains m || s.recov.lost.contains m)

/-- The talon that the lead picks (R485, order 2): the lowest valid entry whose package is not lost and which an UP port of the bypass ring,
HL6 or HL7, reaches; a neighbour there must have role talon. -/
def State.pickTalon (s : State) : Option (BitVec 12) :=
  let entries := (List.range 8).map (fun i => tget 0 s.dealer.talons i)
  (entries.find? (fun w =>
    let t := bits w 0 12
    nbit w.toNat 31 && !s.recov.lost.contains (BitVec.ofNat 12 t) && (match portOfCode (bits (tget routeReset s.originRoutes t) 24 5) with
      | some q => decide (12 ≤ q) && (s.port q).state = .up && (match (s.port q).nbr with
        | some i => i.package.toNat ≠ t || i.role = 1
        | none => true)
      | none => false))).map (fun w => BitVec.ofNat 12 (bits w 0 12))

/-- The base fields for a lost package become those of the talon that takes its ID, in the origin table and in every port's (R485, order 4; log 71). -/
def State.rebase (s : State) (lost talon : BitVec 12) : State :=
  let put := fun (t : Tbl Word) =>
    tput t lost.toNat (putBits (tget routeReset t lost.toNat) 24 5 (bits (tget routeReset t talon.toNat) 24 5))
  let s1 := { s with originRoutes := put s.originRoutes }
  ((List.range 16).filter s.portExists).foldl (fun s p => s.modPort p (fun q => { q with routes := put q.routes })) s1

/-- The lead sends the takeover order of a lost package once every deck trick of its jobs is drained, and tells the other packages of the deck
which talon takes its place (R485, orders 2 and 4; log 18). -/
def State.orderTakeovers (s : State) : State :=
  s.recov.lost.foldl (fun s p =>
    let jobs := s.jobSlots.filter (fun n => (s.job n).restoring && s.leadOf (s.job n) = s.self && (s.deckOf (s.job n)).contains p)
    let drained := jobs.all (fun n => (s.trk.coords.filter (fun c => c.job = (s.job n).id)).all (fun c => s.doneAll c))
    if s.recov.ordered.contains p || jobs.isEmpty || !drained then s
    else match s.pickTalon with
      | none => s
      | some t =>
        let ws := tget [] s.recov.heard p.toNat
        let s1 := ({ s with recov := { s.recov with ordered := s.recov.ordered ++ [p] } }).originate
          (mgmtPacket s.self t 2 ws.length p ((ws.map Watched.bytes).flatten))
        let told := ((jobs.map (fun n => s.liveMembers (s.job n) false)).flatten.dedup).filter (· ≠ s.self)
        (told.foldl (fun s m => s.originate (mgmtPacket s.self m 7 0 p (leBytes 2 t.toNat))) s1).rebase p t) s

/-- The lead begins a takeover of packages of a job, or a rollback without a talon when `lost` is empty: the job waits for its cut, and the lead
tells every other package of the deck that is not lost to restore its own (R485, order 6, R488; log 18). -/
def State.beginRestore (s : State) (slot : Nat) (lost : List (BitVec 12)) : State :=
  let s1 := s.awaitCut slot lost
  let j := s1.job slot
  let named := if lost.isEmpty then [s1.self] else lost
  ((s1.liveMembers j false).filter (· ≠ s1.self)).foldl (fun s m =>
    named.foldl (fun s p => s.originate (mgmtPacket s.self m 6 1 p j.watched.bytes)) s) s1

/-- The keys of a job's open passes that this package knows: its injected passes and its shares (R277). -/
def State.passKeys (s : State) (slot : Nat) : List TrickKey :=
  let j := s.job slot
  ((j.passes.filter (·.injected)).map (fun p => passKey p.step p.mb))
  ++ (s.trk.shares.filter (fun (e : Nat × Share) => e.2.job = j.id && e.2.isPass)).map (fun e => passKey e.2.step e.2.mb)

/-- Every deck trick of a job is revoked by its lead, its open passes and its step (R485, order 1); with no step open, the step's key is
revoked all the same, so that every package drains.  A key whose revoke of another cause still drains goes on to do so. -/
def State.revokeAll (s : State) (slot cause : Nat) (origin : BitVec 12) : State :=
  let j := s.job slot
  let job := j.id.toNat
  let s1 := (s.passKeys slot).foldl (fun s k => s.haveCoord slot k) (s.haveCoord slot (stepKey j.step))
  let s2 := (s1.trk.coords.filter (fun c => c.job = j.id && (c.phase = .collecting || c.phase = .resumed))).foldl (fun s c =>
    s.coordRevoke job ⟨c.step, c.mb, c.isPass⟩ cause origin) s1
  s2.orderTakeovers

/-- Right after a commit that makes a cut valid, the lead takes over the packages whose planned replacement is wanted, when a talon can take their
place (R488).  A lead that is degraded itself stops its heartbeat, so that the next lead takes it over (log 175). -/
def State.plannedReplacement (s : State) (slot : Nat) : State :=
  let j := s.job slot
  let ps := s.recov.planned.filter (fun p => p ≠ s.self && (s.deckOf j).contains p)
  if s.leadOf j ≠ s.self || s.pickTalon.isNone then s
  else if s.host.degraded then s.modTel (fun t => { t with heartbeat := false })
  else if ps.isEmpty then s
  else
    let s1 := { s with recov := { s.recov with planned := s.recov.planned.filter (fun p => !ps.contains p) } }
    (s1.beginRestore slot ps).revokeAll slot 2 (ps.headD 0)

/-- COMMIT at a participant (R302): only a share that is ready is published. -/
def State.applyCommit (s : State) (p : Packet) (n : Nat) : State :=
  let j := s.job n
  let k := trickKeyOf p
  match s.keyShare j.id.toNat k with
  | none => s
  | some x =>
    if x.phase ≠ .ready || x.attempt ≠ p.attempt then s
    else if k.isPass then s.commitPass n x
    else match j.run with
      | none => s
      | some r =>
        let s1 := s.commitStep n r x
        if j.cutReady && !j.cutBad then s1.plannedReplacement n else s1

/-- TRICK_COMMIT (R302, R488). -/
def execTrickCommit (src : Src) (s : State) : Host.Outcome State Fault Refusal :=
  .next (s.onTrick src 3 (fun _ _ => false) State.applyCommit)

/-! ## PUBLICATION_DONE (R292, R302, R417) -/

/-- Bytes of memory at a job-view address of a job, when it is device memory (R177). -/
def State.viewBytes (s : State) (slot v n : Nat) : List Byte :=
  match s.resolve slot (8 * (s.job slot).first) v with
  | some (_, a) => s.memRead a n
  | none => List.replicate n 0

/-- The lines of those bytes read (R185, R219): whether one is poisoned. -/
def State.viewTouch (s : State) (slot v n : Nat) : State × Bool :=
  match s.resolve slot (8 * (s.job slot).first) v with
  | some (_, a) => touchReads (some slot) false (linesOf (upFrom a n)) s
  | none => (s, false)

/-- The completion of a committed pass: the hub copies the published stream record (R413, R417, R418). -/
def State.completePass (s : State) (slot : Nat) (p : PassRun) : State :=
  let r := s.viewTouch slot p.stream.toNat 72
  if r.2 then r.1.rollback slot
  else
  let s := r.1
  let b := s.viewBytes slot p.stream.toNat 72
  let accepted := leAt b 4 4 % 32
  let tokens := (List.range 16).map (fun i => BitVec.ofNat 32 (if i < accepted then leAt b (8 + 4 * i) 4 else 0))
  let s1 := if p.reserved then s.unreserve else s
  (s1.completeDesc p.desc 0 p.step.toNat (p.mb.toNat + accepted * 2 ^ 20) (leAt b 0 4 % 2 ^ 20) tokens).modJob slot
    (fun j => { j with passes := j.passes.filter (fun q => q.mb ≠ p.mb) })

/-- The key of a share of a job: its step's, or a pass's. -/
def State.findShare (s : State) (slot : Nat) (mb : Option (BitVec 20)) (phase : SharePhase) : Option Share :=
  let j := s.job slot
  (s.trk.shares.find? (fun (e : Nat × Share) => e.2.job = j.id && e.2.phase = phase && (match mb with
    | none => !e.2.isPass
    | some m => e.2.isPass && e.2.mb = m))).map (·.2)

/-- PUBLICATION_DONE (R286, R292, R302): the completion is written and DONE is sent. An uncorrectable log entry found in the publication makes
the package a lost one: its heartbeat stops (R286, R472). -/
def execPublicationDone (slot : Fin 16) (p : Published) (s : State) : Host.Outcome State Fault Refusal :=
  match s.findShare slot p.mb .publishing with
  | none => .next s
  | some x =>
    if p.logError then .next (s.modTel (fun t => { t with heartbeat := false }))
    else
    let k : TrickKey := ⟨x.step, x.mb, x.isPass⟩
    let s1 := s.dropShare x.job.toNat k
    let s2 := match p.mb with
      | none => s1.completeStep slot
      | some m =>
        match (s1.job slot).passes.find? (fun (q : PassRun) => q.mb = m) with
        | some q => s1.completePass slot q
        | none => s1
    .next (s2.tellCoord slot k x.attempt 5 0)

/-! ## REVOKE (R302, R381, R578) -/

/-- Every stream of a job halts: its issued instructions are abandoned and its local tricks revoked, without a replay (R302). -/
def State.haltJob (s : State) (slot cause : Nat) : State :=
  (s.job slot).tiles.foldl (fun s L => (upFrom 0 3).foldl (fun s n =>
    let s1 := match s.trickOf L n with
      | some (i, _) => (s.noteRevoke L n cause 0xFFFF i).dropTrick L n
      | none => s
    s1.modTile L (fun t => ((t.unblock n).dropWork n).modStream n (fun x => { x with
      state := .halt, waitHandle := 0, ops := [], issueHeld := false, waitDone := false, pending := 0, pendingSends := 0, pendingTakes := 0 }))) s) s

/-- Each port's next sequence number: the drain waits until everything before it is acknowledged (R302). -/
def State.drainMarks (s : State) : Tbl (BitVec 24) :=
  (List.range 16).map (fun p => (p, (s.port p).nextSeq))

/-- A participant revokes its share of a key, halts the job's streams and begins to drain (R302); the share gives up its slot. -/
def State.revokeShare (s : State) (slot : Nat) (k : TrickKey) (cause : Nat) (origin : BitVec 12) : State :=
  let j := s.job slot
  let job := j.id.toNat
  let s1 := ((s.countRevoke slot cause true).raise 0x0302 job (deckDetail k cause origin)).markShare slot k
  let s2 := ((s1.haltJob slot cause).meldRevoke slot).modJob slot (fun j => { (j.unstage).pipeBank with
    run := j.run.map (fun r => { r with revoked := true }) })
  let s4 := s2.modJob slot (fun j => { j with
    passes := if k.isPass then modFirst (fun (p : PassRun) => p.mb = k.mb) (fun (p : PassRun) => { p with revoked := true }) j.passes else j.passes })
  let marks := s4.drainMarks
  let free := fun (e : Nat × Share) => (0, e.2)
  (s4.modTrk (fun u => { u with shares := modFirst (fun (e : Nat × Share) => e.2.hasKey job k) free u.shares })).modKeyShare job k (fun x => { x with
    phase := .draining, staged := [], num := {}, votes := 0, cause := BitVec.ofNat 4 cause, origin := origin, drainSeq := marks })

/-- Every reset that R302 lists for RESUME except the step's new start: records, pointers, held signals, objects, handles, version entries,
numeric counters and captures. -/
def State.resumeReset (s : State) (slot : Nat) : State :=
  let j := s.job slot
  let job := j.id.toNat
  let stale := fun (p : Packet) => tagJob p.tag = job
    && (p.ptype.toNat = ptData || p.ptype.toNat = ptSync || p.ptype.toNat = ptMeldData || p.ptype.toNat = ptMeldCtl
      || (p.ptype.toNat = ptChanCtl && decide (5 ≤ p.spec 32 1)))
  let s1 := { s with noc := s.noc.filter (fun p => !stale p) }
  let s2 := j.tiles.foldl (fun s L => s.modTile L (fun t => { t with
    eps := t.eps.map (fun (e : Nat × Endpoint) => (e.1, e.2.restart)),
    fovfStatus := putBits t.fovfStatus 30 2 0 })) s1
  let s3 := (upFrom 0 4).foldl (fun s q =>
    s.modStack q (fun x => { x with deferred := x.deferred.filter (fun h => h.job ≠ j.id) })) s2
  let s4 := ((s3.syncReset slot).phaseRestart slot).versionReset slot
  s4.modJob slot (fun j => { j with
    statistics := j.statistics.filter (fun (e : Nat × Stat) => decide (5 ≤ e.1)), amaxExp := none })

/-- Whether a packet belongs to the stream of a job's open step-mode load (R440). -/
def State.stepLoadPacket (s : State) (job : Nat) (p : Packet) : Bool :=
  tagJob p.tag = job && (p.ptype.toNat = ptBulk || p.ptype.toNat = ptBulkReq) && bits p.handle 12 4 = 1
    && (match s.findJob job with
      | some n => (match (s.job n).run with
        | some r => r.load = some (bits p.handle 16 4)
        | none => false)
      | none => false)

/-- The packets of an earlier attempt of a step-mode load that have arrived and have not been taken are discarded (R302, R434). -/
def State.dropStepLoad (s : State) (slot : Nat) : State :=
  let job := (s.job slot).id.toNat
  let old := fun (p : Packet) => p.ptype.toNat = ptBulk && s.stepLoadPacket job p
  let s1 := { s with noc := s.noc.filter (fun p => !old p) }
  (List.range 16).foldl (fun s q =>
    let gone := (s.port q).kitty.filter (fun k => !k.freed && k.pkt.dst = s.self && old k.pkt)
    gone.foldl (fun s k => s.creditFreed q k.pkt.cls.toNat k.pkt.blocks)
      (s.modPort q (fun x => { x with kitty := x.kitty.map (fun k => if k.pkt.dst = s.self && old k.pkt then { k with freed := true } else k) }))) s1

/-- The end of an EXPLICIT revoke of a step (R578): the resets, and STEP_REVOKED for the step and its open passes. -/
def State.endAbortedStep (s : State) (slot : Nat) (k : TrickKey) (cause : Nat) (origin : BitVec 12) : State :=
  let job := (s.job slot).id.toNat
  let s1 := s.resumeReset slot
  let j := s1.job slot
  let value := lostValue 0x0302 cause origin
  let fin := fun (s : State) (d : Desc) (reserved : Bool) =>
    (if reserved then s.unreserve else s).completeDesc d 0x20 (descStep j d) (descRef d) value
  let s2 := match j.run with
    | none => s1
    | some r =>
      if r.done then s1 else fin s1 r.desc r.reserved
  let s3 := j.passes.foldl (fun s p => fin s p.desc p.reserved) s2
  let s4 := s3.modJob slot (fun j => { j with
    attempt := match j.run with
      | some r => r.attempt
      | none => j.attempt
    loads := match j.run with
      | some { load := some i, done := false, .. } => tmod {} j.loads i (fun l => { l with active := false })
      | _ => j.loads
    run := none, passes := [] })
  (s4.modTrk (fun u => { u with
    shares := u.shares.filter (fun (e : Nat × Share) => !(e.2.job.toNat = job && e.2.isPass)),
    coords := u.coords.filter (fun c => !(c.job.toNat = job && c.isPass)) })).dropShare job k

/-- The step of a job starts again after RESUME with its open shares empty; its passes that are not ready are injected again (R302). -/
def State.restartStep (s : State) (slot : Nat) (attempt : Option (BitVec 8)) : State :=
  let job := (s.job slot).id.toNat
  let s1 := (s.dropStepLoad slot).modJob slot (fun j =>
    let run := j.run.map (fun r => { r with
      started := false, nextMb := 0, ctlDone := false, readySent := false, revoked := false, overrun := false,
      attempt := attempt.getD r.attempt })
    let loads := match j.run with
      | some { load := some i, done := false, .. } => tmod {} j.loads i (fun l => { l.rewind with readySent := false, complete := false })
      | _ => j.loads
    { j with
      run := run, loads := loads, attempt := attempt.getD j.attempt,
      passes := j.passes.map (fun p => if p.readySent then p else { p with injected := false }) })
  let clear := fun (e : Nat × Share) =>
    if e.2.job.toNat = job && e.2.phase = .opened then (e.1, { e.2 with staged := [], num := {}, votes := 0 }) else e
  s1.modTrk (fun u => { u with shares := u.shares.map clear })

/-- The end of an EXPLICIT revoke of a pass (R578): its share is discarded and it completes with STEP_REVOKED. The step whose streams the
revoke halted starts again with its other passes, as after a RESUME (log 64). -/
def State.endAbortedPass (s : State) (slot : Nat) (k : TrickKey) (cause : Nat) (origin : BitVec 12) : State :=
  let j := s.job slot
  let s1 := s.dropShare j.id.toNat k
  let s2 := match j.passes.find? (fun p => p.mb = k.mb) with
    | none => s1
    | some p =>
      ((if p.reserved then s1.unreserve else s1).completeDesc p.desc 0x20 p.step.toNat p.mb.toNat
        (lostValue 0x0302 cause origin)).modJob slot (fun j => { j with passes := j.passes.filter (fun q => q.mb ≠ k.mb) })
  (s2.resumeReset slot).restartStep slot none

/-- READY that a step-mode load has received belongs to the attempt that ends (R302, R434). -/
def State.forgetReady (s : State) (slot : Nat) : State :=
  s.modJob slot (fun j => match j.run with
    | some { load := some i, done := false, .. } => { j with loads := tmod {} j.loads i (fun l => { l with readyHeld := false }) }
    | _ => j)

/-- A share that is drained sends DONE; an EXPLICIT revoke then ends (R302, R578). -/
def State.shareDrained (s : State) (slot : Nat) (x : Share) : State :=
  let k : TrickKey := ⟨x.step, x.mb, x.isPass⟩
  let s1 := (s.tellCoord slot k x.attempt 5 0).forgetReady slot
  if x.cause = 1 then
    if x.isPass then s1.endAbortedPass slot k 1 x.origin else s1.endAbortedStep slot k 1 x.origin
  else s1.modKeyShare x.job.toNat k (fun x => { x with phase := .drained })

/-- The local tricks of a job and its deck tricks are revoked with cause JOB_LOST (R296, R310, R312): the events and counts of their ends. -/
def State.noteJobLost (s : State) (slot : Nat) (origin : BitVec 12) : State :=
  let j := s.job slot
  let s1 := (s.trk.locals.filter (fun e => j.tiles.contains e.2.tile)).foldl
    (fun s e => s.noteRevoke e.2.tile e.2.stream 7 0xFFFF e.1) s
  let keys := (s.trk.shares.filter (fun (e : Nat × Share) => e.2.job = j.id)).map (fun e => (⟨e.2.step, e.2.mb, e.2.isPass⟩ : TrickKey))
  let mine := j.openTricks.map (fun t => (⟨t.1, t.2.1, t.2.2.1⟩ : TrickKey))
  (mine.foldl addOnce keys).foldl (fun s k =>
    (s.countRevoke slot 7 true).raise 0x0302 j.id.toNat (deckDetail k 7 origin)) s1

/-- Every share of a job that a participant still holds open or ready is revoked as it learns that the coordinator is lost (R303). -/
def State.revokeHeld (s : State) (slot : Nat) (origin : BitVec 12) : State :=
  let j := s.job slot
  ((s.trk.shares.filter (fun (e : Nat × Share) => e.2.job = j.id && (e.2.phase = .opened || e.2.phase = .ready))).map
    (fun e => (⟨e.2.step, e.2.mb, e.2.isPass⟩ : TrickKey))).foldl (fun s k => s.revokeShare slot k 6 origin) s

/-- REVOKE at a participant: JOB_LOST ends the job alone (R312, R476); COORDINATOR_LOSS revokes every share of the job (R303); a drained share
answers an EXPLICIT revoke at once (R579). -/
def State.applyRevoke (s : State) (p : Packet) (n : Nat) : State :=
  let j := s.job n
  let k := trickKeyOf p
  if p.cause = 7 then (s.noteJobLost n p.origin).loseJob n 0x0302 p.origin false
  else
    let s1 := if p.cause = 6 then
        ({ s with recov := { s.recov with lost := addOnce s.recov.lost j.coordPkg } }).raise 0x0303 j.id.toNat
          (deckDetail k 6 p.origin)
      else s
    let rest := fun (s : State) => if p.cause = 6 then s.revokeHeld n p.origin else s
    rest (match s1.keyShare j.id.toNat k with
    | some x =>
      if x.attempt ≠ p.attempt then s1
      else match x.phase with
        | .drained =>
          if p.cause = 1 then s1.shareDrained n { x with cause := 1, origin := p.origin } else s1.tellCoord n k x.attempt 5 0
        | .draining => s1.modKeyShare j.id.toNat k (fun x => { x with cause := BitVec.ofNat 4 p.cause, origin := p.origin })
        | .publishing => s1
        | _ => s1.revokeShare n k p.cause p.origin
    | none =>
      if (k.isPass || k.step = j.step) && s1.attemptAt n k = p.attempt then s1.revokeShare n k p.cause p.origin else s1)

/-- TRICK_REVOKE (R302, R303, R476, R579). -/
def execTrickRevoke (src : Src) (s : State) : Host.Outcome State Fault Refusal :=
  .next (s.onTrick src 4 (fun _ _ => false) State.applyRevoke)

/-- Whether every port has the acknowledgement of every packet of a job that it had to send before the halt (R302): those of its background loads
and of its cut are no part of the step. -/
def State.drainedPorts (s : State) (job : Nat) (marks : Tbl (BitVec 24)) : Bool :=
  let mine := fun (p : Packet) =>
    (tagJob p.tag = job && p.ptype.toNat ≠ ptTrick && p.ptype.toNat ≠ ptBulk && p.ptype.toNat ≠ ptBulkReq) || s.stepLoadPacket job p
  (List.range 16).all (fun i =>
    let q := s.port i
    !(q.txq.any mine) && q.replay.all (fun r =>
      !(mine r.pkt) && !(later 24 (tget 0 marks i).toNat r.seq.toNat)))

/-- A port on a job's bank routes (R474). -/
def bankPorts (j : Job) : List Nat :=
  (j.deck.routes.map (fun r => [portOfCode r.bank0.toNat, portOfCode r.bank1.toNat])).flatten.filterMap id

/-- Whether every port on the job's bank routes is UP (R474). -/
def State.bankUp (s : State) (j : Job) : Bool := (bankPorts j).all (fun q => (s.port q).state = .up)

/-- REVOKE_DRAINED (R302): DONE is sent once every port has its acknowledgements; after a FAULT a package with a port of the job's bank routes
that is not UP holds its DONE back, so that no package resumes meanwhile (R474; log 176). -/
def execRevokeDrained (slot : Fin 16) (mb : Option (BitVec 20)) (s : State) : Host.Outcome State Fault Refusal :=
  match s.findShare slot mb .draining with
  | none => .next s
  | some x =>
    let j := s.job slot
    if s.drainedPorts x.job.toNat x.drainSeq && (x.cause ≠ 2 || j.restoring || s.bankUp j) then .next (s.shareDrained slot x) else .next s

/-! ## DONE and RESUME (R301, R302, R485, R579) -/

/-- RESUME to every participant of a revoked key: its attempt advances and the entry collects again (R301, R302). -/
def State.sendResume (s : State) (job : Nat) (c : Coord) : State :=
  let k : TrickKey := ⟨c.step, c.mb, c.isPass⟩
  let s1 := s.modCoord job k (fun c => { c with attempt := c.attempt + 1, phase := .collecting, ready := [], done := [] })
  s1.tellMembers c.members job k (c.attempt + 1) 6 0 s.self

/-- The coordinator holds DONE of every participant of a revoked key (R301, R302, R485, R579). -/
def State.coordDrained (s : State) (n job : Nat) (c : Coord) : State :=
  let k : TrickKey := ⟨c.step, c.mb, c.isPass⟩
  if c.abortPending then
    (s.modCoord job k (fun c => { c with cause := 1, done := [], abortPending := false })).tellMembers
      (c.members.filter (fun m => !s.recov.lost.contains m)) job k c.attempt 4 1 s.self
  else if c.cause = 1 then
    let s1 := s.dropCoord job k
    if (s.job n).restoring then s1.orderTakeovers else s1
  else if (s.job n).restoring then s.orderTakeovers
  else s.sendResume job c

/-- DONE at the coordinator. -/
def State.coordDone (s : State) (p : Packet) (n : Nat) : State :=
  let job := (s.job n).id.toNat
  let k := trickKeyOf p
  match s.coordAt job k with
  | none => s
  | some c =>
    if c.attempt ≠ p.attempt then s
    else
      let c' := { c with done := addOnce c.done p.src }
      let s1 := s.modCoord job k (fun _ => c')
      match c.phase with
      | .committed => if s1.doneAll c' then s1.dropCoord job k else s1
      | .revoking => if s1.doneAll c' then s1.coordDrained n job c' else s1
      | _ => s

/-- TRICK_DONE (R301, R302, R485, R579). -/
def execTrickDone (src : Src) (s : State) : Host.Outcome State Fault Refusal :=
  .next (s.onTrick src 5 (fun _ _ => false) State.coordDone)

/-- RESUME at a participant (R302): the resets, and the step starts again with the same number. -/
def State.applyResume (s : State) (p : Packet) (n : Nat) : State :=
  let j := s.job n
  let job := j.id.toNat
  let k := trickKeyOf p
  if j.restored then
    ({ s with recov := { s.recov with lost := s.recov.lost.filter (fun p => !(s.deckOf j).contains p) } }).modJob n (fun j => { j with
      restoring := false, restored := false })
  else match s.keyShare job k with
    | none => s
    | some x =>
      if x.attempt + 1 ≠ p.attempt then s
      else
        let s1 := s.resumeReset n
        if k.isPass then
          let s2 := s1.modJob n (fun j => { j with
            passes := modFirst (fun q => q.mb = k.mb) (fun q => { q with
              attempt := p.attempt, revoked := false, readySent := false, injected := false }) j.passes })
          ((s2.dropShare job k).restartStep n none).modTrk (fun u => { u with
            shares := u.shares ++ [(0, { job := x.job, step := x.step, mb := x.mb, isPass := true, attempt := p.attempt })] })
        else (s1.dropShare job k).restartStep n (some p.attempt)

/-- Whether a RESUME must wait: the share still drains, a port on the job's bank routes is not UP (R474), or the cut is not restored (R485). -/
def State.resumeWaits (s : State) (p : Packet) (n : Nat) : Bool :=
  let j := s.job n
  if j.restoring then !j.restored
  else match s.keyShare j.id.toNat (trickKeyOf p) with
    | some x => x.phase = .draining || !(s.bankUp j)
    | none => false

/-- TRICK_RESUME (R302, R474, R485). -/
def execTrickResume (src : Src) (s : State) : Host.Outcome State Fault Refusal :=
  .next (s.onTrick src 6 s.resumeWaits State.applyResume)

end Sys2Proof.Machine
end

