-- ==== Sys2Proof/Machine/Ring.lean ====
section
/-! DEFINITION. Ring.lean: the host's rings and their registers (R398 to R408), the doorbell monitor (R403, R404), MSI-X messages (R406), the
completion buffer (R420), and the loss and return of the host link (R391, R423 to R425). -/
namespace Sys2Proof.Machine

/-! ## Ring registers (R407, R408) -/

/-- An HRC write is discarded (R408). -/
def State.hrcReject (s : State) : State := s.modHost (fun h => { h with reject := true })

/-- RW bits of a submission ring's CFG, and of a completion ring's or the event ring's (R407). -/
def sqCfgMask : Word := 0xBF00001F
def cqCfgMask : Word := 0xBFFF001F

/-- CFG of a ring. -/
def State.ringCfg (s : State) : RingRef → Word
  | .sq q => (s.sq q).cfg
  | .cq c => (s.cq c).cfg
  | .eq => s.host.eq.cfg

/-- Lines that the monitor holds: of the doorbell word of each enabled submission ring, and of the head word of each other enabled
ring (R403). -/
def State.monitored (s : State) : List Nat :=
  let sq := (List.range 64).filterMap (fun q => if ringEnabled (s.sq q).cfg then some ((s.sq q).db.toNat / 64) else none)
  let cq := (List.range 64).filterMap (fun c => if ringEnabled (s.cq c).cfg then some ((s.cq c).hw.toNat / 64) else none)
  (sq ++ cq ++ (if ringEnabled s.host.eq.cfg then [s.host.eq.hw.toNat / 64] else [])).dedup

/-- Line of a ring's doorbell or head word. -/
def State.ringLine (s : State) : RingRef → Nat
  | .sq q => (s.sq q).db.toNat / 64
  | .cq c => (s.cq c).hw.toNat / 64
  | .eq => s.host.eq.hw.toNat / 64

/-- Whether a write to a ring's registers is accepted (R408). -/
def State.ringOpen (s : State) (r : RingRef) : Bool := !(ringEnabled (s.ringCfg r)) || !s.host.attached

/-- The checks of R408 on a write that sets `enable`. -/
def State.enableBad (s : State) (r : RingRef) (v : Word) : Bool :=
  let size := bits v 0 5
  size < 6 || 16 < size || (match r with
    | .sq _ => !(ringEnabled (s.cq (bits v 24 6)).cfg)
    | _ => false)
  || (!(s.monitored.contains (s.ringLine r)) && decide (128 ≤ s.monitored.length))

/-- A ring is enabled: a submission ring starts empty at the doorbell word's value, another ring at counter 0 (R408). -/
def State.startRing (s : State) (r : RingRef) : State :=
  match r with
  | .sq q =>
    let d := BitVec.ofNat 32 (leNat (s.hostRead (s.sq q).db.toNat 4))
    s.modSq q (fun x => { x with head := d, tail := d })
  | .cq c => s.modCq c (fun x => { x with head := 0, tail := 0, seen := 0, arm := false })
  | .eq => s.modHost (fun h => { h with eq := { h.eq with head := 0, tail := 0, seen := 0, arm := false } })

/-- CFG of a ring written. -/
def State.setCfg (s : State) (r : RingRef) (v : Word) : State :=
  match r with
  | .sq q => s.modSq q (fun x => { x with cfg := v &&& sqCfgMask })
  | .cq c => s.modCq c (fun x => { x with cfg := v &&& cqCfgMask })
  | .eq => s.modHost (fun h => { h with eq := { h.eq with cfg := v &&& cqCfgMask } })

/-- A host write of a ring's CFG (R408). -/
def State.writeCfg (s : State) (r : RingRef) (v : Word) : State :=
  let was := ringEnabled (s.ringCfg r)
  if v.getLsbD 31 then
    if !s.ringOpen r || s.enableBad r v then s.hrcReject
    else if was then s.setCfg r v else (s.setCfg r v).startRing r
  else
    let named := match r with
      | .cq c => (List.range 64).any (fun q => ringEnabled (s.sq q).cfg && bits (s.sq q).cfg 24 6 = c.val)
      | _ => false
    if was && named then s.hrcReject else s.setCfg r v

/-- RING_ENABLE (R408). -/
def execRingEnable (ring : RingRef) (cfg : BitVec 32) (hw : List Host.Cell) (s : State) : Host.Outcome State Fault Refusal :=
  .next (s.fromHost ((s.applyHw hw).writeCfg ring (putBits cfg 31 1 1)))

/-- RING_DISABLE (R408). -/
def execRingDisable (ring : RingRef) (s : State) : Host.Outcome State Fault Refusal :=
  if s.awake && ringEnabled (s.ringCfg ring) then .next (s.writeCfg ring (putBits (s.ringCfg ring) 31 1 0)) else .next s

/-- A host write of BASE (`hi` false), or of DB or HW (R407, R408). -/
def State.writeRingAddr (s : State) (r : RingRef) (hi : Bool) (v : Dword) : State :=
  if !s.ringOpen r then s.hrcReject
  else
    let base := v &&& 0xFFFFFFFFFFFFF000
    match r, hi with
    | .sq q, false => s.modSq q (fun x => { x with base := base })
    | .sq q, true => s.modSq q (fun x => { x with db := v &&& 0xFFFFFFFFFFFFFFFC })
    | .cq c, false => s.modCq c (fun x => { x with base := base })
    | .cq c, true => s.modCq c (fun x => { x with hw := v &&& 0xFFFFFFFFFFFFFFF8 })
    | .eq, false => s.modHost (fun h => { h with eq := { h.eq with base := base } })
    | .eq, true => s.modHost (fun h => { h with eq := { h.eq with hw := v &&& 0xFFFFFFFFFFFFFFF8 } })

/-! ## The monitor (R402 to R404, R426) -/

/-- A ring's number and kind in the detail of events 0x0103 and 0x0104 (R577). -/
def ringDetail : RingRef → Nat
  | .sq q => q.val
  | .cq c => c.val + 1 * 2 ^ 8
  | .eq => 2 * 2 ^ 8

/-- The hub clears a ring's `enable` and raises an event. -/
def State.ringError (s : State) (r : RingRef) (code extra : Nat) : State :=
  (s.setCfg r (putBits (s.ringCfg r) 31 1 0)).raise code 0 (ringDetail r + extra)

/-- A head word evaluated for a completion ring or the event ring (R402, R406): the ring after it, whether its vector is raised, or none when
the head lies beyond the tail by more than the ring's size. -/
def Cq.headWord (q : Cq) (w : Dword) : Option (Cq × Bool) :=
  if w = q.seen then some (q, false)
  else
    let head := BitVec.ofNat 32 (bits w 0 32)
    if ringSize q.cfg < (q.tail - head).toNat then none
    else
      let arm := nbit w.toNat 32
      let fire := arm && q.tail ≠ head
      some ({ q with head := head, seen := w, arm := arm && !fire }, fire)

/-- A monitored word of an enabled ring is evaluated (R402, R404, R422). -/
def State.evalWord (s : State) (r : RingRef) : State :=
  if !(ringEnabled (s.ringCfg r)) then s
  else match r with
    | .sq q =>
      let x := s.sq q
      let d := BitVec.ofNat 32 (leNat (s.hostRead x.db.toNat 4))
      if d = x.tail then s
      else if ringSize x.cfg < (d - x.head).toNat then s.ringError r 0x0103 0
      else s.modSq q (fun x => { x with tail := d })
    | .cq c =>
      match (s.cq c).headWord (BitVec.ofNat 64 (leNat (s.hostRead (s.cq c).hw.toNat 8))) with
      | none => s.ringError r 0x0103 0
      | some (x, fire) =>
        let s1 := s.modCq c (fun _ => x)
        if fire then s1.raiseVector x.cfg else s1
    | .eq =>
      match s.host.eq.headWord (BitVec.ofNat 64 (leNat (s.hostRead s.host.eq.hw.toNat 8))) with
      | none => s.ringError r 0x0103 0
      | some (x, fire) =>
        let s1 := s.modHost (fun h => { h with eq := x })
        (if fire then s1.raiseVector x.cfg else s1).flushEvents

def allSqs : List RingRef := (List.finRange 64).map RingRef.sq

def allCqs : List RingRef := (List.finRange 64).map RingRef.cq ++ [RingRef.eq]

/-- MONITOR_SNOOP (R403). -/
def execMonitorSnoop (line : BitVec 58) (s : State) : Host.Outcome State Fault Refusal :=
  if s.host.monitoring && s.monitored.contains line.toNat then
    .next (s.modHost (fun h => { h with stale := addOnce h.stale line.toNat }))
  else .next s

/-- MONITOR_POLL (R403); a `poll_us` of 0 is no periodic re-read. -/
def execMonitorPoll (s : State) : Host.Outcome State Fault Refusal :=
  if s.host.monitoring && bits s.host.ctl 0 16 ≠ 0 then
    .next (s.modHost (fun h => { h with stale := s.monitored.foldl addOnce h.stale }))
  else .next s

/-- The completion rings, and the event ring, into which a write of records has failed are disabled (R426). -/
def State.recordErrors (s : State) (failed : List HostErr) : State :=
  (allCqs.filter (fun r => failed.contains (.records r) && ringEnabled (s.ringCfg r))).foldl (fun s r => s.ringError r 0x0104 0) s

/-- MONITOR_LINE_READ (R402 to R404, R426): every doorbell and head word of the line is evaluated; `failed` are the accesses that the host
has completed with an error by then (log 183). -/
def execMonitorLineRead (line : BitVec 58) (hw : List Host.Cell) (failed : List HostErr) (s : State) :
    Host.Outcome State Fault Refusal :=
  if !s.host.monitoring then .next s
  else
    let s0 := s.recordErrors failed
    if !(s0.host.stale.contains line.toNat) then .next s0
    else
      let s1 := (s0.applyHw hw).modHost (fun h => { h with stale := h.stale.filter (· ≠ line.toNat) })
      let mine := (allSqs ++ allCqs).filter (fun r => ringEnabled (s0.ringCfg r) && s0.ringLine r = line.toNat)
      .next (mine.foldl (fun s r => if failed.contains (.word r) then s.ringError r 0x0104 (2 ^ 10) else s.evalWord r) s1)

/-! ## MSI-X and the completion buffer (R406, R420) -/

/-- MSIX_MESSAGE (R406): a message that was due is sent. -/
def execMsixMessage (vector : Fin 64) (s : State) : Host.Outcome State Fault Refusal :=
  if s.host.msixDue.contains vector.val then
    .next ((s.modHost (fun h => { h with msixDue := h.msixDue.filter (· ≠ vector.val) })).sendMsix vector)
  else .next s

/-- The oldest buffered completion whose ring takes it is written; a ring whose oldest record does not fit keeps its later ones (R420). -/
def drainOne : List Completion → List Nat → List Completion → State → State
  | [], _, _, s => s
  | c :: cs, blocked, before, s =>
    if blocked.contains c.ring then drainOne cs blocked (before ++ [c]) s
    else match s.putCompletion c with
      | some s1 => s1.modHost (fun h => { h with buffer := before ++ cs, fullRaised := false })
      | none => drainOne cs (c.ring :: blocked) (before ++ [c]) s

/-- COMPLETION_BUFFER_DRAIN (R420); a record that becomes free is taken by the oldest completion that waits for one (log 171). -/
def execCompletionBufferDrain (s : State) : Host.Outcome State Fault Refusal := .next (drainOne s.host.buffer [] [] s).takeOwed

/-! ## The host link (R391, R423 to R425) -/

/-- Every IDE key is erased and every SPDM session ends (R517). -/
def State.dropSecure (s : State) : State := s.modSec (fun x => { x with ide := [], sessions := [], chunkIn := [], chunkOut := [] })

/-- The host link is declared lost (R423): completions in the buffer are held through the loss (R417), and pages are held and their completions
go to the buffer (R424). -/
def State.hostLinkLost (s : State) : State :=
  if !s.host.linkUp then s
  else
    let s1 := (s.modHost (fun h => { h with
      attached := false, monitoring := false, resumeWait := false, pcieOnly := false, linkUp := false, speed := 0, width := 0,
      stale := [] })).dropSecure.raise 0x0101 0 0
    let s2 := s1.modHost (fun h => { h with buffer := h.buffer.map (fun c => { c with held := true }), owed := h.owed.map (fun c => { c with held := true }) })
    (List.range 16).foldl (fun s n =>
      if (s.job n).page.isSome then (s.modJob n (fun j => { j with pageHeld := true })).completeStep n else s) s2

/-- HOST_LINK_DOWN (R423). -/
def execHostLinkDown (s : State) : Host.Outcome State Fault Refusal := .next s.hostLinkLost

/-- HOST_LINK_LOSS_TIMEOUT (R423). -/
def execHostLinkLossTimeout (s : State) : Host.Outcome State Fault Refusal := .next s.hostLinkLost

/-- PERST_N_ASSERT (R423): the link is lost and the function's configuration space is reset. -/
def execPerstNAssert (s : State) : Host.Outcome State Fault Refusal :=
  .next ((s.hostLinkLost.modHost (fun h => { h with perstHigh := false, configSpace := configReset })).dropSecure)

/-- PERST_N_DEASSERT (R561): the link may train, once power-on reset is released. -/
def execPerstNDeassert (s : State) : Host.Outcome State Fault Refusal := .next (s.modHost (fun h => { h with perstHigh := true }))

/-- The link may return: the package is out of reset and has not tripped, PERST_N is high, and no rings run. -/
def State.linkMayTrain (s : State) : Bool := s.awake && s.host.perstHigh && !s.host.attached

/-- HOST_LINK_BACK (R425). -/
def execHostLinkBack (speed : BitVec 2) (width : BitVec 5) (s : State) : Host.Outcome State Fault Refusal :=
  if !s.linkMayTrain then .next s
  else
    .next ((s.modHost (fun h => { h with
      linkUp := true, resumeWait := true, pcieOnly := false, speed := speed, width := width })).raise 0x0102 0 0)

/-- PCIE_ONLY (R391). -/
def execPcieOnly (speed : BitVec 2) (width : BitVec 5) (s : State) : Host.Outcome State Fault Refusal :=
  if !s.linkMayTrain then .next s
  else
    .next ((s.modHost (fun h => { h with
      linkUp := true, resumeWait := false, pcieOnly := true, speed := speed, width := width })).raise 0x0106 0 0)

/-- The instructions of a tile that wait for the translation of an address wait no longer (R198). -/
def State.retryAccess (s : State) (L v : Nat) : State :=
  let go := fun (o : Op) => if o.faultAddr.map (·.toNat) = some v then { o with faultAddr := none } else o
  (List.range 3).foldl (fun s n => s.modStream L n (fun x => { x with ops := x.ops.map go })) s

/-- After a loss of the host link every access that waits for a page request is tried again, and makes its request anew (R424; log 170). -/
def State.retryAll (s : State) : State :=
  (s.host.pageRequests.foldl (fun s r => s.retryAccess r.1 r.2) s).modHost (fun h => { h with
    pageRequests := [], hubRequests := h.hubRequests.filter (fun r => r.2.2 ≠ 0) })

/-- The acts of `resume`, in R425's order. -/
def State.resumeRings (s : State) : State :=
  let s1 := s.modHost (fun h => { h with ats := [], monitoring := true, stale := [] })
  let s2 := allSqs.foldl (fun s r => s.evalWord r) s1
  let s3 := if s.host.ctl.getLsbD 30 then
      (List.range 64).foldl (fun s c => s.modCq c (fun x => { x with head := 0, tail := 0, seen := 0, arm := false }))
        (s2.modHost (fun h => { h with eq := { h.eq with head := 0, tail := 0, seen := 0, arm := false } }))
    else allCqs.foldl (fun s r => s.evalWord r) s2
  let s4 := s3.modHost (fun h => { h with attached := true, resumeWait := false })
  let s5 := (List.range 16).foldl (fun s n => s.writePage n) s4
  (List.range 16).foldl (fun s n => s.modJob n (fun j => { j with paused := false })) (s5.drain.flushEvents).retryAll

/-- A host write of HRC_CTL (R407, R425). -/
def State.writeHrcCtl (s : State) (v : Word) : State :=
  if v.getLsbD 31 && !s.host.resumeWait then s.hrcReject
  else
    let s1 := s.modHost (fun h => { h with
      ctl := oneFor [(16, 8)] (v &&& 0x40FFFFFF), reject := if v.getLsbD 29 then false else h.reject })
    if v.getLsbD 31 then s1.resumeRings else s1

/-- RESUME (R425): the host writes HRC_CTL with `resume`. -/
def execResume (value : BitVec 32) (hw : List Host.Cell) (s : State) : Host.Outcome State Fault Refusal :=
  .next (s.fromHost ((s.applyHw hw).writeHrcCtl (putBits value 31 1 1)))

/-! ## Host CXL.mem accesses (R204, R216, R217, R392) -/

/-- Stack and linear offset of an HDM offset (R217). -/
def hdmStack (h : Nat) : Nat := h / gddrStackBytes
def hdmOffset (h : Nat) : Nat := h % gddrStackBytes

/-- Byte offset, among the component registers of BAR2, of the control register of the HDM decoder (log 144). -/
def hdmControl : Nat := 0x1220

/-- Whether CXL.mem is active: the link has CXL, and the host has committed the HDM decoder (R391, R392). -/
def State.cxlMem (s : State) : Bool := !s.host.pcieOnly && nbit (tget 0 s.host.component (hdmControl / 4)).toNat 10

/-- Whether an offset lies in a slice that is being zeroed (R216). -/
def State.zeroing (s : State) (k o : Nat) : Bool :=
  match s.slotOfGroup (4 * k + o / s.gsliceBytes k) with
  | some n => decide (o < 4 * s.gsliceBytes k) && ((s.job n).ending.isSome || (s.job n).endingLost)
  | none => false

/-- A host write to the cut region or the management area is discarded; event 0x0632 comes once per second at most (R217). -/
def State.reservedWrite (s : State) (a : Nat) : State :=
  if s.host.reservedAt.any (fun t => decide (s.now < t + 1000000)) then s
  else (s.modHost (fun h => { h with reservedAt := some s.now })).raise 0x0632 0 a

/-- A host access served (R204, R217, R220, R221, R392).  The host holds the lines that it has read until a snoop takes them or it writes them
back.  An access without memory behind it gives bytes that the spec does not state, and writes nothing (logs 3, 94). -/
def State.serveHost (s : State) : HostAccess → State
  | .read offset bytes =>
    let k := hdmStack offset.toNat
    let a := gddrOf k + hdmOffset offset.toNat
    if !s.cxlMem || s.gddrFailed k then
      let f := s.freeBytes bytes
      f.1.emit (.memData f.2 false)
    else
      let lines := linesOf (upFrom a bytes)
      let r := touchReads none true lines s
      let s1 := r.1.modHost (fun h => { h with hostHeld := lines.foldl addOnce h.hostHeld })
      if r.2 then
        let f := s1.freeBytes bytes
        f.1.emit (.memData f.2 true)
      else s1.emit (.memData (s1.memRead a bytes) false)
  | .write offset data =>
    let k := hdmStack offset.toNat
    let o := hdmOffset offset.toNat
    let a := gddrOf k + o
    if !s.cxlMem || s.gddrFailed k then s
    else if o < 4 * s.gsliceBytes k then
      ((s.gddrAccess none (a / 64) true true).modHost (fun h => { h with hostHeld := h.hostHeld.filter (· ≠ a / 64) })).storeOwn none
        (cellsAt a data)
    else s.reservedWrite a

/-- HDM offset of an access. -/
def HostAccess.offset : HostAccess → Nat
  | .read o _ => o.toNat
  | .write o _ => o.toNat

/-- A host access served, or kept until the zeroing of its slice ends (R216). -/
def State.hostAccess (s : State) (x : HostAccess) : State :=
  if s.zeroing (hdmStack x.offset) (hdmOffset x.offset) then s.modHost (fun h => { h with memWaiting := h.memWaiting ++ [x] })
  else s.serveHost x

/-- Accesses that waited for the zeroing of a slice, served in order (R216). -/
def State.releaseHost (s : State) : State :=
  s.host.memWaiting.foldl State.hostAccess (s.modHost (fun h => { h with memWaiting := [] }))

/-! ## The reset of the compute complex (R427, R475) -/

/-- CC_RESET (R475): the host writes cc_reset; no event is its cause. -/
def execCcReset (s : State) : Host.Outcome State Fault Refusal := if s.host.ccBusy || !s.awake then .next s else .next s.ccResetOpen

/-- CC_RESET_DONE (R216, R475): host accesses that waited for the zeroing are served. -/
def execCcResetDone (s : State) : Host.Outcome State Fault Refusal := .next (s.modHost (fun h => { h with ccBusy := false })).releaseHost

end Sys2Proof.Machine
end

