-- ==== Sys2Proof/Machine/Load.lean ====
section
/-! DEFINITION. Load.lean: loading weights (R428 to R446): the chain of packages, its READY and RESTART messages, the head's reads of the image,
and the packets of the load stream. -/
namespace Sys2Proof.Machine

/-! ## Loads of a job -/

def State.load (s : State) (slot i : Nat) : Load := tget {} (s.job slot).loads i

def State.modLoad (s : State) (slot i : Nat) (f : Load → Load) : State :=
  s.modJob slot (fun j => { j with loads := tmod {} j.loads i f })

/-- Whether a load number of a job names a load that has not completed (R431): one that is active, a step-mode load whose step is open, or one
whose step has committed and whose completion waits for the page. -/
def State.loadHeld (s : State) (slot i : Nat) : Bool :=
  (s.load slot i).active || (match (s.job slot).run with
    | some r => r.load = some i && !r.done
    | none => false)
  || (match (s.job slot).pageDesc with
    | some (d, _) => d.dtype = 6 && leAt d.bytes 14 2 % 16 = i
    | none => false)

/-- Detail of events 0x0220 to 0x0222 (R577). -/
def loadDetail (seg i reason : Nat) : Nat := seg % 2 ^ 32 + i * 2 ^ 32 + reason * 2 ^ 36

/-- A check of R437 fails: event 0x0220 or 0x0221 and the job fault. -/
def State.loadFault (s : State) (slot i code seg reason : Nat) : State :=
  (s.raise code (s.job slot).id.toNat (loadDetail seg i reason)).jobFault code

/-- A background load ends: its completion is written (R435). -/
def State.endLoad (s : State) (slot i status : Nat) : State :=
  let j := s.job slot
  let l := tget ({} : Load) j.loads i
  (s.unreserve.completeDesc l.desc status (descStep j l.desc) 0 0).modLoad slot i (fun l => { l with active := false, complete := true })

/-- A package's load has received and kept everything (R432, R435): a step-mode load lets the share become ready. -/
def State.loadDone (s : State) (slot i : Nat) : State :=
  if (s.load slot i).background then s.endLoad slot i 0 else s.modLoad slot i (fun l => { l with complete := true })

/-- Whether a load may move data: it is active, and a step-mode load's step has started and is not revoked. -/
def State.loadRuns (s : State) (slot i : Nat) : Bool :=
  let j := s.job slot
  let l := tget ({} : Load) j.loads i
  l.active && (l.background || (match j.run with
    | some r => r.load = some i && r.started && !r.revoked
    | none => false))

/-- READY goes upstream once the load has started and the package is the tail or holds READY from downstream (R438). -/
def State.passReady (s : State) (slot i : Nat) : State :=
  let l := s.load slot i
  if s.loadRuns slot i && !l.head && l.readyDown && !l.readySent then
    (s.modLoad slot i (fun l => { l with readySent := true })).loadRequest slot i true 1
  else s

/-- A load starts on this package (R431, R438, R445), with READY from downstream if that has come; a lone member is done at once. -/
def State.beginLoad (s : State) (slot i : Nat) (d : Desc) : State :=
  let b := d.bytes
  let up := leAt b 32 2
  let down := leAt b 34 2
  let l : Load :=
    { active := true, background := nbit (leAt b 12 2) 1, publish := nbit (leAt b 12 2) 0, readyDown := nbit down 15 || (s.load slot i).readyHeld, desc := d,
      image := BitVec.ofNat 64 (leAt b 16 8), imageBytes := leAt b 24 8, head := nbit up 15, tail := nbit down 15,
      up := BitVec.ofNat 12 up, down := BitVec.ofNat 12 down, expect := leAt b 36 8 }
  let s1 := s.modLoad slot i (fun _ => l)
  if l.head && l.tail && l.image = 0 then s1.loadDone slot i else s1.passReady slot i

/-- Load number of a LOAD descriptor. -/
def Desc.loadId (d : Desc) : Nat := leAt d.bytes 14 2 % 16

/-! ## READY and RESTART (R436, R438; log 12) -/

/-- BULK_REQ of a load with an operation. -/
def isLoadReq (op : Nat) (p : Packet) : Bool := p.ptype.toNat = ptBulkReq && p.spec 32 1 = op && bits p.handle 12 4 = 1

/-- LOAD_READY (R438): held until the load has started here, or has started again. -/
def execLoadReady (src : Src) (s : State) : Host.Outcome State Fault Refusal :=
  match s.takePacket src (isLoadReq 1) with
  | none => .next s
  | some (p, s1) =>
    match s1.findJob (tagJob p.tag) with
    | none => .next (s1.noDestination src p)
    | some n =>
      let i := bits p.handle 16 4
      if s1.loadRuns n i && !(s1.load n i).readyDown then .next ((s1.modLoad n i (fun l => { l with readyDown := true })).passReady n i)
      else .next (s1.modLoad n i (fun l => { l with readyHeld := true }))

/-- LOAD_RESTART (R436): a request on its way to the head, or the head's order on its way down the chain. -/
def execLoadRestart (src : Src) (s : State) : Host.Outcome State Fault Refusal :=
  match s.takePacket src (isLoadReq 2) with
  | none => .next s
  | some (p, s1) =>
    match s1.findJob (tagJob p.tag) with
    | none => .next (s1.noDestination src p)
    | some n =>
      let i := bits p.handle 16 4
      let l := s1.load n i
      if !l.active || !l.background then .next (s1.noDestination src p)
      else if l.head || (p.src = l.up && p.src ≠ l.down) then .next (s1.restartLoad n i)
      else .next (s1.loadRequest n i true 2)

/-! ## Targets (R429, R435) -/

/-- Whether a range overlaps another, both as first byte and first byte past. -/
def overlaps (a b c d : Nat) : Bool := decide (a < d) && decide (c < b)

/-- The device address of a segment's bytes at a job-view address: none when the target breaks R429 or R435.  The slices are whole MiB (R182, R233),
so that a hole between two would show at one of the points looked at. -/
def State.loadTarget (s : State) (slot : Nat) (l : Load) (vslot : Bool) (v n : Nat) : Option Nat :=
  let j := s.job slot
  let regions := (List.range 256).filterMap (fun r =>
    let e := tget (0, 0) s.dealer.vregs r
    if nbit e.1.toNat 63 && bits e.1 48 12 = j.id.toNat then some (bits e.1 0 48, e.2.toNat * 256) else none)
  let inSlices := fun (v k : Nat) =>
    match s.resolve slot (8 * j.first) v, s.resolve slot (8 * j.first) ((v + k : Nat) : Int) with
    | some (.sram _, a), some (.sram _, b) => b = a + k
    | some (.gddr _, a), some (.gddr _, b) => b = a + k
    | _, _ => false
  let at' := fun (v : Nat) =>
    if (List.range ((n - 1) / 65536 + 1)).all (fun i => inSlices v (65536 * i)) && inSlices v (n - 1) then
      (s.resolve slot (8 * j.first) v).map (·.2)
    else none
  if vslot && !l.publish then none
  else if n = 0 then some 0
  else if vslot then
    match regions.find? (fun r => decide (r.1 ≤ v) && decide (v + n ≤ r.1 + r.2)),
        (List.range 16).find? (fun i => (tget ({} : VerEntry) j.versions i).state = 1) with
    | some r, some i => at' (v + i * r.2)
    | _, _ => none
  else if l.background && (regions.any (fun r => overlaps v (v + n) r.1 (r.1 + r.2 * j.jobSlots))
      || (List.range 16).any (fun i =>
        let e := tget (0, 0) j.durable i
        nbit e.1.toNat 63 && overlaps v (v + n) (bits e.1 0 48) (bits e.2 0 48))
      || (List.range 128).any (fun k =>
        let x := tget {} s.dealer.keeps k
        x.valid && x.job = j.id && overlaps v (v + n) x.home.toNat (x.home.toNat + x.size.toNat * 256))) then none
  else at' v

/-- Bytes kept: written in class BULK, poisoned when they came so (R220, R223, R439). -/
def State.keepBytes (s : State) (slot i a : Nat) (bs : List Byte) (poison : Bool) : State :=
  let cells := cellsAt a bs
  let lines := linesOf (cells.map (·.1))
  let s1 := lines.foldl (fun s l => if isGddr (l * 64) then s.gddrAccess (some slot) l true true else s) s
  let s2 := s1.storeCells (some slot) cells
  let s3 := if poison then lines.foldl (fun s l => s.setPoison l) s2 else s2
  s3.modLoad slot i (fun l => { l with kept := satNat 48 l.kept bs.length })

/-! ## The stream (R437, R439, R440) -/

def flagAll : Nat := 0
def flagVslot : Nat := 1
def flagEnd : Nat := 2
def flagAbandon : Nat := 15

/-- A load packet (R440). -/
def loadPacket (src dst : BitVec 12) (job i step addr seg dest flags : Nat) (bs : List Byte) (poison : Bool) : Packet :=
  { cls := 3, ptype := BitVec.ofNat 4 ptBulk, src := src, dst := dst, tag := mkTag job 3 3 0 0 0 0 0 0 step,
    handle := BitVec.ofNat 64 (job + 1 * 2 ^ 12 + i * 2 ^ 16),
    specific := mkSpec [(32, 8, addr), (40, 4, seg), (44, 2, dest), (46, 2, flags), (48, 2, bs.length)],
    payload := padTo ((bs.length + 63) / 64 * 64) bs, poison := poison }

/-- The end segment at a package (R437): the counts are checked, and the load is done.  Segments kept upstream are not forwarded, so a
package behind the head checks that it has seen no segment at or beyond the count. -/
def State.endSegment (s : State) (slot i count : Nat) : State :=
  let s1 := s.modLoad slot i (fun l => { l with endSeen := true })
  let l := s1.load slot i
  if (if l.head then l.total ≠ count else count < l.total) then s1.loadFault slot i 0x0221 count 1
  else if l.kept ≠ l.expect then s1.loadFault slot i 0x0221 count 2
  else s1.loadDone slot i

/-- A LOAD fails for want of a translation (R437): its completion, and the abandon packet for the next package. -/
def State.abandonLoad (s : State) (slot i : Nat) : State :=
  let j := s.job slot
  let l := tget ({} : Load) j.loads i
  let s1 := if l.tail then s
    else s.originate (loadPacket s.self l.down j.id.toNat i l.stepOf 0 l.total 0 (2 ^ flagAbandon) [] false)
  if l.background then s1.endLoad slot i 0x10
  else
    let s2 := match j.run with
      | some r => (if r.reserved then s1.unreserve else s1).modJob slot (fun j => { j with run := some { r with reserved := false, done := true } })
      | none => s1
    let s3 := (s2.completeDesc l.desc 0x10 l.stepOf 0 0).modLoad slot i (fun l => { l with active := false })
    if l.head then s3.tellCoord slot (stepKey j.step) (s3.attemptAt slot (stepKey j.step)) 2 1 else s3

/-- The packets of a segment as address and bytes of each: at most 4,096 bytes, and one packet without data for the end segment. -/
def segmentPieces (addr : Nat) (bs : List Byte) : List (Nat × List Byte) :=
  if bs.isEmpty then [(addr, [])]
  else (chunks 4096 bs.length bs).zipIdx.map (fun c => (addr + c.2 * 4096, c.1))

/-- LOAD_IMAGE_FETCH (R428, R437, R439): the head reads and checks the next segment, keeps it or sends it on. -/
def execLoadImageFetch (slot : Fin 16) (loadId : Fin 16) (amb : Ambient) (s : State) : Host.Outcome State Fault Refusal :=
  let n := slot.val
  let i := loadId.val
  let s0 := s.applyAmb amb
  let j := s.job n
  let l := s.load n i
  if !(s.loadRuns n i && l.head && l.readyDown && !l.endSeen && l.image ≠ 0 && s.host.attached) then .next s
  else if l.imageBytes < l.readPos + 64 then .next (s0.loadFault n i 0x0220 l.total 3)
  else match s0.hubWindow n (l.image.toNat + l.readPos) 64 with
    | (s1, .waits) => .next s1
    | (s1, .failed _ _) => .next (s1.abandonLoad n i)
    | (s1, .ok h) =>
      let flags := leAt h 2 2
      let isEnd := nbit flags flagEnd
      let dest := leAt h 4 2
      let addr := leAt h 8 8
      let count := leAt h 16 8
      let bad := leAt h 0 2 ≠ 0x4C47 || leAt h 56 4 ≠ (crc32c (h.take 56)).toNat || decide (8 ≤ flags)
        || (!(nbit flags flagAll || isEnd) && decide (4096 ≤ dest))
        || leAt h 6 2 ≠ 0 || decide (2 ^ 48 ≤ addr) || leAt h 28 28 ≠ 0 || leAt h 60 4 ≠ 0
        || (isEnd && count ≠ 0) || (!isEnd && leAt h 24 4 ≠ 0)
      let next := l.readPos + 64 + (count + 63) / 64 * 64
      if bad then .next (s1.loadFault n i 0x0220 l.total 1)
      else if l.imageBytes < next || (isEnd && next ≠ l.imageBytes) || (!isEnd && l.imageBytes ≤ next) then
        .next (s1.loadFault n i 0x0220 l.total 3)
      else match s1.hubWindow n (l.image.toNat + l.readPos + 64) count with
        | (s2, .waits) => .next s2
        | (s2, .failed _ _) => .next (s2.abandonLoad n i)
        | (s2, .ok bs) =>
          let kept := !isEnd && (nbit flags flagAll || dest = s.self.toNat)
          let alone := kept && !nbit flags flagAll
          let s3 := if l.tail || alone then s2
            else (segmentPieces addr bs).foldl (fun s c =>
              s.originate (loadPacket s.self l.down j.id.toNat i l.stepOf c.1 l.total dest flags c.2 false)) s2
          if isEnd then .next ((s3.modLoad n i (fun l => { l with readPos := next })).endSegment n i (leAt h 24 4))
          else
            let s4 := s3.modLoad n i (fun l => { l with readPos := next, segments := satNat 24 l.segments 1, total := l.total + 1 })
            if !kept then .next s4
            else match s4.loadTarget n l (nbit flags flagVslot) addr count with
              | none => .next (s4.loadFault n i 0x0220 l.total 2)
              | some a => .next (s4.keepBytes n i a bs false)

/-- LOAD_PACKET (R437, R439, R440): forwarded, and kept when it is for this package.  The target of its segment is held to R429 from the segment's
first packet on. -/
def execLoadPacket (src : Src) (s : State) : Host.Outcome State Fault Refusal :=
  match s.takePacket src (fun p => !s.host.pcieOnly && p.ptype.toNat = ptBulk && bits p.handle 12 4 = 1) with
  | none => .next s
  | some (p, s1) =>
    match s1.findJob (tagJob p.tag) with
    | none => .next (s1.noDestination src p)
    | some n =>
      let i := bits p.handle 16 4
      let l := s1.load n i
      if !(s1.loadRuns n i) || l.head then .next (s1.noDestination src p)
      else
        let flags := p.spec 46 2
        let dest := p.spec 44 2
        let seg := p.spec 40 4
        let n' := min (p.spec 48 2) p.payload.length
        if nbit flags flagAbandon then .next (s1.abandonLoad n i)
        else
          let isEnd := nbit flags flagEnd
          let kept := !isEnd && (nbit flags flagAll || dest % 4096 = s.self.toNat)
          let alone := kept && !nbit flags flagAll
          let s2 := if l.tail || alone then s1 else s1.sendCopy { p with dst := l.down }
          if isEnd then .next (s2.endSegment n i seg)
          else
            let at' := p.spec 32 8
            let first := match l.segAt with
              | some (k, a) => if k = seg then min a at' else at'
              | none => at'
            let s3 := s2.modLoad n i (fun l => { l with
              segments := max l.segments (min (seg + 1) (2 ^ 24 - 1)), total := max l.total (seg + 1), segAt := some (seg, first) })
            if !kept then .next s3
            else match s3.loadTarget n l (nbit flags flagVslot) first (at' - first + n') with
              | none => .next (s3.loadFault n i 0x0220 seg 2)
              | some a => .next (s3.keepBytes n i (a + (at' - first)) (p.payload.take n') p.poison)

end Sys2Proof.Machine
end

