-- ==== Sys2Proof/Machine/Cut.lean ====
section
/-! DEFINITION. Cut.lean: cuts of a job (R477 to R483): the cut records, the copy that a step makes of the cut set, the commands CUT_COPY_DONE
and CUT_WRITE, and reading a half back. -/
namespace Sys2Proof.Machine

/-! ## Cut records (R483) -/

/-- A cut record. -/
structure CutRec where
  rkind : Nat
  stack : Nat
  job : Nat
  addr : Nat
  step : Nat
  data : List Byte
  deriving DecidableEq, Repr

/-- A record as bytes: a 64-byte header, and its data padded to a multiple of 64 bytes. -/
def CutRec.bytes (r : CutRec) (records : Nat) : List Byte :=
  let trailer := r.rkind = 0x0F
  let h := leBytes 2 0x4354 ++ leBytes 1 r.rkind ++ leBytes 1 r.stack ++ leBytes 2 r.job ++ leBytes 2 0 ++ leBytes 8 r.addr
    ++ leBytes 8 r.data.length ++ leBytes 4 r.step ++ leBytes 4 (if trailer then 0 else (crc32c r.data).toNat)
    ++ leBytes 4 (if trailer then records else 0) ++ leBytes 20 0
  h ++ leBytes 4 (crc32c h).toNat ++ leBytes 4 0 ++ padTo ((r.data.length + 63) / 64 * 64) r.data

/-- What the bytes of a half hold: not yet every record, a record that fails its check, or the records with the trailer's job and step. -/
inductive CutParse where
  | more
  | bad
  | done (rs : List CutRec) (job step : Nat)
  deriving DecidableEq, Repr

/-- The records of a half's bytes up to its trailer (R483). -/
def parseCut : Nat → List Byte → List CutRec → CutParse
  | 0, _, _ => .more
  | k + 1, bs, acc =>
    if bs.length < 64 then .more
    else
      let h := bs.take 64
      let n := leAt h 16 8
      let kind := leAt h 2 1
      if leAt h 0 2 ≠ 0x4354 || leAt h 56 4 ≠ (crc32c (h.take 56)).toNat then .bad
      else if kind = 0x0F then
        if leAt h 32 4 = acc.length then .done acc (leAt h 4 2) (leAt h 24 4) else .bad
      else if kind = 0 || 4 < kind then .bad
      else if bs.length < 64 + n then .more
      else
        let data := (bs.drop 64).take n
        if leAt h 28 4 ≠ (crc32c data).toNat then .bad
        else parseCut k (bs.drop (64 + (n + 63) / 64 * 64)) (acc ++ [⟨kind, leAt h 3 1, leAt h 4 2, leAt h 8 8, leAt h 24 4, data⟩])

def parseHalf (bs : List Byte) : CutParse := parseCut (bs.length / 64 + 1) bs []

/-! ## The cut set (R477) -/

/-- The stack that a job-view address of a job's stacked SRAM or GDDR7 lies in (R177; log 81). -/
def Job.viewStack (j : Job) (v : Nat) : Nat :=
  (j.first + (if v < 0x80000000 then v / 0x08000000 else (v - gddrBase) / 0x000200000000)) / 4

/-- Stacks of a job's tile groups, the lowest first. -/
def Job.stacks (j : Job) : List Nat := ((upFrom j.first j.groups).map (· / 4)).dedup

/-- The stack whose half holds a job's Dealer record and deck image: the lowest that the job lies in, stack 0 for a job that lies in it (R483;
log 81). -/
def Job.headStack (j : Job) : Nat := j.first / 4

/-- The Dealer record (R483). -/
def Job.dealerRecord (j : Job) : List Byte :=
  let mask := (upFrom j.first j.groups).foldl (fun a g => a + 2 ^ g) 0
  let ver := fun (i : Nat) =>
    let v := tget ({} : VerEntry) j.versions i
    leBytes 8 (v.tag.toNat * 2 ^ 56 + v.state * 2 ^ 54)
  padTo 256 (leBytes 4 j.step.toNat ++ leBytes 1 j.nextTag.toNat ++ leBytes 1 (bits j.phase 30 1 + 2 * b2n j.det)
    ++ leBytes 1 j.jobSlots ++ leBytes 1 j.ring ++ leBytes 8 j.seed.toNat ++ leBytes 2 mask ++ leBytes 14 0
    ++ ((List.range 16).map ver).flatten)

/-- The data records of a job: its durable ranges and the CURRENT slot of each of its version regions. -/
def State.dataRecords (s : State) (slot : Nat) : List CutRec :=
  let j := s.job slot
  let job := j.id.toNat
  let rec' := fun (kind v n : Nat) => (⟨kind, j.viewStack v, job, v, j.step.toNat, s.viewBytes slot v n⟩ : CutRec)
  let durable := (List.range 16).filterMap (fun i =>
    let e := tget (0, 0) j.durable i
    if nbit e.1.toNat 63 then some (rec' 1 (bits e.1 0 48) (bits e.2 0 48 - bits e.1 0 48)) else none)
  let cur := ((List.range 16).find? (fun i => (tget ({} : VerEntry) j.versions i).state = 2)).getD 0
  let slots := (List.range 256).filterMap (fun r =>
    let e := tget (0, 0) s.dealer.vregs r
    if nbit e.1.toNat 63 && bits e.1 48 12 = job then
      some (rec' 2 (bits e.1 0 48 + cur * (e.2.toNat * 256)) (e.2.toNat * 256))
    else none)
  durable ++ slots

/-- The deck image's record; it stands first in the head stack's half, where the first cut writes it into both halves (R478; log 19). -/
def Job.imageRecord (j : Job) : CutRec := ⟨4, j.headStack, j.id.toNat, 0, j.step.toNat, j.deckImage⟩

/-- The bytes of a stack's half, without the deck image. -/
def State.halfBytes (s : State) (slot k : Nat) : List Byte :=
  let j := s.job slot
  let data := (s.dataRecords slot).filter (fun r => r.stack = k)
  let rs := if k = j.headStack then ⟨3, k, j.id.toNat, 0, j.step.toNat, j.dealerRecord⟩ :: data else data
  let pre := if k = j.headStack then 1 else 0
  (rs.map (fun r => r.bytes 0)).flatten ++ CutRec.bytes ⟨0x0F, k, j.id.toNat, 0, j.step.toNat, []⟩ (rs.length + pre)

/-! ## Places (R478, R482) -/

/-- Job-view address of a half of the self copy in a stack: `self_addr` for the job's lowest, and as far behind it as the stack's first group slice
of the job for another (R478, R482; log 81). -/
def Job.selfHalf (j : Job) (k half : Nat) : Nat := bits j.cutSelf 0 48 + (4 * k - j.first) * 0x000200000000 + half * j.cutMib

/-- Offset of a half of a ward copy in a stack's cut region, whose two halves are equal (R478). -/
def State.wardHalf (s : State) (k half off : Nat) : Nat := half * ((s.cutRegion k).2 / 2) + off

/-- Lines of memory at a job-view address of a job (R177). -/
def State.viewLines (s : State) (slot v n : Nat) : List Nat :=
  match s.resolve slot (8 * (s.job slot).first) v with
  | some (_, a) => linesOf (upFrom a n)
  | none => []

/-- Bytes written to a job-view address of a job's own GDDR7; false when they do not lie there. -/
def State.writeView (s : State) (slot v : Nat) (bs : List Byte) : State × Bool :=
  let L := 8 * (s.job slot).first
  match s.resolve slot L v, s.resolve slot L ((v + bs.length - 1 : Nat) : Int) with
  | some (.host, _), _ => (s, false)
  | some (.scratch, _), _ => (s, false)
  | some (_, a), some (_, b) =>
    if b ≠ a + (bs.length - 1) then (s, false)
    else
      let lines := linesOf (upFrom a bs.length)
      let s1 := lines.foldl (fun s l => if isGddr (l * 64) then s.gddrAccess (some slot) l true true else s) s
      (s1.storeCells (some slot) (cellsAt a bs), true)
  | _, _ => (s, false)

/-- A cut-write packet: its address is an offset in the partner stack's cut region, its seg_index the stack (R440, R483). -/
def cutPacket (src dst : BitVec 12) (job step kind k addr : Nat) (bs : List Byte) : Packet :=
  { cls := 3, ptype := BitVec.ofNat 4 ptBulk, src := src, dst := dst, tag := mkTag job 3 3 0 0 0 0 0 0 step,
    handle := BitVec.ofNat 64 (job + kind * 2 ^ 12),
    specific := mkSpec [(32, 8, addr), (40, 4, k), (44, 2, dst.toNat), (48, 2, bs.length)],
    payload := padTo ((bs.length + 63) / 64 * 64) bs }

/-- Bytes sent to the partner as cut-write packets. -/
def State.sendCut (s : State) (slot k addr : Nat) (bs : List Byte) : State :=
  let j := s.job slot
  (segmentPieces addr bs).foldl (fun s c =>
    s.originate (cutPacket s.self j.cutPartner j.id.toNat j.step.toNat 2 k c.1 c.2)) s

/-- Bytes written into a half of both copies of a stack at an offset of the half. -/
def State.putCut (s : State) (slot k half off : Nat) (bs : List Byte) : State × Bool :=
  let j := s.job slot
  match s.writeView slot (j.selfHalf k half + off) bs with
  | (s1, false) => (s1, false)
  | (s1, true) => (s1.sendCut slot k (s1.wardHalf k half j.cutOff + off) bs, true)

/-- Event 0x0231 (R481, R577), and the inactive half is invalid. -/
def State.cutFailed (s : State) (slot reason : Nat) : State :=
  let j := s.job slot
  let step := match j.cutCopy with
    | some x => x
    | none => j.step
  (s.modJob slot (fun j => { j with cutBad := true, cut := putBits j.cut 28 1 0 })).raise 0x0231 j.id.toNat
    (step.toNat + j.cutPartner.toNat * 2 ^ 32 + reason * 2 ^ 44)

/-- A list of writes into the copies; it ends at the first that fails. -/
def putCuts (slot : Nat) : List (Nat × Nat × Nat × List Byte) → State → State × Bool
  | [], s => (s, true)
  | w :: r, s =>
    match s.putCut slot w.1 w.2.1 w.2.2.1 w.2.2.2 with
    | (s1, true) => putCuts slot r s1
    | (s1, false) => (s1, false)

/-- At the start of the step after a cut point the Dealer copies the cut set into the inactive half of both copies (R479); the model makes the
copy in one act, so it is the state at the commit (R480; log 19).  A copy that reads poisoned data cannot finish (R481; log 151). -/
def State.startCut (s : State) (slot : Nat) : State :=
  let j := s.job slot
  if !j.cutDue then s
  else
    let half := 1 - bits j.cut 29 1
    let image := j.imageRecord.bytes 0
    let off := fun (k : Nat) => if k = j.headStack then image.length else 0
    let ks := j.stacks
    let first := if j.imageCut then [] else [(j.headStack, 0, 0, image), (j.headStack, 1, 0, image)]
    let writes := first ++ ks.map (fun k => (k, half, off k, s.halfBytes slot k))
    let fits := ks.all (fun k => decide (off k + (s.halfBytes slot k).length ≤ j.cutMib))
    let s1 := s.modJob slot (fun j => { j with
      cutDue := false, cutCopy := some j.step, cutReady := false, cutBad := false, cut := putBits j.cut 28 1 1 })
    let read := touchReads (some slot) false
      ((s.dataRecords slot).map (fun r => s.viewLines slot r.addr r.data.length)).flatten s1
    if !fits || read.2 then read.1.cutFailed slot 2
    else match putCuts slot writes read.1 with
      | (s2, true) => s2
      | (s2, false) => s2.cutFailed slot 2

/-- CUT_COPY_DONE (R479, R481, R482): both copies are complete, or the partner refused a write; no copy is in progress any more. -/
def execCutCopyDone (slot : Fin 16) (refused : Bool) (s : State) : Host.Outcome State Fault Refusal :=
  let j := s.job slot
  if j.cutCopy.isNone || j.cutReady || j.cutBad then .next s
  else if refused then .next (s.cutFailed slot 1)
  else .next (s.modJob slot (fun j => { j with cutReady := true, cut := putBits j.cut 28 1 0 }))

/-- A trailer among the blocks of a cut write: the stack then holds a cut, which a layout change discards (R233, R483). -/
def State.noteCut (s : State) (k : Nat) (bs : List Byte) : State :=
  (chunks 64 64 bs).foldl (fun s h =>
    if leAt h 0 2 = 0x4354 && leAt h 2 1 = 0x0F && leAt h 56 4 = (crc32c (h.take 56)).toNat then
      s.modStack k (fun x => { x with cutHeld := true, cutHeldStep := BitVec.ofNat 32 (leAt h 24 4) })
    else s) s

/-- CUT_WRITE (R478, R481, R483): the partner writes into its cut region; a write outside it, or into a stack whose GDDR7 failed, is
refused. -/
def execCutWrite (src : Src) (s : State) : Host.Outcome State Fault Refusal :=
  match s.takePacket src (fun p => p.ptype.toNat = ptBulk && bits p.handle 12 4 = 2) with
  | none => .next s
  | some (p, s1) =>
    let k := p.spec 40 4 % 4
    let addr := p.spec 32 8
    let n := min (p.spec 48 2) p.payload.length
    let r := s1.cutRegion k
    if r.2 < addr + n || s1.gddrFailed k then .next s1
    else
      let cells := cellsAt (r.1 + addr) (p.payload.take n)
      let s2 := (s1.storeCells none cells).noteCut k (p.payload.take n)
      .next (if p.poison then (linesOf (cells.map (·.1))).foldl (fun s l => s.setPoison l) s2 else s2)

/-! ## Reading a half back (R483, R486) -/

/-- The half of a ward copy in a stack, as bytes. -/
def State.wardBytes (s : State) (k half off len : Nat) : List Byte :=
  s.memRead ((s.cutRegion k).1 + s.wardHalf k half off) len

/-- The half of the self copy in a stack, as bytes. -/
def State.selfBytes (s : State) (slot k half : Nat) : List Byte :=
  s.viewBytes slot ((s.job slot).selfHalf k half) (s.job slot).cutMib

/-- Group mask of the Dealer record among some records. -/
def dealerOf (rs : List CutRec) : Option (List Byte) := (rs.find? (fun r => r.rkind = 3)).map (·.data)

/-- Stacks that a cut spans, from the group mask of its Dealer record. -/
def cutStacks (d : List Byte) : List Nat := (((List.range 16).filter (fun g => nbit (leAt d 16 2) g)).map (· / 4)).dedup

/-- Whether a half is the one with the Dealer record of a job's cut of a step. -/
def CutParse.heads (p : CutParse) (job step : Nat) : Bool :=
  match p with
  | .done rs j n => j = job && n = step && (dealerOf rs).isSome
  | _ => false

/-- The records of a cut of a job and step, from the bytes of each stack's half: complete when the half with the Dealer record and those of the
other stacks that it names end in trailers of the job and step (R483). -/
def readCut (half : Nat → List Byte) (job step : Nat) : CutParse :=
  let parts := (upFrom 0 4).map (fun k => parseHalf (half k))
  match parts.find? (fun p => p.heads job step) with
  | some (.done rs _ _) =>
    match dealerOf rs with
    | none => .bad
    | some d =>
      ((cutStacks d).drop 1).foldl (fun a k =>
        match a with
        | .done xs j n =>
          match parts.getD k .more with
          | .more => .more
          | .bad => .bad
          | .done ys j' n' => if j' = j && n' = n then .done (xs ++ ys) j n else .bad
        | x => x) (.done rs job step)
  | _ => if parts.any (fun p => match p with
      | .more => false
      | _ => true) then .bad else .more

end Sys2Proof.Machine
end

