-- ==== Sys2Proof/Machine/Job.lean ====
section
/-! DEFINITION. Job.lean: the life of a job on the host interface and in the Dealer: fetching descriptors (R405, R409 to R415), placement
(R168 to R170, R181, R411, R417), steps, passes and their injections (R141, R142, R172, R173, R260, R304, R412, R413), loads (R430 to R433),
aborts (R416) and the end (R216, R415). -/
namespace Sys2Proof.Machine

/-! ## Fetching descriptors -/

/-- Whether bytes of a descriptor are not all zero. -/
def Desc.nonzero (d : Desc) (o n : Nat) : Bool := leAt d.bytes o n ≠ 0

/-- The INVALID checks on a descriptor's own bytes (R409, R410, R412 to R414, R419, R430, R431). -/
def Desc.invalid (d : Desc) : Bool :=
  let b := d.bytes
  let f := fun (o n : Nat) => leAt b o n
  d.fmtVer ≠ 1 || decide (4096 ≤ d.jobField) || (d.job = 0 && d.dtype ≠ 7) || (match d.dtype with
    | 1 => decide (4 ≤ f 20 2) || d.nonzero 22 2 || d.nonzero 44 20 || f 8 8 % 4096 ≠ 0 || f 24 8 % 4096 ≠ 0
    | 2 => decide (2 ≤ f 24 2) || d.nonzero 26 38 || decide (2 ^ 21 ≤ f 12 4) || decide (2 ^ 20 < f 12 4)
      || (f 12 4 = 0 && !nbit (f 24 2) 0)
    | 3 => decide (2 ^ 20 ≤ f 12 4) || f 24 1 = 0 || decide (16 < f 24 1) || d.nonzero 25 3 || decide (2 ^ 20 ≤ f 28 4)
      || f 32 8 % 8 ≠ 0 || d.nonzero 40 24
    | 4 => decide (2 ^ 20 ≤ f 12 4) || decide (2 ≤ f 16 1) || d.nonzero 17 47
    | 5 => d.nonzero 8 56
    | 6 =>
      let head := nbit (f 32 2) 15
      let tail := nbit (f 34 2) 15
      let background := nbit (f 12 2) 1
      decide (4 ≤ f 12 2) || f 12 2 = 3 || decide (16 ≤ f 14 2) || nbits (f 32 2) 12 3 ≠ 0 || nbits (f 34 2) 12 3 ≠ 0
        || d.nonzero 44 20 || f 16 8 % 64 ≠ 0 || f 24 8 % 64 ≠ 0 || (background && d.nonzero 8 4)
        || (head && (f 16 8 = 0 || f 24 8 = 0) && !(tail && f 16 8 = 0 && f 36 8 = 0)) || (!head && f 16 8 ≠ 0)
    | 7 => d.nonzero 8 56
    | _ => true)

/-- The JOB of a job that waits in a window: of several, the one that was fetched first (R415). -/
def State.waitingJob (s : State) (job : Nat) : Option Desc :=
  (sortBy Desc.order (((List.range 64).map (fun q => (s.sq q).window)).flatten.filter (fun d => d.dtype = 1 && d.job = job))).head?

/-- The ring of a job that exists, or whose JOB waits in a window (R415). -/
def State.ringOfJob (s : State) (job : Nat) : Option Nat :=
  match s.findJob job with
  | some n => some (s.job n).ring
  | none => (s.waitingJob job).map (·.ring)

/-- The status with which a descriptor completes at its fetch, if it does (R415, R419, R431). -/
def State.fetchStatus (s : State) (d : Desc) : Option Nat :=
  if d.invalid then some 0x01
  else if d.dtype = 1 || d.dtype = 4 || (d.dtype = 7 && d.job = 0) then none
  else match s.ringOfJob d.job with
    | none => some 0x02
    | some q =>
      if q ≠ d.ring then some 0x0A
      else if d.dtype = 6 && ((match s.findJob d.job with
          | some n => s.loadHeld n d.loadId
          | none => false) || (s.sq d.ring).window.any (fun e => e.dtype = 6 && e.job = d.job && e.loadId = d.loadId)
          || (nbit (leAt d.bytes 12 2) 1 && s.level < 2)) then some 0x01
      else none

/-- A job pauses for the host: event 0x0105, once (R424, R577). -/
def State.pauseForHost (s : State) (slot why : Nat) : State :=
  let j := s.job slot
  if j.paused then s
  else (s.modJob slot (fun j => { j with paused := true })).raise 0x0105 j.id.toNat (slot + why * 2 ^ 8)

/-- Whether a ring has a descriptor to fetch and room in its window, and the ring that the rotation serves next (R405). -/
def State.fetchReady (s : State) (q : Nat) : Bool :=
  ringEnabled (s.sq q).cfg && (s.sq q).head ≠ (s.sq q).tail && decide ((s.sq q).window.length < 8)

def State.fetchTurn (s : State) : Option Nat := ((upFrom s.host.sqTurn 64).map (· % 64)).find? s.fetchReady

/-- DESCRIPTOR_FETCH (R405, R415, R424, R426): one descriptor enters its ring's window of 8, or completes at once.  The rings that are ready are
served in rotation; a ring out of turn waits. -/
def execDescriptorFetch (sq : Fin 64) (hw : List Host.Cell) (failed : Bool) (s : State) : Host.Outcome State Fault Refusal :=
  let x := s.sq sq
  if !s.fetchReady sq then .next s
  else if !s.host.attached then
    .next ((s.jobSlots.filter (fun n => (s.job n).ring = sq.val)).foldl (fun s n => s.pauseForHost n 3) s)
  else if s.fetchTurn ≠ some sq.val then .next s
  else
    let s0 := (s.applyHw hw).modHost (fun h => { h with sqTurn := (sq.val + 1) % 64, fetched := h.fetched + 1 })
    if failed then .next (s0.ringError (.sq sq) 0x0104 0)
    else
      let d : Desc := ⟨s0.hostRead (x.base.toNat + x.head.toNat % ringSize x.cfg * 64) 64, sq, x.head.toNat, s.host.fetched⟩
      match s0.fetchStatus d with
      | some st =>
        if !s.mayReserve then .next (s.noRecord.modHost (fun h => { h with sqTurn := (sq.val + 1) % 64 }))
        else
          let s1 := s0.modSq sq (fun x => { x with head := x.head + 1 })
          let j := match s.findJob d.job with
            | some n => s.job n
            | none => {}
          .next (s1.completeDesc d st (descStep j d) (descRef d) 0)
      | none => .next (s0.modSq sq (fun x => { x with head := x.head + 1, window := x.window ++ [d] }))

/-- The descriptors of a type in a ring's window whose turn has come, each with the rest of the window: their job's earlier ones have started
(R415); JOB, ABORT, a NOP of job 0 and a background LOAD wait for none but the JOB of their job. -/
def nextDescs (dtype : Nat) : List Desc → List Desc → List (Desc × List Desc)
  | _, [] => []
  | before, d :: r =>
    let free := d.dtype = 1 || d.dtype = 4 || (d.dtype = 7 && d.job = 0)
    let behind := before.any (fun e => e.job = d.job && (d.dtype = 7 || e.dtype ≠ 4)
      && !(d.dtype = 6 && nbit (leAt d.bytes 12 2) 1 && e.dtype ≠ 1))
    if d.dtype = dtype && (free || !behind) then (d, before ++ r) :: nextDescs dtype (before ++ [d]) r
    else nextDescs dtype (before ++ [d]) r

/-- Whether a job's descriptors may start: it is placed, does not end, and does not wait for its cut. -/
def Job.runs (j : Job) : Bool := j.placed && j.ending.isNone && !j.restoring

/-- Whether a descriptor whose turn has come must wait: a JOB for an earlier one of the same job in another window; another for its job to run,
for the job's open step or pass, or for the descriptors before it (R41, R415, R432). -/
def State.descWaits (s : State) (d : Desc) : Bool :=
  match s.findJob d.job with
  | none => d.dtype = 1 && (match s.waitingJob d.job with
    | some e => e.ring ≠ d.ring
    | none => false)
  | some n =>
    let j := s.job n
    match d.dtype with
    | 2 => !j.runs || j.run.isSome
    | 3 => !j.runs || j.passes.any (fun p => p.stream.toNat = leAt d.bytes 32 8)
    | 5 => !j.runs || j.run.isSome || !j.startedDescs.isEmpty
    | 6 => !j.runs || (!nbit (leAt d.bytes 12 2) 1 && j.run.isSome)
    | 7 => j.startedDescs.any (fun e => !later 32 e.1.no d.no)
    | _ => false

/-- The descriptor of a type that a ring starts next: the first whose turn has come and that waits for nothing, so that a job waits for its own
descriptors only (R415); else the first that waits. -/
def State.nextDesc (s : State) (sq dtype : Nat) : Option (Desc × List Desc) :=
  let xs := nextDescs dtype [] (s.sq sq).window
  match xs.find? (fun e => !s.descWaits e.1) with
  | some e => some e
  | none => xs.head?

/-- A descriptor leaves its window. -/
def State.takeDesc (s : State) (sq : Nat) (rest : List Desc) : State := s.modSq sq (fun x => { x with window := rest })

/-- A descriptor leaves its window and completes with a status; it waits while every completion record is reserved (R420). -/
def State.answerDesc (s : State) (sq : Nat) (d : Desc) (rest : List Desc) (status : Nat) : State :=
  let j := match s.findJob d.job with
    | some n => s.job n
    | none => {}
  if !s.mayReserve then s.noRecord else (s.takeDesc sq rest).completeDesc d status (descStep j d) (descRef d) 0

/-- The descriptors of a job that remain in a window when it does not, or no longer, exist complete with NO_JOB. -/
def State.dropDescs (s : State) (sq job : Nat) : State :=
  let mine := (s.sq sq).window.filter (fun d => d.job = job && d.dtype ≠ 1)
  mine.foldl (fun s d => s.completeDesc d 0x02 (descStep {} d) (descRef d) 0)
    (s.modSq sq (fun x => { x with window := x.window.filter (fun d => !(d.job = job && d.dtype ≠ 1)) }))

/-! ## Placement (R168 to R170, R181, R411) -/

/-- Whether every controller of a stack has trained, or has failed for good (R229, R230). -/
def State.gddrReady (s : State) (k : Nat) : Bool := (upFrom (5 * k) 5).all (fun n => (s.gd n).trained || (s.gd n).trainFail)

/-- Whether a job may be placed on a tile group: it is free and not borrowed, its stack is trained and not busy with a resize or a layout
change, and GDDR7 that the job uses there has not failed (R168, R205, R229, R230, R233, R466). -/
def State.groupFits (s : State) (g : Nat) (gddr : Bool) : Bool :=
  let x := s.stack (g / 4)
  (s.slotOfGroup g).isNone && !(x.borrowedGroups.contains (g % 4)) && s.gddrReady (g / 4) && x.memBusy.isNone && x.gddrBusy.isNone
    && !(gddr && s.gddrFailed (g / 4))

/-- The first group of the run that first fit gives a job (R168, R230). -/
def State.firstFit (s : State) (n align : Nat) (gddr : BitVec 16) : Option Nat :=
  (List.range (17 - n)).find? (fun g => g % align = 0 && (List.range n).all (fun i => s.groupFits (g + i) (gddr.getLsbD i)))

/-- Scratch of a job's tiles and its stacked SRAM slices (R181). -/
def State.placeRanges (s : State) (j : Job) : List (Nat × Nat) :=
  (upFrom j.first j.groups).map (fun g => (sramSlice g, sramSlice g + s.sliceBytes (g / 4)))
  ++ j.tiles.map (fun L =>
    let a := scratchOf (L / 32) (s.physOf (L / 32) (L % 32))
    (a, a + 0x400000))

/-- A tile as the deck configures it (R96, R103, R104, R145, R156, R169, R209, R239, R252, R411): reserved bits read zero, the history is
cleared, and a TILE_ARR_CTL that R104 forbids is discarded. -/
def Tile.configure (t : Tile) (c : TileCfg) : Tile :=
  { (({ t with banks := [] }).writeArrCtl c.arrCtl).writeArrWeight c.arrWeight with
    dmaCtl := c.dmaCtl &&& 0xFF, history := [], completeOrder := [], finQueue := [], draining := none,
    vecStream := none, image := c.image,
    streams := c.streams.map (fun (e : Nat × StreamCfg) =>
      (e.1, { ({} : Stream) with
        prog := e.2.prog &&& 0x03FFFFFF, handles := loadedHandles e.2,
        sels := e.2.sels.map (fun x => (x.1, selRestart (x.2 &&& 0xC0FF00FFFFFFFFFF))) })),
    eps := c.endpoints.map (fun (e : Nat × EndpointCfg) =>
      (e.1, { ({} : Endpoint) with
        cfg := e.2.cfg, peer := e.2.peer &&& 0x0FFF8FFF,
        base := e.2.base &&& 0xFFFFFFFFFFFF, spillBase := e.2.spillBase &&& 0xFFFFFFFFFFFF })) }

/-- The scratch contents of a tile and the copies of its image ranges (R411, R462). -/
def State.fillTile (s : State) (slot L : Nat) (c : TileCfg) : State :=
  let base := scratchOf (L / 32) (s.physOf (L / 32) (L % 32))
  let s1 := c.scratch.foldl (fun s e => s.storeCells (some slot) (cellsAt (base + e.1) e.2)) s
  c.image.foldl (fun s r =>
    match s.resolve slot L (r.copy.toNat : Int) with
    | some (_, a) => s.storeCells (some slot) (cellsAt a (s.memRead (base + r.offset.toNat) r.bytes))
    | none => s) s1

/-- Free indices of a table of `n` entries, in order. -/
def freeIdx (n : Nat) (used : Nat → Bool) : List Nat := (List.range n).filter (fun i => !used i)

/-- The bank fields of a deck's route entries, in the origin table and in the ingress table of every port (R347). -/
def State.writeBanks (s : State) (rs : List RouteCfg) : State :=
  let put := fun (t : Tbl Word) (r : RouteCfg) =>
    let e := tget routeReset t r.dest.toNat
    tput t r.dest.toNat (putBits (putBits e 8 5 r.bank0.toNat) 16 5 r.bank1.toNat)
  let s1 := { s with originRoutes := rs.foldl put s.originRoutes }
  ((List.range 16).filter s.portExists).foldl (fun s p => s.modPort p (fun q => { q with routes := rs.foldl put q.routes })) s1

/-- The region and keep entries of a deck, in the lowest free entries (R262, R271). -/
def State.loadRegions (s : State) (job : Nat) (d : Deck) : State :=
  s.modDealer (fun x =>
    let rfree := freeIdx 256 (fun i => nbit (tget (0, 0) x.vregs i).1.toNat 63)
    let kfree := freeIdx 128 (fun i => (tget {} x.keeps i).valid)
    { x with
      vregs := (rfree.zip d.regions).foldl (fun (t : Tbl (Dword × Word)) (e : Nat × RegionCfg) =>
        tput t e.1 (BitVec.ofNat 64 (2 ^ 63 + job * 2 ^ 48 + e.2.base.toNat), e.2.stride)) x.vregs,
      keeps := (kfree.zip d.keeps).foldl (fun (t : Tbl Keep) (e : Nat × KeepCfg) =>
        tput t e.1 { valid := true, job := BitVec.ofNat 12 job, home := e.2.home, recipe := e.2.recipe, size := e.2.size }) x.keeps })

/-- The tables of the job in a slot, as its deck gives them: zeroed memory, tiles, objects, regions, keep entries, routes, Meld contexts; false
when a Meld entry is refused (R364). -/
def State.loadTables (s : State) (slot : Nat) : State × Bool :=
  let j := s.job slot
  let s1 := s.zeroRanges (s.placeRanges j)
  let s2 := j.tiles.foldl (fun s L =>
    let c := deckTile j.deck (L - 8 * j.first)
    (s.modTile L (fun t => t.configure c)).fillTile slot L c) s1
  let s3 := ((s2.syncReset slot).phaseRestart slot).loadRegions j.id.toNat j.deck
  loadMelds slot j.deck.melds (s3.writeBanks j.deck.routes)

/-- A job record as a deck and its header fill it (R265, R306, R411, R456, R482). -/
def jobOfDeck (id : BitVec 12) (first : Nat) (header : List Byte) (deck : Deck) (image : List Byte) (oldCut : Word) : Job :=
  { valid := true, id := id, first := first, groups := leAt header 8 1, deck := deck, deckImage := image,
    tTile := leAt header 12 4, tFixed := leAt header 16 4, gddrGroups := BitVec.ofNat 16 (leAt header 10 2),
    serving := nbit (leAt header 6 2) 1,
    curTag := deck.initTag, nextTag := deck.initTag + 1, jobSlots := deck.jobSlots,
    versions := [(0, { tag := deck.initTag, state := 2 })],
    trkCtl := BitVec.ofNat 32 (deck.coordPkg.toNat * 2 ^ 16 + deck.passVoters.toNat * 2 ^ 8),
    durable := deck.durable.zipIdx.map (fun e =>
      (e.2, (BitVec.ofNat 64 (2 ^ 63 + e.1.base.toNat / 64 * 64), BitVec.ofNat 64 (e.1.limit.toNat / 64 * 64)))),
    phase := putBits (maskIn 0xE000FFFF deck.phase 0) 28 1 (bits deck.phase 30 1), phaseTarget := deck.phaseTarget,
    cut := oneFor [(8, 8)] (maskIn 0x8000FF00 deck.cut (oldCut &&& 0x0FFF0000)),
    cutSelf := maskIn 0x0000FFFFFFFFFFFF deck.cutSelf 0, cutSize := deck.cutSize }

/-- The switch object of a deck breaks R456. -/
def phaseBad (groups : Nat) (d : Deck) : Bool :=
  nbit d.phase.toNat 31 && (decide (groups ≤ bits d.phase 0 16 / 4096)
    || !(d.sync.any (fun x => x.object.toNat = bits d.phase 0 16 && x.kind = 0)))

/-- The deck image checks of R411. -/
def deckInvalid (h : List Byte) (deck : Deck) (deckBytes : Nat) : Bool :=
  let groups := leAt h 8 1
  let align := leAt h 9 1
  leAt h 0 4 ≠ 0x4B434544 || leAt h 4 2 ≠ 1 || leAt h 60 4 ≠ (crc32c (h.take 60)).toNat || !deck.bodyCrcOk
  || decide (4 ≤ leAt h 6 2) || groups = 0 || decide (16 < groups) || (align ≠ 1 && align ≠ 2 && align ≠ 4)
  || decide (2 ^ groups ≤ leAt h 10 2) || leAt h 20 40 ≠ 0 || deck.jobSlots < 2 || decide (16 < deck.jobSlots)
  || deck.routes.any (fun r => !(codeOk r.bank0.toNat) || !(codeOk r.bank1.toNat))
  || phaseBad groups deck || decide (deckBytes < deck.imageBytes) || decide (32 * mib < deck.imageBytes)

/-- Whether a deck's routes conflict with those of a placed job (R347). -/
def State.routeConflict (s : State) (d : Deck) : Bool :=
  s.jobSlots.any (fun n => (s.job n).deck.routes.any (fun r =>
    d.routes.any (fun q => q.dest = r.dest && (q.bank0 ≠ r.bank0 || q.bank1 ≠ r.bank1))))

/-- The package's region and keep tables hold a deck's entries (R262, R271). -/
def State.tablesFit (s : State) (d : Deck) : Bool :=
  decide (d.regions.length ≤ (freeIdx 256 (fun i => nbit (tget (0, 0) s.dealer.vregs i).1.toNat 63)).length)
  && decide (d.keeps.length ≤ (freeIdx 128 (fun i => (tget {} s.dealer.keeps i).valid)).length) && decide (d.durable.length ≤ 16)

/-- The lowest slot without a job (R170). -/
def State.freeJobSlot (s : State) : Option Nat := (List.range 16).find? (fun n => !(s.job n).valid)

/-- What becomes of a JOB: placed in a slot, refused with a status, or waiting for a page of its deck image (R198). -/
inductive Placed where
  | ok (slot : Nat)
  | error (status : Nat)
  | waits
  deriving DecidableEq, Repr

/-- A deck that has been refused leaves cfg_reject set in the Meld engines whose contexts were refused (R364). -/
def State.keepRejects (s t : State) : State :=
  [0, 1].foldl (fun s e => if (t.meld e).reject then s.modMeld e (fun m => { m with reject := true }) else s) s

/-- JOB with its descriptor: the status of a refusal, or the package with the job placed in a slot. -/
def State.placeJob (s : State) (d : Desc) (deck : Deck) : State × Placed :=
  let b := d.bytes
  let id := BitVec.ofNat 12 d.job
  let flags := leAt b 20 2
  match s.freeJobSlot with
  | none => (s, .error 0x04)
  | some n =>
    match s.hubRead d.job (leAt b 8 8) 64 with
    | (s1, .waits) => (s1, .waits)
    | (s1, .failed _ _) => (s1, .error 0x10)
    | (s1, .ok h) =>
      if deckInvalid h deck (leAt b 16 4) || !(s1.tablesFit deck) then (s1, .error 0x09)
      else match s1.hubRead d.job (leAt b 8 8) deck.imageBytes with
        | (s2, .waits) => (s2, .waits)
        | (s2, .failed _ _) => (s2, .error 0x10)
        | (s2, .ok image) =>
          if nbit flags 0 && (!nbit (leAt h 6 2) 0 || nbit flags 1) then (s2, .error 0x06)
          else match s2.firstFit (leAt h 8 1) (leAt h 9 1) (BitVec.ofNat 16 (leAt h 10 2)) with
            | none => (s2, .error 0x05)
            | some first =>
              if s2.routeConflict deck then (s2, .error 0x07)
              else
                let drawn := nbit flags 1
                let seed := if drawn then (Config.random s2.sec.drawn).setWidth 64 else BitVec.ofNat 64 (leAt b 32 8)
                let s3 := if drawn then s2.modSec (fun x => { x with drawn := x.drawn + 1 }) else s2
                let s4 := s3.modJob n (fun o => { jobOfDeck id first h deck image o.cut with
                  ring := d.ring, desc := d, det := nbit flags 0, seed := seed, stats := BitVec.ofNat 64 (leAt b 24 8),
                  step := BitVec.ofNat 32 (leAt b 40 4) })
                match s4.loadTables n with
                | (s5, false) => (s3.keepRejects s5, .error 0x08)
                | (s5, true) => (s5.retime, .ok n)

/-- JOB (R410, R411, R415, R417): the job is placed and its channels are opened, or it is refused; it waits for a JOB of the same job that was
fetched before it and stands in another window.  A package in a test mode places none (R572). -/
def execJob (sq : Fin 64) (deck : Deck) (amb : Ambient) (s : State) : Host.Outcome State Fault Refusal :=
  match s.nextDesc sq 1 with
  | none => .next s
  | some (d, rest) =>
    if (s.findJob d.job).isSome then .next (s.answerDesc sq d rest 0x03)
    else if s.descWaits d then .next s
    else if s.host.ccBusy || !s.host.attached || s.pkg.testMode ≠ 0 then .next s
    else if !s.mayReserve then .next s.noRecord
    else match (s.applyAmb amb).placeJob d deck with
      | (s1, .waits) => .next s1
      | (s1, .error st) => .next ((s1.answerDesc sq d rest st).dropDescs sq d.job)
      | (s1, .ok n) =>
        .next (((((s1.takeDesc sq rest).reserve).nextOpen).modJob n (fun j => { j with loadUs := s.openBelow 11 })).openChannels n)

/-- JOB_PLACED (R242, R417): every channel is OPEN, and the JOB completes with the seed in use. -/
def execJobPlaced (slot : Fin 16) (s : State) : Host.Outcome State Fault Refusal :=
  let j := s.job slot
  let ready := j.tiles.all (fun L => (s.tile L).eps.all (fun (e : Nat × Endpoint) => !e.2.valid || e.2.state = .opened))
  if !j.valid || j.endingLost || j.placed || !ready then .next s
  else
    .next ((s.unreserve.completeDesc j.desc 0 j.step.toNat 0 j.seed.toNat).modJob slot (fun j => { j with placed := true }))

/-! ## Starting a step (R412, R415, R432) -/

/-- The open serving step of a job is to end (R412). -/
def State.endServing (s : State) (slot : Nat) : State :=
  match (s.job slot).run with
  | some r => if r.serving then s.modJob slot (fun j => { j with run := some { r with ctlWanted := true } }) else s
  | none => s

/-- STEP (R412, R415, R424): checked in ring order, it becomes the job's open step; it ends an open serving step. -/
def execStep (sq : Fin 64) (amb : Ambient) (s : State) : Host.Outcome State Fault Refusal :=
  match s.nextDesc sq 2 with
  | none => .next s
  | some (d, rest) =>
    match s.findJob d.job with
    | none => .next s
    | some n =>
      let j := s.job n
      let b := d.bytes
      let serving := nbit (leAt b 24 2) 0
      let count := leAt b 12 4
      let table := leAt b 16 8
      if !j.runs then .next s
      else if j.run.isSome then .next (s.endServing n)
      else if leAt b 8 4 ≠ j.step.toNat then .next (s.answerDesc sq d rest 0x0B)
      else
        let reads := j.deck.firstStage.isSome && !serving && decide (0 < count)
        if reads && !s.host.attached then .next (s.pauseForHost n 2)
        else
          let checked := if reads then
              translateAll d.job false ((List.range ((count * 16 + 4095) / 4096 + 1)).map (fun i => min (table + i * 4096) (table + count * 16 - 1)))
                (s.applyAmb amb)
            else (s, [], none)
          let failed := match checked.2.2 with
            | none => (checked.1, some 0)
            | some (a, why) => checked.1.hubFailed d.job a why
          if failed.2.isNone then .next failed.1
          else if checked.2.2.isSome then .next (failed.1.answerDesc sq d rest 0x10)
          else
            let r : StepRun :=
              { desc := d, step := j.step, mbCount := (if serving then 0 else count), table := BitVec.ofNat 64 table, serving := serving, attempt := j.attempt }
            .next ((checked.1.takeDesc sq rest).modJob n (fun j => { j with run := some r }))

/-- LOAD (R430 to R433, R435): a background load starts; a step-mode load becomes the job's open step. -/
def execLoad (sq : Fin 64) (s : State) : Host.Outcome State Fault Refusal :=
  match s.nextDesc sq 6 with
  | none => .next s
  | some (d, rest) =>
    match s.findJob d.job with
    | none => .next s
    | some n =>
      let j := s.job n
      if !j.runs || s.host.pcieOnly then .next s
      else if (s.load n d.loadId).active then .next (s.answerDesc sq d rest 0x01)
      else if nbit (leAt d.bytes 12 2) 1 then
        if 4 ≤ (j.loads.filter (fun (l : Nat × Load) => l.2.active && l.2.background)).length then .next (s.answerDesc sq d rest 0x01)
        else if !s.mayReserve then .next s.noRecord
        else .next (((s.takeDesc sq rest).reserve).beginLoad n d.loadId d)
      else if j.run.isSome then .next (s.endServing n)
      else if leAt d.bytes 8 4 ≠ j.step.toNat then .next (s.answerDesc sq d rest 0x0B)
      else
        let r : StepRun := { desc := d, step := j.step, mbCount := 0, load := some d.loadId, attempt := j.attempt }
        .next ((s.takeDesc sq rest).modJob n (fun j => { j with run := some r }))

/-- The base tag of a step for a stream (R141). -/
def baseTag (j : Job) (stream version : Nat) : Tag := mkTag j.id.toNat stream 0 0 version 0 0 0 0 (j.step.toNat % 2 ^ 20)

/-- A stream at step start: at its entry with the base tag, its loop counters zero and `next` of every select set at its lowest valid member
(R141, R142, R149, R253, R463). -/
def Stream.begin (x : Stream) (j : Job) (n version : Nat) : Stream :=
  { x with
    state := .run, waitHandle := 0, waitDone := false, pc := BitVec.ofNat 16 (bits x.prog 0 16), tag := baseTag j n version, ops := [],
    issueHeld := false, pending := 0, pendingSends := 0, pendingTakes := 0, trick := none, loops := [],
    sels := x.sels.map (fun e => (e.1, selRestart e.2)) }

/-- The streams of a job that the deck configures begin; the others are IDLE (R142). -/
def State.beginStreams (s : State) (slot version : Nat) : State :=
  let j := s.job slot
  j.tiles.foldl (fun s L =>
    let c := deckTile j.deck (L - 8 * j.first)
    let s1 := s.modTile L (fun t => (List.range 3).foldl (fun t n =>
      t.modStream n (fun x => if (tfind c.streams n).isSome then x.begin j n version else { x with state := .idle, ops := [] }))
      { t with stepCycle := 0 })
    (List.range 3).foldl (fun s n => s.modStream L n (fun x => { x with resume := s.replayState L n x.pc })) s1) s

/-- The version that a step stages, in the lowest FREE entry (R265, R433). -/
def Job.stage (j : Job) : Option Job :=
  ((List.range j.jobSlots).find? (fun i => (tget ({} : VerEntry) j.versions i).state = 0)).map (fun i =>
    { j with versions := tput j.versions i { tag := j.nextTag, state := 1 } })

/-- STEP_START (R141, R142, R172, R265, R305, R420, R424, R432, R526): after its waits, the step starts. -/
def execStepStart (slot : Fin 16) (s : State) : Host.Outcome State Fault Refusal :=
  let n := slot.val
  let j := s.job n
  match j.run with
  | none => .next s
  | some r =>
    let staging := match r.load with
      | some _ => nbit (leAt r.desc.bytes 12 2) 0
      | none => j.deck.update
    if r.started || r.revoked || r.done || !j.runs || s.host.pcieOnly then .next s
    else if j.page.isSome then .next (if s.host.attached then s else s.pauseForHost n 1)
    else if !r.reserved && !s.mayReserve then .next s.noRecord
    else match (if staging then j.stage else some j) with
      | none =>
        if r.slotWait then .next s
        else
          .next ((s.modJob n (fun j => { j with run := some { r with slotWait := true } })).raise 0x0210 j.id.toNat
            (r.step.toNat + n * 2 ^ 32))
      | some j1 =>
        let version := if staging then j.nextTag else j.curTag
        let f := s.minClock j
        let s1 := if r.reserved then s else s.reserve
        let s2 := s1.modJob n (fun _ => { j1 with
          run := some { r with started := true, reserved := true, version := version, nextMb := 0, ctlDone := false, slotWait := false }
          wdogLimit := wdogLimitOf j.tTile j.tFixed f (bits s.dealer.wdogCtl 22 6), wdogElapsed := 0, wdogExtra := 0, wdogFmin := f
          stepFmin := if r.reserved then min j.stepFmin f else f
          stepUs := if r.reserved then j.stepUs else 0
          energyAt := if r.reserved then j.energyAt
            else s.tel.railEnergy.map (fun (e : Nat × Dword) => (e.1, e.2.toNat)) })
        let s3 := s2.startCut n
        match r.load with
        | some i => .next (s3.beginLoad n i r.desc)
        | none => .next ((s3.beginStreams n version.toNat).meldStepStart n)

/-! ## Injection (R260, R261, R304) -/

/-- A message placed into the first-stage endpoint of a job as R246 says; none while the ring has no space. -/
def State.inject (s : State) (slot : Nat) (tag : Nat → Nat → Tag) (payload : List Byte) : Option State :=
  let j := s.job slot
  match j.deck.firstStage with
  | none => none
  | some (ch, stage) =>
    let L := j.tileOfChannel ch.toNat
    let e := ch.toNat % 32
    let x := s.ep L e
    let len := recordUnits payload.length
    if x.state ≠ .opened then none
    else match placeIn x.ringOf x.tail x.head len with
      | none => none
      | some pad =>
        let t := tag ch.toNat stage.toNat
        let off := x.tail.toNat % x.ringOf
        let s1 := if pad = 0 then s
          else s.writeArea slot L e false false off (recordHeader 2 0 pad 0 x.msgSeq.toNat t s.self.toNat ch.toNat)
        let at' := (x.tail.toNat + pad) % x.ringOf
        let bs := recordHeader 1 0 len payload.length x.msgSeq.toNat t s.self.toNat ch.toNat
          ++ padTo ((payload.length + 63) / 64 * 64) payload
        some ((s1.writeArea slot L e false false at' bs).modEp L e (fun x => { x with
          tail := x.tail + BitVec.ofNat 32 (pad + len), msgSeq := x.msgSeq + 1 }))

/-- The tag of an injected message (R260, R261). -/
def injectTag (j : Job) (pass mb pos : Nat) (ch stage : Nat) : Tag :=
  mkTag j.id.toNat pass 2 mb j.curTag.toNat stage 0 pos ch (j.step.toNat % 2 ^ 20)

/-- The payload bytes of an injection-table entry (R412): a length above 4,096 is none that the spec describes, and is left open (log 84). -/
def State.entryBytes (s : State) (n : Nat) : State × Nat := if n ≤ 4096 then (s, n) else (s.nextOpen, s.openBelow 4097)

/-- MICRO_BATCH_INJECTION (R198, R260, R412, R424). -/
def execMicroBatchInjection (slot : Fin 16) (amb : Ambient) (s : State) : Host.Outcome State Fault Refusal :=
  let n := slot.val
  let j := s.job n
  match j.run with
  | none => .next s
  | some r =>
    if !r.started || r.revoked || r.serving || r.load.isSome || j.deck.firstStage.isNone || r.mbCount ≤ r.nextMb then .next s
    else if !s.host.attached then .next (s.pauseForHost n 2)
    else match (s.applyAmb amb).hubWindow n (r.table.toNat + 16 * r.nextMb) 16 with
      | (s1, .waits) => .next s1
      | (s1, .failed v why) => .next (s1.hostFault (8 * j.first) v why true)
      | (s1, .ok b) =>
        let (s1, bytes) := s1.entryBytes (leAt b 8 2)
        match s1.hubWindow n (leAt b 0 8) bytes with
        | (s2, .waits) => .next s2
        | (s2, .failed v why) => .next (s2.hostFault (8 * j.first) v why true)
        | (s2, .ok payload) =>
          match s2.inject n (injectTag j 0 r.nextMb (leAt b 12 4 % 2 ^ 20)) payload with
          | none => .next s
          | some s3 => .next (s3.modJob n (fun j => { j with run := some { r with nextMb := r.nextMb + 1 } }))

/-- CONTROL_PASS_INJECTION (R142, R260, R412): behind the last micro-batch, or behind the passes of a serving step that is to end. -/
def execControlPassInjection (slot : Fin 16) (s : State) : Host.Outcome State Fault Refusal :=
  let n := slot.val
  let j := s.job n
  match j.run with
  | none => .next s
  | some r =>
    let due := if r.serving then r.ctlWanted && j.passes.all (·.injected) else decide (r.mbCount ≤ r.nextMb)
    if !r.started || r.revoked || r.load.isSome || r.ctlDone || !due || s.host.pcieOnly then .next s
    else match s.inject n (injectTag j 3 0 0) [] with
      | none => .next s
      | some s1 => .next (s1.modJob n (fun j => { j with run := some { r with ctlDone := true } }))

/-! ## Passes (R41, R304, R413, R415) -/

/-- PASS (R413, R415, R424): behind a STEP that has not started it waits; it is refused, or open and waiting for its injection. -/
def execPass (sq : Fin 64) (amb : Ambient) (s : State) : Host.Outcome State Fault Refusal :=
  match s.nextDesc sq 3 with
  | none => .next s
  | some (d, rest) =>
    match s.findJob d.job with
    | none => .next s
    | some n =>
      let j := s.job n
      let b := d.bytes
      let mb := BitVec.ofNat 20 (leAt b 12 4)
      let record := leAt b 32 8
      let open' := match j.run with
        | some r => r.serving && r.step.toNat = leAt b 8 4
        | none => false
      let started := match j.run with
        | some r => r.started
        | none => true
      if !j.runs || !started then .next s
      else if !open' then .next (s.answerDesc sq d rest 0x0B)
      else if j.passes.any (fun p => p.mb = mb) then .next (s.answerDesc sq d rest 0x01)
      else if 2 ^ 20 < leAt b 28 4 + leAt b 24 1 then .next (s.answerDesc sq d rest 0x0C)
      else if 2 ^ 48 ≤ record || !(j.isDurable record && j.isDurable (record + 71))
          || (s.resolve n (8 * j.first) (record : Int)).isNone then .next (s.answerDesc sq d rest 0x01)
      else if j.passes.any (fun p => p.stream.toNat = record) then .next s
      else match s.viewTouch n record 4 with
      | (s1, true) => .next (s1.rollback n)
      | (s, false) =>
      if leAt (s.viewBytes n record 4) 0 4 ≠ leAt b 28 4 then .next (s.answerDesc sq d rest 0x0D)
      else
        let s0 := (s.applyAmb amb).takeDesc sq rest
        let s1 := if s.host.attached then s0 else s0.pauseForHost n 2
        .next (s1.modJob n (fun j => { j with passes := j.passes ++
          [{ desc := d, step := j.step, mb := mb, drafts := BitVec.ofNat 64 (leAt b 16 8), positions := leAt b 24 1,
             posBase := BitVec.ofNat 20 (leAt b 28 4), stream := BitVec.ofNat 48 record }] }))

/-- PASS_INJECTION (R43, R172, R198, R260, R304, R420, R424): the pass's drafts are read and its micro-batch is placed, and the Dealer arms the
pass's watchdog; drafts that fail translation complete it with HOST_FAULT and no event (log 191, DEDUCED). -/
def execPassInjection (slot : Fin 16) (microBatch : BitVec 20) (amb : Ambient) (s : State) : Host.Outcome State Fault Refusal :=
  let n := slot.val
  let j := s.job n
  match j.run, j.passes.find? (fun p => p.mb = microBatch) with
  | some r, some p =>
    if !r.started || r.revoked || !r.serving || p.injected || p.revoked then .next s
    else if !s.host.attached then .next (s.pauseForHost n 2)
    else if !p.reserved && !s.mayReserve then .next s.noRecord
    else match (s.applyAmb amb).hubWindow n p.drafts.toNat (p.positions * 4) with
      | (s1, .waits) => .next s1
      | (s1, .failed _ _) =>
        .next (((if p.reserved then s1.unreserve else s1).completeDesc p.desc 0x10 p.step.toNat p.mb.toNat 0).modJob n
          (fun j => { j with passes := j.passes.filter (fun q => q.mb ≠ microBatch) }))
      | (s1, .ok payload) =>
        match s1.inject n (injectTag j 0 microBatch.toNat p.posBase.toNat) payload with
        | none => .next s
        | some s2 =>
          .next ((if p.reserved then s2 else s2.reserve).modJob n (fun j => { j with
            passes := modFirst (fun (q : PassRun) => q.mb = microBatch)
              (fun (q : PassRun) => { q with
                injected := true, reserved := true, overrun := false, wdogElapsed := 0, wdogExtra := 0,
                wdogLimit := wdogLimitOf j.tTile j.tFixed (s.minClock j) (bits s.dealer.wdogCtl 22 6) }) j.passes }))
  | _, _ => .next s

/-! ## The step watchdog (R173) -/

/-- Detail of events 0x0201 and 0x0202 (R577), for a limit. -/
def wdogDetail (j : Job) (slot limit : Nat) : Nat := limit + slot * 2 ^ 32 + j.step.toNat % 2 ^ 20 * 2 ^ 36

/-- A pass that has reached `mult` times its limit (R43, R173); with `mult` = 1 and `fresh` one that has not raised its overrun. -/
def PassRun.late (p : PassRun) (mult : Nat) : Bool := p.injected && decide (mult * p.wdogLimit ≤ p.wdogElapsed)

/-- A step's tile work on this package has ended (R142, R173). -/
def State.workEnded (s : State) (slot : Nat) (r : StepRun) : Bool :=
  match r.load with
  | some i => (tget {} (s.job slot).loads i).complete
  | none => s.tileWorkDone (s.job slot)

/-- STEP_OVERRUN (R43, R173): event 0x0201, once for a step, or once for a pass of a serving step, before its work is finished. -/
def execStepOverrun (slot : Fin 16) (s : State) : Host.Outcome State Fault Refusal :=
  let j := s.job slot
  match j.run with
  | none => .next s
  | some r =>
    let late := fun (p : PassRun) => p.late 1 && !p.overrun && !p.readySent
    if !r.started then .next s
    else if r.serving then
      match j.passes.find? late with
      | none => .next s
      | some p =>
        .next ((s.modJob slot (fun j => { j with passes := modFirst late (fun q => { q with overrun := true }) j.passes })).raise
          0x0201 j.id.toNat (wdogDetail j slot p.wdogLimit))
    else if r.overrun || s.workEnded slot r || j.wdogElapsed < j.wdogLimit then .next s
    else
      .next ((s.modJob slot (fun j => { j with run := some { r with overrun := true } })).raise 0x0201 j.id.toNat
        (wdogDetail j slot j.wdogLimit))

/-- STEP_WATCHDOG_FAULT (R43, R173): event 0x0202 and the job fault, for a step or for a pass of a serving step. -/
def execStepWatchdogFault (slot : Fin 16) (s : State) : Host.Outcome State Fault Refusal :=
  let j := s.job slot
  let mult := bits s.dealer.wdogCtl 28 4
  match j.run with
  | none => .next s
  | some r =>
    if !r.started || mult = 0 then .next s
    else if r.serving then
      match j.passes.find? (fun p => p.late mult) with
      | none => .next s
      | some p => .next ((s.raise 0x0202 j.id.toNat (wdogDetail j slot p.wdogLimit)).jobFault 0x0202)
    else if j.wdogElapsed < mult * j.wdogLimit then .next s
    else .next ((s.raise 0x0202 j.id.toNat (wdogDetail j slot j.wdogLimit)).jobFault 0x0202)

/-! ## ABORT (R416, R579, R581) -/

/-- An open target at the coordinator is revoked with cause EXPLICIT: true when the ABORT succeeds. -/
def State.abortKey (s : State) (slot : Nat) (k : TrickKey) (opened : Bool) : State × Bool :=
  let job := (s.job slot).id.toNat
  match s.coordAt job k with
  | some c =>
    match c.phase with
    | .collecting => (s.coordRevoke job k 1 s.self, true)
    | .revoking =>
      if c.cause = 1 || c.abortPending then (s, false)
      else (s.modCoord job k (fun c => { c with abortPending := true }), true)
    | _ => (s, false)
  | none => if opened then ((s.haveCoord slot k).coordRevoke job k 1 s.self, true) else (s, false)

/-- The value of a STEP_REVOKED completion by an ABORT. -/
def State.abortValue (s : State) : Nat := lostValue 0x0302 1 s.self

/-- A descriptor of a window that an ABORT names completes with STEP_REVOKED (R416): true when there is one. -/
def State.abortFetched (s : State) (sq dtype job step mb : Nat) : State × Bool :=
  let hit := fun (d : Desc) => (d.dtype = dtype || (dtype = 2 && d.dtype = 6 && !nbit (leAt d.bytes 12 2) 1)) && d.job = job
    && leAt d.bytes 8 4 = step && (dtype ≠ 3 || leAt d.bytes 12 4 = mb)
  match takeFirst hit (s.sq sq).window with
  | none => (s, false)
  | some (d, rest) => ((s.takeDesc sq rest).completeDesc d 0x20 step (descRef d) s.abortValue, true)

/-- The target of an ABORT: revoked when it is open, completed when it was fetched and has not started; false when neither. -/
def State.abortTarget (s : State) (n : Nat) (d : Desc) : State × Bool :=
  let j := s.job n
  let b := d.bytes
  let step := BitVec.ofNat 32 (leAt b 8 4)
  let mb := BitVec.ofNat 20 (leAt b 12 4)
  if leAt b 16 1 = 0 then
    match j.run with
    | some r =>
      if r.step = step then
        if r.reserved || (s.coordAt j.id.toNat (stepKey step)).isSome then s.abortKey n (stepKey step) (r.started || r.reserved)
        else
          ((s.completeDesc r.desc 0x20 step.toNat 0 s.abortValue).modJob n (fun j => { j with run := none }), true)
      else s.abortFetched j.ring 2 d.job step.toNat 0
    | none =>
      match s.abortKey n (stepKey step) false with
      | (s1, true) => (s1, true)
      | (_, false) => s.abortFetched j.ring 2 d.job step.toNat 0
  else
    match j.passes.find? (fun p => p.mb = mb && p.step = step) with
    | some p =>
      if p.reserved then s.abortKey n (passKey step mb) true
      else
        ((s.completeDesc p.desc 0x20 step.toNat mb.toNat s.abortValue).modJob n
          (fun j => { j with passes := j.passes.filter (fun q => q.mb ≠ mb) }), true)
    | none =>
      match s.abortKey n (passKey step mb) (match s.keyShare j.id.toNat (passKey step mb) with
        | some x => x.phase = .opened || x.phase = .ready
        | none => false) with
      | (s1, true) => (s1, true)
      | (_, false) => s.abortFetched j.ring 3 d.job step.toNat mb.toNat

/-- ABORT (R414, R416, R581). -/
def execAbort (sq : Fin 64) (s : State) : Host.Outcome State Fault Refusal :=
  match s.nextDesc sq 4 with
  | none => .next s
  | some (d, rest) =>
    match s.findJob d.job with
    | none => .next (s.answerDesc sq d rest 0x02)
    | some n =>
      if (s.job n).coordPkg ≠ s.self then .next (s.answerDesc sq d rest 0x0E)
      else if !s.mayReserve then .next s.noRecord
      else
        let s0 := s.takeDesc sq rest
        match s0.abortTarget n d with
        | (s1, ok) => .next (s1.completeDesc d (if ok then 0 else 0x0F) (leAt d.bytes 8 4) (descRef d) 0)

/-! ## END and NOP (R216, R415, R417) -/

/-- END (R244, R415): it waits for the current step, and ends an open serving step. -/
def execEnd (sq : Fin 64) (s : State) : Host.Outcome State Fault Refusal :=
  match s.nextDesc sq 5 with
  | none => .next s
  | some (d, rest) =>
    match s.findJob d.job with
    | none => .next s
    | some n =>
      let j := s.job n
      if !j.runs then .next s
      else if j.run.isSome then .next (s.endServing n)
      else if !j.startedDescs.isEmpty then .next s
      else if !s.mayReserve then .next s.noRecord
      else
        .next ((((s.takeDesc sq rest).reserve).closeChannels n).modJob n (fun j => { j with ending := some d }))

/-- JOB_END_DONE (R216, R244, R275, R415, R417, R476): the job's units are at their reset values, the GDDR7 slices are zeroed and the groups freed; a job that ended by END completes it. -/
def execJobEndDone (slot : Fin 16) (s : State) : Host.Outcome State Fault Refusal :=
  let n := slot.val
  let j := s.job n
  if !j.valid || (j.ending.isNone && !j.endingLost) then .next s
  else
    let s1 := (if j.ending.isSome then s.dropJobUnits n else s).zeroRanges (s.gddrSlices j)
    let s2 := ((s1.modDealer (fun d => { d with jobs := tdel d.jobs n })).retime).releaseHost
    match j.ending with
    | none => .next s2
    | some d => .next ((s2.unreserve.completeDesc d 0 0 0 0).dropDescs j.ring j.id.toNat)

/-- NOP_DESCRIPTOR (R415): at once for job 0, else when every earlier descriptor of the job has completed; a background LOAD behind it, which waits
for no descriptor (R435), may have started before it. -/
def execNopDescriptor (sq : Fin 64) (s : State) : Host.Outcome State Fault Refusal :=
  match s.nextDesc sq 7 with
  | none => .next s
  | some (d, rest) =>
    if d.job = 0 then .next (s.answerDesc sq d rest 0)
    else match s.findJob d.job with
      | none => .next s
      | some n =>
        if (s.job n).startedDescs.any (fun e => !later 32 e.1.no d.no) then .next s else .next (s.answerDesc sq d rest 0)

end Sys2Proof.Machine
end

