-- ==== Sys2Proof/Machine/Recovery.lean ====
section
/-! DEFINITION. Recovery.lean: tile failures (R461 to R467), die-to-die lanes (R471 to R473), heartbeats, lost packages, talons and the
restoring of cuts (R474, R484 to R488). -/
namespace Sys2Proof.Machine

/-! ## Tiles (R461 to R467) -/

/-- What a stack's shadow holds of a tile (R463): registers, endpoint state, select sets, handles and tags.  Queues and banks are not
in it; the stall counters and the FOVF registers, which clear at no moment but the latch (R77, R208), go with it (log 74).  The streams stand still and the port is fenced until the image is loaded (R465). -/
def Tile.shadow (t : Tile) : Tile :=
  { ({} : Tile) with
    arrCtl := t.arrCtl, arrWeight := t.arrWeight, dmaCtl := t.dmaCtl, image := t.image, stepCycle := t.stepCycle,
    stalls := t.stalls, fovfStatus := t.fovfStatus, fovfWhere := t.fovfWhere, fovfTag := t.fovfTag, fovfStep := t.fovfStep,
    fovfCycle := t.fovfCycle,
    streams := t.streams.map (fun (e : Nat × Stream) => (e.1, { e.2 with
      state := if e.2.state = .idle then .idle else .halt, waitHandle := 0, ops := [], issueHeld := false, waitDone := false, passed := [] })),
    eps := t.eps, fenced := true, exempt := true }

/-- The time for which a tile's oldest open span has run: what a failure of the tile makes its job repeat (R459). -/
def State.openSpan (s : State) (L : Nat) : Nat :=
  (List.range 3).foldl (fun a n => match s.trickOf L n with
    | some (_, t) => max a (s.now - t.since)
    | none => a) 0

/-- A failed tile's open local tricks are revoked with cause FAULT and their staged lines discarded (R465), with the events of it; the repeat
of their spans interrupts the job (R172; log 20). -/
def State.revokeTile (s : State) (L : Nat) : State × List Ev :=
  (List.range 3).foldl (fun a n =>
    match a.1.trickOf L n with
    | none => a
    | some (i, _) =>
      let r := (a.1.settleSends L n).noteRevokeQ L n 2 0xFFFF i
      (r.1.modTrickOf L n (fun t => { t with
        staged := [], num := {}, capWait := false, committing := false, since := s.now }), a.2 ++ r.2)) (s.interruptTile L (s.openSpan L), [])

/-- Logical tile `L`, whose physical tile `t` of stack `k` has failed, runs on physical tile `p` from now on (R465, R467); with the events of it. -/
def State.swapTile (s : State) (L k t p took : Nat) : State × List Ev :=
  let r := s.revokeTile L
  let s1 := r.1
  let old := s1.tileAt (k * 34 + t)
  let s2 := (s1.modTileAt (k * 34 + p) (fun x => { (((old.unblock 0).unblock 1).unblock 2).shadow with clock := x.clock })).modTileAt (k * 34 + t)
    (fun x => { ({} : Tile) with clock := x.clock, fenced := true })
  let s3 := s2.modStack k (fun x => { x with
    tileMap := tput x.tileMap (L % 32) p, tileState := tput (tput x.tileState t 3) p took, swaps := satNat 16 x.swaps 1 })
  let c := match s3.slotOfTile L with
    | some slot => s3.statQ slot 27 1
    | none => (s3, [])
  (c.1.retime, r.2 ++ c.2)

/-- Physical tiles of a stack's free tile groups that may be borrowed (R466). -/
def State.borrowable (s : State) (k L : Nat) : List Nat :=
  let free := (upFrom (4 * k) 4).filter (fun g =>
    g ≠ L / 8 && (s.slotOfGroup g).isNone && !((s.stack k).borrowedGroups.contains (g % 4)))
  (List.range 34).filter (fun t => free.any (fun g => (upFrom (8 * g) 8).any (fun M => s.physOf k (M % 32) = t)))

/-- Number of a check in event 0x0401 (R577). -/
def checkCode : TileCheck → Nat
  | .parity => 1
  | .residue => 2
  | .clockOrSupply => 3
  | .heartbeat => 4

/-- `degraded` is set, with its event (R492). -/
def State.degradeQ (s : State) (reason : Nat) : State × List Ev := (s.modHost (fun h => { h with degraded := true }), [(0x0C02, 0, reason)])

/-- A spare that fails can take no tile's place any more (R461, R467, R492; log 156). -/
def State.spareFails (s : State) (k t : Nat) : State × List Ev :=
  let s1 := s.modStack k (fun x => { x with tileState := tput x.tileState t 3 })
  if (s1.spares k).isEmpty then s1.degradeQ 1 else (s1, [])

/-- A stack declares one of its tiles failed (R461, R465, R466, R492); with the events of it. -/
def State.tileFails (s : State) (k t : Nat) (check : TileCheck) : State × List Ev :=
  match s.logicalOf k t with
  | none => if s.tileStateOf k t = 1 then s.spareFails k t else (s, [])
  | some L =>
    let job := match s.slotOfTile L with
      | some n => (s.job n).id.toNat
      | none => 0
    if s.tileStateOf k t = 3 then (s, [])
    else match s.spares k with
      | p :: rest =>
        let r := s.swapTile L k t p 0
        let d := if rest.isEmpty then r.1.degradeQ 1 else (r.1, [])
        (d.1, r.2 ++ (0x0401, job, k + t * 2 ^ 8 + p * 2 ^ 16 + checkCode check * 2 ^ 24) :: d.2)
      | [] =>
        match s.borrowable k L with
        | p :: _ =>
          let M := (s.logicalOf k p).getD L
          let r := (s.modStack k (fun x => { x with
            tileMap := tput x.tileMap (M % 32) t, borrowedGroups := x.borrowedGroups ++ [M / 8 % 4] })).swapTile L k t p 4
          let d := r.1.degradeQ 1
          (d.1, r.2 ++ (0x0402, job, k + t * 2 ^ 8 + p * 2 ^ 16) :: d.2)
        | [] =>
          let r := s.revokeTile L
          let s1 := r.1.modTile L (fun x => { x.shadow with clock := x.clock, exempt := false })
          let d := (s1.modStack k (fun x => { x with tileState := tput x.tileState t 3 })).degradeQ 1
          (d.1.modTel (fun x => { x with heartbeat := false }), r.2 ++ (0x0402, job, k + t * 2 ^ 8 + 0x3F * 2 ^ 16 + 2 ^ 24) :: d.2)

/-- The tiles of a stack declared failed one after the other; with the events of it. -/
def State.tilesFail (s : State) (k : Nat) (ts : List Nat) (check : TileCheck) : State × List Ev :=
  ts.foldl (fun a t =>
    let r := a.1.tileFails k t check
    (r.1, a.2 ++ r.2)) (s, [])

/-- TILE_HEARTBEAT_SAMPLE (R461): every tile whose heartbeat is missed is declared failed; the events of the sample are taken in ascending code,
then tile by tile (R533). -/
def execTileHeartbeatSample (stack : Fin 4) (missed : BitVec 34) (s : State) : Host.Outcome State Fault Refusal :=
  if s.pkg.inReset then .next s
  else
    let r := s.tilesFail stack ((List.range 34).filter (fun t => missed.getLsbD t)) .heartbeat
    .next (r.1.raiseAll r.2)

/-- TILE_CHECK_FAILURE (R461, R465, R466). -/
def execTileCheckFailure (stack : Fin 4) (phys : Fin 34) (check : TileCheck) (s : State) : Host.Outcome State Fault Refusal :=
  if s.pkg.inReset then .next s
  else
    let r := s.tileFails stack phys check
    .next (r.1.raiseAll r.2)

/-- A 64-byte line copied; a line that its code finds poisoned leaves its copy poisoned (R185, R469). -/
def State.copyLine (s : State) (slot src dst : Nat) : State :=
  let r := touchReads (some slot) false [src / 64] s
  let s1 := r.1.storeCells (some slot) (cellsAt dst (r.1.memRead src 64))
  if r.2 then s1.setPoison (dst / 64) else s1

/-- The image ranges of a tile reloaded from their copies; the rest of its scratch is zero (R465). -/
def State.reloadImage (s : State) (L : Nat) : State :=
  let base := scratchOf (L / 32) (s.physOf (L / 32) (L % 32))
  let s1 := s.zeroRanges [(base, base + 0x400000)]
  match s1.slotOfTile L with
  | none => s1
  | some slot =>
    (s1.tile L).image.foldl (fun s r =>
      match s.resolve slot L (r.copy.toNat : Int) with
      | some (_, a) => (List.range (r.bytes / 64)).foldl (fun s i => s.copyLine slot (a + 64 * i) (base + r.offset.toNat + 64 * i)) s
      | none => s) s1

/-- A stream of a swapped tile goes on: it replays its open local trick, or resumes from its resume point (R463 to R465). -/
def State.resumeStream (s : State) (L n : Nat) : State :=
  if (s.trickOf L n).isSome then (s.replay L n).modStream L n (fun x => { x with swapped := true })
  else
    let x := s.stream L n
    let runs := match s.slotOfTile L with
      | some slot => (match (s.job slot).run with
        | some r => r.started && !r.revoked
        | none => false)
      | none => false
    if runs && x.state = .halt then s.modStream L n (fun x => x.reload x.resume x.resume.pc) else s

/-- TILE_IMAGE_RELOADED (R465). -/
def execTileImageReloaded (tile : Fin 128) (s : State) : Host.Outcome State Fault Refusal :=
  let L := tile.val
  let t := s.tile L
  if t.fenced && t.exempt then
    let s1 := (s.reloadImage L).modTile L (fun x => { x with fenced := false })
    let s2 := (List.range 3).foldl (fun s n => s.resumeStream L n) s1
    .next ((List.range 3).foldl (fun s n => if (s.stream L n).swapped then s else s.endSpan L n) s2)
  else .next s

/-! ## Die-to-die lanes (R471 to R473) -/

/-- First module and module count of a module's edge (R473). -/
def edgeOf (m : Nat) : Nat × Nat :=
  if m < 32 then (m / 8 * 8, 8) else if m < 48 then (m / 4 * 4, 4) else if m < 80 then (m / 8 * 8, 8) else (m / 2 * 2, 2)

/-- D2D_LANE_FAILURE (R471, R472, R492). -/
def execD2dLaneFailure (d2d : Fin 84) (lane : BitVec 5) (s : State) : Host.Outcome State Fault Refusal :=
  let m := d2d.val
  let x := tget (0, 0) s.pkg.d2d m
  if x.1 = 4 || s.pkg.inReset then .next s
  else
    let st := x.1 + 1
    let s1 := s.modPkg (fun p => { p with d2d := tput p.d2d m (st, min 18 (x.2 + 1)) })
    let count := fun (s : State) => s.jobSlots.foldl (fun s n => s.stat n 36 1) s
    if st < 3 then .next (count (s1.raise 0x0901 0 (m + lane.toNat * 2 ^ 8)))
    else if st = 3 then .next (count (s1.raise 0x0902 0 m))
    else
      let s2 := s1.raise 0x0903 0 m
      let e := edgeOf m
      if (upFrom e.1 e.2).all (fun i => (tget (0, 0) s2.pkg.d2d i).1 = 4) then
        .next (count ((((s2.raise 0x0904 0 m).degrade 2).degrade 5).modTel (fun t => { t with heartbeat := false })))
      else .next (count (s2.degrade 2))

/-! ## Heartbeats and lost packages (R484, R485) -/

/-- Whether heartbeats are sent while the management controller's core is in reset: for 1 s, by a hub timer (R546). -/
def State.hubTimer (s : State) : Bool :=
  match s.tel.wdogTimes.getLast? with
  | some t => decide (s.now ≤ t + 1000000)
  | none => true

/-- PACKAGE_HEARTBEAT (R484, R488): one MGMT packet to each other recovery lead; it says whether the package is degraded. -/
def execPackageHeartbeat (s : State) : Host.Outcome State Fault Refusal :=
  if s.tel.heartbeat && (!s.tel.mcReset || s.hubTimer) && !s.pkg.inReset then
    let js := s.jobSlots.map s.job
    let leads := ((js.map s.leadOf).dedup).filter (· ≠ s.self)
    .next (leads.foldl (fun s p =>
      let ws := (js.filter (fun j => s.leadOf j = p)).map Job.watched
      s.originate (mgmtPacket s.self p 1 ws.length (BitVec.ofNat 12 (b2n s.host.degraded)) ((ws.map Watched.bytes).flatten))) s)
  else .next s

/-- A heartbeat's jobs take the place of what the lead held of them. -/
def mergeWatched (old new : List Watched) : List Watched :=
  old.filter (fun w => !(new.any (fun v => v.job = w.job))) ++ new

/-- The lead of a job takes the loss of a package: the job's deck tricks are revoked (R303, R485, order 1). -/
def State.jobLosesPackage (s : State) (n : Nat) (p : BitVec 12) : State :=
  let cause := if p = (s.job n).coordPkg then 6 else 2
  (s.beginRestore n [p]).revokeAll n cause p

/-- No port waits any longer for a link to a lost package (R474). -/
def State.forgetRelink (s : State) (p : BitVec 12) : State :=
  (List.range 16).foldl (fun s q => if (s.port q).relink = some p then s.modPort q (fun x => { x with relink := none }) else s) s

/-- A package is declared lost at this package when it is, or now becomes, the lead of a deck of the lost one. -/
def State.declareLost (s : State) (p : BitVec 12) : State :=
  if s.recov.lost.contains p || p = s.self then s
  else
    let s1 := { s with recov := { s.recov with lost := s.recov.lost ++ [p] } }
    let mine := s.jobSlots.filter (fun n => (s.deckOf (s.job n)).contains p && s1.leadOf (s.job n) = s.self)
    if mine.isEmpty then s
    else mine.foldl (fun s n => s.jobLosesPackage n p) ((s1.forgetRelink p).raise 0x0232 0 p.toNat)

/-- A link between packages `a` and `b` has not returned in time (R474): this package, where it is the lead of a deck that holds an end, treats
the end with the higher ID as lost and sends it a fence order.  It does neither when an end has lost its heartbeat. -/
def State.relinkLost (s : State) (a b : BitVec 12) : State :=
  let high := if a.toNat < b.toNat then b else a
  let jobs := s.jobSlots.filter (fun n => ((s.deckOf (s.job n)).contains a || (s.deckOf (s.job n)).contains b) && s.leadOf (s.job n) = s.self)
  if jobs.isEmpty || s.recov.lost.contains a || s.recov.lost.contains b then s
  else
    let ws := jobs.map (fun n => (s.job n).watched)
    (s.originate (mgmtPacket s.self high 3 ws.length high ((ws.map Watched.bytes).flatten))).declareLost high

/-- MGMT (R469, R474, R484, R485, R488): a heartbeat is noted, a rollback request makes the lead revoke the job's deck tricks, a report of a link
that did not return makes it declare the loss, and its orders make a package wait for its cut and rewrite its base fields (log 18). -/
def execMgmt (src : Src) (s : State) : Host.Outcome State Fault Refusal :=
  match s.takePacket src (fun p => p.ptype.toNat = ptMgmt && p.mgmtKind ≠ 2 && p.mgmtKind ≠ 3) with
  | none => .next s
  | some (p, s1) =>
    if p.mgmtKind = 1 then
      let r := s1.recov
      .next { s1 with recov := { r with
        heard := tput r.heard p.src.toNat (mergeWatched (tget [] r.heard p.src.toNat) p.mgmtJobs),
        planned := if nbit p.mgmtPkg.toNat 0 then addOnce r.planned p.src else r.planned } }
    else if p.mgmtKind = 4 then
      match s1.findJob p.mgmtPkg.toNat with
      | none => .next s1
      | some n =>
        if s1.leadOf (s1.job n) = s1.self then .next ((s1.beginRestore n []).revokeAll n 2 p.src) else .next s1
    else if p.mgmtKind = 5 then .next (s1.relinkLost p.src p.mgmtPkg)
    else if p.mgmtKind = 6 then
      .next (p.mgmtJobs.foldl (fun s w =>
        match s.findJob w.job.toNat with
        | some n => s.awaitCut n (if p.mgmtPkg = p.src then [] else [p.mgmtPkg])
        | none => s) s1)
    else if p.mgmtKind = 7 then .next (s1.rebase p.mgmtPkg (BitVec.ofNat 12 (leAt p.payload 16 2)))
    else .next s1

/-- PACKAGE_LOSS_DECLARED (R484, R485). -/
def execPackageLossDeclared (package : BitVec 12) (s : State) : Host.Outcome State Fault Refusal := .next (s.declareLost package)

/-- RELINK_TIMEOUT (R474): the lead of a deck that holds the neighbour treats the end with the higher ID as lost; another package reports the
link to each such lead (log 18).  Nothing follows when an end of the link has lost its heartbeat. -/
def execRelinkTimeout (port : Fin 16) (s : State) : Host.Outcome State Fault Refusal :=
  match (s.port port).relink with
  | none => .next s
  | some q =>
    let s1 := s.modPort port (fun x => { x with relink := none })
    if s.recov.lost.contains q || !s.tel.heartbeat then .next s1
    else
    let js := (s.jobSlots.map s.job).filter (fun j => (s.deckOf j).contains q)
    let leads := ((js.map s.leadOf).dedup).filter (· ≠ s.self)
    .next ((leads.foldl (fun s p => s.originate (mgmtPacket s.self p 5 0 q [])) s1).relinkLost q s.self)

/-- FENCE_ORDER (R474): the package stops its heartbeat and ends the jobs that the order names. -/
def execFenceOrder (src : Src) (s : State) : Host.Outcome State Fault Refusal :=
  match s.takePacket src (fun p => p.ptype.toNat = ptMgmt && p.mgmtKind = 3) with
  | none => .next s
  | some (p, s1) =>
    let s2 := s1.modTel (fun t => { t with heartbeat := false })
    .next (p.mgmtJobs.foldl (fun s w =>
      match s.findJob w.job.toNat with
      | some n => s.loseJob n 0x0232 p.src false
      | none => s) s2)

/-! ## Talons (R485, R486) -/

/-- A BULK_REQ of a cut (R486). -/
def cutRequest (src dst : BitVec 12) (job op : Nat) (half : Bool) (ward : BitVec 12) (step : Word) (off size : BitVec 16) : Packet :=
  { cls := 3, ptype := BitVec.ofNat 4 ptBulkReq, src := src, dst := dst, tag := mkTag job 3 3 0 0 0 0 0 0 (step.toNat % 2 ^ 20),
    handle := BitVec.ofNat 64 (job + 3 * 2 ^ 12),
    specific := mkSpec [(32, 1, op), (33, 1, b2n half), (34, 2, ward.toNat), (36, 4, step.toNat), (40, 2, off.toNat), (42, 2, size.toNat)] }

/-- TAKEOVER_ORDER (R485, orders 3 and 5): a talon takes the lost package's ID and asks its cut partner for each job's cut. -/
def execTakeoverOrder (src : Src) (s : State) : Host.Outcome State Fault Refusal :=
  match s.takePacket src (fun p => p.ptype.toNat = ptMgmt && p.mgmtKind = 2) with
  | none => .next s
  | some (p, s1) =>
    if s1.host.role ≠ 1 then .next s1
    else
      let s2 := (s1.modHost (fun h => { h with role := 0, package := p.mgmtPkg, epoch := h.epoch + 1 })).identityChanged
      let s3 := { s2 with recov := { s2.recov with takeover := some (p.src, p.mgmtJobs), restore := [] } }
      .next (p.mgmtJobs.foldl (fun s w =>
        s.originate (cutRequest s.self w.partner w.job.toNat 3 w.half p.mgmtPkg w.cutStep w.cutOff w.cutMib)) s3)

/-- Bytes of a stack's half up to and with its trailer, from its records. -/
def halfLength (rs : List CutRec) (k : Nat) : Nat :=
  (rs.filter (fun r => r.stack = k)).foldl (fun a r => a + 64 + (r.data.length + 63) / 64 * 64) 64

/-- CUT_FETCH (R486): the partner streams the named half, or answers CUT_NONE. -/
def execCutFetch (src : Src) (s : State) : Host.Outcome State Fault Refusal :=
  match s.takePacket src (fun p => p.ptype.toNat = ptBulkReq && bits p.handle 12 4 = 3 && p.spec 32 1 = 3) with
  | none => .next s
  | some (p, s1) =>
    let job := tagJob p.tag
    let half := p.spec 33 1 % 2
    let off := p.spec 40 2 * mib
    let size := p.spec 42 2 * mib
    let bytes := fun (k : Nat) => s1.wardBytes k half off size
    let none' := fun (s : State) => s.originate (cutRequest s.self p.src job 4 (half = 1) (BitVec.ofNat 12 (p.spec 34 2)) (BitVec.ofNat 32 (p.spec 36 4))
      (BitVec.ofNat 16 (p.spec 40 2)) (BitVec.ofNat 16 (p.spec 42 2)))
    match readCut bytes job (p.spec 36 4) with
    | .done rs _ step =>
      let span := match dealerOf rs with
        | some d => cutStacks d
        | none => [0]
      let lines := (span.map (fun k => linesOf (upFrom ((s1.cutRegion k).1 + s1.wardHalf k half off) (halfLength rs k)))).flatten
      let r := touchReads none true lines s1
      if step ≠ p.spec 36 4 || r.2 || span.any s1.gddrFailed then .next (none' r.1)
      else
        .next (span.foldl (fun s k =>
          (segmentPieces 0 ((bytes k).take (halfLength rs k))).foldl (fun s c =>
            s.originate (cutPacket s.self p.src job step 3 k c.1 c.2)) s) r.1)
    | _ => .next (none' s1)

/-- A job whose cut cannot be had ends on every package of its deck: event 0x0231, and JOB_LOST (R476, R486). -/
def State.cutLost (s : State) (n reason : Nat) (step : Word) (pkg : BitVec 12) : State :=
  let j := s.job n
  let s1 := s.raise 0x0231 j.id.toNat (step.toNat + pkg.toNat * 2 ^ 32 + reason * 2 ^ 44)
  let k := stepKey j.step
  let s2 := s1.tellMembers ((s1.deckOf j).filter (· ≠ s1.self)) j.id.toNat k (s1.attemptAt n k) 4 7 s1.self
  s2.loseJob n 0x0231 s2.self false

/-- The talon ends the fetch of a job: the lead and what it fetched, or none when it fetches no such job. -/
def State.endFetch (s : State) (job : Nat) : Option (BitVec 12 × Watched × State) :=
  match s.recov.takeover with
  | none => none
  | some (lead, ws) =>
    match ws.find? (fun w => w.job.toNat = job) with
    | none => none
    | some w =>
      some (lead, w, { s with recov := { s.recov with
        takeover := some (lead, ws.filter (fun v => v.job ≠ w.job)),
        restore := s.recov.restore.filter (fun x => x.1 ≠ w.job) } })

/-- A record fails its check at the talon: CUT_NONE to the lead, of the ward whose ID the talon now has (R486). -/
def State.fetchFails (s : State) (job : Nat) : State :=
  match s.endFetch job with
  | none => s
  | some (lead, w, s1) => s1.originate (cutRequest s1.self lead job 4 w.half s1.self w.cutStep w.cutOff w.cutMib)

/-- CUT_NONE (R486): at the talon a partner's answer goes on to the lead as it is; at the lead the job ends on every package of the deck, for the
talon's own failed check when the ward, whose ID the talon has, sent it, else for the partner's answer. -/
def execCutNone (src : Src) (s : State) : Host.Outcome State Fault Refusal :=
  match s.takePacket src (fun p => p.ptype.toNat = ptBulkReq && bits p.handle 12 4 = 3 && p.spec 32 1 = 4) with
  | none => .next s
  | some (p, s1) =>
    let job := tagJob p.tag
    match s1.findJob job with
    | some n =>
      let ward := BitVec.ofNat 12 (p.spec 34 2)
      if s1.leadOf (s1.job n) = s1.self then
        .next (s1.cutLost n (if ward = p.src then 4 else 3) (BitVec.ofNat 32 (p.spec 36 4)) p.src)
      else .next s1
    | none =>
      match s1.endFetch job with
      | none => .next s1
      | some (lead, _, s2) => .next (s2.sendCopy { p with dst := lead })

/-! ## Placing a job from its cut (R485, R486) -/

/-- A job's record with what a Dealer record gives it (R477, R483). -/
def Job.fromRecord (j : Job) (d : List Byte) : Job :=
  let vers : Tbl VerEntry := ((List.range 16).map (fun i =>
    let w := leAt d (32 + 8 * i) 8
    (i, ({ tag := BitVec.ofNat 8 (nbits w 56 8), state := nbits w 54 2 } : VerEntry)))).filter (fun (e : Nat × VerEntry) => e.2.state ≠ 0)
  let cur := match vers.find? (fun (e : Nat × VerEntry) => e.2.state = 2) with
    | some e => e.2.tag
    | none => j.curTag
  let bank := leAt d 5 1 % 2
  { j with
    step := BitVec.ofNat 32 (leAt d 0 4), nextTag := BitVec.ofNat 8 (leAt d 4 1), curTag := cur, versions := vers,
    jobSlots := leAt d 6 1, det := nbit (leAt d 5 1) 1, seed := BitVec.ofNat 64 (leAt d 8 8),
    phase := putBits (putBits (putBits j.phase 30 1 bank) 28 1 bank) 27 1 0 }

/-- The data records of a cut written back (R485, R486): true when each lies in the job's own memory. -/
def writeRecords (slot : Nat) : List CutRec → State → State × Bool
  | [], s => (s, true)
  | r :: rs, s =>
    if r.rkind = 1 || r.rkind = 2 then
      match s.writeView slot r.addr r.data with
      | (s1, true) => writeRecords slot rs s1
      | (s1, false) => (s1, false)
    else writeRecords slot rs s

/-- The talon places a job on the groups of its Dealer record, with its deck, and writes back its cut set; false when it cannot (R486).  A Meld
entry that was refused leaves `cfg_reject` set (R364). -/
def State.placeCut (s : State) (w : Watched) (rs : List CutRec) : State × Bool :=
  match dealerOf rs, (rs.find? (fun r => r.rkind = 4)).map (·.data), s.freeJobSlot with
  | some d, some image, some n =>
    match Config.decodeDeck image with
    | none => (s, false)
    | some deck =>
      let gs := (List.range 16).filter (fun g => nbit (leAt d 16 2) g)
      let first := gs.headD 0
      if s.host.pcieOnly || gs.isEmpty || gs ≠ upFrom first gs.length || gs.any (fun g => !s.groupFits g (nbit (leAt image 10 2) (g - first))) || !(s.tablesFit deck) then (s, false)
      else
        let s1 := s.modJob n (fun o =>
          let j := (jobOfDeck w.job first (image.take 64) deck image o.cut).fromRecord d
          { j with
            groups := gs.length, ring := leAt d 7 1, placed := true, restoring := true, cutStep := w.cutStep,
            desc := ⟨[], leAt d 7 1, 0, 0⟩ })
        match s1.loadTables n with
        | (s2, false) => (s.keepRejects s2, false)
        | (s2, true) =>
          match writeRecords n rs s2 with
          | (s3, false) => (s.keepRejects s3, false)
          | (s3, true) => (s3.retime, true)
  | _, _, _ => (s, false)

/-- CUT_READ (R486): records gathered at the talon; the last one places the job. -/
def execCutRead (src : Src) (s : State) : Host.Outcome State Fault Refusal :=
  match s.takePacket src (fun p => p.ptype.toNat = ptBulk && bits p.handle 12 4 = 3) with
  | none => .next s
  | some (p, s1) =>
    let job := tagJob p.tag
    let k := p.spec 40 4 % 4
    let got := fun (s : State) (k : Nat) => match s.recov.restore.find? (fun x => x.1.toNat = job && x.2.1 = k) with
      | some x => x.2.2
      | none => []
    match s1.recov.takeover with
    | none => .next (s1.noDestination src p)
    | some (_, ws) =>
      match ws.find? (fun w => w.job.toNat = job) with
      | none => .next (s1.noDestination src p)
      | some w =>
        if p.poison || p.spec 32 8 ≠ (got s1 k).length then .next (s1.fetchFails job)
        else
          let bs := got s1 k ++ p.payload.take (p.spec 48 2)
          let s2 := { s1 with recov := { s1.recov with
            restore := s1.recov.restore.filter (fun x => !(x.1 = w.job && x.2.1 = k)) ++ [(w.job, k, bs)] } }
          match readCut (got s2) job w.cutStep.toNat with
          | .more => .next s2
          | .bad => .next (s2.fetchFails job)
          | .done rs _ step =>
            if step ≠ w.cutStep.toNat then .next (s2.fetchFails job)
            else match s2.placeCut w rs with
              | (s3, false) => .next (s3.fetchFails job)
              | (s3, true) => .next { s3 with recov := { s3.recov with restore := s3.recov.restore.filter (fun x => x.1 ≠ w.job) } }

/-! ## The cut restored (R485, orders 4 and 6 to 8) -/

/-- Poisoned lines of a job's memory (R470). -/
def State.poisonedLines (s : State) (slot : Nat) : List Nat :=
  let j := s.job slot
  let rs := s.placeRanges j ++ s.gddrSlices j
  (s.poison.map (·.1)).filter (fun l => rs.any (fun r => decide (r.1 ≤ l * 64) && decide (l * 64 < r.2)))

/-- A survivor's cut set written back from the valid self half: false when the half is not a cut of the job, or holds poisoned data (R483,
R485, R486). -/
def State.readBack (s : State) (slot : Nat) : State × Bool :=
  let j := s.job slot
  if !(nbit j.cut.toNat 30) then (s, false)
  else match readCut (fun k => s.selfBytes slot k (bits j.cut 29 1)) j.id.toNat j.cutStep.toNat with
    | .done rs _ step =>
      match dealerOf rs with
      | none => (s, false)
      | some d =>
        let lines := ((cutStacks d).map (fun k => s.viewLines slot (j.selfHalf k (bits j.cut 29 1)) (halfLength rs k))).flatten
        let r := touchReads (some slot) true lines s
        if step ≠ j.cutStep.toNat || r.2 then (r.1, false)
        else match writeRecords slot rs r.1 with
          | (_, false) => (r.1, false)
          | (s1, true) => (s1.modJob slot (fun j => j.fromRecord d), true)
    | _ => (s, false)

/-- Every channel of a job at its reset, ready to open again; its counters go on (R242, R259, R485). -/
def State.resetChannels (s : State) (slot : Nat) : State :=
  (s.job slot).tiles.foldl (fun s L => s.modTile L (fun t => { t with
    eps := t.eps.map (fun (e : Nat × Endpoint) =>
      (e.1, { ({} : Endpoint) with
        cfg := e.2.cfg, peer := e.2.peer, base := e.2.base, spillBase := e.2.spillBase,
        msgs := e.2.msgs, bytes := e.2.bytes, sstall := e.2.sstall, rstall := e.2.rstall })) })) s

/-- The job's work since its cut is dropped: pending descriptors complete with STEP_REVOKED, and its step counter is the cut's (R485). -/
def State.restart (s : State) (slot : Nat) : State :=
  let why := match s.trk.shares.find? (fun (e : Nat × Share) => e.2.job = (s.job slot).id && e.2.phase = .drained) with
    | some e => (e.2.cause.toNat, e.2.origin)
    | none => (0, 0)
  let s1 := s.failDescs slot 0x20 (lostValue 0x0233 why.1 why.2)
  let s2 := s1.modJob slot (fun j => { j with
    step := j.cutStep, limited := [], run := none, passes := [], loads := [], page := none, pageDesc := none, attempt := 0, restored := true,
    cut := putBits j.cut 28 1 0, cutCopy := none, cutReady := false, cutBad := false, cutDue := false })
  let s3 := ((s2.haltJob slot 2).meldRevoke slot).resumeReset slot
  let s4 := s3.modTrk (fun u => { u with shares := u.shares.filter (fun (e : Nat × Share) => e.2.job ≠ (s3.job slot).id) })
  (s4.resetChannels slot).openChannels slot

/-- The lead's RESUME to every package of a restored job, whose deck tricks begin anew (R485, order 8). -/
def State.resumeDeck (s : State) (slot : Nat) : State :=
  let j := s.job slot
  if s.leadOf j ≠ s.self then s
  else
    let cs := s.trk.coords.filter (fun c => c.job = j.id)
    let s1 := cs.foldl (fun s c => s.sendResume j.id.toNat c) s
    let back := s1.recov.lost.filter (fun p => (s1.deckOf j).contains p)
    let s2 := s1.modTrk (fun u => { u with coords := u.coords.filter (fun c => c.job ≠ j.id) })
    { s2 with recov := { s2.recov with
      lost := s2.recov.lost.filter (fun p => !back.contains p), ordered := s2.recov.ordered.filter (fun p => !back.contains p) } }

/-- CUT_RESTORED (R477, R485 orders 4 and 6 to 8, R487): once its tricks are drained, a survivor restores its self half; a talon has written the
cut it fetched.  Channels open again, pending descriptors complete, and event 0x0233 is raised. -/
def execCutRestored (slot : Fin 16) (s : State) : Host.Outcome State Fault Refusal :=
  let n := slot.val
  let j := s.job n
  let drained := s.trk.shares.all (fun (e : Nat × Share) => e.2.job ≠ j.id || e.2.phase = .drained || (e.2.isPass && e.2.phase = .opened))
  let agreed := s.leadOf j ≠ s.self || (s.trk.coords.filter (fun c => c.job = j.id)).all (fun c => s.doneAll c)
  if !j.valid || j.endingLost || !j.restoring || j.restored || !drained || !agreed then .next s
  else
    let talon := (match s.recov.takeover with
      | some (_, ws) => ws.any (fun w => w.job = j.id)
      | none => false)
    let lines := s.poisonedLines n
    let put := if talon then
        ({ s with recov := { s.recov with takeover := s.recov.takeover.map (fun t => (t.1, t.2.filter (fun w => w.job ≠ j.id))) } }, true)
      else s.readBack n
    match put with
    | (s1, false) => .next (s1.cutLost n 4 j.cutStep s.self)
    | (s1, true) =>
      let s2 := s1.restart n
      let routes := j.deck.talonRoutes.filter (fun r => s2.recov.lost.contains r.dest)
      let s3 := (s2.writeBanks routes).modJob n (fun j => { j with rolledLines := lines.map (fun l => (l, j.cutStep)) })
      .next ((s3.raise 0x0233 j.id.toNat j.cutStep.toNat).resumeDeck n)

end Sys2Proof.Machine
end

