-- ==== Sys2Proof/Machine/Gddr.lean ====
section
/-! DEFINITION. Gddr.lean: the GDDR7 controllers (R213, R217 to R236), the host's CXL.mem accesses (R204, R217), and the memory layout of
a stack (R182, R205, R233). -/
namespace Sys2Proof.Machine

/-- The controllers of a stack. -/
def gdsOf (k : Nat) : List Nat := upFrom (5 * k) 5

/-- GDDR_TRAINED (R229): the device holds zeros with valid check bytes, and `trained` is set. -/
def execGddrTrained (ctrl : Fin 20) (s : State) : Host.Outcome State Fault Refusal :=
  let g := s.gd ctrl
  if !s.pkg.gddrResetN || g.trained || g.trainFail then .next s
  else
    let mine := fun (a : Nat) => isGddr a && controllerOf a = ctrl.val
    .next (({ s with
      mem := s.mem.filter (fun e => !(mine e.1)),
      poison := s.poison.filter (fun e => !(mine (e.1 * 64))),
      flaws := s.flaws.filter (fun e => !(mine (e.1 * 64))) }).modGd ctrl (fun g => { g with trained := true }))

/-- GDDR_TRAINING_FAILED (R230, R492): the third failed attempt sets `train_fail`. -/
def execGddrTrainingFailed (ctrl : Fin 20) (s : State) : Host.Outcome State Fault Refusal :=
  let g := s.gd ctrl
  if !s.pkg.gddrResetN || g.trained || g.trainFail then .next s
  else if g.attempts < 2 then .next (s.modGd ctrl (fun g => { g with attempts := g.attempts + 1 }))
  else
    .next (((s.modGd ctrl (fun g => { g with attempts := 3, trainFail := true })).raise 0x0620 0 (ctrl.val * 2 ^ 48)).degrade 3)

/-! ## Temperature (R227, R228) -/

/-- Threshold of a throttle step (R227, R234). -/
def Gd.threshold (g : Gd) (step : Nat) : Nat := bits g.thr (8 * (step - 1)) 8

/-- The step that a temperature gives from the thresholds alone. -/
def Gd.directStep (g : Gd) (t : Nat) : Nat :=
  if g.threshold 4 ≤ t then 4 else if g.threshold 3 ≤ t then 3 else if g.threshold 2 ≤ t then 2 else if g.threshold 1 ≤ t then 1 else 0

/-- A step falls while the temperature is at least 3 °C below the threshold of the step it leaves. -/
def Gd.fallFrom (g : Gd) (t : Nat) : Nat → Nat
  | 0 => 0
  | c + 1 => if t + 3 ≤ g.threshold (c + 1) then g.fallFrom t c else c + 1

/-- Margining on a stack is aborted when a device leaves step 0 (R232); what was found of its channels so far is dropped (log 192, DESIGN
CHOICE). -/
def State.abortMargining (s : State) (k : Nat) : State :=
  (gdsOf k).foldl (fun s n =>
    if (s.gd n).marginBusy then s.modGd n (fun g => { g with marginBusy := false, marginDone := true, marginResult := 2 }) else s) s

/-- A controller's throttle step after a poll (R227, R232). -/
def State.setThrottleStep (s : State) (n step : Nat) : State :=
  let g := s.gd n
  if g.thrStep = step then s
  else
    let s1 := (s.modGd n (fun g => { g with thrStep := step })).raise 0x0610 0 (step + g.tempC.toNat * 2 ^ 8 + n * 2 ^ 48)
    if g.thrStep = 0 then s1.abortMargining (n / 5) else s1

/-- GDDR_TEMP_POLL (R227, R228): a reading, or a failed read. -/
def execGddrTempPoll (ctrl : Fin 20) (reading : Option (BitVec 8)) (s : State) : Host.Outcome State Fault Refusal :=
  let g := s.gd ctrl
  if s.pkg.inReset then .next s
  else match reading with
  | some t =>
    let step := if g.tempFail then g.directStep t.toNat else max (g.directStep t.toNat) (g.fallFrom t.toNat g.thrStep)
    .next ((s.modGd ctrl (fun g => { g with tempC := t, badReads := 0, tempFail := false })).setThrottleStep ctrl step)
  | none =>
    if g.tempFail then .next s
    else if g.badReads = 0 then .next (s.modGd ctrl (fun g => { g with badReads := 1 }))
    else
      .next (((s.modGd ctrl (fun g => { g with badReads := 2, tempFail := true })).raise 0x0611 0 (ctrl.val * 2 ^ 48)).setThrottleStep
        ctrl 4)

/-- GD_THR_WRITE (R234): discarded whole above a reset value or out of order. -/
def State.writeGdThr (s : State) (n : Nat) (v : Word) : State :=
  let t := fun (i : Nat) => bits v (8 * i) 8
  if t 0 ≤ 85 && t 1 ≤ 95 && t 2 ≤ 100 && t 3 ≤ 105 && t 0 < t 1 && t 1 < t 2 && t 2 < t 3 then
    s.modGd n (fun g => { g with thr := v })
  else s

def execGdThrWrite (ctrl : Fin 20) (value : BitVec 32) (s : State) : Host.Outcome State Fault Refusal := .next (s.fromHost (s.writeGdThr ctrl value))

/-- ERR_CLR (R234): GD_ERR is cleared. -/
def State.clearGdErr (s : State) (n : Nat) : State := s.modGd n (fun g => { g with ceCount := 0, ueCount := 0 })

def execErrClr (ctrl : Fin 20) (s : State) : Host.Outcome State Fault Refusal := .next (s.fromHost (s.clearGdErr ctrl))

/-! ## Retraining and margining (R231, R232) -/

/-- GDDR_RETRAIN (R231): a channel is retrained. -/
def execGddrRetrain (ctrl : Fin 20) (channel : Fin 4) (s : State) : Host.Outcome State Fault Refusal :=
  if (s.gd ctrl).trained && !s.pkg.inReset then
    .next (s.modGd ctrl (fun g => { g with retrained := some channel.val, retrains := g.retrains + 1 }))
  else .next s

/-- First byte of the management area's part on a channel slot of a stack (R214, R218). -/
def marginAddr (k c : Nat) : Nat := gddrOf k + ((19136 * mib / 256 + 19 - c) / 20 * 20 + c) * 256

/-- The test patterns written at the start of the part of each of a device's channels (R232): their bytes and their length are left open
(log 145). -/
def State.writePatterns (s : State) (n : Nat) : State :=
  (upFrom (4 * (n % 5)) 4).foldl (fun s c =>
    let f := s.freeBytes 256
    f.1.storeCells none (cellsAt (marginAddr (n / 5) c) f.2)) s

/-- MARGINING_START (R232): refused while a job holds a group of the stack or a device of it is throttled. -/
def State.startMargining (s : State) (n : Nat) : State :=
  let k := n / 5
  if s.stackBusy k || (gdsOf k).any (fun i => (s.gd i).thrStep ≠ 0) then
    s.modGd n (fun g => { g with marginDone := true, marginResult := 3 })
  else (s.writePatterns n).modGd n (fun g => { g with marginBusy := true })

def execMarginingStart (ctrl : Fin 20) (s : State) : Host.Outcome State Fault Refusal := .next (s.fromHost (s.startMargining ctrl))

/-- Whether a pin's margins pass (R232): left and right, then low and high. -/
def Gd.marginPass (g : Gd) (w : Word) : Bool :=
  decide (g.minUi ≤ min (bits w 24 8) (bits w 16 8)) && decide (g.minVref ≤ min (bits w 8 8) (bits w 0 8))

/-- A pin's four margins as its sweeps give them: each stops at 63 steps (R232). -/
def cappedMargins (w : Word) : Word :=
  let c := fun (i : Nat) => min 63 (bits w (8 * i) 8)
  BitVec.ofNat 32 (c 0 + c 1 * 2 ^ 8 + c 2 * 2 ^ 16 + c 3 * 2 ^ 24)

/-- MARGINING_DONE (R232): the margins of the 32 pins are stored and judged. -/
def execMarginingDone (ctrl : Fin 20) (margins : List (BitVec 32)) (s : State) : Host.Outcome State Fault Refusal :=
  let g := s.gd ctrl
  if !g.marginBusy then .next s
  else
    let pins := (List.range 32).map (fun p => (p, cappedMargins (margins.getD p 0)))
    let result := if pins.all (fun e => g.marginPass e.2) then 0 else 1
    let s1 := s.modGd ctrl (fun g => { g with marginBusy := false, marginDone := true, marginResult := result, marginDq := pins })
    .next (if result = 1 then s1.raise 0x0621 0 (1 + ctrl.val * 2 ^ 48) else s1)

/-! ## Scrubbing (R222) -/

/-- Data sectors of a device: 19,200 MiB over 20 channels, four of them in the device (R218). -/
def sectorsPerDevice : Nat := 62914560

/-- Physical address of the sector at a scrub position: in order of channel address, the four channels in turn (R218, R222). -/
def scrubAddr (n p : Nat) : Nat :=
  let q := p / 4
  gddrOf (n / 5) + (q / 4 * 20 + 4 * (n % 5) + p % 4) * 256 + q % 4 * 64

/-- SCRUB_VISIT (R221, R222): the next sector is read, and corrected or poisoned; a write that has overtaken the visit stands. -/
def execScrubVisit (ctrl : Fin 20) (outcome : ReadOutcome) (overtaken : Bool) (s : State) : Host.Outcome State Fault Refusal :=
  let g := s.gd ctrl
  if !(nbit g.scrub.toNat 31) || !g.trained || s.pkg.inReset then .next s
  else
    let line := scrubAddr ctrl g.scrubPos / 64
    let s0 := match outcome with
      | .clean => s
      | .corrected => { s with flaws := tput s.flaws line 1 }
      | .uncorrectable => { s with flaws := tput s.flaws line 2 }
    let s1 := (s0.readLine none line).1
    let s2 := if overtaken && !s.isPoisoned line then s1.clearPoison line else s1
    .next (s2.modGd ctrl (fun g => { g with scrubPos := (g.scrubPos + 1) % sectorsPerDevice }))

/-! ## Addresses within a stack's GDDR7 (R213, R218, R219) -/

/-- A line's place within its stack (R218): device, channel, code group, data line of the group, bank, row and channel address. -/
structure GddrPlace where
  device : Nat
  channel : Nat
  group : Nat
  line : Nat
  bank : Nat
  row : Nat
  addr : Nat
  deriving DecidableEq, Repr

/-- R218's map of a linear offset. -/
def gddrPlace (o : Nat) : GddrPlace :=
  let l := o / 256
  let c := l % 20
  let a := l / 20
  let grp := a / 15
  { device := c / 4, channel := c % 4, group := grp, line := a % 15,
    bank := nbits grp 0 4 ^^^ nbits grp 4 4 ^^^ nbits grp 8 4, row := nbits grp 4 14,
    addr := grp * 4096 + a % 15 * 256 + o % 256 }

/-- Channel address of the check bytes of the sector that holds a linear offset: four bytes in the group's code line, eight sectors to a
32-byte chunk (R213, R219). -/
def checkAddr (o : Nat) : Nat :=
  let p := gddrPlace o
  p.group * 4096 + 3840 + (p.line * 256 + o % 256) / 64 * 4

/-- Channel address of a group's metadata, which holds the poison bit of each of its 60 sectors (R213). -/
def metadataAddr (o : Nat) : Nat := (gddrPlace o).group * 4096 + 4080

/-- The check bytes that a write of a sector computes (R219, R220); the code is the design's own (log 142). -/
def sectorCheck (bs : List Byte) : List Byte := (List.range 4).map (fun i => Config.checkByte bs i)

/-! ## Host CXL.mem accesses (R204, R217, R392) -/

/-- HOST_MEM_READ (R204, R216, R217): the bytes go to the host. -/
def execHostMemRead (offset : BitVec 48) (bytes : Nat) (amb : Ambient) (s : State) : Host.Outcome State Fault Refusal :=
  if !s.awake then .next s
  else if 4 ≤ hdmStack offset.toNat then .fault .hdmOffsetOutOfRange else .next ((s.applyAmb amb).hostAccess (.read offset bytes))

/-- HOST_MEM_WRITE (R204, R216, R217, R220): a write to a group slice takes effect; one to the cut region or the management area is
discarded. -/
def execHostMemWrite (offset : BitVec 48) (data : List (BitVec 8)) (s : State) : Host.Outcome State Fault Refusal :=
  if !s.awake then .next s
  else if 4 ≤ hdmStack offset.toNat then .fault .hdmOffsetOutOfRange else .next (s.hostAccess (.write offset data))

/-! ## Memory layout of a stack (R182, R205, R233) -/

/-- STK_MEM_CFG_WRITE (R205). -/
def State.writeMemCfg (s : State) (k : Nat) (v : Word) : State :=
  let s1 := if nbit v.toNat 30 then s.modStack k (fun x => { x with memReject := false }) else s
  if s1.stackBusy k || 16 < bits v 0 5 then s.modStack k (fun x => { x with memReject := true })
  else s1.modStack k (fun x => { x with memBusy := some (bits v 0 5) })

def execStkMemCfgWrite (stack : Fin 4) (value : BitVec 32) (s : State) : Host.Outcome State Fault Refusal :=
  .next (s.fromHost (s.writeMemCfg stack value))

/-- FAR_CACHE_RESIZE_DONE (R205): the far cache is empty and has its new size. -/
def execFarCacheResizeDone (stack : Fin 4) (s : State) : Host.Outcome State Fault Refusal :=
  match (s.stack stack).memBusy with
  | none => .next s
  | some f => .next (s.modStack stack (fun x => { x with far4m := f, memBusy := none, far := [] }))

/-- STK_GDDR_CFG_WRITE (R233): an accepted change discards a held cut.  One that comes while `busy` is set replaces the layout being applied,
and until `busy` clears `cut_512m` and `gslice_mib` read the layout in effect (log 146). -/
def State.writeGddrCfg (s : State) (k : Nat) (v : Word) : State :=
  let c := bits v 0 5
  let s1 := if nbit v.toNat 30 then s.modStack k (fun x => { x with gddrReject := false }) else s
  let x := s1.stack k
  if s1.stackBusy k || 16 < c then s.modStack k (fun x => { x with gddrReject := true })
  else if x.gddrBusy.getD x.cut512 = c then s1
  else
    let s2 := if x.cutHeld then s1.raise 0x0630 0 (k + x.cutHeldStep.toNat * 2 ^ 32) else s1
    s2.modStack k (fun x => { x with gddrBusy := some c, cutHeld := false, cutHeldStep := 0 })

def execStkGddrCfgWrite (stack : Fin 4) (value : BitVec 32) (s : State) : Host.Outcome State Fault Refusal :=
  .next (s.fromHost (s.writeGddrCfg stack value))

/-- GDDR_LAYOUT_DONE (R233): everything but the management area and the start of slice 0 is zero, and the new layout is in effect. -/
def execGddrLayoutDone (stack : Fin 4) (s : State) : Host.Outcome State Fault Refusal :=
  let k := stack.val
  match (s.stack k).gddrBusy with
  | none => .next s
  | some c =>
    let old := s.gsliceBytes k
    let s1 := s.modStack k (fun x => { x with cut512 := c, gddrBusy := none })
    .next (s1.zeroRanges [(gddrOf k + min old (s1.gsliceBytes k), gddrOf k + 19136 * mib)])

end Sys2Proof.Machine
end

