-- ==== Sys2Proof/Machine/HostWindow.lean ====
section
/-! DEFINITION. HostWindow.lean: commands on the host window (R197 to R200, R393): snoops of fetched lines, page requests, ATS
invalidations and writes of table entries. -/
namespace Sys2Proof.Machine

/-- HOST_LINE_SNOOP (R200): a held line that has not been delivered is marked stale; one that has been delivered is given up; a line that the buffer does not hold is no
concern of it. -/
def execHostLineSnoop (line : BitVec 58) (s : State) : Host.Outcome State Fault Refusal :=
  if s.host.fetchLines.contains line.toNat && s.host.aheadLines.contains line.toNat then
    .next (s.modHost (fun h => { h with staleLines := addOnce h.staleLines line.toNat }))
  else .next (s.modHost (fun h => { h with fetchLines := h.fetchLines.filter (· ≠ line.toNat) }))

/-- The oldest page request of a tile leaves the list. -/
def State.takeRequest (s : State) (L : Nat) : Option (Nat × State) :=
  match takeFirst (fun (r : Nat × Nat) => r.1 = L) s.host.pageRequests with
  | none => none
  | some (r, rest) => some (r.2, s.modHost (fun h => { h with pageRequests := rest }))

/-- The oldest page request of the hub that the host has not answered is answered (R198): a granted one is forgotten, so that the fetch is tried
again; a failed one keeps its failure code for the fetch. -/
def State.answerHub (s : State) (why : Nat) : State :=
  match takeFirst (fun (r : Nat × Nat × Nat) => r.2.2 = 0) s.host.hubRequests with
  | none => s
  | some (r, rest) =>
    s.modHost (fun h => { h with hubRequests := if why = 0 then rest else rest ++ [(r.1, r.2.1, why)] })

/-- PAGE_REQUEST_RESPONSE (R198): with the page granted the access is tried again; a request that fails is a fault.  Tile 128 is the hub
itself.  While the host link is lost no request is answered: the access waits (R424; log 170). -/
def execPageRequestResponse (tile : Fin 129) (granted : Bool) (amb : Ambient) (s : State) : Host.Outcome State Fault Refusal :=
  let L := tile.val
  if !s.host.attached then .next s
  else if L = hubTile then .next ((s.applyAmb amb).answerHub (if granted then 0 else 5))
  else match s.takeRequest L with
  | none => .next s
  | some (v, s1) =>
    if !granted then .next (s1.hostFault L v 5 false)
    else
      let job := match s1.slotOfTile L with
        | some n => (s1.job n).id.toNat
        | none => 0
      match (s1.applyAmb amb).translate job v false with
      | (s2, .ok _) => .next (s2.retryAccess L v)
      | (s2, .fail why) => .next (if why = 3 then s2.retryAccess L v else s2.hostFault L v (if why = 4 then 5 else why) false)

/-- PAGE_REQUEST_TIMEOUT (R198); never a fault while the host link is lost (R424; log 170). -/
def execPageRequestTimeout (tile : Fin 129) (s : State) : Host.Outcome State Fault Refusal :=
  if !s.host.attached then .next s
  else if tile.val = hubTile then .next (s.answerHub 6)
  else match s.takeRequest tile with
  | none => .next s
  | some (v, s1) => .next (s1.hostFault tile v 6 false)

/-- ATS_INVALIDATION (R393): the translations of a range of 4 KiB pages are dropped, and the invalidation completes. -/
def execAtsInvalidation (firstPage lastPage : BitVec 52) (s : State) : Host.Outcome State Fault Refusal :=
  .next (s.fromHost ((s.modHost (fun h => { h with
    ats := h.ats.filter (fun (e : Nat × Nat) => decide (e.1 < firstPage.toNat) || decide (lastPage.toNat < e.1)) })).emit .atsInvalidated))

/-- Bits of an entry that can be written (R197). -/
def hwtMask : Dword := 0xFFFFFFFFFFFFFE0F

/-- HWT_ENTRY_WRITE (R199): the indexed entry is written whole. -/
def State.writeHwt (s : State) (v : Dword) : State :=
  s.modHost (fun h => { h with hwt := tput h.hwt h.hwtIndex.toNat (v &&& hwtMask) })

def execHwtEntryWrite (value : BitVec 64) (s : State) : Host.Outcome State Fault Refusal := .next (s.fromHost (s.writeHwt value))

end Sys2Proof.Machine
end

