-- ==== Sys2Proof/Machine/Telemetry.lean ====
section
/-! DEFINITION. Telemetry.lean: the event recorder and the journal in board flash (R536 to R541), the rate limiter's refill (R534), the power
monitor and the PLDM sensors (R531, R544, R545), the management controller's watchdog (R546), and the recorder's MCTP reads (R543). -/
namespace Sys2Proof.Machine

/-! ## Board flash (R496, R536) -/

/-- A byte of flash; erased flash reads 0xFF. -/
def flashByte (m : Mem) (a : Nat) : Byte := tget 0xFF m a

def flashRead (m : Mem) (a n : Nat) : List Byte := (List.range n).map (fun i => flashByte m (a + i))

/-- A byte of flash programmed; the byte 0xFF is the absence of an entry. -/
def flashSet (m : Mem) (a : Nat) (b : Byte) : Mem := if b = 0xFF then tdel m a else tput m a b

def flashWrite (m : Mem) (a : Nat) : List Byte → Mem
  | [] => m
  | b :: r => flashWrite (flashSet m a b) (a + 1) r

/-- Flash from `lo` up to `hi` erased. -/
def flashErase (m : Mem) (lo hi : Nat) : Mem := m.filter (fun e => decide (e.1 < lo) || decide (hi ≤ e.1))

/-! ## The recorder (R536 to R539) -/

def recorderBase : Nat := 0x3100000

def recorderSlots : Nat := 131072

/-- A record in flash (R536). -/
def recordBytes (r : EventRec) : List Byte :=
  let b := leBytes 2 r.code.toNat ++ leBytes 2 r.job.toNat ++ leBytes 8 r.stamp.toNat ++ leBytes 4 r.suppressed.toNat
    ++ leBytes 4 r.seq.toNat ++ leBytes 8 r.detail.toNat
  b ++ leBytes 4 (crc32c b).toNat

/-- A record programmed into the next slot. -/
def State.putRecord (s : State) (r : EventRec) : State :=
  { s with
    flash := flashWrite s.flash (recorderBase + s.tel.next * 32) (recordBytes r),
    tel := { s.tel with next := s.tel.next + 1 } }

/-- An event that does not reach the recorder is counted (R537, R541). -/
def State.recorderMiss (s : State) : State := s.modTel (fun t => { t with dropped := satNat 16 t.dropped 1 })

/-- When a single slot remains, event 0x0C04 is written into it and recording stops (R539); one that has no token is written all the same, and
goes no further (log 177). -/
def State.lastSlot (s : State) : State :=
  if s.tel.full || s.tel.clearing || s.tel.next + 1 ≠ recorderSlots then s
  else
    let w := match s.takeToken 0x0C04 0 0 with
      | (s1, some e) => (s1.deliverEvent e).putRecord e
      | (s1, none) => s1.putRecord { code := 0x0C04, job := 0, detail := 0, suppressed := 0, seq := s.host.evSeq, stamp := s.stamp }
    w.modTel (fun t => { t with full := true })

/-- A record is programmed, or has missed the recorder; the last slot takes event 0x0C04 (R539). -/
def State.programRecord (s : State) (r : EventRec) : State :=
  if s.tel.full || s.tel.clearing || recorderSlots ≤ s.tel.next + 1 then s.recorderMiss.lastSlot
  else (s.putRecord r).lastSlot

/-- RECORDER_PROGRAM (R537, R539): the oldest queued record is programmed into the next slot. -/
def execRecorderProgram (s : State) : Host.Outcome State Fault Refusal :=
  match s.tel.queue with
  | [] => .next s
  | r :: q =>
    if s.tel.full || s.tel.clearing || s.tel.mcReset || s.pkg.inReset || !s.sec.running then .next s
    else .next ((s.modTel (fun t => { t with queue := q })).programRecord r)

/-- Slots in use, as the controller finds them in flash at power-on (R536). -/
def usedSlots (m : Mem) : Nat :=
  m.foldl (fun a (e : Nat × Byte) =>
    if recorderBase ≤ e.1 && e.1 < recorderBase + 32 * recorderSlots then max a ((e.1 - recorderBase) / 32 + 1) else a) 0

/-- RATE_LIMIT_REFILL (R534, R535): a token is added to a code's bucket that holds fewer than the burst in force. -/
def execRateLimitRefill (code : BitVec 16) (s : State) : Host.Outcome State Fault Refusal :=
  let b := tget {} s.tel.buckets code.toNat
  if b.tokens < b.burst then
    .next (s.modTel (fun t => { t with buckets := tput t.buckets code.toNat { b with tokens := b.tokens + 1 } }))
  else .next s

/-! ## The journal (R538) -/

def journalBase : Nat := 0x3500000

def journalEntries : Nat := 32768

/-- An entry of the journal. -/
def journalBytes (stamp : Dword) (count : Word) : List Byte :=
  let b := leBytes 8 stamp.toNat ++ leBytes 4 count.toNat ++ leBytes 16 0
  b ++ leBytes 4 (crc32c b).toNat

/-- A new entry of the journal, its block erased before its first entry (R538). -/
def State.enterJournal (s : State) : State :=
  let i := s.tel.journalNext
  let a := journalBase + i * 32
  let f := if i % 2048 = 0 then flashErase s.flash a (a + 0x10000) else s.flash
  let c := s.tel.journalCount + 1
  { s with
    flash := flashWrite f a (journalBytes s.stamp c),
    tel := { s.tel with journalCount := c, journalNext := (i + 1) % journalEntries } }

/-- JOURNAL_WRITE (R538): a new entry every 60 s; a failed write raises event 0x0C06 and moves to the next
block. -/
def execJournalWrite (failed : Bool) (s : State) : Host.Outcome State Fault Refusal :=
  if s.tel.mcReset || !s.sec.running then .next s
  else
    let i := s.tel.journalNext
    if failed then
      .next ((s.raise 0x0C06 0 (i / 2048)).modTel (fun t => { t with journalNext := (i / 2048 + 1) * 2048 % journalEntries }))
    else
      .next s.enterJournal

/-- The valid journal entries in flash: index, stamp, counter. -/
def journalValid (m : Mem) : List (Nat × Nat × Nat) :=
  let used := (m.filterMap (fun (e : Nat × Byte) =>
    if journalBase ≤ e.1 && e.1 < journalBase + 32 * journalEntries then some ((e.1 - journalBase) / 32) else none)).dedup
  used.filterMap (fun i =>
    let b := flashRead m (journalBase + i * 32) 32
    if leAt b 28 4 = (crc32c (b.take 28)).toNat then some (i, leAt b 0 8, leAt b 8 4) else none)

/-- What the controller takes from the journal at power-on (R538): operating time, power-cycle count, the counter and the next entry. -/
def Telemetry.readJournal (t : Telemetry) (m : Mem) : Telemetry :=
  let best := (journalValid m).foldl (fun (a : Option (Nat × Nat × Nat)) e =>
    match a with
    | none => some e
    | some b => if later 32 e.2.2 b.2.2 then some e else some b) none
  match best with
  | none => { t with seconds := 0, powerCycles := 0 }
  | some (i, stamp, c) =>
    { t with
      seconds := BitVec.ofNat 40 (stamp % 2 ^ 40), powerCycles := BitVec.ofNat 24 (satNat 24 (stamp / 2 ^ 40) 1),
      journalCount := BitVec.ofNat 32 c, journalNext := (i + 1) % journalEntries }

/-! ## Power and sensors (R531, R544, R545) -/

/-- POWER_MONITOR_SAMPLE (R531, R545): the energy of each rail over 10 µs, in µJ, is added to its count and to the package's. -/
def execPowerMonitorSample (microjoules : List (BitVec 32)) (s : State) : Host.Outcome State Fault Refusal :=
  if s.pkg.inReset then .next s
  else
    let es := microjoules.take 15
    .next (s.modTel (fun t => { t with
      railEnergy := es.zipIdx.foldl (fun m e => tput m e.2 (tget 0 m e.2 + e.1.setWidth 64)) t.railEnergy,
      energy := es.foldl (fun a e => a + e.setWidth 64) t.energy }))

/-- Energy of a rail since the last 1 ms boundary, in µJ. -/
def Telemetry.railMs (t : Telemetry) (i : Nat) : Nat := (tget 0 t.railEnergy i - tget 0 t.railAt i).toNat

/-- The reading of a PLDM numeric sensor; none where its operational state is "unavailable" (R544, R553). -/
def Telemetry.sensor (t : Telemetry) (id : Nat) : Option Nat :=
  if (1 ≤ id && id ≤ 46) || (64 ≤ id && id ≤ 67) then some (tget 0 t.sensors id) else none

/-- PLDM_SENSOR_UPDATE (R544, R545, R553): the numeric sensors and the package power at a 1 ms boundary; while the controller's core is in reset
nothing is updated, and the next millisecond begins (log 104). -/
def execPldmSensorUpdate (s : State) : Host.Outcome State Fault Refusal :=
  if s.pkg.inReset then .next s
  else if s.tel.mcReset then .next (s.modTel (fun t => { t with railAt := t.railEnergy }))
  else
    let t := s.tel
    let temps := (List.range 11).map (fun d => (tget 0 s.pkg.temps d).toNat)
    let gds := (List.range 20).map (fun n => (s.gd n).tempC.toNat)
    let rails := (List.range 15).map t.railMs
    let total := rails.foldl (· + ·) 0
    let values := temps ++ gds ++ rails.map (· / 1000)
    let last := [total / 1000, t.energy.toNat / 1000000000, t.seconds.toNat, t.powerCycles.toNat]
    .next (s.modTel (fun t => { t with
      sensors := (values.zipIdx 1 ++ last.zipIdx 64).map (fun e => (e.2, e.1)),
      powerDw := BitVec.ofNat 16 (satNat 16 (total / 100) 0),
      railAt := t.railEnergy }))

/-! ## The management controller's watchdog (R546) -/

/-- MC_WATCHDOG_EXPIRY (R546): only the controller's core is reset; a third reset within 600 s holds it in reset and sets `degraded`. -/
def execMcWatchdogExpiry (s : State) : Host.Outcome State Fault Refusal :=
  if s.tel.mcReset || !s.sec.running then .next s
  else
    let times := s.tel.wdogTimes ++ [s.now]
    let held := decide (3 ≤ (times.filter (fun t => decide (s.now ≤ t + 600000000))).length)
    let s1 := s.modTel (fun t => { t with
      wdogResets := satNat 16 t.wdogResets 1, wdogTimes := times, mcReset := true, mcHeld := held })
    let s2 := s1.modSec (fun x => { x with
      sessions := [], versionDone := false, capsDone := false, algsDone := false, chunkIn := [], chunkOut := [], chunkSeq := 0,
      busy := false, waiting := [], burn := none })
    .next (if held then s2.degrade 6 else s2)

/-- MC_RESTART (R546): the ROM restarts the controller's firmware, which raises event 0x0C01, sets clocks and voltages again, and measures power
from now on (log 104). -/
def execMcRestart (s : State) : Host.Outcome State Fault Refusal :=
  if s.tel.mcReset && !s.tel.mcHeld then
    .next ((s.modTel (fun t => { t with mcReset := false, railAt := t.railEnergy })).raise 0x0C01 0 s.tel.wdogResets).retime
  else .next s

/-! ## MCTP reads of the recorder (R541, R543) -/

/-- EVR_STATUS and EVR_QUEUE (R541). -/
def State.evrStatus (s : State) : Nat := b2n s.tel.full * 2 ^ 31 + b2n s.tel.clearing * 2 ^ 30 + s.tel.next

def State.evrQueue (s : State) : Nat := s.tel.dropped * 2 ^ 16 + s.tel.queue.length

/-- REC_READ (R543): records from a start index, as many as a transmission unit holds; the requester's unit is at most the one negotiated. -/
def execRecRead (start : BitVec 32) (unit : BitVec 16) (s : State) : Host.Outcome State Fault Refusal :=
  if s.mctpAnswers then
    let n := min ((min unit.toNat s.tel.mctpUnit - 16) / 32) (recorderSlots - start.toNat)
    .next (s.emit (.response (flashRead s.flash (recorderBase + start.toNat * 32) (n * 32))))
  else .next s

/-- REC_STATUS (R543). -/
def execRecStatus (s : State) : Host.Outcome State Fault Refusal :=
  if s.mctpAnswers then .next (s.emit (.response (leBytes 4 s.evrStatus ++ leBytes 4 s.evrQueue))) else .next s

end Sys2Proof.Machine
end

