-- ==== Sys2Proof/Machine/Power.lean ====
section
/-! DEFINITION. Power.lean: the package's resets, power capping, rails and thermal limits (R547, R552 to R572). -/
namespace Sys2Proof.Machine

/-! ## Power-on reset (R524, R547, R557, R560, R561, R571) -/

/-- POWER_ON_RESET (R557, R560): PWRGD_IN falls. Everything returns to its reset value but board flash, the fuses, the host's memory, the dies'
feature levels and the levels of the input pins; free values go on from where they stood. -/
def execPowerOnReset (s : State) : Host.Outcome State Fault Refusal :=
  .next { State.reset with
    pending := s.pending, flash := s.flash, fuses := s.fuses, hostMem := s.hostMem,
    out := s.out, now := s.now, free := s.free,
    host := { State.reset.host with levels := s.host.levels, perstHigh := s.host.perstHigh, atsCount := s.host.atsCount },
    pkg := { State.reset.pkg with prochot := s.pkg.prochot },
    sec := { State.reset.sec with drawn := s.sec.drawn } }

/-- Whether a die runs (R568, R571): 0–3 are the compute dies and 4–7 the base dies of S0–S3, 8 is the hub, 9 and 10 are PD0 and PD1. -/
def Package.dieRuns (p : Package) (d : Nat) : Bool :=
  !p.inReset && match p.testMode.toNat with
    | 0 => true
    | 1 => d = 8
    | 2 => decide (d < 8)
    | 3 => d = 9 || d = 10
    | 4 => true
    | _ => false

/-- What a die-to-die module, numbered as in R473, does (R571). -/
inductive ModuleUse where
  /-- It stands still: its dies do not run. -/
  | idle
  /-- It carries the package's traffic. -/
  | traffic
  /-- It loops back at its own PHY. -/
  | loopBack
  /-- It drives PRBS31 across its edge at 32 GT/s. -/
  | prbs31
  deriving DecidableEq, Repr

/-- The dies at a module's edge, by their kinds (R473). -/
def moduleOnHub (m : Nat) : Bool := (32 ≤ m && m < 48) || (80 ≤ m && m < 84)
def moduleOnBase (m : Nat) : Bool := m < 80
def moduleOnPort (m : Nat) : Bool := 48 ≤ m && m < 84

/-- What each module does in each test mode (R571). -/
def Package.moduleUse (p : Package) (m : Nat) : ModuleUse :=
  if p.inReset then .idle
  else match p.testMode.toNat with
    | 0 => .traffic
    | 1 => if moduleOnHub m then .loopBack else .idle
    | 2 => if moduleOnBase m then .loopBack else .idle
    | 3 => if moduleOnPort m then .loopBack else .idle
    | 4 => .prbs31
    | _ => .idle

/-- Whether the Hethlink lanes loop back inside the PHY (R571). -/
def Package.lanesLoopBack (p : Package) : Bool := !p.inReset && p.testMode = 3

/-- Those of the numbers below `w` that `run` accepts, as a mask. -/
def maskOf (w : Nat) (run : Nat → Bool) : BitVec w :=
  BitVec.ofNat w ((List.range w).foldl (fun a i => a + if run i then 2 ^ i else 0) 0)

/-- Built-in self-test runs once, on the dies that run and the modules that they use; its results are free values, and what does not run has not
passed (R571, R572; log 153). -/
def State.runSelfTest (s : State) : State :=
  { s.modPkg (fun p => { p with
      selfTest := true,
      bistDies := (Config.freeValue s.free).setWidth 11 &&& maskOf 11 p.dieRuns,
      bistModules := (Config.freeValue (s.free + 1) ++ Config.freeValue (s.free + 2)).setWidth 84 &&& maskOf 84 (fun m => p.moduleUse m ≠ .idle) }) with
    free := s.free + 3 }

/-- POWER_ON_RESET_RELEASE (R561, R571, R572): TEST_MODE is sampled; a reserved value holds the package in reset, and values 1 to 4 run built-in
self-test.  The hub then releases the stacks that run from reset, and with them the GDDR7 devices, whose training starts (R229). -/
def execPowerOnResetRelease (testMode : BitVec 3) (s : State) : Host.Outcome State Fault Refusal :=
  if !s.pkg.inReset || 5 ≤ testMode.toNat then .next s
  else
    let s1 := s.modPkg (fun p => { p with inReset := false, testMode := testMode })
    let s2 := s1.modPkg (fun p => { p with gddrResetN := p.dieRuns 0 })
    .next (if testMode = 0 then s2 else s2.runSelfTest).retime

/-! ## Power capping (R562 to R565) -/

/-- The cap in force (R562). -/
def Package.cap (p : Package) : Nat := min p.hostCap p.bmcCap

/-- Lowest island clock of the tiles of jobs, or f_set where there is none (R542). -/
def State.lowestClock (s : State) : Nat :=
  ((List.range 128).filter (fun L => (s.slotOfTile L).isSome)).foldl (fun a L => min a (s.tile L).clock) s.pkg.fSet

/-- ALERT_N is asserted: power or thermal limiting is in force, or a rail's event is pending (R552, R564; log 159). -/
def State.alert (s : State) : Bool :=
  decide (s.pkg.fSet < 800) || (List.range 4).any (fun k => (s.stack k).throttle ≠ 0) || !s.pkg.badRails.isEmpty
    || !s.pkg.avsLate.isEmpty

/-- PROCHOT_N_ASSERT (R563): every island runs at 400 MHz, in hardware. -/
def execProchotNAssert (s : State) : Host.Outcome State Fault Refusal := .next ((s.modPkg (fun p => { p with prochot := true })).retime)

/-- PROCHOT_N_DEASSERT (R563): the islands follow f_set again. -/
def execProchotNDeassert (s : State) : Host.Outcome State Fault Refusal := .next ((s.modPkg (fun p => { p with prochot := false })).retime)

/-- f_set after an evaluation (R563), with the count of evaluations in a row below 0.95 × C. -/
def Package.evaluate (p : Package) (powerDw : Nat) : Package :=
  let low := if powerDw * 100 < 950 * p.cap then min 10 (p.lowCount + 1) else 0
  { p with
    lowCount := low,
    fSet := if p.prochot then 400
      else if 10 * p.cap < powerDw then max 400 (p.fSet - 25)
      else if low = 10 && p.fSet < 800 then p.fSet + 25
      else p.fSet }

/-- POWER_CAP_EVALUATION (R563, R564): at a 1 ms boundary, from the package power of the last ms in 0.1 W. Event 0x0B01 tells when f_set leaves
800 MHz and when it returns. -/
def execPowerCapEvaluation (powerDw : BitVec 16) (s : State) : Host.Outcome State Fault Refusal :=
  if s.pkg.inReset || s.tel.mcReset || !s.sec.running then .next s
  else
    let s1 := (s.modPkg (fun p => p.evaluate powerDw.toNat)).retime
    let tell := fun (enter : Nat) => s1.raise 0x0B01 0 (s1.pkg.cap + s1.lowestClock * 2 ^ 16 + enter * 2 ^ 32)
    .next (if s.pkg.fSet = 800 && s1.pkg.fSet < 800 then tell 1
      else if s.pkg.fSet < 800 && s1.pkg.fSet = 800 then tell 0
      else s1)

/-- A host write of MGT_PCAP (R562, R565): discarded outside 300 W to 750 W. -/
def State.writePcap (s : State) (v : Word) : State :=
  let w := bits v 0 10
  if w < 300 || 750 < w then s.modPkg (fun p => { p with capReject := true })
  else s.modPkg (fun p => { p with hostCap := w, capReject := p.capReject && !(v.getLsbD 31) })

/-- HOST_CAP_WRITE (R562, R565). -/
def execHostCapWrite (value : BitVec 32) (s : State) : Host.Outcome State Fault Refusal := .next (s.fromHost (s.writePcap value))

/-- BMC_CAP_WRITE (R562): PLDM numeric effecter 1, answered over MCTP.  The BMC's two other settings come the same way: whether the package sends
PLDM event messages, and the transmission unit, from 64 to 256 bytes (R543; log 158). -/
def execBmcCapWrite (setting : BmcSetting) (s : State) : Host.Outcome State Fault Refusal :=
  if !s.mctpAnswers then .next s
  else match setting with
    | .cap watts =>
      if watts.toNat < 300 || 750 < watts.toNat then .next (s.emit (.response [2]))
      else .next ((s.modPkg (fun p => { p with bmcCap := watts.toNat })).emit (.response [0]))
    | .events on => .next ((s.modTel (fun t => { t with bmcEvents := on })).emit (.response [0]))
    | .unit bytes =>
      if bytes.toNat < 64 || 256 < bytes.toNat then .next (s.emit (.response [2]))
      else .next ((s.modTel (fun t => { t with mctpUnit := bytes.toNat })).emit (.response [0]))

/-! ## Rails (R554, R555) -/

/-- Event 0x0B04 of a rail (R542, R554). -/
def State.railEvent (s : State) (rail mv : Nat) : State := s.raise 0x0B04 0 (rail + mv * 2 ^ 16)

/-- AVS_ACKNOWLEDGE (R555): the regulator has reached the setpoint; the islands may rise to what it supports. -/
def execAvsAcknowledge (stack : Fin 4) (s : State) : Host.Outcome State Fault Refusal :=
  match (s.stack stack).pendingMv with
  | none => .next s
  | some v =>
    .next (((s.modStack stack (fun x => { x with ackedMv := v, pendingMv := none, avsRetried := false })).modPkg
      (fun p => { p with avsLate := p.avsLate.filter (· ≠ stack.val) })).retime)

/-- AVS_ACK_TIMEOUT (R555): the command is retried once; then event 0x0B04. -/
def execAvsAckTimeout (stack : Fin 4) (s : State) : Host.Outcome State Fault Refusal :=
  match (s.stack stack).pendingMv with
  | none => .next s
  | some v =>
    if s.tel.mcReset then .next s
    else if (s.stack stack).avsRetried then
      .next (((s.modStack stack (fun x => { x with pendingMv := none, avsRetried := false })).modPkg
        (fun p => { p with avsLate := addOnce p.avsLate stack.val })).railEvent stack v)
    else .next ((s.modStack stack (fun x => { x with avsRetried := true })).emit (.avs stack v))

/-- RAIL_OUT_OF_RANGE (R554): a rail has been more than 5 % from its setpoint for 10 µs, or has returned. -/
def execRailOutOfRange (rail : Fin 15) (millivolts : BitVec 16) (returned : Bool) (s : State) : Host.Outcome State Fault Refusal :=
  if s.pkg.inReset || s.tel.mcReset || s.pkg.badRails.contains rail.val ≠ returned then .next s
  else
    .next ((s.modPkg (fun p => { p with
      badRails := if returned then p.badRails.filter (· ≠ rail.val) else addOnce p.badRails rail.val })).railEvent rail millivolts.toNat)

/-! ## Thermal limits (R566 to R568) -/

def State.dieTemp (s : State) (d : Nat) : Nat := (tget 0 s.pkg.temps d).toNat

/-- Hottest point of a stack's compute die and base die. -/
def State.stackTemp (s : State) (k : Nat) : Nat := max (s.dieTemp k) (s.dieTemp (4 + k))

/-- Event 0x0B02 (R542, R567). -/
def State.throttleEvent (s : State) (k started : Nat) : State :=
  s.raise 0x0B02 0 (k + s.stackTemp k * 2 ^ 8 + started * 2 ^ 16)

/-- Throttling of a stack starts at 100 °C and ends when every sensor reads below 97 °C (R566, R567). -/
def State.throttleStack (s : State) (k : Nat) : State :=
  if (s.stack k).throttle = 0 then
    if 100 ≤ s.stackTemp k then (s.modStack k (fun x => { x with throttle := 1 })).throttleEvent k 1 else s
  else if s.stackTemp k < 97 then (s.modStack k (fun x => { x with throttle := 0 })).throttleEvent k 0
  else s

/-- Trip of a die (R566). -/
def tripOf (d : Nat) : Nat := if d < 4 then 115 else 110

/-- The package trips (R568): clocks stop, transmitters idle, with which the host link goes down (R423; log 116), THERMTRIP_N is asserted, and
event 0x0B03 is written ahead of the recorder's queue, unless the recorder is full. -/
def State.trip (s : State) (d : Nat) : State :=
  let s1 := (((s.modPkg (fun p => { p with thermtrip := true })).retime).emit .idleTransmitters).hostLinkLost
  match s1.takeToken 0x0B03 0 (d + s.dieTemp d * 2 ^ 8) with
  | (s2, none) => s2
  | (s2, some r) =>
    if s2.tel.clearing || !s2.sec.running then
      ((if 1024 ≤ s2.tel.queue.length then s2.recorderMiss else s2).modTel (fun t => { t with queue := (r :: t.queue).take 1024 })).deliverEvent r
    else (s2.programRecord r).deliverEvent r

/-- THERMAL_SENSOR_READ (R566 to R568): the hottest sensor of each of the eleven dies. -/
def execThermalSensorRead (hottest : List (BitVec 8)) (s : State) : Host.Outcome State Fault Refusal :=
  if s.pkg.inReset then .next s
  else
    let s1 := s.modPkg (fun p => { p with temps := ((hottest.take 11).zipIdx).map (fun e => (e.2, e.1)) })
    let s2 := (upFrom 0 4).foldl (fun s k => s.throttleStack k) s1
    match (List.range 11).find? (fun d => decide (tripOf d ≤ s2.dieTemp d)) with
    | some d => .next (if s2.pkg.thermtrip then s2 else s2.trip d)
    | none => .next s2

/-- THROTTLE_LEVEL_CHECK (R567): 1 ms after level 1 began, a sensor that still reads the throttle start moves the stack to level 2. -/
def execThrottleLevelCheck (stack : Fin 4) (s : State) : Host.Outcome State Fault Refusal :=
  if (s.stack stack).throttle = 1 && 100 ≤ s.stackTemp stack then
    .next (s.modStack stack (fun x => { x with throttle := 2 }))
  else .next s

end Sys2Proof.Machine
end

