-- ==== Sys2Proof/Machine/Flags.lean ====
section
/-! DEFINITION. Flags.lean: the status words and flags that the package's registers report. -/
namespace Sys2Proof.Machine

/-- GLB_STATUS (R396). -/
def State.glbStatus (s : State) : Nat :=
  b2n s.host.ready * 2 ^ 31 + b2n s.host.ccBusy * 2 ^ 30 + b2n s.host.degraded * 2 ^ 29 + b2n s.tel.full * 2 ^ 28

/-- HRC_STATUS (R407). -/
def HostIf.status (h : HostIf) : Nat :=
  b2n h.attached * 2 ^ 31 + b2n h.resumeWait * 2 ^ 30 + b2n h.pcieOnly * 2 ^ 29 + h.speed.toNat * 2 ^ 27 + h.width.toNat * 2 ^ 22
    + h.buffer.length

/-- GD_STATUS (R234). -/
def Gd.status (g : Gd) : Nat :=
  b2n g.trained * 2 ^ 31 + b2n g.trainFail * 2 ^ 30 + b2n g.tempFail * 2 ^ 29 + b2n g.marginBusy * 2 ^ 28 + g.thrStep * 2 ^ 20
    + g.tempC.toNat * 2 ^ 8

/-- SEC_STATUS (R520). -/
def Security.status (x : Security) : Nat :=
  b2n x.busy * 2 ^ 31 + b2n x.done * 2 ^ 30 + b2n x.recovery * 2 ^ 29 + x.result.toNat * 2 ^ 16

/-- HL_STATUS.state (R337). -/
def LinkState.code : LinkState → Nat
  | .disabled => 0
  | .detect => 1
  | .train => 2
  | .align => 3
  | .discover => 4
  | .held => 5
  | .up => 6
  | .down => 7
  | .loopback => 8

/-- HL_STATUS (R350). -/
def Port.status (q : Port) : Nat :=
  q.state.code * 2 ^ 28 + popCount q.rxLanes * 2 ^ 24 + q.txLanes.toNat * 2 ^ 16 + q.rxLanes.toNat * 2 ^ 8 + q.lastDown.toNat * 2 ^ 4

/-- DLR_LOAD_STATUS (R445). -/
def Load.status (l : Load) : Nat :=
  b2n l.active * 2 ^ 31 + b2n l.background * 2 ^ 30 + b2n l.publish * 2 ^ 29 + b2n l.readyDown * 2 ^ 28 + b2n l.endSeen * 2 ^ 27
    + l.segments

/-- Value of a bank state (R83). -/
def BankState.code : BankState → Nat
  | .free => 0
  | .accumulating => 1
  | .held => 2
  | .complete => 3
  | .checking => 4
  | .draining => 5

/-- TILE_SEQ_STATUS.state (R145). -/
def SeqState.code : SeqState → Nat
  | .idle => 0
  | .run => 1
  | .wait => 2
  | .engine => 3
  | .halt => 4

/-- TILE_EP_STATUS.state (R239). -/
def EpState.code : EpState → Nat
  | .closed => 0
  | .opening => 1
  | .opened => 2
  | .closing => 3

/-- TILE_ARR_STATUS. -/
def Tile.arrStatus (t : Tile) : Nat :=
  b2n (t.banks.any (fun (e : Nat × Bank) => e.2.recompute)) * 2 ^ 13 + b2n t.arrReject * 2 ^ 12
    + (List.range 4).foldl (fun a k => a + (t.bank k).state.code * 8 ^ k) 0

/-- TILE_VEC_STATUS. -/
def Tile.vecStatus (t : Tile) : Nat :=
  let head := t.finQueue.head?
  b2n t.vecStream.isSome * 2 ^ 10 + t.vecStream.getD 0 * 2 ^ 8 + (head.map (·.stream)).getD 0 * 2 ^ 6 + (head.map (·.bank)).getD 0 * 2 ^ 4
    + t.finQueue.length * 2 ^ 2 + b2n t.draining.isSome * 2

/-- TILE_EP_STATUS (R239). -/
def Endpoint.status (x : Endpoint) : Nat :=
  x.state.code * 2 ^ 29 + b2n x.spill * 2 ^ 28 + b2n x.blocked * 2 ^ 27 + x.refuse.toNat * 2 ^ 24

end Sys2Proof.Machine
end

