-- ==== Sys2Proof/Machine/Crypto.lean ====
section
/-! DEFINITION. Crypto.lean: the standard functions that 16_security.md names: SHA-256 (FIPS 180-4), HMAC-SHA-256 (FIPS 198-1), and pure SLH-DSA
of FIPS 205 with an empty context string, in the parameter sets SHA2-128s and SHA2-128f (R499, R507, R510, R512; log 9). -/
namespace Sys2Proof.Machine

/-! ## SHA-256 -/

/-- The first 32 bits of the fractional parts of the cube roots of the first 64 primes. -/
def shaK : List Word :=
  [0x428A2F98, 0x71374491, 0xB5C0FBCF, 0xE9B5DBA5, 0x3956C25B, 0x59F111F1, 0x923F82A4, 0xAB1C5ED5]
  ++ [0xD807AA98, 0x12835B01, 0x243185BE, 0x550C7DC3, 0x72BE5D74, 0x80DEB1FE, 0x9BDC06A7, 0xC19BF174]
  ++ [0xE49B69C1, 0xEFBE4786, 0x0FC19DC6, 0x240CA1CC, 0x2DE92C6F, 0x4A7484AA, 0x5CB0A9DC, 0x76F988DA]
  ++ [0x983E5152, 0xA831C66D, 0xB00327C8, 0xBF597FC7, 0xC6E00BF3, 0xD5A79147, 0x06CA6351, 0x14292967]
  ++ [0x27B70A85, 0x2E1B2138, 0x4D2C6DFC, 0x53380D13, 0x650A7354, 0x766A0ABB, 0x81C2C92E, 0x92722C85]
  ++ [0xA2BFE8A1, 0xA81A664B, 0xC24B8B70, 0xC76C51A3, 0xD192E819, 0xD6990624, 0xF40E3585, 0x106AA070]
  ++ [0x19A4C116, 0x1E376C08, 0x2748774C, 0x34B0BCB5, 0x391C0CB3, 0x4ED8AA4A, 0x5B9CCA4F, 0x682E6FF3]
  ++ [0x748F82EE, 0x78A5636F, 0x84C87814, 0x8CC70208, 0x90BEFFFA, 0xA4506CEB, 0xBEF9A3F7, 0xC67178F2]

/-- The eight working words. -/
structure Sha where
  a : Word
  b : Word
  c : Word
  d : Word
  e : Word
  f : Word
  g : Word
  h : Word
  deriving DecidableEq, Repr

/-- The initial hash value. -/
def shaInit : Sha := ⟨0x6A09E667, 0xBB67AE85, 0x3C6EF372, 0xA54FF53A, 0x510E527F, 0x9B05688C, 0x1F83D9AB, 0x5BE0CD19⟩

/-- One round, with a constant and a word of the message schedule. -/
def Sha.round (x : Sha) (k w : Word) : Sha :=
  let s1 := x.e.rotateRight 6 ^^^ x.e.rotateRight 11 ^^^ x.e.rotateRight 25
  let t1 := x.h + s1 + ((x.e &&& x.f) ^^^ (~~~x.e &&& x.g)) + k + w
  let s0 := x.a.rotateRight 2 ^^^ x.a.rotateRight 13 ^^^ x.a.rotateRight 22
  let t2 := s0 + ((x.a &&& x.b) ^^^ (x.a &&& x.c) ^^^ (x.b &&& x.c))
  ⟨t1 + t2, x.a, x.b, x.c, x.d + t1, x.e, x.f, x.g⟩

/-- The word of the message schedule that follows sixteen. -/
def shaNext (w : List Word) : Word :=
  let at' := fun (i : Nat) => w.getD i 0
  let s0 := (at' 1).rotateRight 7 ^^^ (at' 1).rotateRight 18 ^^^ (at' 1 >>> 3)
  let s1 := (at' 14).rotateRight 17 ^^^ (at' 14).rotateRight 19 ^^^ (at' 14 >>> 10)
  s1 + at' 9 + s0 + at' 0

/-- The rounds of a block: `w` holds the next sixteen words of the message schedule. -/
def shaRounds (x : Sha) (w : List Word) : List Word → Sha
  | [] => x
  | k :: r => shaRounds (x.round k (w.headD 0)) (w.drop 1 ++ [shaNext w]) r

/-- A word from four bytes, the most significant first. -/
def beWord (b : List Byte) : Word := b.getD 0 0 ++ b.getD 1 0 ++ b.getD 2 0 ++ b.getD 3 0

def Sha.block (x : Sha) (b : List Byte) : Sha :=
  let y := shaRounds x ((List.range 16).map (fun i => beWord ((b.drop (4 * i)).take 4))) shaK
  ⟨x.a + y.a, x.b + y.b, x.c + y.c, x.d + y.d, x.e + y.e, x.f + y.f, x.g + y.g, x.h + y.h⟩

/-- The blocks of a padded message, 64 bytes each. -/
def shaBlocks : Nat → Sha → List Byte → Sha
  | 0, x, _ => x
  | n + 1, x, m => shaBlocks n (x.block m) (m.drop 64)

/-- A number as `n` bytes, the most significant first. -/
def beBytes : Nat → Nat → List Byte
  | 0, _ => []
  | n + 1, v => beBytes n (v / 256) ++ [BitVec.ofNat 8 v]

/-- A message with a 1 bit, zeros up to a whole block, and its length in bits. -/
def shaPad (m : List Byte) : List Byte := m ++ [0x80] ++ List.replicate ((119 - m.length % 64) % 64) 0 ++ beBytes 8 (8 * m.length)

def Sha.bytes (x : Sha) : List Byte := ([x.a, x.b, x.c, x.d, x.e, x.f, x.g, x.h].map (fun w => beBytes 4 w.toNat)).flatten

/-- SHA-256 of a message. -/
@[irreducible] def sha256 (m : List Byte) : List Byte := (shaBlocks ((m.length + 72) / 64) shaInit (shaPad m)).bytes

/-- HMAC-SHA-256. -/
def hmacSha256 (key m : List Byte) : List Byte :=
  let k := if 64 < key.length then sha256 key else key
  let pad := fun (x : Byte) => (k ++ List.replicate (64 - k.length) 0).map (· ^^^ x)
  sha256 (pad 0x5C ++ sha256 (pad 0x36 ++ m))

/-! ## SLH-DSA: parameters, addresses and hashes (FIPS 205) -/

/-- What distinguishes the parameter sets of n = 16 and w = 16: hypertree layers d, tree height h' = h / d, FORS height a and trees k. -/
structure SlhSet where
  d : Nat
  hp : Nat
  a : Nat
  k : Nat
  deriving DecidableEq, Repr

def slh128s : SlhSet := ⟨7, 9, 12, 14⟩
def slh128f : SlhSet := ⟨22, 3, 6, 33⟩

/-- An address, compressed as the SHA2 sets hash it: layer, tree, type, and the three words that the type gives a meaning. -/
structure Adrs where
  layer : Nat := 0
  tree : Nat := 0
  type : Nat := 0
  w1 : Nat := 0
  w2 : Nat := 0
  w3 : Nat := 0
  deriving DecidableEq, Repr

def Adrs.bytes (x : Adrs) : List Byte :=
  beBytes 1 x.layer ++ beBytes 8 x.tree ++ beBytes 1 x.type ++ beBytes 4 x.w1 ++ beBytes 4 x.w2 ++ beBytes 4 x.w3

/-- Tweakable hashing, F, H, T and PRF alike: the public seed filled up to a block, the address, and the message. -/
def slhHash (pkSeed : List Byte) (x : Adrs) (m : List Byte) : List Byte :=
  (sha256 (pkSeed ++ List.replicate 48 0 ++ x.bytes ++ m)).take 16

/-- MGF1 with SHA-256. -/
def mgf1 (seed : List Byte) (n : Nat) : List Byte :=
  (((List.range ((n + 31) / 32)).map (fun i => sha256 (seed ++ beBytes 4 i))).flatten).take n

/-- The digest of a message, split into the FORS bits, the tree and the leaf. -/
def SlhSet.digest (p : SlhSet) (r pkSeed root m : List Byte) : List Byte × Nat × Nat :=
  let h := p.d * p.hp
  let md := (p.k * p.a + 7) / 8
  let nt := (h - p.hp + 7) / 8
  let nl := (p.hp + 7) / 8
  let g := mgf1 (r ++ pkSeed ++ sha256 (r ++ pkSeed ++ root ++ m)) (md + nt + nl)
  (g.take md, beNat ((g.drop md).take nt) % 2 ^ (h - p.hp), beNat (g.drop (md + nt)) % 2 ^ p.hp)

/-- The first `n` digits of `b` bits each, the most significant bits first. -/
def baseDigits (m : List Byte) (b n : Nat) : List Nat :=
  let v := beNat m
  let w := 8 * m.length
  (List.range n).map (fun i => v / 2 ^ (w - b * (i + 1)) % 2 ^ b)

/-- The 35 WOTS+ digits of a 16-byte message: its own 32 and its checksum's 3. -/
def wotsDigits (m : List Byte) : List Nat :=
  let d := baseDigits m 4 32
  let c := (d.foldl (fun a x => a + (15 - x)) 0) * 16
  d ++ baseDigits (beBytes 2 c) 4 3

/-- A WOTS+ chain: `n` steps from step `i`. -/
def wotsChain (pkSeed : List Byte) (x : Adrs) : Nat → Nat → List Byte → List Byte
  | _, 0, v => v
  | i, n + 1, v => wotsChain pkSeed x (i + 1) n (slhHash pkSeed { x with w3 := i } v)

/-- Piece `i` of 16 bytes. -/
def piece (b : List Byte) (i : Nat) : List Byte := (b.drop (16 * i)).take 16

/-- The WOTS+ public key from the ends of its chains; `x` names the layer and tree, `i` the key pair. -/
def wotsCompress (pkSeed : List Byte) (x : Adrs) (i : Nat) (ends : List (List Byte)) : List Byte :=
  slhHash pkSeed { layer := x.layer, tree := x.tree, type := 1, w1 := i } ends.flatten

/-- The root that an authentication path of `n` nodes leads to: `leaf` is at index `i`, and the address of the node above at height `j + 1` is
`x j (i / 2)`. -/
def climb (pkSeed : List Byte) (x : Nat → Nat → Adrs) (auth : List Byte) : Nat → Nat → Nat → List Byte → List Byte
  | 0, _, _, v => v
  | n + 1, j, i, v =>
    let y := piece auth j
    climb pkSeed x auth n (j + 1) (i / 2) (slhHash pkSeed (x (j + 1) (i / 2)) (if i % 2 = 0 then v ++ y else y ++ v))

/-- Address of a hypertree node. -/
def treeAdrs (layer tree height index : Nat) : Adrs := { layer := layer, tree := tree, type := 2, w2 := height, w3 := index }

/-- The root of an XMSS tree from a signature of 35 + h' pieces. -/
def SlhSet.xmssRoot (p : SlhSet) (pkSeed : List Byte) (layer tree i : Nat) (sig m : List Byte) : List Byte :=
  let x : Adrs := { layer := layer, tree := tree, w1 := i }
  let ends := ((wotsDigits m).zipIdx).map (fun e => wotsChain pkSeed { x with w2 := e.2 } e.1 (15 - e.1) (piece sig e.2))
  climb pkSeed (treeAdrs layer tree) (sig.drop 560) p.hp 0 i (wotsCompress pkSeed x i ends)

/-- The hypertree's root from the signatures of its layers, from layer `l` up. -/
def SlhSet.hyperRoot (p : SlhSet) (pkSeed : List Byte) : Nat → Nat → Nat → Nat → List Byte → List Byte → List Byte
  | 0, _, _, _, _, v => v
  | n + 1, l, tree, leaf, sig, v =>
    p.hyperRoot pkSeed n (l + 1) (tree / 2 ^ p.hp) (tree % 2 ^ p.hp) (sig.drop (16 * (35 + p.hp)))
      (p.xmssRoot pkSeed l tree leaf sig v)

/-- The FORS public key from a signature of k × (1 + a) pieces. -/
def SlhSet.forsKey (p : SlhSet) (pkSeed : List Byte) (tree leaf : Nat) (md sig : List Byte) : List Byte :=
  let x := fun (height index : Nat) => ({ tree := tree, type := 3, w1 := leaf, w2 := height, w3 := index } : Adrs)
  let roots := ((baseDigits md p.a p.k).zipIdx).map (fun e =>
    let s := sig.drop (16 * (1 + p.a) * e.2)
    let i := e.2 * 2 ^ p.a + e.1
    climb pkSeed x (s.drop 16) p.a 0 i (slhHash pkSeed (x 0 i) (s.take 16)))
  slhHash pkSeed { tree := tree, type := 4, w1 := leaf } roots.flatten

/-- Length of a signature. -/
def SlhSet.sigBytes (p : SlhSet) : Nat := 16 * (1 + p.k * (1 + p.a) + p.d * (35 + p.hp))

/-- Pure SLH-DSA verification with an empty context string. -/
@[irreducible] def SlhSet.verify (p : SlhSet) (key sig m : List Byte) : Bool :=
  let pkSeed := key.take 16
  let root := key.drop 16
  let r := sig.take 16
  let g := p.digest r pkSeed root ([0, 0] ++ m)
  let fors := (sig.drop 16).take (16 * p.k * (1 + p.a))
  let tree := sig.drop (16 + 16 * p.k * (1 + p.a))
  decide (key.length = 32) && decide (sig.length = p.sigBytes)
    && p.hyperRoot pkSeed p.d 0 g.2.1 g.2.2 tree (p.forsKey pkSeed g.2.1 g.2.2 g.1 fors) == root

/-! ## SLH-DSA: keys and signing -/

/-- The pseudorandom secret of a WOTS+ chain or of a FORS leaf. -/
def slhSecret (skSeed pkSeed : List Byte) (x : Adrs) : List Byte := slhHash pkSeed x skSeed

/-- The WOTS+ chains of a key pair, each `n i` steps from its secret. -/
def wotsChains (skSeed pkSeed : List Byte) (layer tree i : Nat) (n : Nat → Nat) : List (List Byte) :=
  (List.range 35).map (fun c =>
    wotsChain pkSeed { layer := layer, tree := tree, w1 := i, w2 := c } 0 (n c)
      (slhSecret skSeed pkSeed { layer := layer, tree := tree, type := 5, w1 := i, w2 := c }))

/-- The nodes of the next height up, from those at height `h`. -/
def nodesUp (pkSeed : List Byte) (x : Nat → Nat → Adrs) (h base : Nat) : List (List Byte) → List (List Byte)
  | l :: r :: rest => slhHash pkSeed (x (h + 1) base) (l ++ r) :: nodesUp pkSeed x h (base + 1) rest
  | _ => []

/-- The authentication path of leaf `i` of a tree of height `n` over `nodes`, and the tree's root; `base` is the index of the first node. -/
def authPath (pkSeed : List Byte) (x : Nat → Nat → Adrs) : Nat → Nat → Nat → Nat → List (List Byte) → List (List Byte) × List Byte
  | 0, _, _, _, nodes => ([], nodes.headD [])
  | n + 1, h, base, i, nodes =>
    let r := authPath pkSeed x n (h + 1) (base / 2) (i / 2) (nodesUp pkSeed x h (base / 2) nodes)
    (nodes.getD (if i % 2 = 0 then i + 1 else i - 1) [] :: r.1, r.2)

/-- The leaves of an XMSS tree. -/
def SlhSet.leaves (p : SlhSet) (skSeed pkSeed : List Byte) (layer tree : Nat) : List (List Byte) :=
  (List.range (2 ^ p.hp)).map (fun i =>
    wotsCompress pkSeed { layer := layer, tree := tree } i (wotsChains skSeed pkSeed layer tree i (fun _ => 15)))

/-- An XMSS signature and the root of its tree. -/
def SlhSet.xmssSign (p : SlhSet) (skSeed pkSeed : List Byte) (layer tree i : Nat) (m : List Byte) : List Byte × List Byte :=
  let d := wotsDigits m
  let a := authPath pkSeed (treeAdrs layer tree) p.hp 0 0 i (p.leaves skSeed pkSeed layer tree)
  ((wotsChains skSeed pkSeed layer tree i (fun c => d.getD c 0)).flatten ++ a.1.flatten, a.2)

/-- The hypertree's signature, from layer `l` up. -/
def SlhSet.hyperSign (p : SlhSet) (skSeed pkSeed : List Byte) : Nat → Nat → Nat → Nat → List Byte → List Byte
  | 0, _, _, _, _ => []
  | n + 1, l, tree, leaf, m =>
    let s := p.xmssSign skSeed pkSeed l tree leaf m
    s.1 ++ p.hyperSign skSeed pkSeed n (l + 1) (tree / 2 ^ p.hp) (tree % 2 ^ p.hp) s.2

/-- The FORS signature of the digits of a digest. -/
def SlhSet.forsSign (p : SlhSet) (skSeed pkSeed : List Byte) (tree leaf : Nat) (md : List Byte) : List Byte :=
  let x := fun (height index : Nat) => ({ tree := tree, type := 3, w1 := leaf, w2 := height, w3 := index } : Adrs)
  let secret := fun (i : Nat) => slhSecret skSeed pkSeed { tree := tree, type := 6, w1 := leaf, w3 := i }
  (((baseDigits md p.a p.k).zipIdx).map (fun e =>
    let base := e.2 * 2 ^ p.a
    let nodes := (List.range (2 ^ p.a)).map (fun i => slhHash pkSeed (x 0 (base + i)) (secret (base + i)))
    secret (base + e.1) ++ (authPath pkSeed x p.a 0 base e.1 nodes).1.flatten)).flatten

/-- A private key: SK.seed, SK.prf and PK.seed. -/
structure SlhKey where
  skSeed : List Byte
  skPrf : List Byte
  pkSeed : List Byte
  deriving DecidableEq, Repr

/-- The key's root, that of the top tree. -/
@[irreducible] def SlhSet.root (p : SlhSet) (k : SlhKey) : List Byte :=
  (authPath k.pkSeed (treeAdrs (p.d - 1) 0) p.hp 0 0 0 (p.leaves k.skSeed k.pkSeed (p.d - 1) 0)).2

/-- The public key: PK.seed and the root. -/
def SlhSet.publicKey (p : SlhSet) (k : SlhKey) : List Byte := k.pkSeed ++ p.root k

/-- Pure SLH-DSA signing with an empty context string; `rnd` is opt_rand. -/
@[irreducible] def SlhSet.sign (p : SlhSet) (k : SlhKey) (rnd m : List Byte) : List Byte :=
  let m' := [0, 0] ++ m
  let r := (hmacSha256 k.skPrf (rnd ++ m')).take 16
  let g := p.digest r k.pkSeed (p.root k) m'
  let fors := p.forsSign k.skSeed k.pkSeed g.2.1 g.2.2 g.1
  r ++ fors ++ p.hyperSign k.skSeed k.pkSeed p.d 0 g.2.1 g.2.2 (p.forsKey k.pkSeed g.2.1 g.2.2 g.1 fors)

end Sys2Proof.Machine
end

