-- ==== Sys2Proof/Machine/Security.lean ====
section
/-! DEFINITION. Security.lean: the security block (16_security.md): the boot record and firmware images (R497 to R506), the SEC commands of the
mailbox, MCTP and the instrument (R504 to R509, R518 to R522), attestation (R510 to R515) and the host link's IDE keys (R516, R517). -/
namespace Sys2Proof.Machine

/-- The 32 bytes that a 256-bit value stands for, the first in bits 7–0. -/
def digestBytes (d : BitVec 256) : List Byte := leBytes 32 d.toNat

/-- SHA-256 as such a value. -/
def digest (m : List Byte) : BitVec 256 := BitVec.ofNat 256 (leNat (sha256 m))

/-! ## Owner and paths (R495, R508) -/

/-- An owner entry: digest, `set`, `revoked` (R494). -/
def State.owner (s : State) (i : Nat) : BitVec 256 × Bool × Bool := tget (0, false, false) s.fuses.owners i

/-- The owner key slot: the highest entry set and not revoked (R495). -/
def State.ownerSlot (s : State) : Option Nat := [3, 2, 1, 0].find? (fun i => (s.owner i).2.1 && !(s.owner i).2.2)

def pathIx : SecPath → Nat
  | .mailbox => 0
  | .mctp => 1
  | .instrument => 2

def State.nonceOf (s : State) (p : SecPath) : Option (BitVec 256) := tget none s.sec.nonces (pathIx p)

def State.setNonce (s : State) (p : SecPath) (n : Option (BitVec 256)) : State :=
  s.modSec (fun x => { x with nonces := if n.isSome then tput x.nonces (pathIx p) n else tdel x.nonces (pathIx p) })

/-! ## Boot record and slots (R496 to R500) -/

/-- First byte of a copy of the boot record, A or B, and its size (R496). -/
def bootBase (copy : Bool) : Nat := if copy then 0x8000 else 0

def bootCopyBytes : Nat := 0x8000

def BootResult.code : BootResult → Byte
  | .untried => 0
  | .started => 1
  | .failed => 2
  | .reported => 3

def BootResult.ofCode (b : Byte) : BootResult :=
  match b.toNat with
  | 0 => .untried
  | 1 => .started
  | 2 => .failed
  | _ => .reported

/-- The fields of a copy, as bytes (R497; log 107). -/
def BootRecord.fields (x : BootRecord) : List Byte :=
  leBytes 4 x.seq.toNat ++ [BitVec.ofNat 8 (b2n x.prefer), BitVec.ofNat 8 (b2n x.trial), x.result0.code, x.result1.code]

/-- A copy as it stands in flash: its fields and their CRC-32C (R318, R497; log 107). -/
def BootRecord.bytes (x : BootRecord) : List Byte := x.fields ++ leBytes 4 (crc32c x.fields).toNat

/-- The record of a copy whose CRC is right (R497). -/
def BootRecord.ofBytes (b : List Byte) : Option BootRecord :=
  if leAt b 8 4 = (crc32c (b.take 8)).toNat then
    some { seq := BitVec.ofNat 32 (leAt b 0 4), prefer := b.getD 4 0 ≠ 0, trial := b.getD 5 0 ≠ 0,
           result0 := .ofCode (b.getD 6 0), result1 := .ofCode (b.getD 7 0) }
  else none

/-- A copy of the boot record, when it is valid. -/
def State.bootCopy (s : State) (copy : Bool) : Option BootRecord := BootRecord.ofBytes (flashRead s.flash (bootBase copy) 12)

/-- The boot record in force: the valid copy with the later sequence number, or `prefer` = 0 and `trial` = 0 (R497). -/
def State.bootRecord (s : State) : BootRecord :=
  match s.bootCopy false, s.bootCopy true with
  | some a, some b => if later 32 b.seq.toNat a.seq.toNat then b else a
  | some a, none => a
  | none, some b => b
  | none, none => { seq := 0 }

/-- The copy with the earlier sequence number, or one that is not valid, which a writer overwrites (R497). -/
def State.bootTarget (s : State) : Bool :=
  match s.bootCopy false, s.bootCopy true with
  | some a, some b => !(later 32 b.seq.toNat a.seq.toNat)
  | some _, none => true
  | _, _ => false

/-- The boot record written over that copy with the next sequence number (R497). -/
def State.writeBoot (s : State) (x : BootRecord) : State :=
  let n := { x with seq := s.bootRecord.seq + 1 }
  let b := bootBase s.bootTarget
  { s with flash := flashWrite (flashErase s.flash b (b + bootCopyBytes)) b n.bytes }

def BootRecord.result (r : BootRecord) (slot : Bool) : BootResult := if slot then r.result1 else r.result0

def BootRecord.setResult (r : BootRecord) (slot : Bool) (x : BootResult) : BootRecord :=
  if slot then { r with result1 := x } else { r with result0 := x }

/-- First byte of a firmware slot, and its size (R496). -/
def slotBase (slot : Bool) : Nat := if slot then 0x1900000 else 0x100000

def slotBytes : Nat := 0x1800000

def State.eraseSlot (s : State) (slot : Bool) : State :=
  { s with flash := flashErase s.flash (slotBase slot) (slotBase slot + slotBytes) }

/-- The svn of the image in a slot (R498). -/
def State.slotSvn (s : State) (slot : Bool) : Nat := leAt (flashRead s.flash (slotBase slot) 14) 12 2

/-- Whether the image in a slot meets R499 but for its svn. -/
def State.slotSound (s : State) (slot : Bool) : Bool :=
  let b := slotBase slot
  let at' := fun (o n : Nat) => leAt (flashRead s.flash (b + o) n) 0 n
  if at' 0 4 ≠ 0x57464753 || at' 4 2 ≠ 1 then false
  else
    let body := at' 8 4
    let zero := fun (o n : Nat) => (flashRead s.flash (b + o) n).all (· == 0)
    let key := Config.keyBytes 0
    zero 6 2 && zero 14 2 && zero 56 8 && zero 7920 272 && decide (1 ≤ body) && decide (body ≤ 25157632)
      && decide (s.slotSvn slot ≤ 64)
      && digest key == s.fuses.fwKeyDigest
      && slh128s.verify key (flashRead s.flash (b + 64) 7856) (flashRead s.flash b 64)
      && digest (flashRead s.flash (b + 8192) body) == BitVec.ofNat 256 (at' 24 32)

def State.slotValid (s : State) (slot : Bool) : Bool := s.slotSound slot && decide (s.fuses.svn ≤ s.slotSvn slot)

/-! ## Boot (R500 to R503, R510, R515) -/

/-- Measurement block 2 (R515). -/
def State.keyMeasure (s : State) : BitVec 256 :=
  let own := match s.ownerSlot with
    | some i => digestBytes (s.owner i).1
    | none => List.replicate 32 0
  digest (digestBytes s.fuses.fwKeyDigest ++ digestBytes s.fuses.dbgKeyDigest ++ own
    ++ [BitVec.ofNat 8 s.fuses.svn, BitVec.ofNat 8 (b2n s.fuses.debugDisable)])

/-- The firmware of a slot starts (R500, R501, R538): its measurements are fixed, each failed slot is reported once, the recorder and the
journal are taken up from flash, the journal gets an entry at once, a stack without a spare tile degrades the package (R492), and the regulators get their setpoints (R555). -/
def State.startFirmware (s : State) (slot fallback trial : Bool) : State :=
  let b := slotBase slot
  let body := leAt (flashRead s.flash (b + 8) 4) 0 4
  let used := usedSlots s.flash
  let s1 := s.modSec (fun x => { x with
    running := true, slot := slot, fallback := fallback, svnRun := s.slotSvn slot, bootTrial := trial,
    bodyDigest := digest (flashRead s.flash (b + 8192) body),
    build := BitVec.ofNat 64 (leAt (flashRead s.flash (b + 16) 8) 0 8), meas2 := s.keyMeasure })
  let s2 := (s1.modTel (fun t => { t.readJournal s.flash with next := used, full := decide (recorderSlots ≤ used) })).lastSlot
  let failed := [false, true].filter (fun k => s2.bootRecord.result k = .failed)
  let s3 := failed.foldl (fun s k => s.raise 0x0A01 0 (b2n k)) s2
  let s4 := if failed.isEmpty then s3 else
    s3.writeBoot (failed.foldl (fun r k => r.setResult k .reported) s3.bootRecord)
  let s5 := (if fallback then s4.raise 0x0A02 0 (b2n slot) else s4).enterJournal
  (if (List.range 4).any (fun k => (s5.spares k).isEmpty) then s5.degrade 1 else s5).retime

/-- The ROM checks a slot and writes the result into the boot record (R500). -/
def State.trySlot (s : State) (slot : Bool) : State × Bool :=
  let ok := s.slotValid slot
  (s.writeBoot (s.bootRecord.setResult slot (if ok then .started else .failed)), ok)

/-- FIRMWARE_START (R500, R501): the preferred slot is checked, unless it is a trial that has had its one attempt; then the other. With no valid
slot the package enters recovery mode. -/
def execFirmwareStart (s : State) : Host.Outcome State Fault Refusal :=
  if s.pkg.inReset || s.pkg.testMode ≠ 0 || s.sec.running || s.sec.recovery then .next s
  else
    let r := s.bootRecord
    let p := r.prefer
    let skip := r.trial && r.result p ≠ .untried
    let first := if skip then (s, false) else s.trySlot p
    if first.2 then .next (first.1.startFirmware p false r.trial)
    else
      let second := first.1.trySlot (!p)
      if second.2 then .next (second.1.startFirmware (!p) true r.trial)
      else .next (second.1.modSec (fun x => { x with recovery := true }))

/-! ## SEC commands (R501, R520 to R522) -/

/-- Whether the controller serves SEC commands: as firmware, or the ROM in recovery mode. -/
def State.secServed (s : State) : Bool := !s.pkg.inReset && !s.tel.mcReset && (s.sec.running || s.sec.recovery)

/-- Commands that recovery mode accepts (R501). -/
def recoveryCmd (cmd : Nat) : Bool := cmd == 1 || (decide (0x10 ≤ cmd) && decide (cmd ≤ 0x13))

/-- The valid bytes of the mailbox's buffer. -/
def Security.mail (x : Security) : List Byte := (List.range x.len.toNat).map (fun i => tget 0 x.buffer i)

/-- A mailbox command ends with its result and result bytes (R520). -/
def Security.mailDone (x : Security) (result : Nat) (data : List Byte) : Security :=
  { x with
    busy := false, done := true, result := BitVec.ofNat 8 result, len := BitVec.ofNat 16 data.length,
    buffer := (data.zipIdx).foldl (fun (m : Mem) e => if e.1 = 0 then tdel m e.2 else tput m e.2 e.1) x.buffer }

/-- What a command makes of the state: the state, its result code and its result bytes. -/
abbrev SecResult := State × Nat × List Byte

/-- NONCE (R508): a new nonce for the path, returned in the buffer. -/
def State.secNonce (s : State) (p : SecPath) (drawn : BitVec 256) : SecResult := (s.setNonce p (some drawn), 0, digestBytes drawn)

/-! ## Firmware update (R504 to R506) -/

/-- FW_BEGIN (R505). -/
def State.fwBegin (s : State) (p : SecPath) : SecResult :=
  if s.sec.session.isSome then (s, 1, [])
  else ((s.eraseSlot (!s.sec.slot)).modSec (fun x => { x with session := some p, checked := false }), 0, [])

/-- FW_WRITE (R505): the buffer's bytes at an offset of the slot that is not running. -/
def State.fwWrite (s : State) (p : SecPath) (a : Nat) (b : List Byte) : SecResult :=
  if s.sec.session ≠ some p then (s, 1, [])
  else if a % 64 ≠ 0 || 32768 < b.length || slotBytes < a + b.length then (s, 2, [])
  else ({ s with flash := flashWrite s.flash (slotBase (!s.sec.slot) + a) b }, 0, [])

/-- FW_FINISH (R499, R505, R522).  In recovery mode no event tells of it (R501). -/
def State.fwFinish (s : State) (p : SecPath) : SecResult :=
  let k := !s.sec.slot
  if s.sec.session ≠ some p then (s, 1, [])
  else
    let s1 := s.modSec (fun x => { x with session := none })
    if !s.slotSound k then (s1, 5, [])
    else if s.slotSvn k < s.fuses.svn then (s1, 6, [])
    else
      let s2 := s1.modSec (fun x => { x with checked := true })
      (if s.sec.recovery then s2 else s2.raise 0x0A03 0 (b2n k), 0, [])

/-- FW_ACTIVATE (R505): `prefer` names the checked slot, on trial. -/
def State.fwActivate (s : State) (p : SecPath) : SecResult :=
  let k := !s.sec.slot
  if s.sec.session.isSome && s.sec.session ≠ some p then (s, 1, [])
  else if !s.sec.checked then (s, 7, [])
  else (s.writeBoot ({ s.bootRecord with prefer := k, trial := true }.setResult k .untried), 0, [])

/-- BOOT_CONFIRM (R506): `trial` is cleared while the preferred slot is running. -/
def State.bootConfirm (s : State) : SecResult :=
  if s.bootRecord.prefer = s.sec.slot then (s.writeBoot { s.bootRecord with trial := false }, 0, []) else (s, 7, [])

/-- SVN_COMMIT (R504): the burn starts, and the command ends with its last bit. -/
def State.svnCommit (s : State) (p : SecPath) : SecResult :=
  if s.bootRecord.trial || s.sec.svnRun ≤ s.fuses.svn then (s, 7, [])
  else (s.modSec (fun x => { x with burn := some p }), 0, [])

/-! ## Signed commands (R507 to R509, R518, R519, R540) -/

/-- Bytes of a signed block (R507). -/
def blockBytes : Nat := 7984

/-- Event 0x0A07 and AUTH_FAIL (R508). -/
def State.authFail (s : State) (p : SecPath) (cmd : Nat) : State × Option Nat :=
  (s.raise 0x0A07 0 (cmd + pathIx p * 2 ^ 8), some 3)

/-- A signed block checked (R507, R508): the refusal's result code, if any; `keyOk` judges signer and public key. The nonce that it names is
consumed. -/
def State.checkBlock (s : State) (p : SecPath) (cmd : Nat) (b : List Byte) (keyOk : Nat → List Byte → Bool) : State × Option Nat :=
  let fresh := 48 ≤ b.length && s.nonceOf p = some (BitVec.ofNat 256 (leAt b 16 32))
  let s1 := if fresh then s.setNonce p none else s
  if b.length < blockBytes || leAt b 0 1 ≠ cmd || 2 ≤ leAt b 1 1 || leAt b 2 6 ≠ 0 then (s1, some 2)
  else
    let key := (b.drop 48).take 32
    if leAt b 8 8 ≠ s.fuses.serial.toNat || !keyOk (leAt b 1 1) key
        || !slh128s.verify key ((b.drop 128).take 7856) (b.take 128) then s1.authFail p cmd
    else if fresh then (s1, none)
    else (s1, some 4)

/-- Whether a key is the owner's, as signer 1 (R508). -/
def State.ownerKey (s : State) (signer : Nat) (key : List Byte) : Bool :=
  match s.ownerSlot with
  | some i => signer = 1 && digest key = (s.owner i).1
  | none => false

/-- Whether a key is the vendor's debug key, as signer 0. -/
def State.vendorKey (s : State) (signer : Nat) (key : List Byte) : Bool := signer = 0 && digest key = s.fuses.dbgKeyDigest

def State.setOwner (s : State) (i : Nat) (o : BitVec 256 × Bool × Bool) : State :=
  { s with fuses := { s.fuses with owners := tput s.fuses.owners i o } }

/-- OWNER_CLAIM (R508, R509): over MCTP only, signed by the key it names. -/
def State.ownerClaim (s : State) (p : SecPath) (b : List Byte) : SecResult :=
  match s.checkBlock p 0x20 b (fun signer _ => signer = 1) with
  | (s1, some r) => (s1, r, [])
  | (s1, none) =>
    if p ≠ .mctp || s1.ownerSlot.isSome then (s1, 7, [])
    else match [0, 1, 2, 3].find? (fun i => !(s1.owner i).2.1) with
      | none => (s1, 8, [])
      | some i => ((s1.setOwner i (digest ((b.drop 48).take 32), true, false)).raise 0x0A05 0 (i + 2 ^ 8), 0, [])

/-- OWNER_RELEASE (R509). -/
def State.ownerRelease (s : State) (p : SecPath) (b : List Byte) : SecResult :=
  match s.checkBlock p 0x21 b s.ownerKey with
  | (s1, some r) => (s1, r, [])
  | (s1, none) =>
    match s1.ownerSlot with
    | none => (s1, 7, [])
    | some i => ((s1.setOwner i ((s1.owner i).1, true, true)).raise 0x0A05 0 i, 0, [])

/-- Every cut held in a stack's cut region is discarded; event 0x0630 for each (R233, R519). -/
def State.dropCuts (s : State) : State :=
  (upFrom 0 4).foldl (fun s k =>
    if (s.stack k).cutHeld then
      (s.modStack k (fun x => { x with cutHeld := false })).raise 0x0630 0 (k + (s.stack k).cutHeldStep.toNat * 2 ^ 32)
    else s) s

/-- The debug level rises (R518, R519): to 2 or 3 only after the Alias key, every job, and all of device memory are gone. -/
def State.unlock (s : State) (level : Nat) : State :=
  let s1 := if level = 1 then s
    else
      let a := ((s.modSec (fun x => { x with aliasReady := false })).ccResetOpen).dropCuts
      { a with mem := [], poison := [], flaws := [] }
  (s1.modSec (fun x => { x with level := level })).raise 0x0A06 0 level

/-- A signed block of DEBUG_UNLOCK from any source (R508, R518). -/
def State.debugBlock (s : State) (p : SecPath) (b : List Byte) : State × Nat :=
  let level := leAt b 80 1
  match s.checkBlock p 0x31 b (fun signer key => s.vendorKey signer key || (level ≠ 3 && s.ownerKey signer key)) with
  | (s1, some r) => (s1, r)
  | (s1, none) =>
    if level = 0 || 3 < level then (s1, 2)
    else if level ≤ s1.sec.level || (level = 3 && s1.fuses.debugDisable) then (s1, 7)
    else (s1.unlock level, 0)

/-- DEBUG_UNLOCK (R518, R519). -/
def State.debugUnlock (s : State) (p : SecPath) (b : List Byte) : SecResult :=
  let r := s.debugBlock p b
  (r.1, r.2, [])

/-- Event 0x0C05 enters the recorder's queue before every other record (R540). -/
def State.recorderCleared (s : State) : State :=
  match s.takeToken 0x0C05 0 s.tel.next with
  | (s1, none) => s1
  | (s1, some r) => (s1.modTel (fun t => { t with
      queue := (r :: t.queue).take 1024, dropped := if 1024 ≤ t.queue.length then satNat 16 t.dropped 1 else t.dropped })).deliverEvent r

/-- RECORDER_CLEAR (R508, R540): signed by the owner. -/
def State.recorderClear (s : State) (p : SecPath) (b : List Byte) : SecResult :=
  match s.checkBlock p 0x40 b s.ownerKey with
  | (s1, some r) => (s1, r, [])
  | (s1, none) =>
    if s1.tel.clearing then (s1, 7, [])
    else (s1.recorderCleared.modTel (fun t => { t with clearing := true }), 0, [])

/-! ## Serving SEC commands (R501, R520 to R522) -/

/-- What a command does: an unlisted value completes with INVALID (R521). -/
def State.secCommand (s : State) (p : SecPath) (q : SecReq) : SecResult :=
  match q.cmd.toNat with
  | 0x01 => s.secNonce p q.drawn
  | 0x10 => s.fwBegin p
  | 0x11 => s.fwWrite p q.arg.toNat q.data
  | 0x12 => s.fwFinish p
  | 0x13 => s.fwActivate p
  | 0x14 => s.bootConfirm
  | 0x15 => s.svnCommit p
  | 0x20 => s.ownerClaim p q.data
  | 0x21 => s.ownerRelease p q.data
  | 0x31 => s.debugUnlock p q.data
  | 0x40 => s.recorderClear p q.data
  | _ => (s, 2, [])

/-- A command ends on its path: the mailbox's in SEC_STATUS, SEC_LEN and the buffer, MCTP's in a response (R520, R543). -/
def State.secEnd (s : State) (p : SecPath) (result : Nat) (sent : List Byte) : State :=
  match p with
  | .mailbox => s.modSec (fun x => x.mailDone result sent)
  | .mctp => (s.modSec (fun x => { x with mctpResult := BitVec.ofNat 8 result })).emit (.response (BitVec.ofNat 8 result :: sent))
  | .instrument => s

/-- A command runs, and ends unless it has started a burn of the fuses.  Recovery mode accepts few (R501). -/
def State.secRun (s : State) (p : SecPath) (q : SecReq) : State :=
  let r := if s.sec.recovery && !recoveryCmd q.cmd.toNat then (s, 7, []) else s.secCommand p q
  if r.1.sec.burn.isSome then r.1 else r.1.secEnd p r.2.1 r.2.2

/-- The MCTP commands that have waited run in the order in which they came, until one starts a burn (R504, R520). -/
def State.secRunAll : List SecReq → State → State
  | [], s => s.modSec (fun x => { x with waiting := [] })
  | q :: rest, s =>
    if s.sec.burn.isSome then s.modSec (fun x => { x with waiting := q :: rest })
    else State.secRunAll rest (s.secRun .mctp q)

/-- The mailbox's command, as SEC_CMD, SEC_ARG and the buffer name it. -/
def State.mailReq (s : State) (drawn : BitVec 256) : SecReq :=
  { cmd := s.sec.cmd, arg := s.sec.arg, data := s.sec.mail, drawn := drawn }

/-- A SEC command is served on its path, in the order of arrival (R520): the mailbox's when SEC_CMD.go has named it, and then the MCTP commands that
came after it; MCTP's at once unless one that came before it is not done. -/
def State.runSec (s : State) (p : SecPath) (q : SecReq) : State :=
  if !s.secServed then s
  else match p with
    | .mailbox =>
      if s.sec.busy && s.sec.cmd = q.cmd && s.sec.burn.isNone then
        let s1 := s.secRun .mailbox (s.mailReq q.drawn)
        State.secRunAll s1.sec.waiting s1
      else s
    | .mctp =>
      if s.sec.busy || s.sec.burn.isSome then s.modSec (fun x => { x with waiting := x.waiting ++ [q] })
      else s.secRun .mctp q
    | .instrument => s

/-- One more bit of the svn fuse is burned; with the last, the command that started it ends, and event 0x0A04 is raised (R504; log 180). -/
def State.burnBit (s : State) : State :=
  match s.sec.burn with
  | none => s
  | some p =>
    let s1 := { s with fuses := { s.fuses with svn := s.fuses.svn + 1 } }
    if s1.fuses.svn < s.sec.svnRun then s1
    else
      let s2 := ((s1.modSec (fun x => { x with burn := none })).raise 0x0A04 0 s.sec.svnRun).secEnd p 0 []
      State.secRunAll s2.sec.waiting s2

/-- NONCE (R508). -/
def execNonce (path : SecPath) (drawn : BitVec 256) (s : State) : Host.Outcome State Fault Refusal :=
  .next (s.runSec path { cmd := 0x01, drawn := drawn })

/-- NONCE_EXPIRY (R508): 60 s after it was drawn. -/
def execNonceExpiry (path : SecPath) (s : State) : Host.Outcome State Fault Refusal := .next (s.setNonce path none)

/-- FW_BEGIN (R505). -/
def execFwBegin (path : SecPath) (s : State) : Host.Outcome State Fault Refusal := .next (s.runSec path { cmd := 0x10 })

/-- FW_WRITE (R505). -/
def execFwWrite (path : SecPath) (arg : BitVec 32) (buffer : List (BitVec 8)) (s : State) : Host.Outcome State Fault Refusal :=
  .next (s.runSec path { cmd := 0x11, arg := arg, data := buffer })

/-- FW_FINISH (R499, R505, R522). -/
def execFwFinish (path : SecPath) (s : State) : Host.Outcome State Fault Refusal := .next (s.runSec path { cmd := 0x12 })

/-- FW_ACTIVATE (R505). -/
def execFwActivate (path : SecPath) (s : State) : Host.Outcome State Fault Refusal := .next (s.runSec path { cmd := 0x13 })

/-- UPDATE_SESSION_TIMEOUT (R505): a session left idle for 60 s closes, and its slot is left invalid. -/
def execUpdateSessionTimeout (s : State) : Host.Outcome State Fault Refusal :=
  if s.sec.session.isSome then .next ((s.eraseSlot (!s.sec.slot)).modSec (fun x => { x with session := none, checked := false }))
  else .next s

/-- BOOT_CONFIRM (R506). -/
def execBootConfirm (path : SecPath) (s : State) : Host.Outcome State Fault Refusal := .next (s.runSec path { cmd := 0x14 })

/-- SVN_COMMIT (R504). -/
def execSvnCommit (path : SecPath) (s : State) : Host.Outcome State Fault Refusal := .next (s.runSec path { cmd := 0x15 })

/-- OWNER_CLAIM (R508, R509). -/
def execOwnerClaim (path : SecPath) (buffer : List (BitVec 8)) (s : State) : Host.Outcome State Fault Refusal :=
  .next (s.runSec path { cmd := 0x20, data := buffer })

/-- OWNER_RELEASE (R509). -/
def execOwnerRelease (path : SecPath) (buffer : List (BitVec 8)) (s : State) : Host.Outcome State Fault Refusal :=
  .next (s.runSec path { cmd := 0x21, data := buffer })

/-- DEBUG_UNLOCK (R518, R519). -/
def execDebugUnlock (path : SecPath) (buffer : List (BitVec 8)) (s : State) : Host.Outcome State Fault Refusal :=
  .next (s.runSec path { cmd := 0x31, data := buffer })

/-- RECORDER_CLEAR (R508, R540). -/
def execRecorderClear (path : SecPath) (buffer : List (BitVec 8)) (s : State) : Host.Outcome State Fault Refusal :=
  .next (s.runSec path { cmd := 0x40, data := buffer })

/-- The instrument's registers are reached through the TAP's access instruction (R518, R573; log 153). -/
def State.throughTap (s : State) : State := s.modPkg (fun p => { p with tap := { p.tap with instr := .access } })

/-- DEBUG_NONCE_DRAW (R518): 1 is shifted into the instrument's draw register, and its nonce register takes the nonce drawn. -/
def execDebugNonceDraw (drawn : BitVec 256) (s : State) : Host.Outcome State Fault Refusal :=
  if s.pkg.inReset then .next s
  else .next ((s.throughTap.setNonce .instrument (some drawn)).modSec (fun x => { x with instrDraw := true, instrNonce := drawn }))

/-- DEBUG_BLOCK_CHECK (R518): the instrument's block register takes a block, which is checked, and its status register the result. -/
def execDebugBlockCheck (block : List (BitVec 8)) (s : State) : Host.Outcome State Fault Refusal :=
  if s.pkg.inReset then .next s
  else
    let r := s.throughTap.debugBlock .instrument block
    .next (r.1.modSec (fun x => { x with instrBlock := block.take blockBytes, instrResult := BitVec.ofNat 8 r.2 }))

/-- RECORDER_CLEAR_DONE (R540). -/
def execRecorderClearDone (s : State) : Host.Outcome State Fault Refusal :=
  if s.tel.clearing then
    .next { s with
      flash := flashErase s.flash recorderBase (recorderBase + 32 * recorderSlots),
      tel := { s.tel with next := 0, full := false, clearing := false } }
  else .next s

/-! ## SPDM (R512 to R515) -/

/-- Whether the responder answers (R502, R546). -/
def State.spdmUp (s : State) : Bool := !s.pkg.inReset && !s.tel.mcReset && s.sec.responder

/-- A message of SPDM 1.3: version, code, two parameters, and the rest. -/
def spdmMsg (code p1 p2 : Nat) (rest : List Byte) : List Byte :=
  [0x13, BitVec.ofNat 8 code, BitVec.ofNat 8 p1, BitVec.ofNat 8 p2] ++ rest

/-- A response on its way: one that DataTransferSize does not hold is kept for CHUNK_GET (R512). -/
def State.respond (s : State) (m : List Byte) : State :=
  if m.length ≤ 4096 then s.emit (.response m)
  else (s.modSec (fun x => { x with chunkOut := m, chunkSeq := 0 })).emit (.response (spdmMsg 0x7F 0x0F 0 [1]))

def State.spdmError (s : State) (code data : Nat) : State := s.emit (.response (spdmMsg 0x7F code data []))

/-- A request served: in a test mode every request receives ERROR (R572), and without a responder none is answered. -/
def State.spdm (s : State) (f : State → State) : State :=
  if s.pkg.inReset then s
  else if s.pkg.testMode ≠ 0 then s.spdmError 5 0
  else if s.spdmUp then f s else s

/-- The same after the negotiation of version, capabilities and algorithms. -/
def State.spdmAfter (s : State) (f : State → State) : State :=
  s.spdm (fun s => if s.sec.versionDone && s.sec.capsDone && s.sec.algsDone then f s else s.spdmError 4 0)

/-- "AG480 " and five letters, as bytes (R510). -/
def keyLabel (letters : List Byte) : List Byte := [0x41, 0x47, 0x34, 0x38, 0x30, 0x20] ++ letters

/-- SK.seed, SK.prf and PK.seed of the key of a 32-byte secret (R510). -/
def keySeed (secret : List Byte) : SlhKey :=
  let m := hmacSha256 secret [1] ++ hmacSha256 secret [2]
  { skSeed := m.take 16, skPrf := (m.drop 16).take 16, pkSeed := (m.drop 32).take 16 }

/-- The DeviceID key (R510): the same for every image. -/
def State.deviceKey (s : State) : SlhKey :=
  keySeed (hmacSha256 (digestBytes s.fuses.uds) (keyLabel [0x44, 0x45, 0x56, 0x49, 0x44]))

/-- The Alias key of the running image (R510). -/
def State.aliasKey (s : State) : SlhKey :=
  keySeed (hmacSha256 (digestBytes s.fuses.uds)
    (keyLabel [0x41, 0x4C, 0x49, 0x41, 0x53] ++ digestBytes s.sec.bodyDigest ++ leBytes 2 s.sec.svnRun))

/-- A signature by a key in one of the parameter sets; the randomness that FIPS 205 allows is a free value. -/
def State.slhSign (s : State) (p : SlhSet) (k : SlhKey) (m : List Byte) : State × List Byte :=
  let t := s.freeBytes 16
  (t.1, p.sign k t.2 m)

/-- A response signed with the Alias key, which must exist (R512, R513, R519), and what follows the signature.  What SPDM has the responder sign,
which the transcript of the connection enters, is a free function of the response (log 110). -/
def State.respondSigned (s : State) (m rest : List Byte) : State :=
  if s.sec.aliasReady then
    let t := s.slhSign slh128f s.aliasKey (Config.toSign m)
    t.1.respond (m ++ t.2 ++ rest)
  else s.spdmError 5 0

/-- Whether the SHA-256 engine is in use for a FW_FINISH (R514): from the command's arrival, in the mailbox or over MCTP, to its end. -/
def State.hashBusy (s : State) : Bool := (s.sec.busy && s.sec.cmd = 0x12) || s.sec.waiting.any (fun q => q.cmd = 0x12)

/-- A request whose response is signed (R513, R514, R519): without the Alias key it receives ERROR, and while the SHA-256 engine is in use
ResponseNotReady with RDTExponent 19, the least whose 2^19 µs cover the 360 ms that it may take; token and RDTM are free values (log 152). -/
def State.spdmSigned (s : State) (request : Nat) (f : State → State) : State :=
  if !s.sec.aliasReady then s.spdmError 5 0
  else if s.hashBusy then
    let t := s.freeBytes 2
    t.1.emit (.response (spdmMsg 0x7F 0x42 0 ([19, BitVec.ofNat 8 request] ++ t.2)))
  else f s

/-- GET_VERSION (R513): the connection starts anew; its response carries the version byte 0x10 (log 110). -/
def State.spdmVersion (s : State) : State :=
  (s.modSec (fun x => { x with versionDone := true, capsDone := false, algsDone := false, chunkIn := [], chunkOut := [] })).respond
    ([0x10, 0x04, 0, 0, 0, 1, 0, 0x13])

/-- GET_CAPABILITIES (R512, R513): CTExponent 16, the least whose 2^16 µs cover R514's 60 ms (log 110). -/
def State.spdmCapabilities (s : State) : State :=
  if s.sec.versionDone then
    (s.modSec (fun x => { x with capsDone := true })).respond
      (spdmMsg 0x61 0 0 ([0, 16, 0, 0] ++ leBytes 4 0x262F6 ++ leBytes 4 4096 ++ leBytes 4 65536))
  else s.spdmError 4 0

/-- ALGORITHMS (R512), in the form of SPDM 1.3 (log 110): DMTF measurements, opaque data format 1, SHA-256 as measurement hash and base hash, no
listed signing algorithm but the extended one 0x03 / 0x0001, and three structures: key exchange over P-384, AES-256-GCM, and SPDM's key schedule. -/
def spdmAlgorithmsMsg : List Byte :=
  spdmMsg 0x63 3 0 (leBytes 2 52 ++ [1, 2] ++ leBytes 4 2 ++ leBytes 4 0 ++ leBytes 4 1 ++ List.replicate 11 0 ++ [0, 1, 0, 0, 0]
    ++ [0x03, 0, 0x01, 0x00] ++ [2, 0x20, 0x10, 0] ++ [3, 0x20, 0x02, 0] ++ [5, 0x20, 0x01, 0])

def State.spdmAlgorithms (s : State) : State :=
  if s.sec.versionDone && s.sec.capsDone then (s.modSec (fun x => { x with algsDone := true })).respond spdmAlgorithmsMsg
  else s.spdmError 4 0

/-- GLB_REV (R396, R490): the lowest stepping of each kind of die. -/
def State.glbRev (s : State) : Nat :=
  let lv := fun (d : Nat) => tget 2 s.host.levels d
  let cd := if [0, 1, 2, 3].any (fun d => lv d = 1) then 0xA0 else 0xA1
  let hub := if lv 8 = 1 then 0xA0 else 0xB0
  cd * 2 ^ 24 + 0xA0 * 2 ^ 16 + hub * 2 ^ 8 + 0xA0

/-- GLB_LEVEL (R491). -/
def State.glbLevel (s : State) : Nat :=
  let lv := fun (d : Nat) => tget 2 s.host.levels d % 4
  let four := fun (d : Nat) => lv d + lv (d + 1) * 4 + lv (d + 2) * 16 + lv (d + 3) * 64
  let low := (List.range 11).foldl (fun a d => min a (lv d)) 3
  low * 2 ^ 28 + lv 10 * 2 ^ 20 + lv 9 * 2 ^ 18 + lv 8 * 2 ^ 16 + four 4 * 2 ^ 8 + four 0

/-- A measurement block (R515): index, form (bit 7 raw), and value, in DMTF measurement form. -/
def State.measurement (s : State) (i : Nat) : List Byte :=
  let v := match i with
    | 1 => digestBytes (digest (Config.keyBytes 4))
    | 2 => digestBytes s.sec.meas2
    | 3 => digestBytes s.sec.bodyDigest
    | 4 => leBytes 2 s.sec.svnRun ++ leBytes 8 s.sec.build.toNat
    | 5 => leBytes 4 s.glbRev ++ leBytes 4 s.glbLevel
    | 6 => [BitVec.ofNat 8 s.sec.level]
    | _ => [BitVec.ofNat 8 (b2n s.sec.slot), BitVec.ofNat 8 (b2n s.sec.bootTrial), BitVec.ofNat 8 (b2n s.sec.fallback)]
  let form := if i ≤ 3 then 0 else 0x80
  [BitVec.ofNat 8 i, 1] ++ leBytes 2 (v.length + 3) ++ [BitVec.ofNat 8 form] ++ leBytes 2 v.length ++ v

/-! ## Certificates (R511) -/

/-- A length in DER. -/
def derLength (n : Nat) : List Byte :=
  if n < 0x80 then [BitVec.ofNat 8 n]
  else if n < 0x100 then [0x81, BitVec.ofNat 8 n]
  else if n < 0x10000 then 0x82 :: beBytes 2 n
  else 0x83 :: beBytes 3 n

/-- A value in DER, with its tag. -/
def der (tag : Byte) (content : List Byte) : List Byte := tag :: derLength content.length ++ content

/-- The algorithm identifier of an SLH-DSA parameter set: NIST's arc 2.16.840.1.101.3.4.3 with its last number, 20 for SHA2-128s and 21 for
SHA2-128f. -/
def slhAlgorithm (last : Byte) : List Byte := der 0x30 (der 0x06 [0x60, 0x86, 0x48, 0x01, 0x65, 0x03, 0x04, 0x03, last])

/-- The Alias certificate before its signature (R511): X.509 v3, with the Alias public key, and the package's serial number and measurements 3
and 4 in Sagaost's extension.  Its serial number, the names, the validity and the extension's identifier are not in the spec (log 9). -/
def State.aliasTbs (s : State) : List Byte :=
  let value := der 0x30 (der 0x04 (leBytes 8 s.fuses.serial.toNat) ++ der 0x04 (s.measurement 3) ++ der 0x04 (s.measurement 4))
  der 0x30 (der 0xA0 (der 0x02 [2]) ++ der 0x02 (Config.keyBytes 9) ++ slhAlgorithm 20 ++ Config.keyBytes 5 ++ Config.keyBytes 6
    ++ Config.keyBytes 7 ++ der 0x30 (slhAlgorithm 21 ++ der 0x03 (0 :: slh128f.publicKey s.aliasKey))
    ++ der 0xA3 (der 0x30 (der 0x30 (Config.keyBytes 8 ++ der 0x04 value))))

/-- The Alias certificate is signed by the DeviceID key (R502, R511). -/
def State.signAlias (s : State) : State :=
  let t := s.slhSign slh128s s.deviceKey s.aliasTbs
  t.1.modSec (fun x => { x with aliasCert := der 0x30 (s.aliasTbs ++ slhAlgorithm 20 ++ der 0x03 (0 :: t.2)) })

/-- BOOT_READY (R396, R502): the other dies run, the Alias certificate is signed, and every GDDR7 controller is trained or failed.  A debug level of
2 or 3 has no Alias key (R519). -/
def execBootReady (s : State) : Host.Outcome State Fault Refusal :=
  if s.sec.running && !s.host.ready && !s.tel.mcReset && (List.range 20).all (fun n => (s.gd n).trained || (s.gd n).trainFail) then
    .next ((s.signAlias.modHost (fun h => { h with ready := true })).modSec (fun x => { x with
      aliasReady := decide (x.level < 2), responder := true }))
  else .next s

/-- The identity area of the flash (R496). -/
def identityBase : Nat := 0x10000

def identityBytes : Nat := 0xF0000

/-- Bytes of the DER value at a flash offset, with its tag and length. -/
def State.derSize (s : State) (a : Nat) : Nat :=
  let h := flashRead s.flash a 5
  match (h.getD 1 0).toNat with
  | 0x81 => 3 + beNat ((h.drop 2).take 1)
  | 0x82 => 4 + beNat ((h.drop 2).take 2)
  | 0x83 => 5 + beNat ((h.drop 2).take 3)
  | n => 2 + n % 128

/-- The first `n` certificates from an offset of the identity area on: they follow each other (log 9). -/
def State.identityCerts (s : State) : Nat → Nat → List (List Byte)
  | 0, _ => []
  | n + 1, a =>
    let m := min (s.derSize (identityBase + a)) (identityBytes - a)
    flashRead s.flash (identityBase + a) m :: s.identityCerts n (a + m)

/-- An entry of the CDAT, which DOE serves beside SPDM (R389; log 181). -/
def cdatEntry (handle : Nat) : List Byte := Config.cdat handle

/-- The certificate chain of slot 0 (R511): root, intermediate and DeviceID certificates from the identity area and the Alias certificate, under the
header that SPDM gives a chain, its length and the root's digest. -/
def State.certChain (s : State) : List Byte :=
  let cs := s.identityCerts 3 0
  let body := cs.flatten ++ s.sec.aliasCert
  leBytes 2 (body.length + 36) ++ [0, 0] ++ sha256 (cs.headD []) ++ body

def State.spdmDigests (s : State) : State := s.respond (spdmMsg 0x01 0 1 (sha256 s.certChain))

def State.spdmCertificate (s : State) (slot offset length : Nat) : State :=
  let c := s.certChain
  if slot ≠ 0 || c.length ≤ offset then s.spdmError 1 0
  else
    let p := (c.drop offset).take length
    s.respond (spdmMsg 0x02 0 0 (leBytes 2 p.length ++ leBytes 2 (c.length - offset - p.length) ++ p))

/-- The summary of the measurements that a request asks for, 0 being none: the digest of every block (log 110). -/
def State.measureSummary (s : State) (kind : Nat) : List Byte :=
  if kind = 0 then [] else sha256 (([1, 2, 3, 4, 5, 6, 7].map s.measurement).flatten)

/-- CHALLENGE_AUTH (R513): the chain's digest, a nonce of the responder, the summary, no opaque data, and the requester's context. -/
def State.spdmChallenge (s : State) (slot : Nat) (asked : SpdmAsk) : State :=
  if slot ≠ 0 then s.spdmError 1 0
  else s.spdmSigned 0x83 (fun s =>
    let t := s.freeBytes 32
    t.1.respondSigned (spdmMsg 0x03 0 1 (sha256 s.certChain ++ t.2 ++ s.measureSummary asked.summary.toNat ++ [0, 0]
      ++ leBytes 8 asked.context.toNat)) [])

/-- MEASUREMENTS (R513, R515): the blocks asked for, a nonce of the responder, no opaque data, and the requester's context. -/
def State.spdmMeasurements (s : State) (index : Nat) (signed : Bool) (asked : SpdmAsk) : State :=
  if index ≠ 0 && index ≠ 255 && 7 < index then s.spdmError 1 0
  else
    let is' := if index = 0 then [] else if index = 255 then [1, 2, 3, 4, 5, 6, 7] else [index]
    let body := (is'.map s.measurement).flatten
    let answer := fun (nonce : List Byte) => spdmMsg 0x60 (if index = 0 then 7 else 0) 0
      ([BitVec.ofNat 8 is'.length] ++ leBytes 3 body.length ++ body ++ nonce ++ [0, 0] ++ leBytes 8 asked.context.toNat)
    let go := fun (s : State) =>
      let t := s.freeBytes 32
      if signed then t.1.respondSigned (answer t.2) [] else t.1.respond (answer t.2)
    if signed then s.spdmSigned 0xE0 go else go s

def State.session (s : State) (i : Nat) : SpdmSession := tget {} s.sec.sessions i

def State.setSession (s : State) (i : Nat) (x : SpdmSession) : State := s.modSec (fun y => { y with sessions := tput y.sessions i x })

/-- KEY_EXCHANGE_RSP (R513): heartbeat period 60 s, the session, no mutual authentication, random data, the responder's key-exchange data of 96 bytes
(P-384), 12 bytes of opaque data, the signature, and the proof of the secret (log 110). -/
def State.spdmExchange (s : State) (request : List Byte) : State :=
  match [0, 1].find? (fun i => !(s.session i).inUse) with
  | none => s.spdmError 0x0A 0
  | some i =>
    s.spdmSigned 0xE4 (fun s =>
      let secret := Config.exchange s.sec.drawn request
      let s1 := (s.setSession i { inUse := true, secret := secret }).modSec (fun x => { x with drawn := x.drawn + 1 })
      let t := s1.freeBytes 32
      t.1.respondSigned (spdmMsg 0x64 60 0 (leBytes 2 i ++ [0, 0] ++ t.2 ++ Config.exchangeKey s.sec.drawn ++ leBytes 2 12
        ++ Config.opaqueData)) (Config.verifyData secret))

/-- GET_VERSION (R513). -/
def execGetVersion (s : State) : Host.Outcome State Fault Refusal := .next (s.spdm State.spdmVersion)

/-- GET_CAPABILITIES (R513). -/
def execGetCapabilities (s : State) : Host.Outcome State Fault Refusal := .next (s.spdm State.spdmCapabilities)

/-- NEGOTIATE_ALGORITHMS (R512, R513). -/
def execNegotiateAlgorithms (s : State) : Host.Outcome State Fault Refusal := .next (s.spdm State.spdmAlgorithms)

/-- GET_DIGESTS (R513). -/
def execGetDigests (s : State) : Host.Outcome State Fault Refusal := .next (s.spdmAfter State.spdmDigests)

/-- GET_CERTIFICATE (R511, R513). -/
def execGetCertificate (slot : BitVec 8) (offset : BitVec 16) (length : BitVec 16) (s : State) : Host.Outcome State Fault Refusal :=
  .next (s.spdmAfter (fun s => s.spdmCertificate slot.toNat offset.toNat length.toNat))

/-- CHALLENGE (R513). -/
def execChallenge (slot : BitVec 8) (asked : SpdmAsk) (s : State) : Host.Outcome State Fault Refusal :=
  .next (s.spdmAfter (fun s => s.spdmChallenge slot.toNat asked))

/-- GET_MEASUREMENTS (R513, R515). -/
def execGetMeasurements (index : BitVec 8) (signed : Bool) (asked : SpdmAsk) (s : State) : Host.Outcome State Fault Refusal :=
  .next (s.spdmAfter (fun s => s.spdmMeasurements index.toNat signed asked))

/-- KEY_EXCHANGE (R513): at most 2 sessions. -/
def execKeyExchange (request : List (BitVec 8)) (s : State) : Host.Outcome State Fault Refusal :=
  .next (s.spdmAfter (fun s => s.spdmExchange request))

/-- FINISH (R513): the session is established when the request proves its secret. -/
def State.spdmFinish (s : State) (i : Nat) (request : List Byte) : State :=
  let x := s.session i
  if !x.inUse || x.finished then s.spdmError 4 0
  else if Config.finishOk x.secret request then (s.setSession i { x with finished := true }).respond (spdmMsg 0x65 0 0 [])
  else (s.setSession i {}).spdmError 6 0

/-- FINISH (R513). -/
def execFinish (session : Fin 2) (request : List (BitVec 8)) (s : State) : Host.Outcome State Fault Refusal :=
  .next (s.spdmAfter (fun s => s.spdmFinish session request))

/-- What an established session serves. -/
def State.sessionServes (s : State) (i : Nat) (f : State → State) : State :=
  if (s.session i).inUse && (s.session i).finished then f s else s.spdmError 4 0

/-- A request inside an established session. -/
def State.inSession (s : State) (i : Nat) (f : State → State) : State := s.spdmAfter (fun s => s.sessionServes i f)

/-- HEARTBEAT (R513). -/
def execSpdmHeartbeat (session : Fin 2) (s : State) : Host.Outcome State Fault Refusal :=
  .next (s.inSession session (fun s => s.respond (spdmMsg 0x68 0 0 [])))

/-- KEY_UPDATE (R513): the operations that SPDM defines are 1 to 3, of which the third only verifies. -/
def State.spdmKeyUpdate (s : State) (i : Nat) (op : Byte) : State :=
  let x := s.session i
  if op = 1 || op = 2 then (s.setSession i { x with keyGen := (x.keyGen + 1) % 256 }).respond (spdmMsg 0x69 op.toNat 0 [])
  else if op = 3 then s.respond (spdmMsg 0x69 3 0 [])
  else s.spdmError 1 0

/-- KEY_UPDATE (R513). -/
def execKeyUpdate (session : Fin 2) (op : BitVec 8) (s : State) : Host.Outcome State Fault Refusal :=
  .next (s.inSession session (fun s => s.spdmKeyUpdate session op))

/-- END_SESSION (R513, R516): the IDE keys stay in force. -/
def execEndSession (session : Fin 2) (s : State) : Host.Outcome State Fault Refusal :=
  .next (s.inSession session (fun s => (s.setSession session {}).respond (spdmMsg 0x6C 0 0 [])))

/-- SPDM_HEARTBEAT_TIMEOUT (R513): no message within the session's heartbeat period. -/
def execSpdmHeartbeatTimeout (session : Fin 2) (s : State) : Host.Outcome State Fault Refusal :=
  if (s.session session).inUse then .next (s.setSession session {}) else .next s

/-- SPDM_UNSUPPORTED (R513). -/
def execSpdmUnsupported (code : BitVec 8) (s : State) : Host.Outcome State Fault Refusal :=
  .next (s.spdm (fun s => s.spdmError 7 code.toNat))

/-! ## IDE keys (R516, R517) -/

/-- Number of an IDE stream (R577). -/
def ideIx : IdeStream → Nat
  | .ioPosted => 0
  | .ioNonPosted => 1
  | .ioCompletion => 2
  | .cachememHostToDevice => 3
  | .cachememDeviceToHost => 4

def State.ideDir (s : State) (x : IdeStream) : IdeDir := tget {} s.sec.ide (ideIx x)

def State.setIde (s : State) (x : IdeStream) (d : IdeDir) : State := s.modSec (fun y => { y with ide := tput y.ide (ideIx x) d })

/-- A VENDOR_DEFINED_RESPONSE of PCI-SIG that carries an IDE_KM message (R513, R516; log 110). -/
def State.ideAnswer (s : State) (m : List Byte) : State := s.respond (spdmMsg 0x7E 0 0 m)

/-- QUERY (R516). -/
def State.ideQuery (s : State) : State := s.ideAnswer [1, 0]

/-- KEY_PROG (R516): refused for the set that is in use. -/
def State.ideKeyProg (s : State) (stream : IdeStream) (keySet : Fin 2) (key : BitVec 256) : State :=
  let d := s.ideDir stream
  if d.active = some keySet then s.ideAnswer [3, 1]
  else (s.setIde stream (if keySet = 0 then { d with key0 := some key } else { d with key1 := some key })).ideAnswer [3, 0]

/-- K_SET_GO (R516): the direction switches to a programmed set; event 0x0A08. -/
def State.ideSetGo (s : State) (stream : IdeStream) (keySet : Fin 2) : State :=
  let d := s.ideDir stream
  let key := if keySet = 0 then d.key0 else d.key1
  if key.isNone then s.ideAnswer [6, 1]
  else ((s.setIde stream { d with active := some keySet, insecure := false }).raise 0x0A08 0
    (ideIx stream + keySet.val * 2 ^ 4)).ideAnswer [6, 0]

/-- K_SET_STOP (R516). -/
def State.ideSetStop (s : State) (stream : IdeStream) (keySet : Fin 2) : State :=
  let d := s.ideDir stream
  (s.setIde stream (if d.active = some keySet then { d with active := none } else d)).ideAnswer [6, 0]

/-- QUERY (R516). -/
def execQuery (session : Fin 2) (s : State) : Host.Outcome State Fault Refusal := .next (s.inSession session State.ideQuery)

/-- KEY_PROG (R516). -/
def execKeyProg (session : Fin 2) (stream : IdeStream) (keySet : Fin 2) (key : BitVec 256) (s : State) :
    Host.Outcome State Fault Refusal :=
  .next (s.inSession session (fun s => s.ideKeyProg stream keySet key))

/-- K_SET_GO (R516). -/
def execKSetGo (session : Fin 2) (stream : IdeStream) (keySet : Fin 2) (s : State) : Host.Outcome State Fault Refusal :=
  .next (s.inSession session (fun s => s.ideSetGo stream keySet))

/-- K_SET_STOP (R516). -/
def execKSetStop (session : Fin 2) (stream : IdeStream) (keySet : Fin 2) (s : State) : Host.Outcome State Fault Refusal :=
  .next (s.inSession session (fun s => s.ideSetStop stream keySet))

/-- IDE_INTEGRITY_FAILURE (R517): the stream becomes insecure, the host link is declared lost, and event 0x0A09 is raised. -/
def execIdeIntegrityFailure (stream : IdeStream) (s : State) : Host.Outcome State Fault Refusal :=
  let d := s.ideDir stream
  if d.active.isNone then .next s
  else .next (((s.hostLinkLost).setIde stream { insecure := true }).raise 0x0A09 0 (ideIx stream))

/-! ## Chunks (R512, R513) -/

/-- Bytes of a chunk: DataTransferSize less its header (R512). -/
def chunkBytes : Nat := 4084

/-- CHUNK_GET (R512, R513). -/
def execChunkGet (handle : BitVec 8) (seq : BitVec 16) (s : State) : Host.Outcome State Fault Refusal :=
  .next (s.spdmAfter (fun s =>
    if s.sec.chunkOut.isEmpty || seq.toNat ≠ s.sec.chunkSeq then s.spdmError 1 0
    else
      let c := s.sec.chunkOut.take chunkBytes
      let r := s.sec.chunkOut.drop chunkBytes
      (s.modSec (fun x => { x with chunkOut := r, chunkSeq := x.chunkSeq + 1 })).emit
        (.response (spdmMsg 0x06 (b2n r.isEmpty) handle.toNat (leBytes 2 seq.toNat ++ leBytes 2 0 ++ leBytes 4 c.length ++ c)))))

/-- A gathered request that only an established session serves: the chunks name none, so the first that is established takes it (log 110). -/
def State.spdmOpen (s : State) (f : Nat → State → State) : State :=
  match [0, 1].find? (fun i => (s.session i).inUse && (s.session i).finished) with
  | some i => f i s
  | none => s.spdmError 4 0

/-- The IDE stream of a sub-stream number of PCIe IDE_KM (log 110). -/
def ideOfSub : Nat → Option IdeStream
  | 0 => some .ioPosted
  | 1 => some .ioNonPosted
  | 2 => some .ioCompletion
  | _ => none

/-- An IDE_KM message of PCIe after the header of a VENDOR_DEFINED_REQUEST (R513, R516; log 110): PCI-SIG's standard and vendor numbers, a length,
protocol 0, and the object. -/
def State.ideMessage (s : State) (m : List Byte) : State :=
  let b := m.drop 7
  let set : Fin 2 := if nbit (leAt b 5 1) 0 then 1 else 0
  if leAt m 0 2 ≠ 3 || leAt m 2 1 ≠ 2 || leAt m 3 2 ≠ 1 || leAt b 0 1 ≠ 0 then s.spdmError 7 0xFE
  else match leAt b 1 1, ideOfSub (leAt b 5 1 / 16) with
    | 0, _ => s.ideQuery
    | 2, some x => s.ideKeyProg x set (BitVec.ofNat 256 (leAt b 7 32))
    | 4, some x => s.ideSetGo x set
    | 5, some x => s.ideSetStop x set
    | _, _ => s.spdmError 7 0xFE

/-- A request gathered from chunks is served. -/
def State.spdmGathered (s : State) (m : List Byte) : State :=
  match leAt m 1 1 with
  | 0x81 => s.spdmDigests
  | 0x82 => s.spdmCertificate (leAt m 2 1) (leAt m 4 2) (leAt m 6 2)
  | 0x83 =>
    s.spdmChallenge (leAt m 2 1) ⟨BitVec.ofNat 256 (leAt m 4 32), BitVec.ofNat 8 (leAt m 3 1), BitVec.ofNat 64 (leAt m 36 8)⟩
  | 0xE0 =>
    let signed := nbit (leAt m 2 1) 0
    s.spdmMeasurements (leAt m 3 1) signed ⟨BitVec.ofNat 256 (leAt m 4 32), 0, BitVec.ofNat 64 (leAt m (if signed then 37 else 4) 8)⟩
  | 0xE4 => s.spdmExchange (m.drop 4)
  | 0x84 => s.spdmVersion
  | 0xE1 => s.spdmCapabilities
  | 0xE3 => s.spdmAlgorithms
  | 0xE5 => match [0, 1].find? (fun i => (s.session i).inUse && !(s.session i).finished) with
    | some i => s.spdmFinish i (m.drop 4)
    | none => s.spdmError 4 0
  | 0xE8 => s.spdmOpen (fun _ s => s.respond (spdmMsg 0x68 0 0 []))
  | 0xE9 => s.spdmOpen (fun i s => s.spdmKeyUpdate i (m.getD 2 0))
  | 0xEA => s.spdmOpen (fun i s => (s.setSession i {}).respond (spdmMsg 0x6C 0 0 []))
  | 0xFE => s.spdmOpen (fun _ s => s.ideMessage (m.drop 4))
  | c => s.spdmError 7 c

/-- CHUNK_SEND (R512, R513): the chunks of a request are gathered, and the request is served with its last. -/
def execChunkSend (handle : BitVec 8) (seq : BitVec 16) (last : Bool) (data : List (BitVec 8)) (s : State) :
    Host.Outcome State Fault Refusal :=
  .next (s.spdmAfter (fun s =>
    let n := if seq = 0 then 0 else s.sec.chunkSeq
    let m := (if seq = 0 then [] else s.sec.chunkIn) ++ data
    if seq.toNat ≠ n || 65536 < m.length then (s.modSec (fun x => { x with chunkIn := [], chunkSeq := 0 })).spdmError 1 0
    else
      let ack := spdmMsg 0x05 0 handle.toNat (leBytes 2 seq.toNat)
      if last then ((s.modSec (fun x => { x with chunkIn := [], chunkSeq := 0 })).emit (.response ack)).spdmGathered m
      else (s.modSec (fun x => { x with chunkIn := m, chunkSeq := n + 1 })).emit (.response ack)))

end Sys2Proof.Machine
end

