-- ==== Sys2Proof/Machine/Read.lean ====
section
/-! DEFINITION. Read.lean: what every register of BAR0 and BAR2 reads as (R17, R18, R394, R395 and the register tables of the chapters).
No row of the table reads a register; the values serve writes of one half of a 64-bit register, and statements. -/
namespace Sys2Proof.Machine

/-- Index of an offset in an array of `count` registers at `base`, `stride` bytes apart. -/
def ixOf (off base stride count : Nat) : Option Nat :=
  if base ≤ off && (off - base) % stride = 0 && (off - base) / stride < count then some ((off - base) / stride) else none

/-- Index and remainder of an offset in an array of `count` blocks of `stride` bytes at `base`. -/
def blockOf (off base stride count : Nat) : Option (Nat × Nat) :=
  if base ≤ off && (off - base) / stride < count then some ((off - base) / stride, (off - base) % stride) else none

/-! ## GLB (R396, R490, R491) and HRC (R199, R407) -/

def State.glb32 (s : State) (o : Nat) : Nat :=
  if o = 0 then 0x04801CE4
  else if o = 4 then s.glbRev
  else if o = 0x18 then s.host.role.toNat * 2 ^ 30 + s.host.package.toNat
  else if o = 0x1C then s.host.epoch.toNat
  else if o = 0x20 then b2n s.host.glbReject * 2 ^ 30
  else if o = 0x24 then s.glbStatus
  else if o = 0x28 then s.glbLevel
  else 0

def State.glb64 (s : State) (o : Nat) : Option Nat :=
  if o = 8 then some s.fuses.serial.toNat else if o = 0x10 then some s.host.train.toNat else none

/-- The ring whose registers lie at an offset of HRC, with the offset of the register among them (R407). -/
def ringAt (o : Nat) : Option (RingRef × Nat) :=
  if h : o / 0x20 < 64 then some (.sq ⟨o / 0x20, h⟩, o % 0x20)
  else if h : (o - 0x800) / 0x20 < 64 then some (.cq ⟨(o - 0x800) / 0x20, h⟩, o % 0x20)
  else if 0x1000 ≤ o && o < 0x1020 then some (.eq, o % 0x20)
  else none

/-- BASE, then DB or HW, then STATE of a ring. -/
def State.ring64 (s : State) (r : RingRef) (o : Nat) : Option Nat :=
  let three := fun (a b : Dword) (tail head : Word) =>
    if o = 0 then some a.toNat else if o = 8 then some b.toNat
    else if o = 0x18 then some (tail.toNat * 2 ^ 32 + head.toNat) else none
  match r with
  | .sq q => let x := s.sq q; three x.base x.db x.tail x.head
  | .cq c => let x := s.cq c; three x.base x.hw x.tail x.head
  | .eq => let x := s.host.eq; three x.base x.hw x.tail x.head

def State.ringCfgRead (s : State) (r : RingRef) : Nat :=
  let arm := match r with
    | .sq _ => false
    | .cq c => (s.cq c).arm
    | .eq => s.host.eq.arm
  (s.ringCfg r).toNat + b2n arm * 2 ^ 30

def State.hrc32 (s : State) (o : Nat) : Nat :=
  let h := s.host
  match ringAt o with
  | some (r, i) => if i = 0x10 then s.ringCfgRead r else 0
  | none =>
    if o = 0x1100 then h.ctl.toNat + b2n h.reject * 2 ^ 29
    else if o = 0x1104 then h.status
    else if o = 0xF000 then h.hwtIndex.toNat
    else if o = 0xF010 then h.hwtCtl.toNat
    else 0

def State.hrc64 (s : State) (o : Nat) : Option Nat :=
  match ringAt o with
  | some (r, i) => s.ring64 r i
  | none => if o = 0xF008 then some (tget 0 s.host.hwt s.host.hwtIndex.toNat).toNat else none

/-! ## DLR (R171, R173, R258, R262, R264, R271, R445, R456, R482, R489) and TRK (R306) -/

/-- DLR_JOB_PLACE.group_mask (R171). -/
def Job.groupMask (j : Job) : Nat := if j.valid then (2 ^ j.groups - 1) * 2 ^ j.first else 0

def Job.dlr32 (j : Job) (o : Nat) : Nat :=
  if o = 0 then b2n j.valid * 2 ^ 31 + j.id.toNat * 2 ^ 16 + j.groupMask
  else if o = 4 then j.wdogLimit
  else if o = 8 then j.wdogElapsed
  else if o = 0xC then j.phase.toNat
  else if o = 0x10 then j.phaseTarget.toNat
  else 0

def Job.cut32 (j : Job) (o : Nat) : Nat :=
  if o = 0 then j.cut.toNat else if o = 4 then j.cutStep.toNat else if o = 0x10 then j.cutSize.toNat else 0

def Job.verCtl (j : Job) : Nat := j.curTag.toNat * 2 ^ 24 + j.nextTag.toNat * 2 ^ 16 + j.jobSlots

def VerEntry.reg (x : VerEntry) : Nat := x.tag.toNat * 2 ^ 56 + x.state * 2 ^ 54 + x.refs

def Keep.homeReg (k : Keep) : Nat := b2n k.valid * 2 ^ 63 + k.state * 2 ^ 61 + k.job.toNat * 2 ^ 48 + k.home.toNat

def Keep.infoReg (k : Keep) : Nat := k.tag.toNat * 2 ^ 56 + k.recipe.toNat * 2 ^ 32 + k.size.toNat

def State.dlr32 (s : State) (o : Nat) : Nat :=
  if o = 0x40 then s.dealer.wdogCtl.toNat
  else if o = 0x44 then s.dealer.chanCtl.toNat
  else if o = 0x48 then s.dealer.recovCtl.toNat
  else match ixOf o 0x80 4 8 with
  | some i => (tget 0 s.dealer.talons i).toNat
  | none => match blockOf o 0x1000 0x20 16 with
  | some (n, r) => (s.job n).dlr32 r
  | none => match ixOf o 0x2800 4 16 with
  | some n => (s.job n).verCtl
  | none => match blockOf o 0x2C00 0x20 16 with
  | some (n, r) => (s.job n).cut32 r
  | none => match ixOf o 0x3000 0x10 256 with
  | some i => (tget {} (s.job (i / 16)).loads (i % 16)).status
  | none => match ixOf o 0x4008 0x10 256 with
  | some r => (tget (0, 0) s.dealer.vregs r).2.toNat
  | none => 0

def State.dlr64 (s : State) (o : Nat) : Option Nat :=
  match ixOf o 0x2000 8 256 with
  | some i => some (tget {} (s.job (i / 16)).versions (i % 16)).reg
  | none => match ixOf o 0x2C08 0x20 16 with
  | some n => some (s.job n).cutSelf.toNat
  | none => match ixOf o 0x3008 0x10 256 with
  | some i => some (tget {} (s.job (i / 16)).loads (i % 16)).kept
  | none => match ixOf o 0x4000 0x10 256 with
  | some r => some (tget (0, 0) s.dealer.vregs r).1.toNat
  | none => match ixOf o 0x6000 8 256 with
  | some i => let k := tget {} s.dealer.keeps (i / 2); some (if i % 2 = 0 then k.homeReg else k.infoReg)
  | none => none

def State.trk32 (s : State) (o : Nat) : Nat :=
  if o = 0 then s.trk.ctl.toNat
  else if o = 4 then s.trk.deckCtl.toNat
  else if o = 8 then
    let held := (s.trk.shares.filter (fun e => e.1 ≠ 0)).length
    s.trk.coords.length * 2 ^ 16 + held * 2 ^ 8 + (s.trk.locals.length + held)
  else match ixOf o 0x10 4 4 with
  | some k => s.stackTricks k * 2 ^ 25 + (s.logLines k).length
  | none => match ixOf o 0x100 4 16 with
  | some n => (s.job n).trkCtl.toNat
  | none => match ixOf o 0x180 4 16 with
  | some n => (s.job n).trkRevoke.toNat
  | none => 0

def State.trk64 (s : State) (o : Nat) : Option Nat :=
  match ixOf o 0x1000 8 512 with
  | some i =>
    let e := tget (0, 0) (s.job (i / 32)).durable (i % 32 / 2)
    some (if i % 2 = 0 then e.1.toNat else e.2.toNat)
  | none => none

/-! ## STS, EVR (R532, R535, R541), SEC (R520), MGT (R473, R545, R565) -/

def State.sts32 (s : State) (o : Nat) : Nat :=
  if o = 0x200 then s.tel.liveSel.toNat
  else match blockOf o 0 0x10 16 with
  | some (n, r) =>
    let j := s.job n
    if r = 0 then b2n j.page.isSome * 2 ^ 31 + j.step.toNat % 2 * 2 ^ 30 else if r = 4 then j.pageStep.toNat else 0
  | none => 0

def State.sts64 (s : State) (o : Nat) : Option Nat :=
  if o = 0x208 then some (s.statEntry (bits s.tel.liveSel 16 4) (bits s.tel.liveSel 0 7)).entry else none

def State.evr32 (s : State) (o : Nat) : Nat :=
  if o = 0 then s.evrStatus
  else if o = 4 then s.evrQueue
  else if o = 0x10 then s.tel.rateDflt.toNat
  else if o = 0x60 then s.tel.codeSel.toNat
  else if o = 0x80 then s.tel.readIndex.toNat
  else match ixOf o 0x20 4 16 with
  | some i => (tget 0 s.tel.rateOvr i).toNat
  | none => match ixOf o 0x100 4 8 with
  | some w => leNat (flashRead s.flash (recorderBase + s.tel.readIndex.toNat * 32 + w * 4) 4)
  | none => 0

def State.evr64 (s : State) (o : Nat) : Option Nat :=
  if o = 0x68 then
    let code := s.tel.codeSel.toNat
    let b := tget {} s.tel.buckets code
    some (b.pending * 2 ^ 32 + b.tokens)
  else none

/-- SEC_BOOT: 0 from power-on reset until the ROM has read the fuses and the boot record and has made its choice (R500, R524; log 182). -/
def State.secBoot (s : State) : Nat :=
  let used := (List.range 4).foldl (fun a i => a + b2n (s.owner i).2.1 * 2 ^ i) 0
  if !(s.sec.running || s.sec.recovery) then 0
  else b2n s.sec.slot * 2 ^ 31 + b2n s.bootRecord.trial * 2 ^ 30 + b2n s.sec.fallback * 2 ^ 29 + s.fuses.svn * 2 ^ 16
    + s.sec.svnRun * 2 ^ 8 + used * 2 ^ 3 + b2n s.ownerSlot.isSome * 2 ^ 2 + s.ownerSlot.getD 0

def State.sec32 (s : State) (o : Nat) : Nat :=
  let x := s.sec
  if o = 0 then x.cmd.toNat
  else if o = 4 then x.arg.toNat
  else if o = 8 then x.len.toNat
  else if o = 0xC then x.status
  else if o = 0x10 then s.secBoot
  else if o = 0x14 then x.level
  else match ixOf o 0x1000 4 8192 with
  | some i => leNat ((upFrom (4 * i) 4).map (fun a => tget 0 x.buffer a))
  | none => 0

def State.mgt32 (s : State) (o : Nat) : Nat :=
  let p := s.pkg
  if o = 0x10 then s.tel.powerDw.toNat
  else if o = 0x40 then s.tel.wdogResets * 2 ^ 16 + 2000
  else if o = 0x80 then b2n p.capReject * 2 ^ 31 + p.hostCap
  else if o = 0x84 then b2n (decide (p.fSet < 800)) * 2 ^ 31 + b2n p.prochot * 2 ^ 30 + p.bmcCap * 2 ^ 20 + p.cap * 2 ^ 10 + p.fSet
  else if o = 0x88 then
    (List.range 4).foldl (fun a k => max a (tget 0 p.temps k).toNat) 0 * 2 ^ 8
      + (List.range 4).foldl (fun a k => a + (s.stack k).throttle * 4 ^ k) 0
  else match ixOf o 0x1000 4 128 with
  | some l => (s.tile l).clock
  | none => match ixOf o 0x2000 4 84 with
  | some m => let e := tget (0, 0) p.d2d m; e.1 * 2 ^ 29 + e.2 * 2 ^ 24
  | none => 0

def State.mgt64 (s : State) (o : Nat) : Option Nat :=
  if o = 0 then some (s.tel.powerCycles.toNat * 2 ^ 40 + s.tel.seconds.toNat)
  else if o = 8 then some s.tel.energy.toNat else none

/-! ## HL (R349 to R353, R574), MLD (R384 to R386), GD (R234) -/

def Identity.info (n : Identity) : Nat :=
  2 ^ 31 + n.package.toNat * 2 ^ 16 + n.port.toNat * 2 ^ 13 + b2n n.half * 2 ^ 12 + n.role.toNat * 2 ^ 10 + n.level.toNat

def State.hl32 (s : State) (p o : Nat) : Nat :=
  let q := s.port p
  if !s.portExists p then 0
  else if o = 0 then q.ctl.toNat + b2n q.reject * 2 ^ 24
  else if o = 4 then q.status
  else if o = 8 then q.errCfg.toNat
  else if o = 0x80 then q.rtIndex.toNat
  else if o = 0x84 then (tget routeReset q.routes q.rtIndex.toNat).toNat
  else if o = 0x88 && p = 0 then s.ortIndex.toNat
  else if o = 0x8C && p = 0 then (tget routeReset s.originRoutes s.ortIndex.toNat).toNat
  else if o = 0x110 then (q.nbr.map Identity.info).getD 0
  else match ixOf o 0x10 4 4 with
  | some c => (tget kittyReset q.kittyClass c).toNat
  | none => 0

def State.hl64 (s : State) (p o : Nat) : Option Nat :=
  let q := s.port p
  let v := if o = 0x100 then some ((q.nbr.map (·.serial.toNat)).getD 0)
    else if o = 0x108 then some ((q.nbr.map (·.trainId.toNat)).getD 0)
    else match ixOf o 0x40 8 5 with
    | some t => some (tget 0 q.fi t).toNat
    | none => match ixOf o 0x200 8 14 with
    | some i => some (tget 0 q.counters i).toNat
    | none => (ixOf o 0x300 8 8).map (fun k => (tget 0 q.lbLanes k).toNat)
  if s.portExists p then v else v.map (fun _ => 0)

def MeldCtx.reg (c : MeldCtx) (r : Nat) : Nat :=
  match r with
  | 0 => c.key.toNat
  | 1 => c.shape.toNat
  | 2 => c.dst.toNat
  | 3 => c.stat.toNat
  | 4 => c.aux.toNat
  | 5 => c.tables.toNat
  | 6 => c.sync.toNat
  | _ => c.started % 2 ^ 16 * 2 ^ 16 + c.done % 2 ^ 16

def State.mld32 (s : State) (e o : Nat) : Nat :=
  let m := s.meld e
  if o = 0 then b2n m.reject * 2 ^ 30
  else if o = 4 then
    (m.ctxs.filter (fun (x : Nat × MeldCtx) => x.2.valid)).length * 2 ^ 16 + m.slabsUsed * 2 ^ 8 + m.deferred.length
  else if o = 0x200 then m.srcIndex.toNat
  else if o = 0x218 then m.shardIndex.toNat
  else if o = 0x21C then (tget 0 m.shards m.shardIndex.toNat).toNat
  else 0

def State.mld64 (s : State) (e o : Nat) : Option Nat :=
  let m := s.meld e
  if o = 0x208 then some (tget (0, 0) m.sources m.srcIndex.toNat).1.toNat
  else if o = 0x210 then some (tget (0, 0) m.sources m.srcIndex.toNat).2.toNat
  else match ixOf o 0x100 8 5 with
  | some i => some (tget 0 m.counters i).toNat
  | none => (ixOf o 0x8000 8 4096).map (fun i =>
    (tget {} m.ctxs (i / 8)).reg (i % 8) + (if i % 8 = 0 && !(s.activeFirings e (i / 8)).isEmpty then 2 ^ 61 else 0))

def State.gd32 (s : State) (n o : Nat) : Nat :=
  let g := s.gd n
  if o = 4 then g.status
  else if o = 8 then g.thr.toNat
  else if o = 0xC then (if bits g.scrub 0 16 = 0 then g.scrub.toNat + 1 else g.scrub.toNat)
  else if o = 0x10 then g.ueCount * 2 ^ 16 + g.ceCount
  else if o = 0x20 then b2n g.marginDone * 2 ^ 30 + g.marginResult * 2 ^ 28 + g.minUi * 2 ^ 8 + g.minVref
  else ((ixOf o 0x100 4 32).map (fun p => (tget 0 g.marginDq p).toNat)).getD 0

def State.gd64 (s : State) (n o : Nat) : Option Nat :=
  if o = 0x18 then some (((s.gd n).poisonAddr.map (fun a => 2 ^ 63 + a.toNat)).getD 0) else none

/-! ## Tiles (R76, R103, R137, R145, R156, R208, R209, R239, R252, R259), stacks (R205, R233, R467), objects (R152) -/

def Stream.reg (x : Stream) (o : Nat) : Nat :=
  if o = 0 then x.prog.toNat
  else if o = 4 then x.state.code * 2 ^ 29 + x.waitHandle.toNat * 2 ^ 16 + x.pc.toNat
  else if o = 8 then x.pending % 2 ^ 16
  else ((ixOf o 0x10 4 4).map (fun i => bits x.tag (32 * i) 32)).getD 0

def Handle.reg (h : Handle) (o : Nat) : Nat :=
  if o = 0 then h.obj.toNat else if o = 4 then h.sig.toNat else if o = 8 then h.wait.toNat else h.tgt.toNat

def Endpoint.reg32 (x : Endpoint) (o : Nat) : Nat :=
  if o = 0 then x.cfg.toNat else if o = 4 then x.peer.toNat else if o = 0x18 then x.status else 0

def Endpoint.reg64 (x : Endpoint) (o : Nat) : Option Nat :=
  if o = 8 then some x.base.toNat
  else if o = 0x10 then some x.spillBase.toNat
  else if o = 0x20 then some ((if x.isRecv then x.take else x.tail).toNat * 2 ^ 32 + x.head.toNat)
  else if o = 0x28 then some (x.spillTail.toNat * 2 ^ 32 + x.spillHead.toNat)
  else if o = 0x40 then some x.msgs.toNat
  else if o = 0x48 then some x.bytes.toNat
  else if o = 0x50 then some x.sstall.toNat
  else if o = 0x58 then some x.rstall.toNat
  else none

def Tile.reg32 (t : Tile) (o : Nat) : Nat :=
  if o = 0x9000 then t.dmaCtl.toNat
  else if o = 0xA000 then t.arrCtl.toNat
  else if o = 0xA004 then t.arrWeight.toNat
  else if o = 0xA008 then t.arrStatus
  else if o = 0xB000 then t.vecStatus
  else if o = 0xE000 then t.fovfStatus.toNat
  else if o = 0xE004 then t.fovfWhere.toNat
  else if o = 0xE008 then t.fovfTag.toNat
  else if o = 0xE00C then t.fovfStep.toNat
  else if o = 0xE010 then t.fovfCycle.toNat
  else match blockOf o 0x8000 0x80 32 with
  | some (e, r) => (t.ep e).reg32 r
  | none => match blockOf o 0xC000 0x100 3 with
  | some (n, r) => (t.stream n).reg r
  | none => match blockOf o 0xD000 0x400 3 with
  | some (n, r) => (tget {} (t.stream n).handles (r / 0x10)).reg (r % 0x10)
  | none => 0

def Tile.reg64 (t : Tile) (o : Nat) : Option Nat :=
  match ixOf o 0x7000 8 24 with
  | some i => some (tget 0 (t.stream (i / 8)).sels (i % 8)).toNat
  | none => match blockOf o 0x8000 0x80 32 with
  | some (e, r) => (t.ep e).reg64 r
  | none => match blockOf o 0xF000 0x80 7 with
  | some (e, r) => if r % 8 = 0 && r < 96 then some (tget 0 t.stalls (e * 12 + r / 8)).toNat else none
  | none => none

/-- Registers of a stack outside its tiles, at an offset of the stack.  While `busy` is set the size fields read the size in effect, the old one
(logs 146 and 190, DEDUCED). -/
def State.stk32 (s : State) (k o : Nat) : Nat :=
  let x := s.stack k
  if o = 0x301000 then
    b2n x.memBusy.isSome * 2 ^ 31 + b2n x.memReject * 2 ^ 30 + (368 - 4 * x.far4m) / 4 * 2 ^ 8 + x.far4m
  else if o = 0x301004 then
    b2n x.gddrBusy.isSome * 2 ^ 31 + b2n x.gddrReject * 2 ^ 30 + (4784 - 128 * x.cut512) * 2 ^ 16 + x.cut512
  else if o = 0x302200 then x.swaps
  else match ixOf o 0x302000 4 32 with
  | some l => s.physOf k l
  | none => ((ixOf o 0x302100 4 34).map (fun t => s.tileStateOf k t)).getD 0

def SyncObj.reg (x : SyncObj) : Nat :=
  x.job.toNat * 2 ^ 52 + x.kind.toNat * 2 ^ 50 + x.membersM1.toNat * 2 ^ 32 + x.value.toNat

def State.stk64 (s : State) (k o : Nat) : Option Nat := (ixOf o 0x380000 8 16384).map (fun i => (s.obj (k * 16384 + i)).reg)

/-! ## The address map of BAR0 (R395) -/

/-- A block of BAR0 (R395). -/
inductive Block where
  | glb
  | hrc
  | dlr
  | trk
  | sts
  | evr
  | sec
  | mgt
  | hl (port : Nat)
  | mld (engine : Nat)
  | gd (ctrl : Nat)
  | tile (stack phys : Nat)
  | stk (stack : Nat)
  deriving DecidableEq, Repr

/-- The block that an offset of BAR0 lies in, with the offset within it. -/
def blockAt (off : Nat) : Option (Block × Nat) :=
  if off < 0x80000 then
    (([Block.glb, .hrc, .dlr, .trk, .sts, .evr, .sec, .mgt] : List Block)[off / 0x10000]?).map (fun b => (b, off % 0x10000))
  else match blockOf off 0x100000 0x10000 16 with
  | some (p, o) => some (.hl p, o)
  | none => match blockOf off 0x200000 0x10000 2 with
  | some (e, o) => some (.mld e, o)
  | none => match blockOf off 0x400000 0x8000 20 with
  | some (n, o) => some (.gd n, o)
  | none => match blockOf off 0x1000000 0x400000 4 with
  | some (k, o) => if o / 0x10000 < 34 then some (.tile k (o / 0x10000), o % 0x10000) else some (.stk k, o)
  | none => none

/-- A 32-bit register, 0 where a block assigns none (R395). -/
def State.reg32 (s : State) (b : Block) (o : Nat) : Nat :=
  match b with
  | .glb => s.glb32 o
  | .hrc => s.hrc32 o
  | .dlr => s.dlr32 o
  | .trk => s.trk32 o
  | .sts => s.sts32 o
  | .evr => s.evr32 o
  | .sec => s.sec32 o
  | .mgt => s.mgt32 o
  | .hl p => s.hl32 p o
  | .mld e => s.mld32 e o
  | .gd n => s.gd32 n o
  | .tile k t => (s.tileAt (k * 34 + t)).reg32 o
  | .stk k => s.stk32 k o

/-- A 64-bit register, none where a block has none at the offset. -/
def State.reg64 (s : State) (b : Block) (o : Nat) : Option Nat :=
  match b with
  | .glb => s.glb64 o
  | .hrc => s.hrc64 o
  | .dlr => s.dlr64 o
  | .trk => s.trk64 o
  | .sts => s.sts64 o
  | .evr => s.evr64 o
  | .sec => none
  | .mgt => s.mgt64 o
  | .hl p => s.hl64 p o
  | .mld e => s.mld64 e o
  | .gd n => s.gd64 n o
  | .tile k t => (s.tileAt (k * 34 + t)).reg64 o
  | .stk k => s.stk64 k o

/-- A 32-bit read of a block at a multiple of 4. -/
def State.read32 (s : State) (b : Block) (o : Nat) : Nat :=
  match s.reg64 b (o - o % 8) with
  | some v => nbits v (8 * (o % 8)) 32
  | none => s.reg32 b o

/-- A read of BAR0: naturally aligned 32-bit and 64-bit reads return the registers' values, any other read all ones (R17, R395). -/
def State.readBar0 (s : State) (off bytes : Nat) : Nat :=
  if !((bytes = 4 || bytes = 8) && off % bytes = 0) then 2 ^ (8 * bytes) - 1
  else match blockAt off with
  | none => 0
  | some (b, o) => if bytes = 4 then s.read32 b o else s.read32 b o + s.read32 b (o + 4) * 2 ^ 32

/-- A double word of configuration space (R4, R423). -/
def State.readConfig (s : State) (off : Nat) : Word := tget 0 s.host.configSpace (off / 4)

/-- A 32-bit read of BAR2 at a multiple of 4 (R391, R394): component registers, MSI-X table in the layout of PCIe (log 11), pending bits.
Without CXL.cache BAR2 is not served; what a read then returns the spec does not say, and the model returns 0 (log 172, DESIGN CHOICE). -/
def State.readBar2 (s : State) (off : Nat) : Nat :=
  let h := s.host
  if h.pcieOnly then 0
  else if off < 0x8000 then (tget 0 h.component (off / 4)).toNat
  else match ixOf off 0x8000 4 256 with
  | some i => bits (tget msixReset h.msixTable (i / 4)) (32 * (i % 4)) 32
  | none => match ixOf off 0x9000 4 2 with
  | some i => (List.range 32).foldl (fun a v => a + b2n (h.msixPending.contains (32 * i + v)) * 2 ^ v) 0
  | none => 0

end Sys2Proof.Machine
end

