-- ==== Sys2Proof/Machine/Register.lean ====
section
/-! DEFINITION. Register.lean: the host's writes of registers (R17, R18, R20, R394 to R397, R576). A row of its own and REGISTER_WRITE call the
same writer of a register. -/
namespace Sys2Proof.Machine

/-- A register reserved to the Dealer: written when nothing holds it, else discarded with cfg_reject of GLB_CTL (R576). -/
def State.reserved (s : State) (held : Bool) (f : State → State) : State := if held then s.glbReject else f s

/-! ## GLB (R396, R397) -/

/-- GLB_TRAIN and GLB_PKG (R397): accepted only while no job exists. -/
def State.writeIdentity (s : State) (reg : IdentityReg) (v : Dword) : State :=
  if s.anyJob then s.glbReject
  else match reg with
  | .train => if s.host.train = v then s else (s.modHost (fun h => { h with train := v })).identityChanged
  | .package =>
    let role := BitVec.ofNat 2 (bits v 30 2)
    let package := BitVec.ofNat 12 (bits v 0 12)
    if s.host.role = role && s.host.package = package then s
    else (s.modHost (fun h => { h with role := role, package := package, epoch := h.epoch + 1 })).identityChanged

/-- GLB_IDENTITY_WRITE (R397). -/
def execGlbIdentityWrite (reg : IdentityReg) (value : BitVec 64) (s : State) : Host.Outcome State Fault Refusal :=
  .next (s.fromHost (s.writeIdentity reg value))

/-- GLB_CTL (R396, R475). -/
def State.writeGlbCtl (s : State) (v : Word) : State :=
  let s1 := if v.getLsbD 30 then s.modHost (fun h => { h with glbReject := false }) else s
  if v.getLsbD 31 && !s1.host.ccBusy then s1.ccResetOpen else s1

def State.writeGlb32 (s : State) (o : Nat) (v : Word) : State :=
  if o = 0x18 then s.writeIdentity .package (v.setWidth 64) else if o = 0x20 then s.writeGlbCtl v else s

/-! ## HRC (R199, R407, R408) -/

def State.writeHrc32 (s : State) (o : Nat) (v : Word) : State :=
  match ringAt o with
  | some (r, i) => if i = 0x10 then s.writeCfg r v else s
  | none =>
    if o = 0x1100 then s.writeHrcCtl v
    else if o = 0xF000 then s.modHost (fun h => { h with hwtIndex := v.setWidth 16 })
    else if o = 0xF010 then s.modHost (fun h => { h with hwtCtl := oneFor [(0, 16)] (v &&& 0x8000FFFF) })
    else s

def State.writeHrc64 (s : State) (o : Nat) (v : Dword) : State :=
  match ringAt o with
  | some (r, i) => if i = 0 then s.writeRingAddr r false v else if i = 8 then s.writeRingAddr r true v else s
  | none => if o = 0xF008 then s.writeHwt v else s

/-! ## DLR and TRK -/

/-- Whether a job field names a placed job (R576). -/
def State.jobPlaced (s : State) (job : Nat) : Bool := (List.range 16).any (fun n => (s.job n).valid && (s.job n).id.toNat = job)

def State.slotHeld (s : State) (n : Nat) : Bool := (s.job n).valid

/-- Region entry r (R262, R576). -/
def State.writeVreg (s : State) (r : Nat) (f : Dword × Word → Dword × Word) : State :=
  let e := tget (0, 0) s.dealer.vregs r
  s.reserved (s.jobPlaced (bits e.1 48 12)) (fun s => s.modDealer (fun d => { d with vregs := tput d.vregs r (f e) }))

/-- Keep entry k (R271, R576): `state` and `tag` are the hardware's. -/
def State.writeKeep (s : State) (k : Nat) (f : Keep → Keep) : State :=
  let e := tget {} s.dealer.keeps k
  s.reserved (s.jobPlaced e.job.toNat) (fun s => s.modDealer (fun d => { d with keeps := tput d.keeps k (f e) }))

/-- A job slot's registers while no job is placed in it (R576). -/
def State.writeSlot (s : State) (n : Nat) (f : Job → Job) : State := s.reserved (s.slotHeld n) (fun s => s.modJob n f)

def State.writeDlr32 (s : State) (o : Nat) (v : Word) : State :=
  if o = 0x40 then s.modDealer (fun d => { d with wdogCtl := v &&& 0xFFC00000 })
  else if o = 0x44 then s.modDealer (fun d => { d with chanCtl := oneFor [(0, 16)] v })
  else if o = 0x48 then s.modDealer (fun d => { d with recovCtl := oneFor [(16, 16), (0, 16)] v })
  else match ixOf o 0x80 4 8 with
  | some i => s.modDealer (fun d => { d with talons := tput d.talons i (v &&& 0x80000FFF) })
  | none => match ixOf o 0x100C 0x20 16 with
  | some n => s.writeSlot n (fun j => { j with phase := maskIn 0xE000FFFF v j.phase })
  | none => match ixOf o 0x1010 0x20 16 with
  | some n => s.writeSlot n (fun j => { j with phaseTarget := v })
  | none => match ixOf o 0x2C00 0x20 16 with
  | some n => s.writeSlot n (fun j => { j with cut := oneFor [(8, 8)] (maskIn 0x8FFFFF00 v j.cut) })
  | none => match ixOf o 0x2C10 0x20 16 with
  | some n => s.writeSlot n (fun j => { j with cutSize := v })
  | none => match ixOf o 0x4008 0x10 256 with
  | some r => s.writeVreg r (fun e => (e.1, v))
  | none => s

def State.writeDlr64 (s : State) (o : Nat) (v : Dword) : State :=
  match ixOf o 0x2C08 0x20 16 with
  | some n => s.writeSlot n (fun j => { j with cutSelf := v &&& 0xFFFFFFFFFFFF })
  | none => match ixOf o 0x4000 0x10 256 with
  | some r => s.writeVreg r (fun e => (v &&& 0x8FFFFFFFFFFFFFFF, e.2))
  | none => match ixOf o 0x6000 8 256 with
  | some i =>
    s.writeKeep (i / 2) (fun k =>
      if i % 2 = 0 then
        { k with valid := nbit v.toNat 63, job := BitVec.ofNat 12 (bits v 48 12), home := BitVec.ofNat 48 (bits v 0 48) }
      else { k with recipe := BitVec.ofNat 12 (bits v 32 12), size := BitVec.ofNat 32 (bits v 0 32) })
  | none => s

def State.writeTrk32 (s : State) (o : Nat) (v : Word) : State :=
  if o = 0 then s.modTrk (fun u => { u with ctl := oneFor [(16, 8)] (v &&& 0xFFFF0000) })
  else if o = 4 then s.modTrk (fun u => { u with deckCtl := oneFor [(16, 16)] (v &&& 0xFFFF0000) })
  else match ixOf o 0x100 4 16 with
  | some n => s.writeSlot n (fun j => { j with trkCtl := v &&& 0x0FFFFF00 })
  | none => s

def State.writeTrk64 (s : State) (o : Nat) (v : Dword) : State :=
  match ixOf o 0x1000 8 512 with
  | some i =>
    s.writeSlot (i / 32) (fun j =>
      let r := i % 32 / 2
      let e := tget (0, 0) j.durable r
      let w := v &&& 0x8000FFFFFFFFFFC0
      { j with durable := tput j.durable r (if i % 2 = 0 then (w, e.2) else (e.1, w &&& 0xFFFFFFFFFFFF)) })
  | none => s

/-! ## STS, EVR, SEC and MGT -/

def State.writeEvr32 (s : State) (o : Nat) (v : Word) : State :=
  if o = 0x10 then s.modTel (fun t => { t with rateDflt := oneFor [(8, 8), (0, 8)] (v &&& 0xFFFF) })
  else if o = 0x60 then s.modTel (fun t => { t with codeSel := v.setWidth 16 })
  else if o = 0x80 then s.modTel (fun t => { t with readIndex := v.setWidth 17 })
  else match ixOf o 0x20 4 16 with
  | some i => s.modTel (fun t => { t with rateOvr := tput t.rateOvr i (oneFor [(0, 8)] v) })
  | none => s

/-- The commands of R521. -/
def secCommands : List Nat := [0x01, 0x10, 0x11, 0x12, 0x13, 0x14, 0x15, 0x20, 0x21, 0x31, 0x40]

/-- SEC_CMD (R520 to R522): `go` starts the command; an unlisted value completes with INVALID. -/
def State.writeSecCmd (s : State) (v : Word) : State :=
  let cmd := BitVec.ofNat 8 (bits v 0 8)
  if !(v.getLsbD 31) then s.modSec (fun x => { x with cmd := cmd })
  else if secCommands.contains cmd.toNat then s.modSec (fun x => { x with cmd := cmd, busy := true })
  else s.modSec (fun x => ({ x with cmd := cmd } : Security).mailDone 2 [])

/-- Four bytes of the SEC buffer. -/
def Security.putWord (x : Security) (a : Nat) (v : Word) : Security :=
  { x with buffer := (leBytes 4 v.toNat).zipIdx.foldl (fun (m : Mem) e =>
      if e.1 = 0 then tdel m (a + e.2) else tput m (a + e.2) e.1) x.buffer }

def State.writeSec32 (s : State) (o : Nat) (v : Word) : State :=
  if o = 0xC then (if v.getLsbD 30 then s.modSec (fun x => { x with done := false }) else s)
  else if s.sec.busy then s
  else if o = 0 then s.writeSecCmd v
  else if o = 4 then s.modSec (fun x => { x with arg := v })
  else if o = 8 then s.modSec (fun x => { x with len := v.setWidth 16 })
  else match ixOf o 0x1000 4 8192 with
  | some i => s.modSec (fun x => x.putWord (4 * i) v)
  | none => s

/-! ## HL, MLD and GD -/

def State.writeHl32 (s : State) (p o : Nat) (v : Word) : State :=
  if !s.portExists p then s
  else if o = 0 then s.writeHlCtl p v
  else if o = 8 then s.modPort p (fun q => { q with errCfg := oneFor [(24, 8), (8, 16), (0, 8)] v })
  else if o = 0x80 then s.modPort p (fun q => { q with rtIndex := v.setWidth 12 })
  else if o = 0x84 then s.writeRoute (some p) (s.port p).rtIndex.toNat v
  else if o = 0x88 && p = 0 then { s with ortIndex := v.setWidth 12 }
  else if o = 0x8C && p = 0 then s.writeRoute none s.ortIndex.toNat v
  else match ixOf o 0x10 4 4 with
  | some c => s.writeKittyClass p c v
  | none => s

def State.writeHl64 (s : State) (p o : Nat) (v : Dword) : State :=
  if !s.portExists p then s
  else match ixOf o 0x40 8 5 with
  | some t => s.writeFi p t v
  | none => s

def State.writeMld32 (s : State) (e o : Nat) (v : Word) : State :=
  if o = 0 then
    let s1 := if v.getLsbD 30 then s.modMeld e (fun m => { m with reject := false }) else s
    if v.getLsbD 31 then s1.meldClear e else s1
  else if o = 0x200 || o = 0x218 || o = 0x21C then s.meldEntryWrite e o (v.setWidth 64) false
  else s

def State.writeMld64 (s : State) (e o : Nat) (v : Dword) : State :=
  if o = 0x208 || o = 0x210 || 0x8000 ≤ o then s.meldEntryWrite e o v false else s

/-- GD_MARGIN_CTL (R232, R234). -/
def State.writeMarginCtl (s : State) (n : Nat) (v : Word) : State :=
  let s1 := s.modGd n (fun g => { g with
    minUi := bits v 8 8, minVref := bits v 0 8, marginDone := g.marginDone && !(v.getLsbD 30) })
  if v.getLsbD 31 then s1.startMargining n else s1

def State.writeGd32 (s : State) (n o : Nat) (v : Word) : State :=
  if o = 0 then (if v.getLsbD 31 then s.clearGdErr n else s)
  else if o = 8 then s.writeGdThr n v
  else if o = 0xC then s.modGd n (fun g => { g with scrub := v &&& 0x8000FFFF })
  else if o = 0x20 then s.writeMarginCtl n v
  else s

def State.writeGd64 (s : State) (n o : Nat) (v : Dword) : State :=
  if o = 0x18 && v.getLsbD 63 then s.modGd n (fun g => { g with poisonAddr := none }) else s

/-! ## Tiles and stacks -/

def Handle.write (h : Handle) (o : Nat) (v : Word) : Handle :=
  if o = 0 then { h with obj := v }
  else if o = 4 then { h with sig := v &&& 0xF000FFFF }
  else if o = 8 then { h with wait := v &&& 0xF000FFFF }
  else { h with tgt := v }

def State.writeTile32 (s : State) (k t o : Nat) (v : Word) : State :=
  if o = 0x9000 then s.writeTile k t (fun x => { x with dmaCtl := v &&& 0xFF })
  else if o = 0xA000 then s.writeTile k t (fun x => x.writeArrCtl v)
  else if o = 0xA004 then s.writeTile k t (fun x => x.writeArrWeight v)
  else if o = 0xA008 then
    (if v.getLsbD 12 then s.modTileAt (k * 34 + t) (fun x => { x with arrReject := false }) else s)
  else if o = 0xE000 then
    (if v.getLsbD 31 then s.modTileAt (k * 34 + t) (fun x => { x with fovfStatus := x.fovfStatus &&& 0x3FFFFFFF }) else s)
  else match blockOf o 0x8000 0x80 32 with
  | some (e, r) =>
    if r = 0 then s.writeTile k t (fun x => x.modEp e (fun y => { y with cfg := v }))
    else if r = 4 then s.writeTile k t (fun x => x.modEp e (fun y => { y with peer := v &&& 0x0FFF8FFF }))
    else s
  | none => match ixOf o 0xC000 0x100 3 with
  | some n => s.writeTile k t (fun x => x.modStream n (fun y => { y with prog := v &&& 0x03FFFFFF }))
  | none => match blockOf o 0xD000 0x400 3 with
  | some (n, r) =>
    if r < 0x10 then s
    else s.writeTile k t (fun x => x.modStream n (fun y => { y with
      handles := tmod {} y.handles (r / 0x10) (fun h => h.write (r % 0x10) v) }))
  | none => s

def State.writeTile64 (s : State) (k t o : Nat) (v : Dword) : State :=
  match ixOf o 0x7000 8 24 with
  | some i =>
    s.writeTile k t (fun x => x.modStream (i / 8) (fun y => { y with
      sels := tmod 0 y.sels (i % 8) (fun old => maskIn 0xC0FF00FFFFFFFFFF v old) }))
  | none => match blockOf o 0x8000 0x80 32 with
  | some (e, r) =>
    if r = 8 then s.writeTile k t (fun x => x.modEp e (fun y => { y with base := v &&& 0xFFFFFFFFFFFF }))
    else if r = 0x10 then s.writeTile k t (fun x => x.modEp e (fun y => { y with spillBase := v &&& 0xFFFFFFFFFFFF }))
    else s
  | none => s

def State.writeStk32 (s : State) (k o : Nat) (v : Word) : State :=
  if o = 0x301000 then s.writeMemCfg k v else if o = 0x301004 then s.writeGddrCfg k v else s

/-! ## BAR0 (R17, R20, R395) -/

/-- A 32-bit register written; an offset that assigns none discards the write (R395). -/
def State.writeReg32 (s : State) (b : Block) (o : Nat) (v : Word) : State :=
  match b with
  | .glb => s.writeGlb32 o v
  | .hrc => s.writeHrc32 o v
  | .dlr => s.writeDlr32 o v
  | .trk => s.writeTrk32 o v
  | .sts => if o = 0x200 then s.modTel (fun t => { t with liveSel := v &&& 0x000F007F }) else s
  | .evr => s.writeEvr32 o v
  | .sec => s.writeSec32 o v
  | .mgt => if o = 0x80 then s.writePcap v else s
  | .hl p => s.writeHl32 p o v
  | .mld e => s.writeMld32 e o v
  | .gd n => s.writeGd32 n o v
  | .tile k t => s.writeTile32 k t o v
  | .stk k => s.writeStk32 k o v

/-- A 64-bit register written whole. -/
def State.writeReg64 (s : State) (b : Block) (o : Nat) (v : Dword) : State :=
  match b with
  | .glb => if o = 0x10 then s.writeIdentity .train v else s
  | .hrc => s.writeHrc64 o v
  | .dlr => s.writeDlr64 o v
  | .trk => s.writeTrk64 o v
  | .hl p => s.writeHl64 p o v
  | .mld e => s.writeMld64 e o v
  | .gd n => s.writeGd64 n o v
  | .tile k t => s.writeTile64 k t o v
  | _ => s

/-- W1C bits of the 64-bit registers: a write of the other half does not touch them. -/
def w1cBits (b : Block) (o : Nat) : Nat :=
  match b with
  | .gd _ => if o = 0x18 then 2 ^ 63 else 0
  | _ => 0

/-- A 32-bit write: of a 32-bit register, or of one half of a 64-bit register, whose other half keeps what it reads as (log 25). -/
def State.write32 (s : State) (b : Block) (o : Nat) (v : Word) : State :=
  let at8 := o - o % 8
  match s.reg64 b at8 with
  | some old =>
    let keep := BitVec.ofNat 64 old &&& ~~~(BitVec.ofNat 64 (w1cBits b at8))
    s.writeReg64 b at8 (putBits keep (8 * (o % 8)) 32 v.toNat)
  | none => s.writeReg32 b o v

/-- A 64-bit write: of a 64-bit register, or of two 32-bit registers, the lower first (log 25). -/
def State.write64 (s : State) (b : Block) (o : Nat) (v : Dword) : State :=
  match s.reg64 b o with
  | some _ => s.writeReg64 b o v
  | none => (s.writeReg32 b o (v.setWidth 32)).writeReg32 b (o + 4) (BitVec.ofNat 32 (bits v 32 32))

/-! ## BAR2 (R394, R406) -/

/-- One double word of the MSI-X table, in the layout of PCIe (log 11): address, upper address, data, vector control. A vector that is
unmasked with its pending bit set sends its message. -/
def State.writeMsix (s : State) (i : Nat) (v : Word) : State :=
  let n := i / 4
  let w : Word := if i % 4 = 0 then v &&& 0xFFFFFFFC else if i % 4 = 3 then v &&& 1 else v
  let s1 := s.modHost (fun h => { h with
    msixTable := tmod msixReset h.msixTable n (fun e => putBits e (32 * (i % 4)) 32 w.toNat) })
  if s1.host.msixPending.contains n && !(nbit (tget msixReset s1.host.msixTable n).toNat 96) then
    (s1.modHost (fun h => { h with msixPending := h.msixPending.filter (· ≠ n) })).emit (.msix n)
  else s1

/-- A component register as a write leaves it: what the host writes (log 26); in the HDM decoder's control register a `commit` commits the
decoder (R392, log 144). -/
def componentWritten (off : Nat) (v : Word) : Word := if off = hdmControl then putBits v 10 1 (bits v 9 1) else v

/-- One double word of BAR2: the component registers and the MSI-X table are written, the pending bits take no write.  A link without CXL.cache
serves no BAR2 (R391). -/
def State.writeBar2 (s : State) (off : Nat) (v : Word) : State :=
  if s.host.pcieOnly then s
  else if off < 0x8000 then s.modHost (fun h => { h with component := tput h.component (off / 4) (componentWritten off v) })
  else match ixOf off 0x8000 4 256 with
  | some i => s.writeMsix i v
  | none => s

/-- REGISTER_WRITE (R17, R18, R20, R395, R576): a naturally aligned 32-bit or 64-bit write takes effect by the register's access types, any
other is discarded. -/
def execRegisterWrite (bar2 : Bool) (offset : BitVec 25) (bytes : Nat) (value : BitVec 64) (s : State) :
    Host.Outcome State Fault Refusal :=
  let off := offset.toNat
  let lo : Word := value.setWidth 32
  if !(s.awake && (bytes = 4 || bytes = 8) && off % bytes = 0) then .next s
  else if bar2 then
    if bytes = 4 then .next (s.writeBar2 off lo)
    else .next ((s.writeBar2 off lo).writeBar2 (off + 4) (BitVec.ofNat 32 (bits value 32 32)))
  else match blockAt off with
  | none => .next s
  | some (b, o) => .next (if bytes = 4 then s.write32 b o lo else s.write64 b o value)

end Sys2Proof.Machine
end

