-- ==== Sys2Proof/Machine/Ref.lean ====
section
/-! DEFINITION. Ref.lean: the six reference functions of R124.  Their bits are not in the spec (log 8), but each lies within 2 units in the last
place of FP32 of the true value: here the true values are computed in fixed point, far below that unit, and what a reference function gives is
held to the bound (log 166). -/
namespace Sys2Proof.Machine

/-! ## Fixed point -/

/-- Bits below the units. -/
def fixBits : Nat := 320

def fixOne : Int := 2 ^ fixBits

def fixMul (a b : Int) : Int := a * b / fixOne

/-- A value m × 2^e. -/
def fixOf (m : Nat) (e : Int) : Int := if 0 ≤ e + fixBits then (m * 2 ^ (e + fixBits).toNat : Nat) else (m / 2 ^ (-(e + fixBits)).toNat : Nat)

/-- Terms of the exponential series, from term `k` on. -/
def fixExpTerms (r : Int) : Nat → Nat → Int → Int
  | 0, _, _ => 0
  | n + 1, k, term => term + fixExpTerms r n (k + 1) (fixMul term r / (k + 1))

/-- A square taken `n` times over. -/
def fixSquares : Nat → Int → Int
  | 0, v => v
  | n + 1, v => fixSquares n (fixMul v v)

/-- e^v, for v held to −200 and 100: beyond either, FP32 holds no more than its least or its greatest values. -/
def fixExp (v : Int) : Int := fixSquares 16 (fixExpTerms (max (-200 * fixOne) (min (100 * fixOne) v) / 2 ^ 16) 40 0 fixOne)

/-- Terms of artanh z, from term `k` on; `zz` is z squared. -/
def fixArtanhTerms (zz : Int) : Nat → Nat → Int → Int
  | 0, _, _ => 0
  | n + 1, k, p => p / (2 * k + 1) + fixArtanhTerms zz n (k + 1) (fixMul p zz)

/-- 2 artanh z, for |z| ≤ 1/3. -/
def fixArtanh2 (z : Int) : Int := 2 * fixArtanhTerms (fixMul z z) 110 0 z

/-- ln (m × 2^e), for a nonzero m: the value is 2^(e + L) times one from 1 to 2. -/
def fixLog (m : Nat) (e : Int) : Int :=
  let L := Nat.log2 m
  let x := fixOf m (-(L : Int))
  fixArtanh2 ((x - fixOne) * fixOne / (x + fixOne)) + (e + L) * fixArtanh2 (fixOne / 3)

/-- Terms of arctan (1 / q), from term `k` on. -/
def fixArctanTerms (q : Nat) : Nat → Nat → Int → Int
  | 0, _, _ => 0
  | n + 1, k, p => p / (2 * k + 1) - fixArctanTerms q n (k + 1) (p / (q * q))

/-- π, by Machin's formula. -/
def fixPi : Int := 16 * fixArctanTerms 5 90 0 (fixOne / 5) - 4 * fixArctanTerms 239 30 0 (fixOne / 239)

def fixSqrt (v : Int) : Int := isqrt (v * fixOne).toNat (Nat.log2 (v * fixOne).toNat / 2 + 1) 0

/-- Terms of x^(2k+1) / (1 × 3 × … × (2k+1)), from term `k` on. -/
def fixPhiTerms (xx : Int) : Nat → Nat → Int → Int
  | 0, _, _ => 0
  | n + 1, k, p => p + fixPhiTerms xx n (k + 1) (fixMul p xx / (2 * k + 3))

/-- Φ(x) of the normal distribution, for 0 ≤ x; beyond 18 it is 1 as far as FP32 can tell. -/
def fixPhi (x : Int) : Int :=
  let y := min x (18 * fixOne)
  let yy := fixMul y y
  fixOne / 2 + fixMul (fixExp (-yy / 2)) (fixPhiTerms yy 700 0 y) * fixOne / fixSqrt (2 * fixPi)

/-! ## The true values, of ±m × 2^e (R123) -/

/-- A signed value, held to ±2^10, beyond which the functions that take it do not move. -/
def fixArg (s : Bool) (m : Nat) (e : Int) : Int :=
  let v := if 11 ≤ e + Nat.log2 m then 1024 * fixOne else fixOf m e
  if s then -v else v

/-- 1 ÷ sqrt (m × 2^e). -/
def trueRsqrt (_ : Bool) (m : Nat) (e : Int) : Int :=
  let n := if 0 ≤ 2 * (fixBits : Int) - e then 2 ^ (2 * (fixBits : Int) - e).toNat / m else 0
  isqrt n (Nat.log2 n / 2 + 1) 0

def trueExp (s : Bool) (m : Nat) (e : Int) : Int := fixExp (fixArg s m e)

def trueLog (_ : Bool) (m : Nat) (e : Int) : Int := fixLog m e

def trueTanh (s : Bool) (m : Nat) (e : Int) : Int :=
  let u := fixExp (-2 * fixArg false m e)
  let t := (fixOne - u) * fixOne / (fixOne + u)
  if s then -t else t

def trueSigmoid (s : Bool) (m : Nat) (e : Int) : Int :=
  let u := fixExp (-(fixArg false m e))
  (if s then u else fixOne) * fixOne / (fixOne + u)

def trueGelu (s : Bool) (m : Nat) (e : Int) : Int :=
  let p := fixPhi (fixArg false m e)
  if s then -fixMul (fixArg false m e) (fixOne - p) else fixOf m e * p / fixOne

/-! ## The bound -/

/-- The unit in the last place of FP32 at a value, in fixed point: no less than that of the subnormal values. -/
def fixUlp (y : Int) : Int :=
  2 ^ (fixBits - 149 + (Nat.log2 y.natAbs - (fixBits - 149) - 23))

/-- A finite or infinite FP32 value in fixed point, an infinity standing at 2^128. -/
def fixFp32 : Num → Option Int
  | .nan => none
  | .inf s => some (if s then -(2 ^ 128 * fixOne) else 2 ^ 128 * fixOne)
  | .fin s m e => some (if s then -fixOf m e else fixOf m e)

/-- Whether an FP32 value lies within 2 units in the last place of a true value; the millionth part of a unit is left to the computation of it. -/
def withinUlps (y : Int) (v : Num) : Bool :=
  let z := max (-(2 ^ 128 * fixOne)) (min (2 ^ 128 * fixOne) y)
  match fixFp32 v with
  | none => false
  | some x => decide ((x - z).natAbs ≤ (2 * fixUlp z + fixUlp z / 2 ^ 20).natAbs)

/-- What a reference function gives where the true value is `y`: its bits `v`, which are open, within the bound. -/
def heldToUlps (y : Int) (v : Num) : Num :=
  if withinUlps y v then v else ofFp32 (toFp32 (.fin (decide (y < 0)) y.natAbs (-(fixBits : Int))))

/-! ## The functions (R70, R123, R124) -/

/-- A reference function: R70's cases, the true value of the others, and its FP32 bits. -/
structure RefFn where
  special : Num → Option Num
  exact : Bool → Nat → Int → Int
  bits : Word → Word

/-- A reference function on an operand (R124).  An exact A48 operand (R112) is first held to R70's cases as it is, and then as the FP32 operand that
it rounds to (log 166). -/
def RefFn.at (f : RefFn) (a : Num) : Num :=
  let x := toFp32 a
  match a, f.special a, f.special (ofFp32 x), ofFp32 x with
  | .nan, _, _, _ => .nan
  | _, some v, _, _ => v
  | _, none, some v, _ => v
  | _, none, none, .fin s m e => heldToUlps (f.exact s m e) (ofFp32 (f.bits x))
  | _, none, none, v => v

def rsqrtSpecial : Num → Option Num
  | .inf s => some (if s then .nan else Num.zero)
  | .fin s m _ => if m = 0 then some (.inf s) else if s then some .nan else none
  | .nan => some .nan

def expSpecial : Num → Option Num
  | .inf s => some (if s then Num.zero else .inf false)
  | .fin _ m _ => if m = 0 then some Num.one else none
  | .nan => some .nan

def logSpecial : Num → Option Num
  | .inf s => some (if s then .nan else .inf false)
  | .fin s m _ => if m = 0 then some (.inf true) else if s then some .nan else none
  | .nan => some .nan

def tanhSpecial : Num → Option Num
  | .inf s => some (.fin s 1 0)
  | .nan => some .nan
  | _ => none

def sigmoidSpecial : Num → Option Num
  | .inf s => some (if s then Num.zero else Num.one)
  | .nan => some .nan
  | _ => none

def geluSpecial : Num → Option Num
  | .inf s => some (if s then .fin true 0 0 else .inf false)
  | .nan => some .nan
  | _ => none

/-- VRSQRT, VEXP, VLOG, VTANH, VSIGM and VGELU. -/
def rsqrtRef : RefFn := ⟨rsqrtSpecial, trueRsqrt, Config.rsqrtFn⟩
def expRef : RefFn := ⟨expSpecial, trueExp, Config.expFn⟩
def logRef : RefFn := ⟨logSpecial, trueLog, Config.logFn⟩
def tanhRef : RefFn := ⟨tanhSpecial, trueTanh, Config.tanhFn⟩
def sigmoidRef : RefFn := ⟨sigmoidSpecial, trueSigmoid, Config.sigmoidFn⟩
def geluRef : RefFn := ⟨geluSpecial, trueGelu, Config.geluFn⟩

end Sys2Proof.Machine
end

