-- ==== Sys2Proof/Machine/Vector.lean ====
section
/-! DEFINITION. Vector.lean: the vector engine (04_vector_engine.md): VEC at issue, the loop descriptor and its refusals (R113 to
R122, R136), the element-wise opcodes, the reductions on the lane tree, the scans and VSTAMP (R123 to R135), and the end of an instruction
with its numeric status block (R111, R115). -/
namespace Sys2Proof.Machine

/-! ## The instruction and its loop descriptor (R113, R116, R148) -/

def vecOp (w : Nat) : Nat := nbits w 24 8
def vecAcc (w : Nat) : Bool := nbit w 48
def vecPop (w : Nat) : Bool := nbit w 49
def vecCond (w : Nat) : Nat := nbits w 50 3
def vecSample (w : Nat) : Bool := nbit w 53

/-- An operand block (R116). -/
structure VOperand where
  base : Nat
  fmtCode : Nat
  bcast : Bool
  accw : Bool
  used : Bool
  imm : Nat
  reserved : Bool
  strides : List Int
  deriving DecidableEq, Repr

def VOperand.fmt (o : VOperand) : Fmt := (fmtOfCode o.fmtCode).getD .fp32

def operandOf (d : List Byte) (at' : Nat) : VOperand :=
  let fl := leAt d (at' + 7) 1
  { base := leAt d at' 6, fmtCode := leAt d (at' + 6) 1, bcast := nbit fl 0, accw := nbit fl 1, used := nbit fl 2,
    imm := nbits fl 3 2, reserved := decide (32 ≤ fl),
    strides := (List.range 4).map (fun i => toSigned 32 (leAt d (at' + 8 + 4 * i) 4)) }

/-- A loop descriptor (R116). -/
structure LoopDesc where
  ext : List Nat
  rnd : Nat
  red : Nat
  tensorId : Nat
  status : Nat
  imm0 : Word
  imm1 : Word
  ops : List VOperand
  reserved : Bool
  deriving DecidableEq, Repr

def loopOf (d : List Byte) : LoopDesc :=
  let ops := [operandOf d 32, operandOf d 56, operandOf d 80, operandOf d 104]
  { ext := (List.range 5).map (fun i => leAt d (2 * i) 2), rnd := leAt d 10 1 % 8, red := leAt d 11 1, tensorId := leAt d 12 2,
    status := leAt d 16 6, imm0 := BitVec.ofNat 32 (leAt d 24 4), imm1 := BitVec.ofNat 32 (leAt d 28 4), ops := ops,
    reserved := decide (8 ≤ leAt d 10 1) || leAt d 14 2 != 0 || leAt d 22 2 != 0 || ops.any (·.reserved) }

def noOperand : VOperand := ⟨0, 0, false, false, false, 0, false, []⟩

/-- Operand `k`: sources 0 to 2, then the destination. -/
def LoopDesc.op (d : LoopDesc) (k : Nat) : VOperand := d.ops.getD k noOperand

def LoopDesc.e (d : LoopDesc) (i : Nat) : Nat := d.ext.getD i 1

/-- Product of the extents of dimensions lo to hi − 1. -/
def LoopDesc.size (d : LoopDesc) (lo hi : Nat) : Nat := ((d.ext.take hi).drop lo).foldl (· * ·) 1

/-- The opcodes of R123 as (value, sources 0 to 2 and destination used); RMV, RMAXI and RMINI write source 2's block (R129, R132). -/
def vecUse (vop : Nat) : Option (List Bool) :=
  if vop = 1 || (7 ≤ vop && vop ≤ 0xE) then some [true, false, false, true]
  else if vop = 2 || vop = 3 || vop = 4 || vop = 6 || vop = 0xF || vop = 0x10 || vop = 0x11 then some [true, true, false, true]
  else if vop = 5 then some [true, true, true, true]
  else if vop = 0x20 || vop = 0x21 || vop = 0x23 || vop = 0x24 then some [true, false, false, true]
  else if vop = 0x22 || vop = 0x25 || vop = 0x26 then some [true, false, true, true]
  else if vop = 0x30 || vop = 0x31 then some [true, false, false, true]
  else if vop = 0x32 || vop = 0x33 then some [true, true, false, true]
  else if vop = 0x40 then some [false, false, false, true]
  else none

def isReduction (vop : Nat) : Bool := decide (0x20 ≤ vop) && decide (vop ≤ 0x26)

def isScan (vop : Nat) : Bool := decide (0x30 ≤ vop) && decide (vop ≤ 0x33)

/-- Opcodes that allow packed BF16 (R123). -/
def packsBf16 (vop : Nat) : Bool := (decide (1 ≤ vop) && decide (vop ≤ 5)) || vop == 0xF || vop == 0x10 || vop == 0x11

/-- Whether operand `k` is a destination of the opcode. -/
def isDest (vop k : Nat) : Bool := k == 3 || (k == 2 && (vop == 0x22 || vop == 0x25 || vop == 0x26))

/-! ## Addresses (R119, R121) -/

/-- Index of dimension `d` of the `r`-th combination over dimensions `lo` and up, the lowest innermost. -/
def LoopDesc.coord (l : LoopDesc) (lo d r : Nat) : Nat := if d < lo then 0 else r / l.size lo d % l.e d

/-- Address of an operand's element, or of the MX block of 32 that holds it (R119). -/
def VOperand.addr (o : VOperand) (i0 i1 i2 i3 i4 : Nat) : Int :=
  let d0 : Nat := if o.fmt.isMx then i0 / 32 * o.fmt.unitBytes else if o.bcast then 0 else i0 * o.fmt.unitBytes
  (o.base : Int) + d0 + i1 * o.strides.getD 0 0 + i2 * o.strides.getD 1 0 + i3 * o.strides.getD 2 0 + i4 * o.strides.getD 3 0

/-- Addresses of the units of `n` elements of dimension 0 from `c` on, in row `r` of dimensions 1 to 4. -/
def LoopDesc.rowUnits (l : LoopDesc) (o : VOperand) (r c n : Nat) : List Int :=
  let at' := fun (i0 : Nat) => o.addr i0 (l.coord 1 1 r) (l.coord 1 2 r) (l.coord 1 3 r) (l.coord 1 4 r)
  if o.fmt.isMx then (upFrom (c / 32) (n / 32)).map (fun b => at' (32 * b)) else (upFrom c n).map at'

/-- Address of the `r`-th output of a reduction (R119): only the strides of dimensions red_dims and up count. -/
def LoopDesc.outAddr (l : LoopDesc) (o : VOperand) (r : Nat) : Int :=
  o.addr 0 (l.coord l.red 1 r) (l.coord l.red 2 r) (l.coord l.red 3 r) (l.coord l.red 4 r)

/-- Address of the `q`-th element of the `r`-th output's reduced set (R126). -/
def LoopDesc.redAddr (l : LoopDesc) (o : VOperand) (r q : Nat) : Int :=
  let i := fun (d : Nat) => if d < l.red then q / l.size 0 d % l.e d else l.coord l.red d r
  o.addr (i 0) (i 1) (i 2) (i 3) (i 4)

/-- Rows of dimensions 1 to 4, and outputs of a reduction. -/
def LoopDesc.rows (l : LoopDesc) : Nat := l.size 1 5

def LoopDesc.outs (l : LoopDesc) : Nat := l.size l.red 5

/-- Every address that a destination writes. -/
def LoopDesc.destBytes (l : LoopDesc) (vop : Nat) (o : VOperand) : List Int :=
  let us := if isReduction vop then (List.range l.outs).map (l.outAddr o)
    else ((List.range l.rows).map (fun r => l.rowUnits o r 0 (l.e 0))).flatten
  (us.map (fun a => viewRange a o.fmt.unitBytes)).flatten

/-! ## Issue -/

/-! ## Keep homes (R272) -/

/-- Declared extent of an operand (R195). -/
def LoopDesc.extent (l : LoopDesc) (o : VOperand) : Int × Int :=
  extentOf (o.base : Int) (if o.fmt.isMx then l.e 0 / 32 * o.fmt.unitBytes else if o.bcast then o.fmt.unitBytes else l.e 0 * o.fmt.unitBytes)
    l.ext o.strides

/-- Operands of the opcode that are read from or written to memory. -/
def memOperands (vop : Nat) (acc : Bool) (l : LoopDesc) : List (Nat × VOperand) :=
  ((List.range 4).filter (fun k => ((vecUse vop).getD []).getD k false && (isDest vop k || (l.op k).imm == 0) && !(k == 0 && acc))).map
    (fun k => (k, l.op k))

/-- The keep entries whose homes the sources of a vector instruction lie in (R272). -/
def State.vecPins (s : State) (slot L w : Nat) : List Nat :=
  let l := loopOf (s.scratchRead L (insDesc w) 128)
  (((memOperands (vecOp w) (vecAcc w) l).filter (fun e => !isDest (vecOp w) e.1)).map
    (fun e => s.keepsOf slot (l.extent e.2))).flatten.dedup

/-- Whether the homes that a stream's next vector instruction reads hold its version (R272). -/
def State.vecKeeps (s : State) (L n : Nat) : Bool :=
  match (s.stream L n).ops.find? (fun o => o.engine = .vector && o.phase = .queued) with
  | some o => s.keepsReady o
  | none => true

/-- VEC (R113, R143, R147, R272): it enters the vector engine's queue, and is checked when the engine grants it (R136). -/
def execVec (tile : Fin 128) (stream : Fin 3) (s : State) : Host.Outcome State Fault Refusal :=
  match s.tryIssue tile stream (fun w => insOp w = 0x11) with
  | .no s' => .next s'
  | .go s' slot w => .next (s'.enqueue tile stream w (s'.vecPins slot tile w))

/-! ## Checks at the grant (R112, R117, R122, R123, R127, R136) -/

/-- The lowest reason of R136 for which a granted instruction is refused.  Of the block of an operand that the opcode does not use, and of
source 0 under `acc_src`, the format code and `imm_sel` are not looked at (log 148). -/
def State.vecBad (s : State) (slot L : Nat) (inTrick : Bool) (w : Nat) (l : LoopDesc) : Option Nat :=
  let vop := vecOp w
  let acc := vecAcc w
  let mem := memOperands vop acc l
  let used := (vecUse vop).getD []
  let dests := mem.filter (fun e => isDest vop e.1)
  if (vecUse vop).isNone || (vop = 0x11 && 6 ≤ vecCond w) || (vop ≠ 0x11 && vecCond w ≠ 0) || (vop ≠ 0x22 && vecSample w) then some 1
  else if mem.any (fun e => (fmtOfCode e.2.fmtCode).isNone || (e.2.fmt.isMx && vop != 1))
      || dests.any (fun e => e.2.accw && e.2.fmt.isMx)
      || ((vop = 0x25 || vop = 0x26) && (l.op 2).fmtCode ≠ 9)
      || (vop = 0x40 && (l.op 3).fmtCode ≠ 0 && (l.op 3).fmtCode ≠ 9) then some 2
  else if dests.any (fun e => e.2.imm != 0) || (List.range 3).any (fun k => used.getD k false && (l.op k).imm == 3)
      || mem.any (fun e => !s.baseOk slot L (nearRegions L) e.2.base)
      || dests.any (fun e => e.2.accw && inTrick
        && (l.destBytes vop e.2).any (fun v => (s.job slot).isDurable v.toNat)) then some 3
  else if (List.range 4).any (fun k => (l.op k).used != used.getD k false) then some 4
  else if l.ext.any (· == 0) || mem.any (fun e => e.2.fmt.isMx && (l.e 0 % 32 != 0 || e.2.bcast))
      || (if isReduction vop then l.red == 0 || decide (5 < l.red) else l.red != 0)
      || (isReduction vop && decide ((if vop = 0x25 || vop = 0x26 then 2 ^ 31 else 2 ^ 32) ≤ l.size 0 l.red)) then some 5
  else if (vecPop w && !acc)
      || (acc && (!used.getD 0 false || (l.op 0).imm != 0 || l.e 2 * l.e 3 * l.e 4 != 1
        || (match (s.tile L).finQueue with
          | h :: _ => decide (h.cols < l.e 0) || decide (h.rows < l.e 1)
          | [] => true))) then some 6
  else if rndReserved l.rnd then some 7
  else if l.reserved then some 8
  else none

/-- The option of R79 that an instruction carries, as event 0x0410's reason. -/
def vecDet (w : Nat) (l : LoopDesc) : Option Nat :=
  let vop := vecOp w
  if (memOperands vop (vecAcc w) l).any (fun e => isDest vop e.1 && e.2.accw && !e.2.fmt.isInt) then some 1
  else if vop = 0x40 then some 2
  else none

/-! ## Loads and stores of a chunk -/

/-- A granted instruction. -/
structure VecRun where
  who : Who
  word : Nat
  loop : LoopDesc
  head : Option FinEntry

/-- An access of an instruction that did not take place. -/
inductive VecErr where
  | read (e : AccessErr)
  | write (r : WriteRes)
  deriving DecidableEq, Repr

/-- Units read from memory, as their values. -/
def State.vecUnits (s : State) (x : VecRun) (f : Fmt) (us : List Int) : State × Except VecErr (List Num) :=
  match s.engineRead x.who (nearRegions x.who.tile) false ((us.map (fun a => viewRange a f.unitBytes)).flatten) with
  | (s1, .error e) => (s1, .error (.read e))
  | (s1, .ok bs) => (s1, .ok ((chunks f.unitBytes us.length bs).map f.decodeUnit).flatten)

/-- An accumulated value as an exact operand (R112). -/
def FinEntry.value (e : FinEntry) (row col : Nat) : Num :=
  let v := tget 0 e.cells (row * 128 + col)
  if e.isInt then Num.ofInt v.toInt else a48Decode v

/-- What source `k` gives without memory: the head of the finished-tile queue at some (row, column) pairs, or an immediate (R112, R117). -/
def VecRun.direct (x : VecRun) (k : Nat) (cells : List (Nat × Nat)) : Option (List Num) :=
  let o := x.loop.op k
  if k = 0 && vecAcc x.word then
    match x.head with
    | some h => some (cells.map (fun c => h.value c.1 c.2))
    | none => some []
  else if o.imm = 0 then none
  else some (cells.map (fun _ => ofFp32 (if o.imm = 1 then x.loop.imm0 else x.loop.imm1)))

/-- The operands of `n` elements of row `r` from `c` on; an unused source gives nothing. -/
def State.vecLoad (s : State) (x : VecRun) (k r c n : Nat) : State × Except VecErr (List Num) :=
  if !((vecUse (vecOp x.word)).getD []).getD k false || isDest (vecOp x.word) k then (s, .ok [])
  else match x.direct k ((upFrom c n).map (fun i => (r, i))) with
    | some vs => (s, .ok vs)
    | none => s.vecUnits x (x.loop.op k).fmt (x.loop.rowUnits (x.loop.op k) r c n)

/-- A value to be written: the value, whether an operand of it was NaN, and its element index (R121). -/
structure VecValue where
  v : Num
  opNan : Bool
  index : Nat
  deriving DecidableEq, Repr

/-- Values converted under the instruction's rounding (R53, R63, R65, R67): the bytes of each unit, and the tracking; an index or a compare
result only counts as an element (R115). -/
def State.vecConvert (s : State) (x : VecRun) (f : Fmt) (track : Bool) (vs : List VecValue) (st : NumStatus) :
    List (List Byte) × NumStatus :=
  let rnd := x.loop.rnd
  let draw := fun (i : Nat) => if rndIsSr rnd then s.draw x.who.slot x.who.tag x.loop.tensorId i else 0
  if f.isMx then
    (chunks 32 vs.length vs).foldl (fun (acc : List (List Byte) × NumStatus) b =>
      let m := mxStore f rnd (b.map (fun v => (v.v, draw v.index, v.opNan)))
      (acc.1 ++ [mxBytes f m.1 (m.2.map (·.bits))],
        (b.zip m.2).foldl (fun st (e : VecValue × Stored) => st.add e.1.index e.1.v e.2) acc.2)) ([], st)
  else
    vs.foldl (fun (acc : List (List Byte) × NumStatus) v =>
      let w := f.store rnd (draw v.index) v.opNan v.v
      (acc.1 ++ [leBytes f.unitBytes w.bits],
        if track then acc.2.add v.index v.v w else { acc.2 with elements := acc.2.elements + 1 })) ([], st)

/-- Values written at unit addresses, or added to what stands there (R118). -/
def State.vecPut (s : State) (x : VecRun) (o : VOperand) (track : Bool) (us : List Int) (vs : List VecValue) (st : NumStatus) :
    State × Except VecErr NumStatus :=
  let out := fun (s : State) (vs : List VecValue) =>
    let r := s.vecConvert x o.fmt track vs st
    let cells := ((us.zip r.1).map (fun e => (viewRange e.1 o.fmt.unitBytes).zip e.2)).flatten
    match s.engineWrite x.who (nearRegions x.who.tile) false false cells with
    | (s1, .ok) => (s1, Except.ok r.2)
    | (s1, e) => (s1, .error (.write e))
  if o.accw then
    match s.vecUnits x o.fmt us with
    | (s1, .error e) => (s1, .error e)
    | (s1, .ok olds) =>
      out s1 ((vs.zip olds).map (fun e => { e.1 with v := e.2.add e.1.v, opNan := e.1.opNan || e.2.isNan }))
  else out s vs

/-- Work done in order until an access does not take place. -/
def vecFold {α σ : Type} (f : α → σ → State → State × Except VecErr σ) : List α → σ → State → State × Except VecErr σ
  | [], x, s => (s, .ok x)
  | a :: r, x, s =>
    match f a x s with
    | (s1, .error e) => (s1, .error e)
    | (s1, .ok y) => vecFold f r y s1

/-- A chunk's destination written: under `bcast0` with `accw` each element in turn (R120). -/
def State.vecStore (s : State) (x : VecRun) (track : Bool) (r c : Nat) (vs : List VecValue) (st : NumStatus) :
    State × Except VecErr NumStatus :=
  let o := x.loop.op 3
  let us := x.loop.rowUnits o r c vs.length
  if o.accw && o.bcast then
    vecFold (fun (e : Int × VecValue) st s => s.vecPut x o track [e.1] [e.2] st) (us.zip vs) st s
  else s.vecPut x o track us vs st

/-- Elements of a chunk (R119). -/
def VecRun.width (x : VecRun) : Nat :=
  let vop := vecOp x.word
  if isScan vop then 16
  else if packsBf16 vop && !vecAcc x.word && (memOperands vop false x.loop).all (fun e => e.2.fmtCode == 1) then 128
  else 64

/-- The chunks of a row: first element and number. -/
def VecRun.chunksOf (x : VecRun) : List (Nat × Nat) :=
  let w := x.width
  (List.range ((x.loop.e 0 + w - 1) / w)).map (fun i => (i * w, min w (x.loop.e 0 - i * w)))

/-! ## Element-wise opcodes (R70, R124) -/

/-- Every chunk in loop order: sources read, `f` applied, the destination written (R119, R120).  Results that only count as elements
(R115) leave the flag "SR was used" at 0 too (log 137). -/
def State.vecElements (s : State) (x : VecRun) (track : Bool) (f : Num → Num → Num → Num) : State × Except VecErr NumStatus :=
  let work := ((List.range x.loop.rows).map (fun r => x.chunksOf.map (fun c => (r, c)))).flatten
  vecFold (fun (e : Nat × Nat × Nat) st s =>
    let r := e.1
    let c := e.2.1
    let n := e.2.2
    match s.vecLoad x 0 r c n with
    | (s1, .error err) => (s1, .error err)
    | (s1, .ok as) =>
      match s1.vecLoad x 1 r c n with
      | (s2, .error err) => (s2, .error err)
      | (s2, .ok bs) =>
        match s2.vecLoad x 2 r c n with
        | (s3, .error err) => (s3, .error err)
        | (s3, .ok cs) =>
          let vs := (List.range n).map (fun i =>
            let a := as.getD i Num.zero
            let b := bs.getD i Num.zero
            let d := cs.getD i Num.zero
            (⟨f a b d, a.isNan || b.isNan || d.isNan, r * x.loop.e 0 + c + i⟩ : VecValue))
          s3.vecStore x track r c vs st) work { srUsed := track && rndIsSr x.loop.rnd } s

/-- Whether a compare condition holds (R70, R113). -/
def condHolds (cond : Nat) (a b : Num) : Bool :=
  match cond with
  | 0 => a.eqv b
  | 1 => !a.eqv b
  | 2 => a.lt b
  | 3 => a.lt b || a.eqv b
  | 4 => b.lt a
  | _ => b.lt a || a.eqv b

/-! ## Reductions (R126 to R133) -/

/-- An exact value rounded to A48 with RNE. -/
def toA48 (v : Num) : Num := a48Decode (a48Encode v)

/-- The 64 lanes after the elements of a reduced set in ascending q: element q goes to lane q mod 64 (R126). -/
def lanesOf {α : Type} (init : α) (update : α → Num → α) (xs : List Num) : List α :=
  (List.range 64).map (fun l => (xs.zipIdx.filter (fun e => e.2 % 64 = l)).foldl (fun s e => update s e.1) init)

/-- The combining tree of R126: at each width w, lane l takes lane l + w. -/
def laneTree {α : Type} (combine : α → α → α) (init : α) (s : List α) : α :=
  ([32, 16, 8, 4, 2, 1].foldl (fun (s : List α) w => ((s.take w).zip (s.drop w)).map (fun e => combine e.1 e.2)) s).headD init

def negZero : Num := .fin true 0 0

/-- RSUM and RSSQ (R128). -/
def sumTree (f : Num → Num) (xs : List Num) : Num :=
  laneTree (fun a b => toA48 (a.add b)) negZero (lanesOf negZero (fun s x => toA48 (s.add (f x))) xs)

/-- A lane of RMV: count, mean, sum of squared deviations (R129). -/
structure MvLane where
  n : Nat := 0
  m : Num := Num.zero
  m2 : Num := Num.zero
  deriving DecidableEq, Repr

def MvLane.update (s : MvLane) (x : Num) : MvLane :=
  let n := s.n + 1
  let d := toA48 (x.sub s.m)
  let m := toA48 (s.m.add (toA48 (d.div (Num.ofInt n))))
  let e := toA48 (x.sub m)
  ⟨n, m, toA48 (s.m2.add (toA48 (d.mul e)))⟩

def MvLane.combine (a b : MvLane) : MvLane :=
  if b.n = 0 then a
  else if a.n = 0 then b
  else
    let n := a.n + b.n
    let d := toA48 (b.m.sub a.m)
    let m := toA48 (a.m.add (toA48 ((toA48 (d.mul (Num.ofInt b.n))).div (Num.ofInt n))))
    let t := toA48 ((toA48 ((toA48 (d.mul d)).mul (Num.ofInt a.n))).mul (Num.ofInt b.n))
    ⟨n, m, toA48 ((toA48 (a.m2.add b.m2)).add (toA48 (t.div (Num.ofInt n))))⟩

/-- Mean and variance of a reduced set (R129, R130); for one element and `sample` R130's sentence is followed (log 173). -/
def meanVar (sample : Bool) (xs : List Num) : Num × Num :=
  let nan := xs.any Num.isNan
  let pinf := xs.any (fun x => x.isInf && !x.sign)
  let ninf := xs.any (fun x => x.isInf && x.sign)
  if nan || (pinf && ninf) then (.nan, .nan)
  else if pinf then (.inf false, .nan)
  else if ninf then (.inf true, .nan)
  else
    let r := laneTree MvLane.combine {} (lanesOf {} MvLane.update xs)
    if sample && xs.length = 1 then (r.m, .nan)
    else (r.m, toA48 (r.m2.div (Num.ofInt (if sample then (r.n : Int) - 1 else r.n))))

/-- The winner of RMAXI (`big`) or RMINI, with its index (R132). -/
def winner (big : Bool) (xs : List Num) : Num × Nat :=
  xs.zipIdx.foldl (fun (w : Num × Nat) (e : Num × Nat) =>
    if e.2 = 0 then e
    else if w.1.isNan then w
    else if e.1.isNan || (if big then w.1.lt e.1 else e.1.lt w.1) then e else w) (.nan, 0)

/-- Each output in loop order: its reduced set read, and what `f` makes of it written to the destination, and then its second result to
source 2's block; `index` says that the second result is an index (R115, R120, R129, R132).  Which of the two writes comes first the spec
does not say: log 138.  R131's conversion without rounding goes through the destination's `rnd` all the same: log 185, DEDUCED. -/
def State.vecReduce (s : State) (x : VecRun) (index : Bool) (f : List Num → Num × Option Num) : State × Except VecErr NumStatus :=
  let l := x.loop
  vecFold (fun (r : Nat) st s =>
    let cells := (List.range (l.size 0 l.red)).map (fun q => (q / l.e 0 % l.e 1, q % l.e 0))
    let rowOf := fun (c : Nat × Nat) => if l.red = 1 then (l.coord 1 1 r, c.2) else c
    let got := match x.direct 0 (cells.map rowOf) with
      | some vs => (s, Except.ok vs)
      | none => s.vecUnits x (l.op 0).fmt ((List.range (l.size 0 l.red)).map (l.redAddr (l.op 0) r))
    match got with
    | (s1, .error e) => (s1, .error e)
    | (s1, .ok xs) =>
      let y := f xs
      let nan := xs.any Num.isNan
      match s1.vecPut x (l.op 3) true [l.outAddr (l.op 3) r] [⟨y.1, nan, r⟩] st with
      | (s2, .error e) => (s2, .error e)
      | (s2, .ok st2) =>
        match y.2 with
        | none => (s2, .ok st2)
        | some v => s2.vecPut x (l.op 2) (!index) [l.outAddr (l.op 2) r] [⟨v, nan && !index, r⟩] st2)
    (List.range l.outs) { srUsed := rndIsSr l.rnd } s

/-! ## Scans (R134, R135) -/

/-- The elements of a chunk added to a running sum: the values written, the sum after them, and whether a NaN has entered it.  A NaN
that the sum itself has made is counted as new until an element is one (log 186, DEDUCED). -/
def scanChunk (exclusive : Bool) : List (Num × Bool) → Num → Bool → List (Num × Bool) × Num × Bool
  | [], sum, nan => ([], sum, nan)
  | (x, start) :: r, sum, nan =>
    let before := if start then negZero else sum
    let seen := if start then false else nan
    let after := toA48 (before.add x)
    let out := if exclusive then (if start then Num.zero else before, seen) else (after, seen || x.isNan)
    let z := scanChunk exclusive r after (seen || x.isNan)
    (out :: z.1, z.2)

/-- Each row from its first element on, chunk by chunk; `segmented` takes source 1 as flags. -/
def State.vecScan (s : State) (x : VecRun) (exclusive segmented : Bool) : State × Except VecErr NumStatus :=
  let work := ((List.range x.loop.rows).map (fun r => x.chunksOf.map (fun c => (r, c)))).flatten
  let res := vecFold (fun (e : Nat × Nat × Nat) (acc : NumStatus × Num × Bool) s =>
    let r := e.1
    let c := e.2.1
    let n := e.2.2
    match s.vecLoad x 0 r c n with
    | (s1, .error err) => (s1, .error err)
    | (s1, .ok as) =>
      match s1.vecLoad x 1 r c n with
      | (s2, .error err) => (s2, .error err)
      | (s2, .ok fs) =>
        let items := (List.range n).map (fun i =>
          (as.getD i Num.zero, c + i = 0 || (segmented && !(fs.getD i Num.zero).isZero)))
        let z := scanChunk exclusive items acc.2.1 acc.2.2
        let vs := z.1.zipIdx.map (fun v => (⟨v.1.1, v.1.2, r * x.loop.e 0 + c + v.2⟩ : VecValue))
        match s2.vecStore x true r c vs acc.1 with
        | (s3, .error err) => (s3, .error err)
        | (s3, .ok st) => (s3, .ok (st, z.2))) work ({ srUsed := rndIsSr x.loop.rnd }, negZero, false) s
  match res with
  | (s1, .ok r) => (s1, .ok r.1)
  | (s1, .error e) => (s1, .error e)

/-! ## The grant (R111, R114, R136) -/

def isVecQueued (o : Op) : Bool := o.engine = .vector && o.phase = .queued

def isVecMoved (o : Op) : Bool := o.engine = .vector && o.phase = .moved

/-- The instruction that the engine holds while its writes wait for line entries of the trick log (R114, R285). -/
def isVecHeld (o : Op) : Bool := o.engine = .vector && o.phase = .started

/-- Whether a stream's next vector instruction is ready (R111). -/
def Tile.vecReady (t : Tile) (n : Nat) : Bool :=
  match (t.stream n).ops.find? isVecQueued with
  | none => false
  | some o => !vecAcc o.word.toNat || (match t.finQueue with
    | h :: _ => h.readable && h.stream == n
    | [] => false)

/-- What an access that did not take place leads to: an instruction that finds the trick log full keeps the engine and starts again when
space is free (R114, R285). -/
def State.vecFailed (s before : State) (L n : Nat) (isIt : Op → Bool) : VecErr → State
  | .read e => s.accessErr L n 4 isIt e
  | .write (.full true) => before.writeErr L n 4 isIt (.full true)
  | .write (.full false) =>
    (((before.writeErr L n 4 isIt (.full false)).modTile L (fun t => { t with vecStream := some n })).modOp L n isIt
      (fun p => { p with phase := .started }))
  | .write r => s.writeErr L n 4 isIt r

/-- A granted instruction of stream `n` executed: its loop descriptor read and checked, its elements computed (R116, R136).  A descriptor
that runs past the end of the tile's scratch is read there, outside the job view (R178; log 139). -/
def State.vecRun (s : State) (slot L n : Nat) (isIt : Op → Bool) (o : Op)
    (run : VecRun → State → State × Except VecErr NumStatus) : State :=
  let w := o.word.toNat
  if 0x400000 < insDesc w + 128 then s.accessFault L n 4 ((scratchBase + 0x400000 : Nat) : Int)
  else
    let r := s.scratchTouch L (insDesc w) 128
    let l := loopOf (s.scratchRead L (insDesc w) 128)
    if r.2 then r.1.poisonedRead L n o.pc.toNat
    else match s.vecBad slot L o.inTrick w l with
      | some why => r.1.refuse 0x0421 L n o.pc why (vecOp w)
      | none =>
        match (if (s.job slot).det then vecDet w l else none) with
        | some why => r.1.refuse 0x0410 L n o.pc why 4
        | none =>
          let x : VecRun := ⟨⟨slot, L, n, o.tag, o.inTrick⟩, w, l, (s.tile L).finQueue.head?⟩
          match run x r.1 with
          | (s2, .error e) => s2.vecFailed r.1 L n isIt e
          | (s2, .ok st) =>
            (s2.modTile L (fun t => { t with vecStream := some n })).modOp L n isIt
              (fun p => { p with phase := .moved, status := st, statusAt := l.status })

/-- The engine grants its next instruction, checks it and executes it, when its opcode is `vop` (or one that R123 reserves, which is
refused).  An instruction that it holds goes on before another is granted (R114). -/
def State.vecGrant (s : State) (L : Nat) (amb : Ambient) (vop : Nat) (run : VecRun → State → State × Except VecErr NumStatus) : State :=
  let t := s.tile L
  let mine := fun (o : Op) => vecOp o.word.toNat = vop || (vecUse (vecOp o.word.toNat)).isNone
  if s.engineHeld L then s
  else match s.slotOfTile L, t.vecStream with
    | none, _ => s
    | some slot, some n =>
      match (t.stream n).ops.find? isVecHeld with
      | none => s
      | some o => if mine o then (s.applyAmb amb).vecRun slot L n isVecHeld o run else s
    | some slot, none =>
      let ready := (List.range 3).filter (fun n => t.vecReady n && s.vecKeeps L n)
      match t.pick 1 ready with
      | none => s
      | some n =>
        match (t.stream n).ops.find? isVecQueued with
        | none => s
        | some o =>
          if mine o then
            ((s.applyAmb amb).modTile L (fun t => t.notePassed 1 ready n)).vecRun slot L n isVecQueued o run
          else s

/-- VCOPY (R123): d = a, converted. -/
def execVcopy (tile : Fin 128) (amb : Ambient) (s : State) : Host.Outcome State Fault Refusal :=
  .next (s.vecGrant tile amb 0x01 (fun x s => s.vecElements x true (fun a _ _ => a)))

/-- VADD (R123): d = a + b. -/
def execVadd (tile : Fin 128) (amb : Ambient) (s : State) : Host.Outcome State Fault Refusal :=
  .next (s.vecGrant tile amb 0x02 (fun x s => s.vecElements x true (fun a b _ => a.add b)))

/-- VSUB (R123): d = a − b. -/
def execVsub (tile : Fin 128) (amb : Ambient) (s : State) : Host.Outcome State Fault Refusal :=
  .next (s.vecGrant tile amb 0x03 (fun x s => s.vecElements x true (fun a b _ => a.sub b)))

/-- VMUL (R123): d = a × b. -/
def execVmul (tile : Fin 128) (amb : Ambient) (s : State) : Host.Outcome State Fault Refusal :=
  .next (s.vecGrant tile amb 0x04 (fun x s => s.vecElements x true (fun a b _ => a.mul b)))

/-- VFMA (R123): d = a × b + c. -/
def execVfma (tile : Fin 128) (amb : Ambient) (s : State) : Host.Outcome State Fault Refusal :=
  .next (s.vecGrant tile amb 0x05 (fun x s => s.vecElements x true Num.fma))

/-- VDIV (R123): d = a ÷ b. -/
def execVdiv (tile : Fin 128) (amb : Ambient) (s : State) : Host.Outcome State Fault Refusal :=
  .next (s.vecGrant tile amb 0x06 (fun x s => s.vecElements x true (fun a b _ => a.div b)))

/-- VRCP (R123): d = 1 ÷ a. -/
def execVrcp (tile : Fin 128) (amb : Ambient) (s : State) : Host.Outcome State Fault Refusal :=
  .next (s.vecGrant tile amb 0x07 (fun x s => s.vecElements x true (fun a _ _ => Num.one.div a)))

/-- VSQRT (R123): d = sqrt(a). -/
def execVsqrt (tile : Fin 128) (amb : Ambient) (s : State) : Host.Outcome State Fault Refusal :=
  .next (s.vecGrant tile amb 0x08 (fun x s => s.vecElements x true (fun a _ _ => a.sqrt)))

/-- VRSQRT (R123, R124): d = 1 ÷ sqrt(a), by the reference function. -/
def execVrsqrt (tile : Fin 128) (amb : Ambient) (s : State) : Host.Outcome State Fault Refusal :=
  .next (s.vecGrant tile amb 0x09 (fun x s => s.vecElements x true (fun a _ _ => rsqrtRef.at a)))

/-- VEXP (R123, R124): d = e^a, by the reference function. -/
def execVexp (tile : Fin 128) (amb : Ambient) (s : State) : Host.Outcome State Fault Refusal :=
  .next (s.vecGrant tile amb 0x0A (fun x s => s.vecElements x true (fun a _ _ => expRef.at a)))

/-- VLOG (R123, R124): d = ln(a), by the reference function. -/
def execVlog (tile : Fin 128) (amb : Ambient) (s : State) : Host.Outcome State Fault Refusal :=
  .next (s.vecGrant tile amb 0x0B (fun x s => s.vecElements x true (fun a _ _ => logRef.at a)))

/-- VTANH (R123, R124): d = tanh(a), by the reference function. -/
def execVtanh (tile : Fin 128) (amb : Ambient) (s : State) : Host.Outcome State Fault Refusal :=
  .next (s.vecGrant tile amb 0x0C (fun x s => s.vecElements x true (fun a _ _ => tanhRef.at a)))

/-- VSIGM (R123, R124): d = 1 ÷ (1 + e^−a), by the reference function. -/
def execVsigm (tile : Fin 128) (amb : Ambient) (s : State) : Host.Outcome State Fault Refusal :=
  .next (s.vecGrant tile amb 0x0D (fun x s => s.vecElements x true (fun a _ _ => sigmoidRef.at a)))

/-- VGELU (R123, R124): d = a × Φ(a), by the reference function. -/
def execVgelu (tile : Fin 128) (amb : Ambient) (s : State) : Host.Outcome State Fault Refusal :=
  .next (s.vecGrant tile amb 0x0E (fun x s => s.vecElements x true (fun a _ _ => geluRef.at a)))

/-- VMAX (R123): d = max(a, b). -/
def execVmax (tile : Fin 128) (amb : Ambient) (s : State) : Host.Outcome State Fault Refusal :=
  .next (s.vecGrant tile amb 0x0F (fun x s => s.vecElements x true (fun a b _ => a.max b)))

/-- VMIN (R123): d = min(a, b). -/
def execVmin (tile : Fin 128) (amb : Ambient) (s : State) : Host.Outcome State Fault Refusal :=
  .next (s.vecGrant tile amb 0x10 (fun x s => s.vecElements x true (fun a b _ => a.min b)))

/-- VCMP (R123): d = 1 when a cond b holds, else +0. -/
def execVcmp (tile : Fin 128) (amb : Ambient) (s : State) : Host.Outcome State Fault Refusal :=
  .next (s.vecGrant tile amb 0x11 (fun x s => s.vecElements x false
    (fun a b _ => if condHolds (vecCond x.word) a b then Num.one else Num.zero)))

/-- RSUM (R128). -/
def execRsum (tile : Fin 128) (amb : Ambient) (s : State) : Host.Outcome State Fault Refusal :=
  .next (s.vecGrant tile amb 0x20 (fun x s => s.vecReduce x false (fun xs => (sumTree id xs, none))))

/-- RSSQ (R128). -/
def execRssq (tile : Fin 128) (amb : Ambient) (s : State) : Host.Outcome State Fault Refusal :=
  .next (s.vecGrant tile amb 0x21 (fun x s => s.vecReduce x false (fun xs => (sumTree (fun v => v.mul v) xs, none))))

/-- RMV (R129, R130): mean to the destination, variance to source 2's block. -/
def execRmv (tile : Fin 128) (amb : Ambient) (s : State) : Host.Outcome State Fault Refusal :=
  .next (s.vecGrant tile amb 0x22 (fun x s => s.vecReduce x false (fun xs =>
    let r := meanVar (vecSample x.word) xs
    (r.1, some r.2))))

/-- RMAX (R131). -/
def execRmax (tile : Fin 128) (amb : Ambient) (s : State) : Host.Outcome State Fault Refusal :=
  .next (s.vecGrant tile amb 0x23 (fun x s => s.vecReduce x false (fun xs =>
    ((xs.drop 1).foldl Num.max (xs.headD .nan), none))))

/-- RMIN (R131). -/
def execRmin (tile : Fin 128) (amb : Ambient) (s : State) : Host.Outcome State Fault Refusal :=
  .next (s.vecGrant tile amb 0x24 (fun x s => s.vecReduce x false (fun xs =>
    ((xs.drop 1).foldl Num.min (xs.headD .nan), none))))

/-- RMAXI (R132): the winner to the destination, its index to source 2's block. -/
def execRmaxi (tile : Fin 128) (amb : Ambient) (s : State) : Host.Outcome State Fault Refusal :=
  .next (s.vecGrant tile amb 0x25 (fun x s => s.vecReduce x true (fun xs =>
    let r := winner true xs
    (r.1, some (Num.ofInt r.2)))))

/-- RMINI (R132): the winner to the destination, its index to source 2's block. -/
def execRmini (tile : Fin 128) (amb : Ambient) (s : State) : Host.Outcome State Fault Refusal :=
  .next (s.vecGrant tile amb 0x26 (fun x s => s.vecReduce x true (fun xs =>
    let r := winner false xs
    (r.1, some (Num.ofInt r.2)))))

/-- SCAN (R134). -/
def execScan (tile : Fin 128) (amb : Ambient) (s : State) : Host.Outcome State Fault Refusal :=
  .next (s.vecGrant tile amb 0x30 (fun x s => s.vecScan x false false))

/-- SCANX (R134). -/
def execScanx (tile : Fin 128) (amb : Ambient) (s : State) : Host.Outcome State Fault Refusal :=
  .next (s.vecGrant tile amb 0x31 (fun x s => s.vecScan x true false))

/-- SSCAN (R134, R135). -/
def execSscan (tile : Fin 128) (amb : Ambient) (s : State) : Host.Outcome State Fault Refusal :=
  .next (s.vecGrant tile amb 0x32 (fun x s => s.vecScan x false true))

/-- SSCANX (R134, R135). -/
def execSscanx (tile : Fin 128) (amb : Ambient) (s : State) : Host.Outcome State Fault Refusal :=
  .next (s.vecGrant tile amb 0x33 (fun x s => s.vecScan x true true))

/-- VSTAMP (R79, R123): the tile's step cycle counter. -/
def execVstamp (tile : Fin 128) (amb : Ambient) (s : State) : Host.Outcome State Fault Refusal :=
  .next (s.vecGrant tile amb 0x40 (fun x s => s.vecElements x true (fun _ _ _ => Num.ofInt (s.tile tile).stepCycle)))

/-! ## The end of an instruction (R72, R111, R115) -/

/-- VEC_COMPLETE (R72, R111, R115): the numeric status block is written, a popped head is released, and the signal takes effect. -/
def execVecComplete (tile : Fin 128) (s : State) : Host.Outcome State Fault Refusal :=
  let L := tile.val
  match (s.tile L).vecStream, s.slotOfTile L with
  | some n, some slot =>
    match (s.stream L n).findOp isVecMoved with
    | none => .next s
    | some o =>
      if s.engineStopped L then .next s
      else
        match s.writeStatus ⟨slot, L, n, o.tag, o.inTrick⟩ (nearRegions L) o.statusAt o.status with
        | (s1, .ok) =>
          let s2 := s1.recordNumeric L n slot o.inTrick o.status
          let s3 := s2.modTile L (fun t => { t with
            vecStream := none, finQueue := if vecPop o.word.toNat then t.finQueue.drop 1 else t.finQueue })
          .next (s3.finishOp L n isVecMoved)
        | (s1, e) => .next (s1.writeErr L n 4 isVecMoved e)
  | _, _ => .next s

end Sys2Proof.Machine
end

