-- ==== Sys2Proof/Machine/Dispatch.lean ====
section
/-! DEFINITION. Dispatch.lean: one arm per command. -/
namespace Sys2Proof.Machine

/-- The effect of a command on everything but the queue. -/
def exec (i : Instr) (s : State) : Host.Outcome State Fault Refusal :=
  match i with
  | .powerOnReset => Sys2Proof.Machine.execPowerOnReset s
  | .powerOnResetRelease testMode => Sys2Proof.Machine.execPowerOnResetRelease testMode s
  | .firmwareStart => Sys2Proof.Machine.execFirmwareStart s
  | .bootReady => Sys2Proof.Machine.execBootReady s
  | .perstNAssert => Sys2Proof.Machine.execPerstNAssert s
  | .hostLinkDown => Sys2Proof.Machine.execHostLinkDown s
  | .hostLinkLossTimeout => Sys2Proof.Machine.execHostLinkLossTimeout s
  | .hostLinkBack speed width => Sys2Proof.Machine.execHostLinkBack speed width s
  | .pcieOnly speed width => Sys2Proof.Machine.execPcieOnly speed width s
  | .resume value hw => Sys2Proof.Machine.execResume value hw s
  | .prochotNAssert => Sys2Proof.Machine.execProchotNAssert s
  | .powerCapEvaluation powerDw => Sys2Proof.Machine.execPowerCapEvaluation powerDw s
  | .hostCapWrite value => Sys2Proof.Machine.execHostCapWrite value s
  | .bmcCapWrite setting => Sys2Proof.Machine.execBmcCapWrite setting s
  | .avsAcknowledge stack => Sys2Proof.Machine.execAvsAcknowledge stack s
  | .avsAckTimeout stack => Sys2Proof.Machine.execAvsAckTimeout stack s
  | .thermalSensorRead hottest => Sys2Proof.Machine.execThermalSensorRead hottest s
  | .throttleLevelCheck stack => Sys2Proof.Machine.execThrottleLevelCheck stack s
  | .railOutOfRange rail millivolts returned => Sys2Proof.Machine.execRailOutOfRange rail millivolts returned s
  | .powerMonitorSample microjoules => Sys2Proof.Machine.execPowerMonitorSample microjoules s
  | .pldmSensorUpdate => Sys2Proof.Machine.execPldmSensorUpdate s
  | .mcWatchdogExpiry => Sys2Proof.Machine.execMcWatchdogExpiry s
  | .mcRestart => Sys2Proof.Machine.execMcRestart s
  | .ccReset => Sys2Proof.Machine.execCcReset s
  | .ccResetDone => Sys2Proof.Machine.execCcResetDone s
  | .registerWrite bar2 offset bytes value => Sys2Proof.Machine.execRegisterWrite bar2 offset bytes value s
  | .glbIdentityWrite reg value => Sys2Proof.Machine.execGlbIdentityWrite reg value s
  | .ringEnable ring cfg hw => Sys2Proof.Machine.execRingEnable ring cfg hw s
  | .ringDisable ring => Sys2Proof.Machine.execRingDisable ring s
  | .monitorSnoop line => Sys2Proof.Machine.execMonitorSnoop line s
  | .monitorPoll => Sys2Proof.Machine.execMonitorPoll s
  | .monitorLineRead line hw failed => Sys2Proof.Machine.execMonitorLineRead line hw failed s
  | .descriptorFetch sq hw failed => Sys2Proof.Machine.execDescriptorFetch sq hw failed s
  | .job sq deck amb => Sys2Proof.Machine.execJob sq deck amb s
  | .jobPlaced slot => Sys2Proof.Machine.execJobPlaced slot s
  | .step sq amb => Sys2Proof.Machine.execStep sq amb s
  | .pass sq amb => Sys2Proof.Machine.execPass sq amb s
  | .abort sq => Sys2Proof.Machine.execAbort sq s
  | .endJob sq => Sys2Proof.Machine.execEnd sq s
  | .nop tile stream => Sys2Proof.Machine.execNop tile stream s
  | .nopDescriptor sq => Sys2Proof.Machine.execNopDescriptor sq s
  | .load sq => Sys2Proof.Machine.execLoad sq s
  | .jobEndDone slot => Sys2Proof.Machine.execJobEndDone slot s
  | .stepStart slot => Sys2Proof.Machine.execStepStart slot s
  | .microBatchInjection slot amb => Sys2Proof.Machine.execMicroBatchInjection slot amb s
  | .controlPassInjection slot => Sys2Proof.Machine.execControlPassInjection slot s
  | .passInjection slot microBatch amb => Sys2Proof.Machine.execPassInjection slot microBatch amb s
  | .stepOverrun slot => Sys2Proof.Machine.execStepOverrun slot s
  | .stepWatchdogFault slot => Sys2Proof.Machine.execStepWatchdogFault slot s
  | .completionBufferDrain => Sys2Proof.Machine.execCompletionBufferDrain s
  | .msixMessage vector => Sys2Proof.Machine.execMsixMessage vector s
  | .atsInvalidation firstPage lastPage => Sys2Proof.Machine.execAtsInvalidation firstPage lastPage s
  | .hostMemRead offset bytes amb => Sys2Proof.Machine.execHostMemRead offset bytes amb s
  | .hostMemWrite offset data => Sys2Proof.Machine.execHostMemWrite offset data s
  | .hostLineSnoop line => Sys2Proof.Machine.execHostLineSnoop line s
  | .pageRequestResponse tile granted amb => Sys2Proof.Machine.execPageRequestResponse tile granted amb s
  | .pageRequestTimeout tile => Sys2Proof.Machine.execPageRequestTimeout tile s
  | .hwtEntryWrite value => Sys2Proof.Machine.execHwtEntryWrite value s
  | .stop tile stream => Sys2Proof.Machine.execStop tile stream s
  | .jmp tile stream => Sys2Proof.Machine.execJmp tile stream s
  | .loop tile stream => Sys2Proof.Machine.execLoop tile stream s
  | .ldlc tile stream => Sys2Proof.Machine.execLdlc tile stream s
  | .brtag tile stream => Sys2Proof.Machine.execBrtag tile stream s
  | .fence tile stream => Sys2Proof.Machine.execFence tile stream s
  | .mma tile stream => Sys2Proof.Machine.execMma tile stream s
  | .vec tile stream => Sys2Proof.Machine.execVec tile stream s
  | .dma tile stream => Sys2Proof.Machine.execDma tile stream s
  | .recv tile stream => Sys2Proof.Machine.execRecv tile stream s
  | .send tile stream => Sys2Proof.Machine.execSend tile stream s
  | .topen tile stream => Sys2Proof.Machine.execTopen tile stream s
  | .tcommit tile stream => Sys2Proof.Machine.execTcommit tile stream s
  | .trevokeRetry tile stream => Sys2Proof.Machine.execTrevokeRetry tile stream s
  | .trevokeContinue tile stream => Sys2Proof.Machine.execTrevokeContinue tile stream s
  | .waitSatisfied tile stream => Sys2Proof.Machine.execWaitSatisfied tile stream s
  | .sync src => Sys2Proof.Machine.execSync src s
  | .arrayGrant tile amb => Sys2Proof.Machine.execArrayGrant tile amb s
  | .mmaComplete tile stream => Sys2Proof.Machine.execMmaComplete tile stream s
  | .sparsityCheck tile bank => Sys2Proof.Machine.execSparsityCheck tile bank s
  | .bankComplete tile bank => Sys2Proof.Machine.execBankComplete tile bank s
  | .drainStart tile => Sys2Proof.Machine.execDrainStart tile s
  | .drainEnd tile => Sys2Proof.Machine.execDrainEnd tile s
  | .arrCtlWrite stack phys value => Sys2Proof.Machine.execArrCtlWrite stack phys value s
  | .vcopy tile amb => Sys2Proof.Machine.execVcopy tile amb s
  | .vadd tile amb => Sys2Proof.Machine.execVadd tile amb s
  | .vsub tile amb => Sys2Proof.Machine.execVsub tile amb s
  | .vmul tile amb => Sys2Proof.Machine.execVmul tile amb s
  | .vfma tile amb => Sys2Proof.Machine.execVfma tile amb s
  | .vdiv tile amb => Sys2Proof.Machine.execVdiv tile amb s
  | .vrcp tile amb => Sys2Proof.Machine.execVrcp tile amb s
  | .vsqrt tile amb => Sys2Proof.Machine.execVsqrt tile amb s
  | .vrsqrt tile amb => Sys2Proof.Machine.execVrsqrt tile amb s
  | .vexp tile amb => Sys2Proof.Machine.execVexp tile amb s
  | .vlog tile amb => Sys2Proof.Machine.execVlog tile amb s
  | .vtanh tile amb => Sys2Proof.Machine.execVtanh tile amb s
  | .vsigm tile amb => Sys2Proof.Machine.execVsigm tile amb s
  | .vgelu tile amb => Sys2Proof.Machine.execVgelu tile amb s
  | .vmax tile amb => Sys2Proof.Machine.execVmax tile amb s
  | .vmin tile amb => Sys2Proof.Machine.execVmin tile amb s
  | .vcmp tile amb => Sys2Proof.Machine.execVcmp tile amb s
  | .rsum tile amb => Sys2Proof.Machine.execRsum tile amb s
  | .rssq tile amb => Sys2Proof.Machine.execRssq tile amb s
  | .rmv tile amb => Sys2Proof.Machine.execRmv tile amb s
  | .rmax tile amb => Sys2Proof.Machine.execRmax tile amb s
  | .rmin tile amb => Sys2Proof.Machine.execRmin tile amb s
  | .rmaxi tile amb => Sys2Proof.Machine.execRmaxi tile amb s
  | .rmini tile amb => Sys2Proof.Machine.execRmini tile amb s
  | .scan tile amb => Sys2Proof.Machine.execScan tile amb s
  | .scanx tile amb => Sys2Proof.Machine.execScanx tile amb s
  | .sscan tile amb => Sys2Proof.Machine.execSscan tile amb s
  | .sscanx tile amb => Sys2Proof.Machine.execSscanx tile amb s
  | .vstamp tile amb => Sys2Proof.Machine.execVstamp tile amb s
  | .vecComplete tile => Sys2Proof.Machine.execVecComplete tile s
  | .dmaTransferStart tile amb => Sys2Proof.Machine.execDmaTransferStart tile amb s
  | .dmaComplete tile => Sys2Proof.Machine.execDmaComplete tile s
  | .sendPlace tile stream amb => Sys2Proof.Machine.execSendPlace tile stream amb s
  | .sendComplete tile stream => Sys2Proof.Machine.execSendComplete tile stream s
  | .recvTake tile stream => Sys2Proof.Machine.execRecvTake tile stream s
  | .recvComplete tile stream amb => Sys2Proof.Machine.execRecvComplete tile stream amb s
  | .openChannel src => Sys2Proof.Machine.execOpen src s
  | .accept src => Sys2Proof.Machine.execAccept src s
  | .refuse src => Sys2Proof.Machine.execRefuse src s
  | .close src => Sys2Proof.Machine.execClose src s
  | .headUpdate src => Sys2Proof.Machine.execHeadUpdate src s
  | .blocked src => Sys2Proof.Machine.execBlocked src s
  | .spillReq src => Sys2Proof.Machine.execSpillReq src s
  | .spillEnd src => Sys2Proof.Machine.execSpillEnd src s
  | .openRetry tile ep => Sys2Proof.Machine.execOpenRetry tile ep s
  | .openTimeout tile ep => Sys2Proof.Machine.execOpenTimeout tile ep s
  | .headUpdateTimer tile ep => Sys2Proof.Machine.execHeadUpdateTimer tile ep s
  | .blockedNoticeTimer tile ep => Sys2Proof.Machine.execBlockedNoticeTimer tile ep s
  | .channelDeadlock tile ep => Sys2Proof.Machine.execChannelDeadlock tile ep s
  | .deadlockTimerStop tile ep => Sys2Proof.Machine.execDeadlockTimerStop tile ep s
  | .data src => Sys2Proof.Machine.execData src s
  | .keepRecipeFiring entry version amb => Sys2Proof.Machine.execKeepRecipeFiring entry version amb s
  | .localTrickTimeout slot => Sys2Proof.Machine.execLocalTrickTimeout slot s
  | .logCapacityTimeout slot => Sys2Proof.Machine.execLogCapacityTimeout slot s
  | .shareReady slot mb logError => Sys2Proof.Machine.execShareReady slot mb logError s
  | .trickReady src => Sys2Proof.Machine.execTrickReady src s
  | .trickRefuse src => Sys2Proof.Machine.execTrickRefuse src s
  | .prepareTimeout entry => Sys2Proof.Machine.execPrepareTimeout entry s
  | .trickCommit src => Sys2Proof.Machine.execTrickCommit src s
  | .publicationDone slot published => Sys2Proof.Machine.execPublicationDone slot published s
  | .trickRevoke src => Sys2Proof.Machine.execTrickRevoke src s
  | .revokeDrained slot mb => Sys2Proof.Machine.execRevokeDrained slot mb s
  | .trickDone src => Sys2Proof.Machine.execTrickDone src s
  | .trickResume src => Sys2Proof.Machine.execTrickResume src s
  | .portEnable port => Sys2Proof.Machine.execPortEnable port s
  | .portDisable port => Sys2Proof.Machine.execPortDisable port s
  | .portFence port => Sys2Proof.Machine.execPortFence port s
  | .portUnfence port => Sys2Proof.Machine.execPortUnfence port s
  | .signalDetect port lanes => Sys2Proof.Machine.execSignalDetect port lanes s
  | .trainingDone port rxLanes txLanes => Sys2Proof.Machine.execTrainingDone port rxLanes txLanes s
  | .trainingFailed port => Sys2Proof.Machine.execTrainingFailed port s
  | .alignLock port => Sys2Proof.Machine.execAlignLock port s
  | .alignTimeout port => Sys2Proof.Machine.execAlignTimeout port s
  | .identity port => Sys2Proof.Machine.execIdentity port s
  | .discoverTimeout port => Sys2Proof.Machine.execDiscoverTimeout port s
  | .frameLockTimeout port => Sys2Proof.Machine.execFrameLockTimeout port s
  | .peerIdle port => Sys2Proof.Machine.execPeerIdle port s
  | .holdoffExpiry port => Sys2Proof.Machine.execHoldoffExpiry port s
  | .frameTransmit port rateHits => Sys2Proof.Machine.execFrameTransmit port rateHits s
  | .controlBlock port frame => Sys2Proof.Machine.execControlBlock port frame s
  | .replayTimer port => Sys2Proof.Machine.execReplayTimer port s
  | .packetArrival port wire => Sys2Proof.Machine.execPacketArrival port wire s
  | .packetFirstSend port cls rateHit => Sys2Proof.Machine.execPacketFirstSend port cls rateHit s
  | .reorderTimeout port => Sys2Proof.Machine.execReorderTimeout port s
  | .packetForward port cls rateHit => Sys2Proof.Machine.execPacketForward port cls rateHit s
  | .kittyStall port cls => Sys2Proof.Machine.execKittyStall port cls s
  | .laneFailure port lane => Sys2Proof.Machine.execLaneFailure port lane s
  | .restripeLock port => Sys2Proof.Machine.execRestripeLock port s
  | .laneRestore port => Sys2Proof.Machine.execLaneRestore port s
  | .laneRestored port lane => Sys2Proof.Machine.execLaneRestored port lane s
  | .hlCntClr port => Sys2Proof.Machine.execHlCntClr port s
  | .hlFiWrite port cls value => Sys2Proof.Machine.execHlFiWrite port cls value s
  | .rtEntryWrite table dest value => Sys2Proof.Machine.execRtEntryWrite table dest value s
  | .kittyClassWrite port cls value => Sys2Proof.Machine.execKittyClassWrite port cls value s
  | .mgmt src => Sys2Proof.Machine.execMgmt src s
  | .meldTrigger engine slot amb => Sys2Proof.Machine.execMeldTrigger engine slot amb s
  | .join src => Sys2Proof.Machine.execJoin src s
  | .grant src => Sys2Proof.Machine.execGrant src s
  | .demand src amb => Sys2Proof.Machine.execDemand src amb s
  | .meldData src => Sys2Proof.Machine.execMeldData src s
  | .ssqSource src => Sys2Proof.Machine.execSsqSource src s
  | .ssqShard src => Sys2Proof.Machine.execSsqShard src s
  | .meldFiringEnd engine slot => Sys2Proof.Machine.execMeldFiringEnd engine slot s
  | .mldCntClr engine => Sys2Proof.Machine.execMldCntClr engine s
  | .mldEntryWrite engine offset value byDealer => Sys2Proof.Machine.execMldEntryWrite engine offset value byDealer s
  | .gddrTrained ctrl => Sys2Proof.Machine.execGddrTrained ctrl s
  | .gddrTrainingFailed ctrl => Sys2Proof.Machine.execGddrTrainingFailed ctrl s
  | .gddrTempPoll ctrl reading => Sys2Proof.Machine.execGddrTempPoll ctrl reading s
  | .gddrRetrain ctrl channel => Sys2Proof.Machine.execGddrRetrain ctrl channel s
  | .scrubVisit ctrl outcome overtaken => Sys2Proof.Machine.execScrubVisit ctrl outcome overtaken s
  | .errClr ctrl => Sys2Proof.Machine.execErrClr ctrl s
  | .gdThrWrite ctrl value => Sys2Proof.Machine.execGdThrWrite ctrl value s
  | .marginingStart ctrl => Sys2Proof.Machine.execMarginingStart ctrl s
  | .marginingDone ctrl margins => Sys2Proof.Machine.execMarginingDone ctrl margins s
  | .stkGddrCfgWrite stack value => Sys2Proof.Machine.execStkGddrCfgWrite stack value s
  | .gddrLayoutDone stack => Sys2Proof.Machine.execGddrLayoutDone stack s
  | .stkMemCfgWrite stack value => Sys2Proof.Machine.execStkMemCfgWrite stack value s
  | .farCacheResizeDone stack => Sys2Proof.Machine.execFarCacheResizeDone stack s
  | .loadReady src => Sys2Proof.Machine.execLoadReady src s
  | .loadRestart src => Sys2Proof.Machine.execLoadRestart src s
  | .loadImageFetch slot loadId amb => Sys2Proof.Machine.execLoadImageFetch slot loadId amb s
  | .loadPacket src => Sys2Proof.Machine.execLoadPacket src s
  | .tileHeartbeatSample stack missed => Sys2Proof.Machine.execTileHeartbeatSample stack missed s
  | .tileCheckFailure stack phys check => Sys2Proof.Machine.execTileCheckFailure stack phys check s
  | .tileImageReloaded tile => Sys2Proof.Machine.execTileImageReloaded tile s
  | .d2dLaneFailure d2d lane => Sys2Proof.Machine.execD2dLaneFailure d2d lane s
  | .cutCopyDone slot refused => Sys2Proof.Machine.execCutCopyDone slot refused s
  | .cutWrite src => Sys2Proof.Machine.execCutWrite src s
  | .packageHeartbeat => Sys2Proof.Machine.execPackageHeartbeat s
  | .packageLossDeclared package => Sys2Proof.Machine.execPackageLossDeclared package s
  | .takeoverOrder src => Sys2Proof.Machine.execTakeoverOrder src s
  | .cutFetch src => Sys2Proof.Machine.execCutFetch src s
  | .cutNone src => Sys2Proof.Machine.execCutNone src s
  | .cutRead src => Sys2Proof.Machine.execCutRead src s
  | .cutRestored slot => Sys2Proof.Machine.execCutRestored slot s
  | .relinkTimeout port => Sys2Proof.Machine.execRelinkTimeout port s
  | .fenceOrder src => Sys2Proof.Machine.execFenceOrder src s
  | .nonce path drawn => Sys2Proof.Machine.execNonce path drawn s
  | .nonceExpiry path => Sys2Proof.Machine.execNonceExpiry path s
  | .fwBegin path => Sys2Proof.Machine.execFwBegin path s
  | .fwWrite path arg buffer => Sys2Proof.Machine.execFwWrite path arg buffer s
  | .fwFinish path => Sys2Proof.Machine.execFwFinish path s
  | .fwActivate path => Sys2Proof.Machine.execFwActivate path s
  | .updateSessionTimeout => Sys2Proof.Machine.execUpdateSessionTimeout s
  | .bootConfirm path => Sys2Proof.Machine.execBootConfirm path s
  | .svnCommit path => Sys2Proof.Machine.execSvnCommit path s
  | .ownerClaim path buffer => Sys2Proof.Machine.execOwnerClaim path buffer s
  | .ownerRelease path buffer => Sys2Proof.Machine.execOwnerRelease path buffer s
  | .debugUnlock path buffer => Sys2Proof.Machine.execDebugUnlock path buffer s
  | .debugNonceDraw drawn => Sys2Proof.Machine.execDebugNonceDraw drawn s
  | .debugBlockCheck block => Sys2Proof.Machine.execDebugBlockCheck block s
  | .recorderClear path buffer => Sys2Proof.Machine.execRecorderClear path buffer s
  | .recorderClearDone => Sys2Proof.Machine.execRecorderClearDone s
  | .getVersion => Sys2Proof.Machine.execGetVersion s
  | .getCapabilities => Sys2Proof.Machine.execGetCapabilities s
  | .negotiateAlgorithms => Sys2Proof.Machine.execNegotiateAlgorithms s
  | .getDigests => Sys2Proof.Machine.execGetDigests s
  | .getCertificate slot offset length => Sys2Proof.Machine.execGetCertificate slot offset length s
  | .challenge slot asked => Sys2Proof.Machine.execChallenge slot asked s
  | .getMeasurements index signed asked => Sys2Proof.Machine.execGetMeasurements index signed asked s
  | .keyExchange request => Sys2Proof.Machine.execKeyExchange request s
  | .finish session request => Sys2Proof.Machine.execFinish session request s
  | .spdmHeartbeat session => Sys2Proof.Machine.execSpdmHeartbeat session s
  | .keyUpdate session op => Sys2Proof.Machine.execKeyUpdate session op s
  | .endSession session => Sys2Proof.Machine.execEndSession session s
  | .chunkGet handle seq => Sys2Proof.Machine.execChunkGet handle seq s
  | .chunkSend handle seq last data => Sys2Proof.Machine.execChunkSend handle seq last data s
  | .spdmUnsupported code => Sys2Proof.Machine.execSpdmUnsupported code s
  | .query session => Sys2Proof.Machine.execQuery session s
  | .keyProg session stream keySet key => Sys2Proof.Machine.execKeyProg session stream keySet key s
  | .kSetGo session stream keySet => Sys2Proof.Machine.execKSetGo session stream keySet s
  | .kSetStop session stream keySet => Sys2Proof.Machine.execKSetStop session stream keySet s
  | .ideIntegrityFailure stream => Sys2Proof.Machine.execIdeIntegrityFailure stream s
  | .recRead start unit => Sys2Proof.Machine.execRecRead start unit s
  | .recStatus => Sys2Proof.Machine.execRecStatus s
  | .rateLimitRefill code => Sys2Proof.Machine.execRateLimitRefill code s
  | .recorderProgram => Sys2Proof.Machine.execRecorderProgram s
  | .journalWrite failed => Sys2Proof.Machine.execJournalWrite failed s
  | .statsPageWritten slot => Sys2Proof.Machine.execStatsPageWritten slot s
  | .perstNDeassert => Sys2Proof.Machine.execPerstNDeassert s
  | .prochotNDeassert => Sys2Proof.Machine.execProchotNDeassert s
  | .frameLockLost port => Sys2Proof.Machine.execFrameLockLost port s
  | .frameLockRegained port => Sys2Proof.Machine.execFrameLockRegained port s
  | .tcommitComplete tile stream logError => Sys2Proof.Machine.execTcommitComplete tile stream logError s
  | .loopbackCheckerLock port lane => Sys2Proof.Machine.execLoopbackCheckerLock port lane s
  | .spdmHeartbeatTimeout session => Sys2Proof.Machine.execSpdmHeartbeatTimeout session s

end Sys2Proof.Machine
end

