-- ==== Sys2Proof/Machine/Stall.lean ====
section
/-! DEFINITION. Stall.lean: the stall counters of a tile's engines and endpoints (R206 to R208, R259), as a microsecond passes: what an engine
waits for at that moment counts for each of the tile's arithmetic cycles (log 132). -/
namespace Sys2Proof.Machine

/-- The causes in the order in which one that holds is charged (R207). -/
def stallOrder : List Nat := [11, 5, 4, 3, 2, 9, 6, 7, 8, 10, 1, 0]

/-- The cause that a stall cycle counts under when several hold (R207). -/
def firstCause (cs : List Nat) : Option Nat := stallOrder.find? (fun c => cs.contains c)

/-- The oldest operation of each stream that an engine has not finished with. -/
def State.engineHeads (s : State) (L : Nat) (e : Engine) : List (Nat × Op) :=
  (List.range 3).filterMap (fun n =>
    ((s.stream L n).ops.find? (fun o => o.engine = e && (o.phase = .queued || o.phase = .started))).map (fun o => (n, o)))

/-- Whether a stream's open trick waits for a line entry (R285). -/
def State.logWaits (s : State) (L n : Nat) : Bool :=
  match s.trickOf L n with
  | some (_, t) => t.capWait
  | none => false

/-- What an operation waits for that its engine cannot give: the host window (5), or space in the trick log (9). -/
def State.waitCauses (s : State) (slot L : Nat) (x : Nat × Op) : List Nat :=
  (if x.2.faultAddr.isSome || (x.2.engine = .dma && s.dmaHeld slot L x.2) || (x.2.engine = .channel && !s.host.attached && s.descOnHost slot L x.2)
    then [5] else [])
  ++ (if x.2.inTrick && x.2.phase = .started && s.logWaits L x.1 then [9] else [])

/-- What an engine other than a sequencer is stalled on: none while it has nothing or can go on.  The array and the vector engine that wait for
a bank or for the finished-tile queue wait for the tile's own engines (0, R102, R111); the channel unit waits for space (6) or for a message
(7). -/
def State.engineStall (s : State) (slot L : Nat) (e : Engine) : Option Nat :=
  let hs := s.engineHeads L e
  let waits := (hs.map (s.waitCauses slot L)).flatten
  let goes := match e with
    | .array => (List.range 3).any (fun n => (s.offer L n).ready)
    | .vector => (List.range 3).any (fun n => (s.stream L n).ops.any isVecMoved)
        || hs.any (fun x => (s.waitCauses slot L x).isEmpty && (s.tile L).vecReady x.1)
    | .channel => !(s.chanStreams slot L).isEmpty || hs.any (fun x => x.2.phase = .started && (s.waitCauses slot L x).isEmpty)
    | _ => hs.any (fun x => (s.waitCauses slot L x).isEmpty)
  let own := match e with
    | .array => [0]
    | .vector => [0]
    | .channel => hs.map (fun x => if bits x.2.word 0 8 = 0x21 then 6 else 7)
    | _ => []
  if hs.isEmpty || goes then none else firstCause (waits ++ own)

/-- What a sequencer is stalled on: a wait (8), a full queue (10, or what the engine itself waits for), a RECV without a message (7), a TOPEN
without a free trick (9), a recompute (0) (R99, R143, R149, R288). -/
def State.seqStall (s : State) (slot L n : Nat) : Option Nat :=
  let x := s.stream L n
  let op := insOp (leNat (s.scratchRead L (bits x.prog 16 10 * 4096 + 16 * x.pc.toNat) 16))
  match x.state with
  | .idle => none
  | .halt => none
  | .wait => if s.waitHolds L n x.waitHandle.toNat then none else some 8
  | .engine => some (match engineOf op with
    | .dma => (s.engineStall slot L .dma).getD 10
    | .channel => (s.engineStall slot L .channel).getD 10
    | _ => 10)
  | .run =>
    if x.issueHeld then (if (x.channelHead 0x20).isSome && !s.chanReady slot L n then some 7 else none)
    else if (s.tile L).recomputing n then some 0
    else if op = 0x30 && x.ops.isEmpty && (s.freeSlots.isEmpty || decide (64 ≤ s.stackTricks (L / 32))) then some 9
    else none

/-- Cycles of `c` in which thermal duty-cycle throttling holds issue (R567). -/
def throttled (level c : Nat) : Nat := if level = 0 then 0 else if level = 1 then c / 2 else 3 * c / 4

/-- A stall counter advanced (R208). -/
def Tile.stall (t : Tile) (engine cause n : Nat) : Tile :=
  { t with stalls := tput t.stalls (engine * 12 + cause) (satAdd (tget 0 t.stalls (engine * 12 + cause)) n) }

/-- A stall counter advanced under the cause that holds, if one does. -/
def Tile.stallUnder (t : Tile) (engine : Nat) (cause : Option Nat) (n : Nat) : Tile :=
  match cause with
  | some c => t.stall engine c n
  | none => t

/-- The stall cycles of a microsecond on a tile that a job holds: its sequencers, the cycles that throttling holds first, then its other engines;
a send's wait at its endpoint, and a RECV's, which its endpoint is charged with when it ends (R259). -/
def State.stallTile (s : State) (slot L : Nat) (t : Tile) : Tile :=
  let c := t.clock
  let held := throttled (s.stack (L / 32)).throttle c
  let t1 := (List.range 3).foldl (fun t n =>
    let x := t.stream n
    let t1 := if x.state = .idle || x.state = .halt || held = 0 then t else t.stall n 11 held
    t1.stallUnder n (s.seqStall slot L n) (c - held)) t
  let t2 := [(3, Engine.array), (4, .vector), (5, .dma), (6, .channel)].foldl (fun t e => t.stallUnder e.1 (s.engineStall slot L e.2) c) t1
  let t3 := { t2 with eps := t2.eps.map (fun (e : Nat × Endpoint) => (e.1, if e.2.blocked then { e.2 with sstall := satAdd e.2.sstall c } else e.2)) }
  (List.range 3).foldl (fun t n =>
    match (s.stream L n).channelHead 0x20 with
    | some _ => if s.chanReady slot L n then t else t.modStream n (fun x => { x with
        ops := modFirst isQueuedChannel (fun o => { o with waited := o.waited + c }) x.ops })
    | none => t) t3

end Sys2Proof.Machine
end

