-- ==== Sys2Proof/Machine/Time.lean ====
section
/-! DEFINITION. Time.lean: the passing of one microsecond (log 1): it moves the counters of time that the spec gives the package; what a
timer's expiry does is a command of its own. -/
namespace Sys2Proof.Machine

/-- A job's time counters after a microsecond: DLR_JOB_WDOG_ELAPSED of an open step (R173), and the time of R528.  `lost` says that the
host link is lost, or that a fault the package fences interrupts the job: the limits of the step and of its passes grow meanwhile (R43, R172,
R424; log 20). -/
def Job.tick (lost : Bool) (j : Job) : Job :=
  match j.run with
  | some r =>
    if r.started then
      ({ j with
        passes := j.passes.map (fun p => if p.injected then { p with wdogElapsed := satNat 32 p.wdogElapsed 1 } else p),
        wdogElapsed := satNat 32 j.wdogElapsed 1, stepUs := j.stepUs + 1 } : Job).interrupt (b2n lost)
    else if r.reserved then { j with stepUs := j.stepUs + 1 }
    else j
  | none => j

/-- Arithmetic cycles that pass on a tile in a microsecond are its clock in MHz (R16, R27); the step's cycle counter saturates (R76). -/
def Tile.tick (t : Tile) : Tile := { t with stepCycle := satNat 32 t.stepCycle t.clock }

/-- A fault interrupts a job: a tile of it is fenced and waits for its image (R465), a deck trick of it that was revoked with cause FAULT has not
resumed (R302), or its cut is being restored (R485; log 20). -/
def State.interrupted (s : State) (j : Job) : Bool :=
  j.tiles.any (fun L => (s.tile L).fenced) || j.restoring
    || s.trk.shares.any (fun e => e.2.job = j.id && e.2.cause = 2 && (e.2.phase = .draining || e.2.phase = .drained))

/-- Operating time in seconds saturates (R538). -/
def Telemetry.tick (t : Telemetry) : Telemetry :=
  if t.micros + 1 < 1000000 then { t with micros := t.micros + 1 }
  else { t with micros := 0, seconds := if t.seconds = BitVec.allOnes 40 then t.seconds else t.seconds + 1 }

/-- A physical tile after a microsecond: its stall counters where a job holds it, and its cycle counter. -/
def State.tickTile (s : State) (ix : Nat) (t : Tile) : Tile :=
  match s.logicalOf (ix / 34) (ix % 34) with
  | none => t.tick
  | some L => match s.slotOfTile L with
    | none => t.tick
    | some slot => (s.stallTile slot L t).tick

/-- The stall entries of the statistics page that have saturated between two states, event 0x0C03 raised once for each in a step (R529, R530). -/
def State.stallEvents (s before : State) : State :=
  s.jobSlots.foldl (fun s n => ((23 :: 24 :: upFrom 40 84).filter (fun i => (s.statEntry n i).sat && !(before.statEntry n i).sat)).foldl (fun s i =>
    let r := s.satEvents n i
    r.2.foldl (fun s e => s.raise e.1 e.2.1 e.2.2) r.1) s) s

/-- A job after a microsecond: its time counters, and what is left of its loading. -/
def State.tickJob (s : State) (j : Job) : Job := { j.tick (!s.host.attached || s.interrupted j) with loadUs := j.loadUs - 1 }

/-- HL_LB_LANE of a lane whose checker is locked, after a microsecond in which `n` of its 224,000 bits were wrong: `errors` saturates (R574). -/
def lbCount (n : Nat) (v : Dword) : Dword := if v.getLsbD 63 then putBits v 0 48 (satNat 48 (bits v 0 48) n) else v

/-- A port in LOOPBACK after a microsecond: the bit errors of its lanes are free values (R574; log 179). -/
def Port.loopTick (free : Nat) (q : Port) : Port :=
  if q.state = .loopback then
    { q with lbLanes := q.lbLanes.map (fun (e : Nat × Dword) => (e.1, lbCount ((Config.freeValue (free + e.1)).toNat % 224001) e.2)) }
  else q

/-- The ports after a microsecond; lane `k` of port `p` takes free value 8 p + k. -/
def State.loopTick (s : State) : State :=
  if s.ports.any (fun e => e.2.state = .loopback) then
    { s with ports := s.ports.map (fun (e : Nat × Port) => (e.1, e.2.loopTick (s.free + 8 * e.1))), free := s.free + 128 }
  else s

/-- The counters of time a microsecond on. -/
def State.passTime (s : State) : State :=
  { s with
    now := s.now + 1,
    tel := s.tel.tick,
    tiles := s.tiles.map (fun (e : Nat × Tile) => (e.1, s.tickTile e.1 e.2)),
    dealer := { s.dealer with jobs := s.dealer.jobs.map (fun (e : Nat × Job) => (e.1, s.tickJob e.2)) } }

/-- One microsecond passes; one bit of a fuse may burn (R504). Nothing moves while the package is held in power-on reset (R557). -/
def tick (s : State) : State := if s.pkg.inReset then { s with now := s.now + 1 } else ((s.passTime.stallEvents s).loopTick).burnBit

end Sys2Proof.Machine
end

