-- ==== Sys2Proof/Machine/Tap.lean ====
section
/-! DEFINITION. Tap.lean: the IEEE 1149.1 port (R552, R573), its controller, its data registers and the IEEE 1687 instruments behind its access
instruction (R518, R572).  The commands of the table reach it only through the security access instrument; the edges of TCK are none of them
(log 153). -/
namespace Sys2Proof.Machine

/-- The IDCODE: version 1, part number 0x0480, and Sagaost's JEP106 code, bank 12 with identity 0x1D (R573). -/
def tapIdcode : BitVec 32 := (1 : BitVec 4) ++ (0x0480 : BitVec 16) ++ (11 : BitVec 4) ++ (0x1D : BitVec 7) ++ (1 : BitVec 1)

/-- Whether an instruction selects the boundary register. -/
def TapInstr.boundary : TapInstr → Bool
  | .samplePreload | .extest | .extestPulse | .extestTrain => true
  | .bypass | .idcode | .clamp | .highz | .access => false

/-! ## IEEE 1687 (R518, R572) -/

/-- The instruments that the spec names: the results of built-in self-test, per die and per module, and the four registers of the security access
instrument. -/
inductive Instrument where
  | bistDies
  | bistModules
  | draw
  | nonce
  | block
  | status
  deriving DecidableEq, Repr

/-- The bits of a value, bit 0 first. -/
def bitList {w : Nat} (x : BitVec w) : List Bool := (List.range w).map x.getLsbD

/-- What an instrument returns, at every debug level (R518, R572). -/
def State.instrument (s : State) : Instrument → List Bool
  | .bistDies => bitList s.pkg.bistDies
  | .bistModules => bitList s.pkg.bistModules
  | .draw => [s.sec.instrDraw]
  | .nonce => bitList s.sec.instrNonce
  | .block => ((padTo blockBytes s.sec.instrBlock).map bitList).flatten
  | .status => bitList s.sec.instrResult

/-! ## Scans (R573) -/

/-- What a data scan captures, in the order in which TDO shifts it out: the IDCODE, the levels at the signal balls, of which the last cell
leaves first because TDI lies next to the first, the instruments that the IEEE 1687 network has on its path, or the bypass bit (R573). -/
def Tap.capture (t : Tap) (balls : BitVec 1468) (network : List Bool) : List Bool :=
  if t.instr.boundary then (List.range 1468).map (fun i => balls.getLsbD (1467 - i))
  else match t.instr with
    | .idcode => bitList tapIdcode
    | .access => network
    | _ => [false]

/-- The data registers take what stands on the path. -/
def Tap.update (t : Tap) (path : List Bool) : Tap :=
  if t.instr.boundary then { t with boundary := BitVec.ofNat 1468 (path.foldl (fun a b => 2 * a + b2n b) 0) } else t

/-- A data scan: the TAP after its update, and the bits at TDO for the bits at TDI. -/
def Tap.scan (t : Tap) (balls : BitVec 1468) (network tdi : List Bool) : Tap × List Bool :=
  let line := t.capture balls network ++ tdi
  (t.update (line.drop tdi.length), line.take tdi.length)

/-- The instruction that the instruction register holds for its bits; its opcodes are not in the spec (log 153). -/
def tapInstrOf (path : List Bool) : TapInstr :=
  [.bypass, .idcode, .samplePreload, .extest, .clamp, .highz, .extestPulse, .extestTrain, .access].getD (Config.tapDecode path) .bypass

/-- An instruction scan: the instruction that it loads, and the bits at TDO. -/
def Tap.scanInstr (t : Tap) (tdi : List Bool) : Tap × List Bool :=
  let line := Config.tapCapture ++ tdi
  ({ t with instr := tapInstrOf (line.drop tdi.length) }, line.take tdi.length)

/-! ## The controller, by edges of TCK (IEEE 1149.1) -/

/-- The state that a rising edge of TCK leads to, by TMS. -/
def TapState.next : TapState → Bool → TapState
  | .testLogicReset, tms => if tms then .testLogicReset else .runTestIdle
  | .runTestIdle, tms => if tms then .selectDr else .runTestIdle
  | .selectDr, tms => if tms then .selectIr else .captureDr
  | .captureDr, tms => if tms then .exit1Dr else .shiftDr
  | .shiftDr, tms => if tms then .exit1Dr else .shiftDr
  | .exit1Dr, tms => if tms then .updateDr else .pauseDr
  | .pauseDr, tms => if tms then .exit2Dr else .pauseDr
  | .exit2Dr, tms => if tms then .updateDr else .shiftDr
  | .updateDr, tms => if tms then .selectDr else .runTestIdle
  | .selectIr, tms => if tms then .testLogicReset else .captureIr
  | .captureIr, tms => if tms then .exit1Ir else .shiftIr
  | .shiftIr, tms => if tms then .exit1Ir else .shiftIr
  | .exit1Ir, tms => if tms then .updateIr else .pauseIr
  | .pauseIr, tms => if tms then .exit2Ir else .pauseIr
  | .exit2Ir, tms => if tms then .updateIr else .shiftIr
  | .updateIr, tms => if tms then .selectDr else .runTestIdle

/-- A rising edge of TCK, with TRST_N high: the state acts, and the next is entered; an update takes place as its state is entered. -/
def Tap.edge (t : Tap) (tms tdi : Bool) (balls : BitVec 1468) (network : List Bool) : Tap :=
  let t1 := match t.state with
    | .captureDr => { t with path := t.capture balls network }
    | .captureIr => { t with path := Config.tapCapture }
    | .shiftDr | .shiftIr => { t with path := t.path.drop 1 ++ [tdi] }
    | _ => t
  let t2 := { t1 with state := t.state.next tms }
  match t2.state with
  | .updateDr => t2.update t2.path
  | .updateIr => { t2 with instr := tapInstrOf t2.path }
  | .testLogicReset => { t2 with instr := .idcode }
  | _ => t2

/-- TRST_N is low: the controller is in Test-Logic-Reset. -/
def Tap.trst (t : Tap) : Tap := { t with state := .testLogicReset, instr := .idcode }

/-- TDO, which is driven only while a path is shifted. -/
def Tap.tdo (t : Tap) : Option Bool := if t.state = .shiftDr || t.state = .shiftIr then t.path.head? else none

/-- What drives the signal balls: none under HIGHZ, the boundary register under EXTEST, EXTEST_PULSE, EXTEST_TRAIN and CLAMP, else the package. -/
def Tap.drives (t : Tap) (system : BitVec 1468) : Option (BitVec 1468) :=
  match t.instr with
  | .highz => none
  | .extest | .extestPulse | .extestTrain | .clamp => some t.boundary
  | .bypass | .idcode | .samplePreload | .access => some system

end Sys2Proof.Machine
end

