-- ==== Sys2Proof/Safety.lean ====
section
/-! DEFINITION. Safety.lean: the words that statements use for a run of the package that keeps its promises. -/
namespace Sys2Proof.Machine

/-- No fault and no refusal within `k` steps. -/
def SafeRun (k : Nat) (s : State) : Prop := ∃ t, Sys2Proof.core.run k s = .next t

/-- Device memory is in its canonical form. -/
def State.memOk (s : State) : Prop := Memory.wf s.mem = true

/-- An owner entry with a digest stays as it is, but for a revocation (R494, R509). -/
def ownerKept (a b : BitVec 256 × Bool × Bool) : Prop := a.2.1 = true → b.1 = a.1 ∧ b.2.1 = true ∧ (a.2.2 = true → b.2.2 = true)

/-- Nothing that is burned into the fuses of `f` is undone in `g`: identity, digests and `debug_disable` are the same, `svn` has not fallen
(R494, R504), and every owner entry in use keeps its digest and its revocation (R509). -/
def Fuses.kept (f g : Fuses) : Prop :=
  g.serial = f.serial ∧ g.uds = f.uds ∧ g.fwKeyDigest = f.fwKeyDigest ∧ g.dbgKeyDigest = f.dbgKeyDigest ∧ g.debugDisable = f.debugDisable
    ∧ f.svn ≤ g.svn ∧ (∀ i, ownerKept (tget (0, false, false) f.owners i) (tget (0, false, false) g.owners i))
    ∧ g.tiles = f.tiles ∧ g.volts = f.volts

/-- Only what records of events and completions reach differs: the host interface and host memory, telemetry, and what has left the
package. -/
structure SameButRecords (s t : State) : Prop where
  pending : t.pending = s.pending
  mem : t.mem = s.mem
  poison : t.poison = s.poison
  flaws : t.flaws = s.flaws
  chunkCache : t.chunkCache = s.chunkCache
  flash : t.flash = s.flash
  tiles : t.tiles = s.tiles
  stks : t.stks = s.stks
  gds : t.gds = s.gds
  objs : t.objs = s.objs
  dealer : t.dealer = s.dealer
  trk : t.trk = s.trk
  ports : t.ports = s.ports
  originRoutes : t.originRoutes = s.originRoutes
  ortIndex : t.ortIndex = s.ortIndex
  melds : t.melds = s.melds
  pkg : t.pkg = s.pkg
  fuses : t.fuses = s.fuses
  sec : t.sec = s.sec
  recov : t.recov = s.recov
  noc : t.noc = s.noc
  now : t.now = s.now
  free : t.free = s.free

/-! ## Security -/

/-- The firmware serves SEC command `cmd` of path `p`, and no other is under way: the mailbox's once SEC_CMD has named it, MCTP's while none of the
mailbox's came before it (R520). -/
def State.secReady (s : State) (p : SecPath) (cmd : Nat) : Prop :=
  s.pkg.inReset = false ∧ s.tel.mcReset = false ∧ s.sec.running = true ∧ s.sec.recovery = false ∧ p ≠ .instrument
    ∧ s.sec.burn = none ∧ s.sec.waiting = [] ∧ (p = .mailbox → s.sec.busy = true ∧ s.sec.cmd.toNat = cmd) ∧ (p = .mctp → s.sec.busy = false)

/-- The bytes that a SEC command works on: the mailbox's buffer, or what MCTP carries. -/
def State.secBuffer (s : State) (p : SecPath) (buffer : List Byte) : List Byte := if p = .mailbox then s.sec.mail else buffer

/-- The argument of a SEC command: SEC_ARG, or what MCTP carries. -/
def State.secArg (s : State) (p : SecPath) (arg : Nat) : Nat := if p = .mailbox then s.sec.arg.toNat else arg

/-- A SEC command ends with a result code and result bytes (R520, R543). -/
def State.secAnswer (s : State) (p : SecPath) (result : Nat) (sent : List Byte) : State :=
  if p = .mailbox then s.modSec (fun x => x.mailDone result sent)
  else (s.modSec (fun x => { x with mctpResult := BitVec.ofNat 8 result })).emit (.response (BitVec.ofNat 8 result :: sent))

/-- The SPDM responder runs, outside the test modes. -/
def State.spdmRuns (s : State) : Prop :=
  s.pkg.inReset = false ∧ s.pkg.testMode = 0 ∧ s.tel.mcReset = false ∧ s.sec.responder = true

/-- The connection of R512 is made. -/
def State.spdmConnected (s : State) : Prop :=
  s.spdmRuns ∧ s.sec.versionDone = true ∧ s.sec.capsDone = true ∧ s.sec.algsDone = true

/-- The SPDM session is established. -/
def State.spdmSession (s : State) (i : Nat) : Prop :=
  s.spdmConnected ∧ (s.session i).inUse = true ∧ (s.session i).finished = true

/-! ## Instructions and packets -/

/-- Offset in scratch of a stream's next instruction word (R140). -/
def State.fetchAt (s : State) (L n : Nat) : Nat := bits (s.stream L n).prog 16 10 * 4096 + 16 * (s.stream L n).pc.toNat

/-- The next instruction word of a stream is `w`, of job slot `slot`, and its sequencer may issue it (R140, R143, R158, R165, R166, R174). -/
def State.mayIssue (s : State) (L n slot w : Nat) : Prop :=
  let x := s.stream L n
  s.slotOfTile L = some slot ∧ x.state ≠ .idle ∧ x.state ≠ .halt ∧ x.issueHeld = false ∧ s.engineHeld L = false
    ∧ (s.tile L).recomputing n = false ∧ s.fetchAt L n + 16 ≤ 0x400000 ∧ (s.scratchTouch L (s.fetchAt L n) 16).2 = false
    ∧ w = leNat (s.scratchRead L (s.fetchAt L n) 16)
    ∧ s.issueBad slot L n w = none ∧ (issuesAlone (insOp w) = true → x.ops = []) ∧ x.queueFull (engineOf (insOp w)) = false
    ∧ (insWait w = 0 ∨ x.waitDone = true ∨ s.waitHolds L n (insWait w) = true)

/-- The state once the word has been read and its wait taken: the target of a REACH advances, unless WAIT_SATISFIED has taken it (R156). -/
def State.issued (s : State) (L n w : Nat) : State :=
  let u := (s.scratchTouch L (s.fetchAt L n) 16).1
  if insWait w ≠ 0 ∧ (s.stream L n).waitDone = false then u.waitTaken L n (insWait w) else u

/-- Packet `p` stands first at its source, and `u` is the state once it is taken: off the package's own network, or out of a port's kitty with
its blocks released (R330, R344). -/
def State.takes (s : State) (src : Src) (p : Packet) (u : State) : Prop :=
  match src with
  | .noc => ∃ r, s.noc = p :: r ∧ u = { s with noc := r }
  | .port q => ∃ k r, (s.port q).kitty = k :: r ∧ k.pkt = p ∧ k.freed = false ∧ p.hopLocal = false ∧ p.dst = s.self
      ∧ u = (s.modPort q (fun x => { x with kitty := { k with freed := true } :: r })).creditFreed q p.cls.toNat p.blocks

/-- The same for a CHAN_CTL packet with operation `op` that addresses endpoint `e` of tile `L`, of job slot `slot` (R321, R322). -/
def State.takesCtl (s : State) (src : Src) (op : Nat) (p : Packet) (u : State) (slot L e : Nat) : Prop :=
  s.takes src p u ∧ p.ptype = 2 ∧ p.spec 32 1 = op ∧ u.endpointOf (tagJob p.tag) (bits p.handle 0 12) = some (slot, L, e)

/-- The same for a TRICK packet with message `msg` of a job that exists in slot `n` (R301). -/
def State.takesTrick (s : State) (src : Src) (msg : Nat) (p : Packet) (u : State) (n : Nat) : Prop :=
  s.takes src p u ∧ p.ptype = 4 ∧ p.spec 32 1 = msg ∧ s.findJob (p.spec 44 2) = some n ∧ u.findJob (p.spec 44 2) = some n

/-- Stream `n` of a tile has the only vector instruction `o` at the grant that is ready and whose homes are, of opcode `vop`, its descriptor `l`
can be read, and none of R136's checks fails; `u` is the state in which the instruction executes, once its descriptor has been read (R111, R114,
R136, R272). -/
def State.vecTurn (s : State) (L n slot : Nat) (o : Op) (l : LoopDesc) (vop : Nat) (amb : Ambient) (u : State) : Prop :=
  s.slotOfTile L = some slot ∧ (List.range 3).filter (fun m => (s.tile L).vecReady m && s.vecKeeps L m) = [n]
    ∧ (s.tile L).pick 1 [n] = some n ∧ (s.stream L n).ops.find? isVecQueued = some o ∧ (s.tile L).vecStream = none
    ∧ s.engineHeld L = false ∧ vecOp o.word.toNat = vop ∧ insDesc o.word.toNat + 128 ≤ 0x400000
    ∧ (((s.applyAmb amb).modTile L (fun t => t.notePassed 1 [n] n)).scratchTouch L (insDesc o.word.toNat) 128) = (u, false)
    ∧ l = loopOf (((s.applyAmb amb).modTile L (fun t => t.notePassed 1 [n] n)).scratchRead L (insDesc o.word.toNat) 128)
    ∧ ((s.applyAmb amb).modTile L (fun t => t.notePassed 1 [n] n)).vecBad slot L o.inTrick o.word.toNat l = none
    ∧ ((s.job slot).det = true → vecDet o.word.toNat l = none)

/-- What a granted instruction runs with. -/
def State.vecRunOf (s : State) (L n slot : Nat) (o : Op) (l : LoopDesc) : VecRun :=
  ⟨⟨slot, L, n, o.tag, o.inTrick⟩, o.word.toNat, l, (s.tile L).finQueue.head?⟩

/-- The state after an instruction's elements: it waits for VEC_COMPLETE with its tracking and the address of its status block. -/
def State.vecMoved (s : State) (L n : Nat) (st : NumStatus) (l : LoopDesc) : State :=
  (s.modTile L (fun t => { t with vecStream := some n })).modOp L n isVecQueued
    (fun p => { p with phase := .moved, status := st, statusAt := l.status })

/-- A Meld packet that `want` accepts stands first at its source, and its context `cs` of engine `e` uses it for job slot `n` (R369). -/
def State.takesMeld (s : State) (src : Src) (want : Packet → Bool) (p : Packet) (u : State) (e cs n : Nat) : Prop :=
  s.takes src p u ∧ want p = true ∧ u.meldFate p = .use e cs n

end Sys2Proof.Machine
end

