-- ==== Sys2Proof/WellFormed.lean ====
section
/-! DEFINITION. WellFormed.lean: which operands a command can carry (one check per command that has any). -/
namespace Sys2Proof

/-- Host memory addresses are 64 bits wide (R398). -/
def hostCells (hw : List Host.Cell) : Bool := hw.all (fun c => decide (c.1 < 2 ^ 64))

/-- A trained host link runs at 32 or 64 GT/s on 4, 8 or 16 lanes (R389, R407). -/
def trainedLink (speed : BitVec 2) (width : BitVec 5) : Bool :=
  (speed == 1 || speed == 2) && (width == 4 || width == 8 || width == 16)

/-- Sizes in bytes of one access on the host link (R17). -/
def accessSize (bytes : Nat) : Bool := bytes == 1 || bytes == 2 || bytes == 4 || bytes == 8

/-- An access of HDM stays within one 64-byte line (R217, R389). -/
def inLine (offset bytes : Nat) : Bool := decide (1 ≤ bytes) && decide (offset % 64 + bytes ≤ 64)

/-- A packet on the wire: a 64-byte header, 0 to 64 blocks of payload and an 8-byte trailer (R319, R323). -/
def wireSize (bytes : Nat) : Bool := decide (72 ≤ bytes) && (bytes - 72) % 64 == 0 && decide ((bytes - 72) / 64 ≤ 64)

/-- The SEC buffer holds 32 KiB (R520). -/
def mailSize (buffer : List Byte) : Bool := decide (buffer.length ≤ 32768)

/-- A large SPDM message has at most 65,536 bytes (R512). -/
def spdmSize (data : List Byte) : Bool := decide (data.length ≤ 65536)

/-- A deck lists each of the 128 logical tiles at most once, and no more regions, keep entries and durable ranges than there are registers
(R169, R262, R271, R306). -/
def deckSizes (d : Deck) : Bool :=
  d.tiles.all (fun t => decide (t.rel < 128)) && decide ((d.tiles.map (·.rel)).Nodup) && decide (d.regions.length ≤ 256)
    && decide (d.keeps.length ≤ 128) && decide (d.durable.length ≤ 16)

/-- Whether a command's operands are ones that it can carry. -/
def Instr.wf (i : Instr) : Bool :=
  match i with
  | .powerOnReset => true
  | .powerOnResetRelease _ => true
  | .firmwareStart => true
  | .bootReady => true
  | .perstNAssert => true
  | .hostLinkDown => true
  | .hostLinkLossTimeout => true
  | .hostLinkBack speed width => trainedLink speed width
  | .pcieOnly speed width => trainedLink speed width
  | .resume _ hw => hostCells hw
  | .prochotNAssert => true
  | .powerCapEvaluation _ => true
  | .hostCapWrite _ => true
  | .bmcCapWrite _ => true
  | .avsAcknowledge _ => true
  | .avsAckTimeout _ => true
  | .thermalSensorRead hottest => decide (hottest.length = 11)
  | .throttleLevelCheck _ => true
  | .railOutOfRange _ _ _ => true
  | .powerMonitorSample microjoules => decide (microjoules.length = 15)
  | .pldmSensorUpdate => true
  | .mcWatchdogExpiry => true
  | .mcRestart => true
  | .ccReset => true
  | .ccResetDone => true
  | .registerWrite bar2 offset bytes value => accessSize bytes && decide (value.toNat < 2 ^ (8 * bytes)) && (!bar2 || decide (offset.toNat < 0x10000))
  | .glbIdentityWrite _ _ => true
  | .ringEnable _ _ hw => hostCells hw
  | .ringDisable _ => true
  | .monitorSnoop _ => true
  | .monitorPoll => true
  | .monitorLineRead _ hw _ => hostCells hw
  | .descriptorFetch _ hw _ => hostCells hw
  | .job _ deck amb => deckSizes deck && hostCells amb.hw
  | .jobPlaced _ => true
  | .step _ amb => hostCells amb.hw
  | .pass _ amb => hostCells amb.hw
  | .abort _ => true
  | .endJob _ => true
  | .nop _ _ => true
  | .nopDescriptor _ => true
  | .load _ => true
  | .jobEndDone _ => true
  | .stepStart _ => true
  | .microBatchInjection _ amb => hostCells amb.hw
  | .controlPassInjection _ => true
  | .passInjection _ _ amb => hostCells amb.hw
  | .stepOverrun _ => true
  | .stepWatchdogFault _ => true
  | .completionBufferDrain => true
  | .msixMessage _ => true
  | .atsInvalidation firstPage lastPage => decide (firstPage ≤ lastPage)
  | .hostMemRead offset bytes amb => inLine offset.toNat bytes && hostCells amb.hw
  | .hostMemWrite offset sent => inLine offset.toNat sent.length
  | .hostLineSnoop _ => true
  | .pageRequestResponse _ _ amb => hostCells amb.hw
  | .pageRequestTimeout _ => true
  | .hwtEntryWrite _ => true
  | .stop _ _ => true
  | .jmp _ _ => true
  | .loop _ _ => true
  | .ldlc _ _ => true
  | .brtag _ _ => true
  | .fence _ _ => true
  | .mma _ _ => true
  | .vec _ _ => true
  | .dma _ _ => true
  | .recv _ _ => true
  | .send _ _ => true
  | .topen _ _ => true
  | .tcommit _ _ => true
  | .trevokeRetry _ _ => true
  | .trevokeContinue _ _ => true
  | .waitSatisfied _ _ => true
  | .sync _ => true
  | .arrayGrant _ amb => hostCells amb.hw
  | .mmaComplete _ _ => true
  | .sparsityCheck _ _ => true
  | .bankComplete _ _ => true
  | .drainStart _ => true
  | .drainEnd _ => true
  | .arrCtlWrite _ _ _ => true
  | .vcopy _ amb => hostCells amb.hw
  | .vadd _ amb => hostCells amb.hw
  | .vsub _ amb => hostCells amb.hw
  | .vmul _ amb => hostCells amb.hw
  | .vfma _ amb => hostCells amb.hw
  | .vdiv _ amb => hostCells amb.hw
  | .vrcp _ amb => hostCells amb.hw
  | .vsqrt _ amb => hostCells amb.hw
  | .vrsqrt _ amb => hostCells amb.hw
  | .vexp _ amb => hostCells amb.hw
  | .vlog _ amb => hostCells amb.hw
  | .vtanh _ amb => hostCells amb.hw
  | .vsigm _ amb => hostCells amb.hw
  | .vgelu _ amb => hostCells amb.hw
  | .vmax _ amb => hostCells amb.hw
  | .vmin _ amb => hostCells amb.hw
  | .vcmp _ amb => hostCells amb.hw
  | .rsum _ amb => hostCells amb.hw
  | .rssq _ amb => hostCells amb.hw
  | .rmv _ amb => hostCells amb.hw
  | .rmax _ amb => hostCells amb.hw
  | .rmin _ amb => hostCells amb.hw
  | .rmaxi _ amb => hostCells amb.hw
  | .rmini _ amb => hostCells amb.hw
  | .scan _ amb => hostCells amb.hw
  | .scanx _ amb => hostCells amb.hw
  | .sscan _ amb => hostCells amb.hw
  | .sscanx _ amb => hostCells amb.hw
  | .vstamp _ amb => hostCells amb.hw
  | .vecComplete _ => true
  | .dmaTransferStart _ amb => hostCells amb.hw
  | .dmaComplete _ => true
  | .sendPlace _ _ amb => hostCells amb.hw
  | .sendComplete _ _ => true
  | .recvTake _ _ => true
  | .recvComplete _ _ amb => hostCells amb.hw
  | .openChannel _ => true
  | .accept _ => true
  | .refuse _ => true
  | .close _ => true
  | .headUpdate _ => true
  | .blocked _ => true
  | .spillReq _ => true
  | .spillEnd _ => true
  | .openRetry _ _ => true
  | .openTimeout _ _ => true
  | .headUpdateTimer _ _ => true
  | .blockedNoticeTimer _ _ => true
  | .channelDeadlock _ _ => true
  | .deadlockTimerStop _ _ => true
  | .data _ => true
  | .keepRecipeFiring _ _ amb => hostCells amb.hw
  | .localTrickTimeout slot => decide (slot ≠ 0)
  | .logCapacityTimeout slot => decide (slot ≠ 0)
  | .shareReady _ _ _ => true
  | .trickReady _ => true
  | .trickRefuse _ => true
  | .prepareTimeout _ => true
  | .trickCommit _ => true
  | .publicationDone _ _ => true
  | .trickRevoke _ => true
  | .revokeDrained _ _ => true
  | .trickDone _ => true
  | .trickResume _ => true
  | .portEnable _ => true
  | .portDisable _ => true
  | .portFence _ => true
  | .portUnfence _ => true
  | .signalDetect _ _ => true
  | .trainingDone _ _ _ => true
  | .trainingFailed _ => true
  | .alignLock _ => true
  | .alignTimeout _ => true
  | .identity _ => true
  | .discoverTimeout _ => true
  | .frameLockTimeout _ => true
  | .peerIdle _ => true
  | .holdoffExpiry _ => true
  | .frameTransmit _ _ => true
  | .controlBlock _ frame => decide (frame.block.length = 64)
  | .replayTimer _ => true
  | .packetArrival _ wire => wireSize wire.length
  | .packetFirstSend _ _ _ => true
  | .reorderTimeout _ => true
  | .packetForward _ _ _ => true
  | .kittyStall _ _ => true
  | .laneFailure _ _ => true
  | .restripeLock _ => true
  | .laneRestore _ => true
  | .laneRestored _ _ => true
  | .hlCntClr _ => true
  | .hlFiWrite _ _ _ => true
  | .rtEntryWrite _ _ _ => true
  | .kittyClassWrite _ _ _ => true
  | .mgmt _ => true
  | .meldTrigger _ _ amb => hostCells amb.hw
  | .join _ => true
  | .grant _ => true
  | .demand _ amb => hostCells amb.hw
  | .meldData _ => true
  | .ssqSource _ => true
  | .ssqShard _ => true
  | .meldFiringEnd _ _ => true
  | .mldCntClr _ => true
  | .mldEntryWrite _ offset _ _ => decide (offset.toNat % 4 = 0)
  | .gddrTrained _ => true
  | .gddrTrainingFailed _ => true
  | .gddrTempPoll _ _ => true
  | .gddrRetrain _ _ => true
  | .scrubVisit _ _ _ => true
  | .errClr _ => true
  | .gdThrWrite _ _ => true
  | .marginingStart _ => true
  | .marginingDone _ margins => decide (margins.length = 32)
  | .stkGddrCfgWrite _ _ => true
  | .gddrLayoutDone _ => true
  | .stkMemCfgWrite _ _ => true
  | .farCacheResizeDone _ => true
  | .loadReady _ => true
  | .loadRestart _ => true
  | .loadImageFetch _ _ amb => hostCells amb.hw
  | .loadPacket _ => true
  | .tileHeartbeatSample _ _ => true
  | .tileCheckFailure _ _ _ => true
  | .tileImageReloaded _ => true
  | .d2dLaneFailure _ lane => decide (lane.toNat < 18)
  | .cutCopyDone _ _ => true
  | .cutWrite _ => true
  | .packageHeartbeat => true
  | .packageLossDeclared _ => true
  | .takeoverOrder _ => true
  | .cutFetch _ => true
  | .cutNone _ => true
  | .cutRead _ => true
  | .cutRestored _ => true
  | .relinkTimeout _ => true
  | .fenceOrder _ => true
  | .nonce _ _ => true
  | .nonceExpiry _ => true
  | .fwBegin _ => true
  | .fwWrite _ arg buffer => arg.toNat % 64 == 0 && mailSize buffer
  | .fwFinish _ => true
  | .fwActivate _ => true
  | .updateSessionTimeout => true
  | .bootConfirm _ => true
  | .svnCommit _ => true
  | .ownerClaim _ buffer => mailSize buffer
  | .ownerRelease _ buffer => mailSize buffer
  | .debugUnlock _ buffer => mailSize buffer
  | .debugNonceDraw _ => true
  | .debugBlockCheck block => decide (block.length = 7984)
  | .recorderClear _ buffer => mailSize buffer
  | .recorderClearDone => true
  | .getVersion => true
  | .getCapabilities => true
  | .negotiateAlgorithms => true
  | .getDigests => true
  | .getCertificate _ _ _ => true
  | .challenge _ _ => true
  | .getMeasurements _ _ _ => true
  | .keyExchange request => spdmSize request
  | .finish _ request => spdmSize request
  | .spdmHeartbeat _ => true
  | .keyUpdate _ _ => true
  | .endSession _ => true
  | .chunkGet _ _ => true
  | .chunkSend _ _ _ sent => spdmSize sent
  | .spdmUnsupported _ => true
  | .query _ => true
  | .keyProg _ _ _ _ => true
  | .kSetGo _ _ _ => true
  | .kSetStop _ _ _ => true
  | .ideIntegrityFailure _ => true
  | .recRead start _ => decide (start.toNat < 131072)
  | .recStatus => true
  | .rateLimitRefill _ => true
  | .recorderProgram => true
  | .journalWrite _ => true
  | .statsPageWritten _ => true
  | .perstNDeassert => true
  | .prochotNDeassert => true
  | .frameLockLost _ => true
  | .frameLockRegained _ => true
  | .tcommitComplete _ _ _ => true
  | .loopbackCheckerLock _ _ => true
  | .spdmHeartbeatTimeout _ => true

/-- Bytes of message, buffer or data that a command carries. -/
def Instr.payload (i : Instr) : Nat :=
  match i with
  | .powerOnReset => 0
  | .powerOnResetRelease _ => 0
  | .firmwareStart => 0
  | .bootReady => 0
  | .perstNAssert => 0
  | .hostLinkDown => 0
  | .hostLinkLossTimeout => 0
  | .hostLinkBack _ _ => 0
  | .pcieOnly _ _ => 0
  | .resume _ _ => 0
  | .prochotNAssert => 0
  | .powerCapEvaluation _ => 0
  | .hostCapWrite _ => 0
  | .bmcCapWrite _ => 0
  | .avsAcknowledge _ => 0
  | .avsAckTimeout _ => 0
  | .thermalSensorRead _ => 0
  | .throttleLevelCheck _ => 0
  | .railOutOfRange _ _ _ => 0
  | .powerMonitorSample _ => 0
  | .pldmSensorUpdate => 0
  | .mcWatchdogExpiry => 0
  | .mcRestart => 0
  | .ccReset => 0
  | .ccResetDone => 0
  | .registerWrite _ _ _ _ => 0
  | .glbIdentityWrite _ _ => 0
  | .ringEnable _ _ _ => 0
  | .ringDisable _ => 0
  | .monitorSnoop _ => 0
  | .monitorPoll => 0
  | .monitorLineRead _ _ _ => 0
  | .descriptorFetch _ _ _ => 0
  | .job _ _ _ => 0
  | .jobPlaced _ => 0
  | .step _ _ => 0
  | .pass _ _ => 0
  | .abort _ => 0
  | .endJob _ => 0
  | .nop _ _ => 0
  | .nopDescriptor _ => 0
  | .load _ => 0
  | .jobEndDone _ => 0
  | .stepStart _ => 0
  | .microBatchInjection _ _ => 0
  | .controlPassInjection _ => 0
  | .passInjection _ _ _ => 0
  | .stepOverrun _ => 0
  | .stepWatchdogFault _ => 0
  | .completionBufferDrain => 0
  | .msixMessage _ => 0
  | .atsInvalidation _ _ => 0
  | .hostMemRead _ _ _ => 0
  | .hostMemWrite _ sent => sent.length
  | .hostLineSnoop _ => 0
  | .pageRequestResponse _ _ _ => 0
  | .pageRequestTimeout _ => 0
  | .hwtEntryWrite _ => 0
  | .stop _ _ => 0
  | .jmp _ _ => 0
  | .loop _ _ => 0
  | .ldlc _ _ => 0
  | .brtag _ _ => 0
  | .fence _ _ => 0
  | .mma _ _ => 0
  | .vec _ _ => 0
  | .dma _ _ => 0
  | .recv _ _ => 0
  | .send _ _ => 0
  | .topen _ _ => 0
  | .tcommit _ _ => 0
  | .trevokeRetry _ _ => 0
  | .trevokeContinue _ _ => 0
  | .waitSatisfied _ _ => 0
  | .sync _ => 0
  | .arrayGrant _ _ => 0
  | .mmaComplete _ _ => 0
  | .sparsityCheck _ _ => 0
  | .bankComplete _ _ => 0
  | .drainStart _ => 0
  | .drainEnd _ => 0
  | .arrCtlWrite _ _ _ => 0
  | .vcopy _ _ => 0
  | .vadd _ _ => 0
  | .vsub _ _ => 0
  | .vmul _ _ => 0
  | .vfma _ _ => 0
  | .vdiv _ _ => 0
  | .vrcp _ _ => 0
  | .vsqrt _ _ => 0
  | .vrsqrt _ _ => 0
  | .vexp _ _ => 0
  | .vlog _ _ => 0
  | .vtanh _ _ => 0
  | .vsigm _ _ => 0
  | .vgelu _ _ => 0
  | .vmax _ _ => 0
  | .vmin _ _ => 0
  | .vcmp _ _ => 0
  | .rsum _ _ => 0
  | .rssq _ _ => 0
  | .rmv _ _ => 0
  | .rmax _ _ => 0
  | .rmin _ _ => 0
  | .rmaxi _ _ => 0
  | .rmini _ _ => 0
  | .scan _ _ => 0
  | .scanx _ _ => 0
  | .sscan _ _ => 0
  | .sscanx _ _ => 0
  | .vstamp _ _ => 0
  | .vecComplete _ => 0
  | .dmaTransferStart _ _ => 0
  | .dmaComplete _ => 0
  | .sendPlace _ _ _ => 0
  | .sendComplete _ _ => 0
  | .recvTake _ _ => 0
  | .recvComplete _ _ _ => 0
  | .openChannel _ => 0
  | .accept _ => 0
  | .refuse _ => 0
  | .close _ => 0
  | .headUpdate _ => 0
  | .blocked _ => 0
  | .spillReq _ => 0
  | .spillEnd _ => 0
  | .openRetry _ _ => 0
  | .openTimeout _ _ => 0
  | .headUpdateTimer _ _ => 0
  | .blockedNoticeTimer _ _ => 0
  | .channelDeadlock _ _ => 0
  | .deadlockTimerStop _ _ => 0
  | .data _ => 0
  | .keepRecipeFiring _ _ _ => 0
  | .localTrickTimeout _ => 0
  | .logCapacityTimeout _ => 0
  | .shareReady _ _ _ => 0
  | .trickReady _ => 0
  | .trickRefuse _ => 0
  | .prepareTimeout _ => 0
  | .trickCommit _ => 0
  | .publicationDone _ _ => 0
  | .trickRevoke _ => 0
  | .revokeDrained _ _ => 0
  | .trickDone _ => 0
  | .trickResume _ => 0
  | .portEnable _ => 0
  | .portDisable _ => 0
  | .portFence _ => 0
  | .portUnfence _ => 0
  | .signalDetect _ _ => 0
  | .trainingDone _ _ _ => 0
  | .trainingFailed _ => 0
  | .alignLock _ => 0
  | .alignTimeout _ => 0
  | .identity _ => 0
  | .discoverTimeout _ => 0
  | .frameLockTimeout _ => 0
  | .peerIdle _ => 0
  | .holdoffExpiry _ => 0
  | .frameTransmit _ _ => 0
  | .controlBlock _ frame => frame.block.length
  | .replayTimer _ => 0
  | .packetArrival _ wire => wire.length
  | .packetFirstSend _ _ _ => 0
  | .reorderTimeout _ => 0
  | .packetForward _ _ _ => 0
  | .kittyStall _ _ => 0
  | .laneFailure _ _ => 0
  | .restripeLock _ => 0
  | .laneRestore _ => 0
  | .laneRestored _ _ => 0
  | .hlCntClr _ => 0
  | .hlFiWrite _ _ _ => 0
  | .rtEntryWrite _ _ _ => 0
  | .kittyClassWrite _ _ _ => 0
  | .mgmt _ => 0
  | .meldTrigger _ _ _ => 0
  | .join _ => 0
  | .grant _ => 0
  | .demand _ _ => 0
  | .meldData _ => 0
  | .ssqSource _ => 0
  | .ssqShard _ => 0
  | .meldFiringEnd _ _ => 0
  | .mldCntClr _ => 0
  | .mldEntryWrite _ _ _ _ => 0
  | .gddrTrained _ => 0
  | .gddrTrainingFailed _ => 0
  | .gddrTempPoll _ _ => 0
  | .gddrRetrain _ _ => 0
  | .scrubVisit _ _ _ => 0
  | .errClr _ => 0
  | .gdThrWrite _ _ => 0
  | .marginingStart _ => 0
  | .marginingDone _ _ => 0
  | .stkGddrCfgWrite _ _ => 0
  | .gddrLayoutDone _ => 0
  | .stkMemCfgWrite _ _ => 0
  | .farCacheResizeDone _ => 0
  | .loadReady _ => 0
  | .loadRestart _ => 0
  | .loadImageFetch _ _ _ => 0
  | .loadPacket _ => 0
  | .tileHeartbeatSample _ _ => 0
  | .tileCheckFailure _ _ _ => 0
  | .tileImageReloaded _ => 0
  | .d2dLaneFailure _ _ => 0
  | .cutCopyDone _ _ => 0
  | .cutWrite _ => 0
  | .packageHeartbeat => 0
  | .packageLossDeclared _ => 0
  | .takeoverOrder _ => 0
  | .cutFetch _ => 0
  | .cutNone _ => 0
  | .cutRead _ => 0
  | .cutRestored _ => 0
  | .relinkTimeout _ => 0
  | .fenceOrder _ => 0
  | .nonce _ _ => 0
  | .nonceExpiry _ => 0
  | .fwBegin _ => 0
  | .fwWrite _ _ buffer => buffer.length
  | .fwFinish _ => 0
  | .fwActivate _ => 0
  | .updateSessionTimeout => 0
  | .bootConfirm _ => 0
  | .svnCommit _ => 0
  | .ownerClaim _ buffer => buffer.length
  | .ownerRelease _ buffer => buffer.length
  | .debugUnlock _ buffer => buffer.length
  | .debugNonceDraw _ => 0
  | .debugBlockCheck block => block.length
  | .recorderClear _ buffer => buffer.length
  | .recorderClearDone => 0
  | .getVersion => 0
  | .getCapabilities => 0
  | .negotiateAlgorithms => 0
  | .getDigests => 0
  | .getCertificate _ _ _ => 0
  | .challenge _ _ => 0
  | .getMeasurements _ _ _ => 0
  | .keyExchange request => request.length
  | .finish _ request => request.length
  | .spdmHeartbeat _ => 0
  | .keyUpdate _ _ => 0
  | .endSession _ => 0
  | .chunkGet _ _ => 0
  | .chunkSend _ _ _ sent => sent.length
  | .spdmUnsupported _ => 0
  | .query _ => 0
  | .keyProg _ _ _ _ => 0
  | .kSetGo _ _ _ => 0
  | .kSetStop _ _ _ => 0
  | .ideIntegrityFailure _ => 0
  | .recRead _ _ => 0
  | .recStatus => 0
  | .rateLimitRefill _ => 0
  | .recorderProgram => 0
  | .journalWrite _ => 0
  | .statsPageWritten _ => 0
  | .perstNDeassert => 0
  | .prochotNDeassert => 0
  | .frameLockLost _ => 0
  | .frameLockRegained _ => 0
  | .tcommitComplete _ _ _ => 0
  | .loopbackCheckerLock _ _ => 0
  | .spdmHeartbeatTimeout _ => 0

end Sys2Proof
end

