-- ==== Sys2Proof/Certificates/Slice0/Obligations.lean ====
section
/-! DEFINITION. Obligations.lean: the statements about the package, for the provers.

A completion statement says, for each command it names, that exec answers a next state and what that state is, under conditions on the state
and the operands.  An equation `exec c s = .next t` with `t` written as an update of `s` is the frame as well: what the update does not name is
unchanged.  `raise`, `complete` and `emit` add a record of an event, a completion record and something that leaves the package, and change
nothing but those records (SameButRecords). -/

open Sys2Proof Sys2Proof.Machine

/-! ## The machine -/

/-- A step runs the command at the front of the queue on the state with the queue's rest. -/
def Obligations.FrontOfQueueRuns : Prop :=
  ∀ (c : Instr) (r : List Instr) (s : State), step { s with pending := c :: r } = exec c { s with pending := r }

/-- On an empty queue a step lets one microsecond pass (log 1, the model's choice).  In power-on reset only `now` advances.  Outside it the
operating time, a started step's elapsed watchdog time and each tile's step cycles move (R27, R173, R538), the stall entries that this saturates
are told, the loop-back lanes count, and a burn of the svn fuse goes on; with no burn, memory, objects, engines, flash and fuses stay. -/
def Obligations.EmptyQueueLetsTimePass : Prop :=
  ∀ s : State, s.pending = [] →
    ∃ t, step s = .next t ∧ (s.pkg.inReset = true → t = { s with now := s.now + 1 })
      ∧ (s.pkg.inReset = false → t = ((s.passTime.stallEvents s).loopTick).burnBit)
      ∧ s.passTime.now = s.now + 1
      ∧ (s.tel.micros + 1 < 1000000 → s.passTime.tel = { s.tel with micros := s.tel.micros + 1 })
      ∧ (s.tel.micros = 999999 → s.tel.seconds ≠ BitVec.allOnes 40 →
        s.passTime.tel = { s.tel with micros := 0, seconds := s.tel.seconds + 1 })
      ∧ (∀ n r, (s.job n).run = some r → r.started = true →
        (s.passTime.job n).wdogElapsed = satNat 32 (s.job n).wdogElapsed 1 ∧ (s.passTime.job n).stepUs = (s.job n).stepUs + 1)
      ∧ (∀ e ∈ s.tiles, ∃ u, (e.1, u) ∈ s.passTime.tiles ∧ u.stepCycle = satNat 32 e.2.stepCycle e.2.clock)
      ∧ (s.sec.burn = none → t.now = s.now + 1 ∧ t.pending = [] ∧ t.mem = s.mem ∧ t.objs = s.objs ∧ t.melds = s.melds ∧ t.trk = s.trk
        ∧ t.pkg = s.pkg ∧ t.sec = s.sec ∧ t.fuses = s.fuses ∧ t.flash = s.flash)

/-- Every step keeps device memory in its canonical form: addresses strictly rising, and no entry that holds the value an unlisted address
reads as. -/
def Obligations.EveryStepKeepsMemoryCanonical : Prop :=
  ∀ s t : State, s.memOk → step s = .next t → t.memOk

/-- Device memory is in its canonical form after reset. -/
def Obligations.ResetMemoryIsCanonical : Prop := State.reset.memOk

/-- No step undoes what is burned into the fuses: identity and digests stay, `svn` never falls, an owner entry keeps its digest and its
revocation, `debug_disable` stays (R494, R504, R509). -/
def Obligations.BurnedFusesStayBurned : Prop :=
  ∀ s t : State, step s = .next t → s.fuses.kept t.fuses

/-- After power-on reset the package is held in reset, its identity is role 2 of package 0 with epoch 0, no ring runs, no job exists, caps are
750 W, islands run at 400 MHz with f_set 800 MHz, every port is DISABLED with its reset control word, memory lists nothing and the queue is
empty (R21, R396, R407, R350, R565); a scan of the TAP's data register, which IDCODE selects (log 153, the model's choice), reads the IDCODE
0x1048_0B3B (R573). -/
def Obligations.ResetState : Prop :=
  let s := State.reset
  s.pending = [] ∧ s.mem = [] ∧ s.pkg.inReset = true ∧ s.host.role = 2 ∧ s.host.package = 0 ∧ s.host.epoch = 0 ∧ s.host.train = 0
    ∧ s.host.attached = false ∧ s.host.ctl = 0x000A03E8 ∧ s.anyJob = false ∧ s.pkg.hostCap = 750 ∧ s.pkg.bmcCap = 750
    ∧ s.pkg.fSet = 800 ∧ (∀ L, (s.tile L).clock = 400) ∧ (∀ p, (s.port p).state = .disabled ∧ (s.port p).ctl = 0x2040000A)
    ∧ (∀ k, (s.stack k).far4m = 8 ∧ (s.stack k).cut512 = 2) ∧ s.dealer.wdogCtl = 0x82000000 ∧ s.dealer.chanCtl = 0x006403E8
    ∧ (∀ balls : BitVec 1468, (s.pkg.tap.scan balls [] (List.replicate 32 false)).2 = (List.range 32).map (0x10480B3B : BitVec 32).getLsbD)

/-! ## Resets, boot and power -/

/-- Power-on reset, its release, the start of the firmware, the end of boot (R500 to R502, R557, R560, R561, R571).  In power-on reset, and after a
trip, no command of the host does anything (R557, R568; log 178). -/
def Obligations.ResetAndBootComplete : Prop :=
  (∀ s : State, ∃ t, exec .powerOnReset s = .next t
    ∧ t.mem = [] ∧ t.poison = [] ∧ t.tiles = [] ∧ t.stks = [] ∧ t.gds = [] ∧ t.objs = [] ∧ t.dealer = {} ∧ t.trk = {} ∧ t.ports = []
    ∧ t.originRoutes = [] ∧ t.melds = [] ∧ t.tel = {} ∧ t.recov = {} ∧ t.noc = [] ∧ t.pkg.inReset = true ∧ t.sec.running = false
    ∧ t.host.ready = false ∧ t.host.attached = false ∧ t.flash = s.flash ∧ t.fuses = s.fuses
    ∧ t.hostMem = s.hostMem ∧ t.pending = s.pending)
  ∧ (∀ (s : State) (m : BitVec 3), s.pkg.inReset = true → m.toNat < 5 →
    exec (.powerOnResetRelease m) s
      = .next (if m = 0 then s.modPkg (fun p => { p with inReset := false, testMode := m, gddrResetN := true })
        else (s.modPkg (fun p => { p with inReset := false, testMode := m, gddrResetN := decide (m = 2 ∨ m = 4) })).runSelfTest).retime)
  ∧ (∀ s : State, s.pkg.inReset = false → s.pkg.testMode = 0 → s.sec.running = false → s.sec.recovery = false → s.bootRecord.trial = false →
    ∃ t, exec .firmwareStart s = .next t ∧ t.mem = s.mem ∧ t.fuses = s.fuses ∧ t.pending = s.pending
      ∧ (s.slotValid s.bootRecord.prefer = true →
        t.sec.running = true ∧ t.sec.slot = s.bootRecord.prefer ∧ t.sec.fallback = false ∧ t.sec.svnRun = s.slotSvn s.bootRecord.prefer))
  ∧ (∀ s : State, s.sec.running = true → s.host.ready = false → s.tel.mcReset = false →
    (∀ n < 20, (s.gd n).trained = true ∨ (s.gd n).trainFail = true) →
    exec .bootReady s = .next ((s.signAlias.modHost (fun h => { h with ready := true })).modSec
      (fun x => { x with aliasReady := decide (x.level < 2), responder := true })))
  ∧ (∀ (s : State) (c : Instr) (v w : Word) (x : Dword) (hw : List Host.Cell) (r : RingRef) (k : Fin 4) (d : Fin 34) (p : Fin 16) (n : Fin 4096)
    (cls : Fin 4) (g : Fin 20) (e : Fin 2) (o : BitVec 48) (i : BitVec 16) (a : BitVec 25) (amb : Ambient) (bs : List Byte),
    (s.pkg.inReset = true ∨ s.pkg.thermtrip = true) →
    c ∈ [.resume v hw, .hostCapWrite v, .ccReset, .registerWrite false a 4 x, .registerWrite true a 8 x, .glbIdentityWrite .train x,
      .glbIdentityWrite .package x, .ringEnable r v hw, .ringDisable r, .hostMemRead o 64 amb, .hostMemWrite o bs, .hwtEntryWrite x,
      .arrCtlWrite k d v, .portEnable p, .portDisable p, .portFence p, .portUnfence p, .hlCntClr p, .hlFiWrite p 0 x, .rtEntryWrite none n v,
      .rtEntryWrite (some p) n v, .kittyClassWrite p cls v, .laneRestore p, .mldCntClr e, .mldEntryWrite e i x false, .errClr g, .gdThrWrite g v,
      .marginingStart g, .stkGddrCfgWrite k v, .stkMemCfgWrite k w] →
    exec c s = .next s)

/-- Power capping, PROCHOT, the voltage bus and the rails (R543, R554, R555, R562 to R565).  That a second AVS timeout drops the setpoint is deduced
(log 114), the completion bytes 0 and 2 that answer the BMC are presumed to be PLDM's (log 115), and that BMC_CAP_WRITE carries the BMC's other
settings is the model's choice (log 158). -/
def Obligations.PowerAndRailsComplete : Prop :=
  (∀ s : State, exec .prochotNAssert s = .next (s.modPkg (fun p => { p with prochot := true })).retime)
  ∧ (∀ s : State, exec .prochotNDeassert s = .next (s.modPkg (fun p => { p with prochot := false })).retime)
  ∧ (∀ (s : State) (v : Word), s.awake = true → 300 ≤ bits v 0 10 → bits v 0 10 ≤ 750 →
    exec (.hostCapWrite v) s
      = .next (s.modPkg (fun p => { p with hostCap := bits v 0 10, capReject := p.capReject && !v.getLsbD 31 })))
  ∧ (∀ (s : State) (v : Word), s.awake = true → (bits v 0 10 < 300 ∨ 750 < bits v 0 10) →
    exec (.hostCapWrite v) s = .next (s.modPkg (fun p => { p with capReject := true })))
  ∧ (∀ (s : State) (w : BitVec 16), s.mctpAnswers = true → 300 ≤ w.toNat → w.toNat ≤ 750 →
    exec (.bmcCapWrite (.cap w)) s = .next ((s.modPkg (fun p => { p with bmcCap := w.toNat })).emit (.response [0])))
  ∧ (∀ (s : State) (w : BitVec 16), s.mctpAnswers = true → (w.toNat < 300 ∨ 750 < w.toNat) →
    exec (.bmcCapWrite (.cap w)) s = .next (s.emit (.response [2])))
  ∧ (∀ (s : State) (on : Bool), s.mctpAnswers = true →
    exec (.bmcCapWrite (.events on)) s = .next ((s.modTel (fun t => { t with bmcEvents := on })).emit (.response [0])))
  ∧ (∀ (s : State) (w : BitVec 16), s.mctpAnswers = true → 64 ≤ w.toNat → w.toNat ≤ 256 →
    exec (.bmcCapWrite (.unit w)) s = .next ((s.modTel (fun t => { t with mctpUnit := w.toNat })).emit (.response [0])))
  ∧ (∀ (s : State) (w : BitVec 16), s.pkg.inReset = false → s.tel.mcReset = false → s.sec.running = true → s.pkg.prochot = false →
    10 * s.pkg.cap < w.toNat → s.pkg.fSet ≤ 775 →
    exec (.powerCapEvaluation w) s
      = .next (s.modPkg (fun p => { p with fSet := max 400 (p.fSet - 25), lowCount := 0 })).retime)
  ∧ (∀ (s : State) (k : Fin 4) (mv : Nat), (s.stack k).pendingMv = some mv →
    exec (.avsAcknowledge k) s
      = .next ((s.modStack k (fun x => { x with ackedMv := mv, pendingMv := none, avsRetried := false })).modPkg
          (fun p => { p with avsLate := p.avsLate.filter (· ≠ k.val) })).retime)
  ∧ (∀ (s : State) (k : Fin 4) (mv : Nat), (s.stack k).pendingMv = some mv → s.tel.mcReset = false → (s.stack k).avsRetried = false →
    exec (.avsAckTimeout k) s = .next ((s.modStack k (fun x => { x with avsRetried := true })).emit (.avs k mv)))
  ∧ (∀ (s : State) (k : Fin 4) (mv : Nat), (s.stack k).pendingMv = some mv → s.tel.mcReset = false → (s.stack k).avsRetried = true →
    exec (.avsAckTimeout k) s
      = .next (((s.modStack k (fun x => { x with pendingMv := none, avsRetried := false })).modPkg
          (fun p => { p with avsLate := addOnce p.avsLate k.val })).raise 0x0B04 0 (k.val + mv * 2 ^ 16)))
  ∧ (∀ (s : State) (r : Fin 15) (mv : BitVec 16), s.pkg.inReset = false → s.tel.mcReset = false → r.val ∉ s.pkg.badRails →
    exec (.railOutOfRange r mv false) s
      = .next ((s.modPkg (fun p => { p with badRails := addOnce p.badRails r.val })).raise 0x0B04 0 (r.val + mv.toNat * 2 ^ 16)))
  ∧ (∀ (s : State) (r : Fin 15) (mv : BitVec 16), s.pkg.inReset = false → s.tel.mcReset = false → r.val ∈ s.pkg.badRails →
    exec (.railOutOfRange r mv true) s
      = .next ((s.modPkg (fun p => { p with badRails := p.badRails.filter (· ≠ r.val) })).raise 0x0B04 0 (r.val + mv.toNat * 2 ^ 16)))

/-- Temperatures, throttling and the trip (R566 to R568). -/
def Obligations.ThermalLimitsComplete : Prop :=
  (∀ (s : State) (ts : List Byte), ts.length = 11 → s.pkg.inReset = false → (∀ k, (s.stack k).throttle = 0) → (∀ b ∈ ts, b.toNat < 100) →
    exec (.thermalSensorRead ts) s = .next (s.modPkg (fun p => { p with temps := ts.zipIdx.map (fun e => (e.2, e.1)) })))
  ∧ (∀ (s : State) (ts : List Byte), ts.length = 11 → s.pkg.inReset = false → s.pkg.thermtrip = false → 115 ≤ (ts.getD 0 0).toNat →
    ∃ t, exec (.thermalSensorRead ts) s = .next t ∧ t.pkg.thermtrip = true ∧ t.mem = s.mem ∧ t.pending = s.pending
      ∧ Out.idleTransmitters ∈ t.out ∧ (∀ L < 128, (t.tile L).clock = 0))
  ∧ (∀ (s : State) (k : Fin 4), (s.stack k).throttle = 1 → 100 ≤ s.stackTemp k →
    exec (.throttleLevelCheck k) s = .next (s.modStack k (fun x => { x with throttle := 2 })))

/-! ## Telemetry and the management controller -/

/-- Energy, sensors, the operating-time journal, and the controller's watchdog, which resets only its core and is reported by event 0x0C01 at the
restart (R531, R538, R544 to R546). -/
def Obligations.TelemetryCompletes : Prop :=
  (∀ (s : State) (es : List Word), es.length = 15 → s.pkg.inReset = false →
    ∃ t, exec (.powerMonitorSample es) s = .next t ∧ (∀ i < 15, tget 0 t.tel.railEnergy i = tget 0 s.tel.railEnergy i + (es.getD i 0).setWidth 64)
      ∧ t.tel.energy = es.foldl (fun a e => a + e.setWidth 64) s.tel.energy
      ∧ t = s.modTel (fun x => { x with railEnergy := t.tel.railEnergy, energy := t.tel.energy }))
  ∧ (∀ s : State, s.pkg.inReset = false → s.tel.mcReset = false →
    ∃ t, exec .pldmSensorUpdate s = .next t ∧ t.tel.railAt = s.tel.railEnergy
      ∧ (∀ d < 11, tget 0 t.tel.sensors (1 + d) = (tget 0 s.pkg.temps d).toNat)
      ∧ (∀ n < 20, tget 0 t.tel.sensors (12 + n) = (s.gd n).tempC.toNat)
      ∧ t = s.modTel (fun x => { x with sensors := t.tel.sensors, powerDw := t.tel.powerDw, railAt := t.tel.railAt }))
  ∧ (∀ s : State, s.tel.mcReset = false → s.sec.running = true → s.tel.journalNext % 2048 ≠ 0 →
    exec (.journalWrite false) s = .next { s with
      flash := flashWrite s.flash (0x3500000 + s.tel.journalNext * 32) (journalBytes s.stamp (s.tel.journalCount + 1)),
      tel := { s.tel with journalCount := s.tel.journalCount + 1, journalNext := (s.tel.journalNext + 1) % 32768 } })
  ∧ (∀ s : State, s.tel.mcReset = false → s.sec.running = true →
    exec (.journalWrite true) s = .next ((s.raise 0x0C06 0 (s.tel.journalNext / 2048)).modTel
      (fun x => { x with journalNext := (s.tel.journalNext / 2048 + 1) * 2048 % 32768 })))
  ∧ (∀ s : State, s.tel.mcReset = false → s.sec.running = true → s.tel.wdogTimes = [] →
    exec .mcWatchdogExpiry s = .next ((s.modTel (fun x => { x with
      wdogResets := satNat 16 x.wdogResets 1, wdogTimes := [s.now], mcReset := true, mcHeld := false })).modSec (fun x => { x with
      sessions := [], versionDone := false, capsDone := false, algsDone := false, chunkIn := [], chunkOut := [], chunkSeq := 0,
      busy := false, waiting := [], burn := none })))
  ∧ (∀ s : State, s.tel.mcReset = true → s.tel.mcHeld = false →
    exec .mcRestart s = .next ((s.modTel (fun x => { x with mcReset := false, railAt := x.railEnergy })).raise 0x0C01 0 s.tel.wdogResets).retime)

/-- The recorder, its reads over MCTP, and the rate limit (R534, R537, R539, R541, R543). -/
def Obligations.RecorderCompletes : Prop :=
  (∀ (s : State) (r : EventRec) (q : List EventRec), s.tel.queue = r :: q → s.tel.full = false → s.tel.clearing = false →
    s.tel.mcReset = false → s.pkg.inReset = false → s.sec.running = true → s.tel.next + 2 < 131072 →
    exec .recorderProgram s = .next { s with
      flash := flashWrite s.flash (0x3100000 + s.tel.next * 32) (recordBytes r),
      tel := { s.tel with queue := q, next := s.tel.next + 1 } })
  ∧ (∀ (s : State) (i : BitVec 32) (u : BitVec 16), s.mctpAnswers = true →
    ∃ bs, exec (.recRead i u) s = .next (s.emit (.response bs)) ∧ bs = flashRead s.flash (0x3100000 + i.toNat * 32) bs.length
      ∧ bs.length = 32 * min ((min u.toNat s.tel.mctpUnit - 16) / 32) (131072 - i.toNat))
  ∧ (∀ s : State, s.mctpAnswers = true →
    exec .recStatus s = .next (s.emit (.response (leBytes 4 (s.read32 .evr 0) ++ leBytes 4 (s.read32 .evr 4)))))
  ∧ (∀ (s : State) (c : BitVec 16), (tget {} s.tel.buckets c.toNat).tokens < (tget {} s.tel.buckets c.toNat).burst →
    ∃ t, exec (.rateLimitRefill c) s = .next t ∧ (tget {} t.tel.buckets c.toNat).tokens = (tget {} s.tel.buckets c.toNat).tokens + 1
      ∧ (∀ d : BitVec 16, d ≠ c → tget {} t.tel.buckets d.toNat = tget {} s.tel.buckets d.toNat)
      ∧ t = s.modTel (fun x => { x with buckets := t.tel.buckets }))
  ∧ (∀ s : State, s.tel.clearing = true →
    exec .recorderClearDone s = .next { s with
      flash := flashErase s.flash 0x3100000 0x3500000, tel := { s.tel with next := 0, full := false, clearing := false } })

/-- An event of R421 and R534: with a token in its code's bucket and an event ring that is off, a record with the next sequence number joins the
held events and the recorder's queue, the bucket loses a token and its count of suppressed events is taken; without a token the event is only
counted. -/
def Obligations.EventsFollowTheRateLimit : Prop :=
  (∀ (s : State) (code job detail : Nat), code < 2 ^ 16 → 0 < min (tget {} s.tel.buckets code).tokens (s.rateOf code).1 →
    s.host.attached = false → s.host.heldEvents = [] → s.tel.full = false → s.tel.queue.length < 1024 →
    ∃ r : EventRec, r.code.toNat = code ∧ r.seq = s.host.evSeq ∧ r.suppressed = BitVec.ofNat 32 (tget {} s.tel.buckets code).pending
      ∧ (s.raise code job detail).tel.queue = s.tel.queue ++ [r] ∧ (s.raise code job detail).host.heldEvents = [r]
      ∧ (s.raise code job detail).host.evSeq = s.host.evSeq + 1
      ∧ (tget {} (s.raise code job detail).tel.buckets code)
        = { tokens := min (tget {} s.tel.buckets code).tokens (s.rateOf code).1 - 1, pending := 0, burst := (s.rateOf code).1 })
  ∧ (∀ (s : State) (code job detail : Nat), (tget {} s.tel.buckets code).tokens = 0 →
    s.raise code job detail = s.modTel (fun t => { t with
      buckets := tput t.buckets code { tokens := 0, pending := satNat 32 (tget {} s.tel.buckets code).pending 1, burst := (s.rateOf code).1 } }))

/-! ## The host interface -/

/-- The host link goes and comes back; the doorbell monitor, MSI-X, the completion buffer, and the translations of the host window (R199, R200,
R391, R393, R403, R406, R420, R423 to R425, R561). -/
def Obligations.HostLinkAndHubComplete : Prop :=
  (∀ s : State, s.host.linkUp = true →
    ∃ t, exec .hostLinkDown s = .next t ∧ exec .hostLinkLossTimeout s = .next t ∧ t.host.linkUp = false ∧ t.host.attached = false
      ∧ t.host.monitoring = false ∧ t.host.stale = [] ∧ t.sec.ide = [] ∧ t.sec.sessions = [] ∧ t.mem = s.mem ∧ t.ports = s.ports
      ∧ t.tiles = s.tiles ∧ t.pending = s.pending ∧ t.host.sqs = s.host.sqs)
  ∧ (∀ s : State, ∃ t, exec .perstNAssert s = .next t ∧ t.host.perstHigh = false ∧ t.host.configSpace = configReset ∧ t.host.linkUp = false
      ∧ t.sec.ide = [] ∧ t.mem = s.mem ∧ t.pending = s.pending)
  ∧ (∀ s : State, exec .perstNDeassert s = .next (s.modHost (fun h => { h with perstHigh := true })))
  ∧ (∀ (s : State) (v : BitVec 2) (w : BitVec 5), s.awake = true → s.host.perstHigh = true → s.host.attached = false →
    exec (.hostLinkBack v w) s = .next ((s.modHost (fun h => { h with
      linkUp := true, resumeWait := true, pcieOnly := false, speed := v, width := w })).raise 0x0102 0 0))
  ∧ (∀ (s : State) (v : BitVec 2) (w : BitVec 5), s.awake = true → s.host.perstHigh = true → s.host.attached = false →
    exec (.pcieOnly v w) s = .next ((s.modHost (fun h => { h with
      linkUp := true, resumeWait := false, pcieOnly := true, speed := v, width := w })).raise 0x0106 0 0))
  ∧ (∀ (s : State) (v : Word) (hw : List Host.Cell), s.awake = true → s.host.resumeWait = true →
    ∃ t, exec (.resume v hw) s = .next t ∧ t.host.attached = true ∧ t.host.resumeWait = false ∧ t.host.monitoring = true
      ∧ ((∀ n < 16, (s.job n).page = none) → t.host.ats = []) ∧ (∀ n < 16, (t.job n).paused = false) ∧ t.mem = s.mem
      ∧ t.host.pageRequests = [] ∧ (s.host.pageRequests = [] → t.tiles = s.tiles) ∧ t.pending = s.pending)
  ∧ (∀ (s : State) (l : BitVec 58), s.host.monitoring = true → l.toNat ∈ s.monitored →
    exec (.monitorSnoop l) s = .next (s.modHost (fun h => { h with stale := addOnce h.stale l.toNat })))
  ∧ (∀ s : State, s.host.monitoring = true → bits s.host.ctl 0 16 ≠ 0 →
    ∃ t, exec .monitorPoll s = .next t ∧ (∀ l, l ∈ t.host.stale ↔ l ∈ s.host.stale ∨ l ∈ s.monitored)
      ∧ t = s.modHost (fun h => { h with stale := t.host.stale }))
  ∧ (∀ (s : State) (l : BitVec 58) (q : Fin 64), s.host.monitoring = true → l.toNat ∈ s.host.stale → l.toNat = (s.sq q).db.toNat / 64 →
    bits (s.sq q).cfg 31 1 = 1 →
    (∀ r : RingRef, r ≠ .sq q → bits (s.ringCfg r) 31 1 = 1 → s.ringLine r ≠ l.toNat) →
    ∀ (hw : List Host.Cell) (d : Word), d = BitVec.ofNat 32 (leNat ((s.applyHw hw).hostRead (s.sq q).db.toNat 4)) →
    d ≠ (s.sq q).tail → (d - (s.sq q).head).toNat ≤ 2 ^ bits (s.sq q).cfg 0 5 →
    exec (.monitorLineRead l hw []) s
      = .next (((s.applyHw hw).modHost (fun h => { h with stale := h.stale.filter (· ≠ l.toNat) })).modSq q (fun x => { x with tail := d })))
  ∧ (∀ (s : State) (v : Fin 64), v.val ∈ s.host.msixDue →
    exec (.msixMessage v) s = .next ((s.modHost (fun h => { h with msixDue := h.msixDue.filter (· ≠ v.val) })).sendMsix v))
  ∧ (∀ (s t : State) (c : Completion) (r : List Completion), s.host.buffer = c :: r → s.putCompletion c = some t →
    exec .completionBufferDrain s = .next (t.modHost (fun h => { h with buffer := r, fullRaised := false })).takeOwed)
  ∧ (∀ (s : State) (l : BitVec 58) (r : RingRef), s.host.monitoring = true → l.toNat ∉ s.host.stale → bits (s.ringCfg r) 31 1 = 1 →
    (∀ q, r ≠ .sq q) →
    exec (.monitorLineRead l [] [.records r]) s = .next (s.ringError r 0x0104 0))
  ∧ (∀ (s : State) (a b : BitVec 52), s.awake = true → ∃ t, exec (.atsInvalidation a b) s = .next t
      ∧ (∀ e, e ∈ t.host.ats ↔ e ∈ s.host.ats ∧ ¬ (a.toNat ≤ e.1 ∧ e.1 ≤ b.toNat))
      ∧ t = (s.modHost (fun h => { h with ats := t.host.ats })).emit .atsInvalidated)
  ∧ (∀ (s : State) (v : Dword), s.awake = true →
    exec (.hwtEntryWrite v) s = .next (s.modHost (fun h => { h with
      hwt := tput h.hwt h.hwtIndex.toNat (v &&& 0xFFFFFFFFFFFFFE0F) })))

/-- A ring enabled while its `enable` is 0 takes the written configuration; a submission ring starts at its doorbell word, a completion ring or the
event ring at counter 0.  A write that R408 refuses sets cfg_reject and nothing else: a size outside 6 to 16, a completion ring that is not
enabled, a 129th monitored line, a ring that is enabled and attached, and the disabling of a completion ring that an enabled submission ring
names. -/
def Obligations.RingEnableCompletes : Prop :=
  (∀ (s : State) (c : Fin 64) (v : Word) (hw : List Host.Cell), s.awake = true → bits (s.cq c).cfg 31 1 = 0 → 6 ≤ bits v 0 5 → bits v 0 5 ≤ 16 →
    s.monitored.length < 128 →
    ∃ t, exec (.ringEnable (.cq c) v hw) s = .next t
      ∧ t.cq c = { s.cq c with cfg := putBits v 31 1 1 &&& 0xBFFF001F, head := 0, tail := 0, seen := 0, arm := false }
      ∧ (∀ d : Fin 64, d ≠ c → t.cq d = s.cq d) ∧ t.host.sqs = s.host.sqs ∧ t.host.eq = s.host.eq ∧ t.mem = s.mem ∧ t.pending = s.pending)
  ∧ (∀ (s : State) (q : Fin 64) (v : Word) (hw : List Host.Cell), s.awake = true → bits (s.sq q).cfg 31 1 = 0 → 6 ≤ bits v 0 5 →
    bits v 0 5 ≤ 16 → s.monitored.length < 128 → bits (s.cq (bits v 24 6)).cfg 31 1 = 1 →
    ∃ t d, exec (.ringEnable (.sq q) v hw) s = .next t
      ∧ d = BitVec.ofNat 32 (leNat ((s.applyHw hw).hostRead (s.sq q).db.toNat 4))
      ∧ t.sq q = { s.sq q with cfg := putBits v 31 1 1 &&& 0xBF00001F, head := d, tail := d }
      ∧ (∀ r : Fin 64, r ≠ q → t.sq r = s.sq r) ∧ t.host.cqs = s.host.cqs ∧ t.host.eq = s.host.eq ∧ t.mem = s.mem ∧ t.pending = s.pending)
  ∧ (∀ (s : State) (v : Word) (hw : List Host.Cell), s.awake = true → bits s.host.eq.cfg 31 1 = 0 → 6 ≤ bits v 0 5 → bits v 0 5 ≤ 16 →
    s.monitored.length < 128 →
    exec (.ringEnable .eq v hw) s = .next ((s.applyHw hw).modHost (fun h => { h with
      eq := { h.eq with cfg := putBits v 31 1 1 &&& 0xBFFF001F, head := 0, tail := 0, seen := 0, arm := false } })))
  ∧ (∀ (s : State) (q : Fin 64), s.awake = true → bits (s.sq q).cfg 31 1 = 1 →
    exec (.ringDisable (.sq q)) s = .next (s.modSq q (fun x => { x with cfg := putBits (s.sq q).cfg 31 1 0 &&& 0xBF00001F })))
  ∧ (∀ (s : State) (c : Fin 64), s.awake = true → bits (s.cq c).cfg 31 1 = 1 →
    (∀ q < 64, bits (s.sq q).cfg 31 1 = 1 → bits (s.sq q).cfg 24 6 ≠ c.val) →
    exec (.ringDisable (.cq c)) s = .next (s.modCq c (fun x => { x with cfg := putBits (s.cq c).cfg 31 1 0 &&& 0xBFFF001F })))
  ∧ (∀ s : State, s.awake = true → bits s.host.eq.cfg 31 1 = 1 →
    exec (.ringDisable .eq) s
      = .next (s.modHost (fun h => { h with eq := { h.eq with cfg := putBits s.host.eq.cfg 31 1 0 &&& 0xBFFF001F } })))
  ∧ (∀ (s : State) (q : Fin 64) (v : Word) (hw : List Host.Cell), s.awake = true →
    (bits v 0 5 < 6 ∨ 16 < bits v 0 5 ∨ bits (s.cq (bits v 24 6)).cfg 31 1 = 0) →
    exec (.ringEnable (.sq q) v hw) s = .next ((s.applyHw hw).modHost (fun h => { h with reject := true })))
  ∧ (∀ (s : State) (r : RingRef) (v : Word) (hw : List Host.Cell), s.awake = true →
    (bits v 0 5 < 6 ∨ 16 < bits v 0 5 ∨ (s.ringLine r ∉ s.monitored ∧ 128 ≤ s.monitored.length)
      ∨ (bits (s.ringCfg r) 31 1 = 1 ∧ s.host.attached = true)) →
    exec (.ringEnable r v hw) s = .next ((s.applyHw hw).modHost (fun h => { h with reject := true })))
  ∧ (∀ (s : State) (c : Fin 64) (q : Nat), s.awake = true → bits (s.cq c).cfg 31 1 = 1 → q < 64 → bits (s.sq q).cfg 31 1 = 1 →
    bits (s.sq q).cfg 24 6 = c.val →
    exec (.ringDisable (.cq c)) s = .next (s.modHost (fun h => { h with reject := true })))
/-! ## Security -/

/-- Firmware update, boot confirmation and svn (R504 to R506).  That a session which times out leaves its slot erased is inferred from R505 (log
108, DEDUCED); that FW_ACTIVATE sets the slot's result back to untried is the model's choice (log 107).  SVN_COMMIT burns one bit of the fuse per
microsecond (log 180, the model's choice of the pace) and ends with the last; an MCTP command that comes while a mailbox command is not done waits
for it (R520). -/
def Obligations.FirmwareUpdateCompletes : Prop :=
  (∀ (s : State) (p : SecPath), s.secReady p 0x10 → s.sec.session = none →
    exec (.fwBegin p) s = .next (((s.eraseSlot (!s.sec.slot)).modSec (fun x => { x with session := some p, checked := false })).secAnswer p 0 []))
  ∧ (∀ (s : State) (p : SecPath) (arg : BitVec 32) (buffer b : List Byte) (a : Nat), s.secReady p 0x11 → s.sec.session = some p →
    a = s.secArg p arg.toNat → b = s.secBuffer p buffer → a % 64 = 0 → b.length ≤ 32768 → a + b.length ≤ slotBytes →
    exec (.fwWrite p arg buffer) s
      = .next ({ s with flash := flashWrite s.flash (slotBase (!s.sec.slot) + a) b }.secAnswer p 0 []))
  ∧ (∀ (s : State) (p : SecPath), s.secReady p 0x12 → s.sec.session = some p →
    ∃ t, exec (.fwFinish p) s = .next t ∧ t.sec.session = none ∧ t.flash = s.flash ∧ t.fuses = s.fuses ∧ t.mem = s.mem
      ∧ (s.slotSound (!s.sec.slot) = true → s.fuses.svn ≤ s.slotSvn (!s.sec.slot) →
        t = ((s.modSec (fun x => { x with session := none, checked := true })).raise 0x0A03 0 (b2n (!s.sec.slot))).secAnswer p 0 [])
      ∧ (s.slotSound (!s.sec.slot) = true → s.slotSvn (!s.sec.slot) < s.fuses.svn →
        t = (s.modSec (fun x => { x with session := none })).secAnswer p 6 [])
      ∧ (s.slotSound (!s.sec.slot) = false → t = (s.modSec (fun x => { x with session := none })).secAnswer p 5 []))
  ∧ (∀ (s : State) (p : SecPath), s.secReady p 0x13 → (s.sec.session = none ∨ s.sec.session = some p) → s.sec.checked = true →
    exec (.fwActivate p) s
      = .next ((s.writeBoot ({ s.bootRecord with prefer := !s.sec.slot, trial := true }.setResult (!s.sec.slot) .untried)).secAnswer p 0 []))
  ∧ (∀ s : State, s.sec.session.isSome = true →
    exec .updateSessionTimeout s = .next ((s.eraseSlot (!s.sec.slot)).modSec (fun x => { x with session := none, checked := false })))
  ∧ (∀ (s : State) (p : SecPath), s.secReady p 0x14 → s.bootRecord.prefer = s.sec.slot →
    exec (.bootConfirm p) s = .next ((s.writeBoot { s.bootRecord with trial := false }).secAnswer p 0 []))
  ∧ (∀ (s : State) (p : SecPath), s.secReady p 0x15 → s.bootRecord.trial = false → s.fuses.svn < s.sec.svnRun →
    exec (.svnCommit p) s = .next (s.modSec (fun x => { x with burn := some p })))
  ∧ (∀ (s : State) (p : SecPath), s.sec.burn = some p → s.fuses.svn + 1 < s.sec.svnRun →
    s.burnBit = { s with fuses := { s.fuses with svn := s.fuses.svn + 1 } })
  ∧ (∀ (s : State) (p : SecPath), p ≠ .instrument → s.sec.burn = some p → s.fuses.svn + 1 = s.sec.svnRun → s.sec.waiting = [] →
    s.burnBit = ((({ s with fuses := { s.fuses with svn := s.sec.svnRun } } : State).modSec (fun x => { x with burn := none })).raise
      0x0A04 0 s.sec.svnRun).secAnswer p 0 [])
  ∧ (∀ s : State, s.secServed = true → s.sec.busy = true →
    exec (.fwBegin .mctp) s = .next (s.modSec (fun x => { x with waiting := x.waiting ++ [{ cmd := 0x10 }] })))

/-- A write of the boot record goes to the copy with the earlier sequence number, with the next number; the record in force is then the one
written, and the other copy, like all the rest of the flash, stays (R497; the places of the fields in a copy are the model's choice, log 107). -/
def Obligations.BootRecordWriteTakesEffect : Prop :=
  ∀ (s : State) (r : BootRecord),
    (s.writeBoot r).bootRecord = { r with seq := s.bootRecord.seq + 1 }
      ∧ (s.writeBoot r).bootCopy (!s.bootTarget) = s.bootCopy (!s.bootTarget)
      ∧ (s.bootCopy (!s.bootTarget) = some s.bootRecord ∨ (s.bootCopy false = none ∧ s.bootCopy true = none))
      ∧ (∀ a, (a < bootBase s.bootTarget ∨ bootBase s.bootTarget + bootCopyBytes ≤ a) →
        flashByte (s.writeBoot r).flash a = flashByte s.flash a)

/-- Nonces, and the commands that a signed block commands, the MCTP ones that wait served after the mailbox's (R520): with a block that passes
R508's checks, the effect of R509, R518, R519 or R540; with one that does not, only R508's result code (and event 0x0A07, the nonce consumed). -/
def Obligations.SignedCommandsComplete : Prop :=
  (∀ (s : State) (p : SecPath) (drawn : BitVec 256), s.secReady p 0x01 →
    exec (.nonce p drawn) s = .next ((s.setNonce p (some drawn)).secAnswer p 0 (leBytes 32 drawn.toNat)))
  ∧ (∀ (s : State) (p : SecPath), exec (.nonceExpiry p) s = .next (s.setNonce p none))
  ∧ (∀ (s : State) (d e : BitVec 256), s.secServed = true → s.sec.busy = true → s.sec.cmd = 0x01 → s.sec.burn = none →
    s.sec.waiting = [{ cmd := 0x01, drawn := e }] →
    exec (.nonce .mailbox d) s = .next ((((((s.setNonce .mailbox (some d)).secAnswer .mailbox 0 (leBytes 32 d.toNat)).setNonce .mctp (some e)).secAnswer
      .mctp 0 (leBytes 32 e.toNat)).modSec (fun x => { x with waiting := [] }))))
  ∧ (∀ (s : State) (d : BitVec 256), s.pkg.inReset = false →
    exec (.debugNonceDraw d) s
      = .next ((s.throughTap.setNonce .instrument (some d)).modSec (fun x => { x with instrDraw := true, instrNonce := d })))
  ∧ (∀ (s : State) (buffer : List Byte), s.secReady .mctp 0x20 →
    ∃ t, exec (.ownerClaim .mctp buffer) s = .next t
      ∧ (∀ u r, s.checkBlock .mctp 0x20 buffer (fun signer _ => signer = 1) = (u, some r) → t = u.secAnswer .mctp r [])
      ∧ (∀ u i, s.checkBlock .mctp 0x20 buffer (fun signer _ => signer = 1) = (u, none) → u.ownerSlot = none → i < 4 →
        (u.owner i).2.1 = false → (∀ j < i, (u.owner j).2.1 = true) →
        t = ((u.setOwner i (digest ((buffer.drop 48).take 32), true, false)).raise 0x0A05 0 (i + 256)).secAnswer .mctp 0 []))
  ∧ (∀ (s : State) (p : SecPath) (buffer : List Byte), s.secReady p 0x21 →
    ∃ t, exec (.ownerRelease p buffer) s = .next t
      ∧ (∀ u r, s.checkBlock p 0x21 (s.secBuffer p buffer) s.ownerKey = (u, some r) → t = u.secAnswer p r [])
      ∧ (∀ u i, s.checkBlock p 0x21 (s.secBuffer p buffer) s.ownerKey = (u, none) → u.ownerSlot = some i →
        t = ((u.setOwner i ((u.owner i).1, true, true)).raise 0x0A05 0 i).secAnswer p 0 []))
  ∧ (∀ (s : State) (p : SecPath) (buffer : List Byte), s.secReady p 0x31 →
    ∃ u r, s.debugBlock p (s.secBuffer p buffer) = (u, r) ∧ exec (.debugUnlock p buffer) s = .next (u.secAnswer p r []))
  ∧ (∀ (s : State) (block : List Byte), s.pkg.inReset = false →
    ∃ u r, s.throughTap.debugBlock .instrument block = (u, r)
      ∧ exec (.debugBlockCheck block) s
        = .next (u.modSec (fun x => { x with instrBlock := block.take blockBytes, instrResult := BitVec.ofNat 8 r })))
  ∧ (∀ (s : State) (p : SecPath) (buffer : List Byte), s.secReady p 0x40 →
    ∃ t, exec (.recorderClear p buffer) s = .next t
      ∧ (∀ u r, s.checkBlock p 0x40 (s.secBuffer p buffer) s.ownerKey = (u, some r) → t = u.secAnswer p r [])
      ∧ (∀ u, s.checkBlock p 0x40 (s.secBuffer p buffer) s.ownerKey = (u, none) → u.tel.clearing = true → t = u.secAnswer p 7 [])
      ∧ (∀ u, s.checkBlock p 0x40 (s.secBuffer p buffer) s.ownerKey = (u, none) → u.tel.clearing = false →
        t = (u.recorderCleared.modTel (fun x => { x with clearing := true })).secAnswer p 0 []))

/-- A signed block that names its path's nonce consumes it, whatever its result; a block too short to name one changes nothing; a nonce that is
not live passes no block (R508).  That a block of 48 bytes or more, though too short, names its nonce is inferred (log 169, DEDUCED). -/
def Obligations.NonceServesOnce : Prop :=
  ∀ (s : State) (p : SecPath) (cmd : Nat) (b : List Byte) (key : Nat → List Byte → Bool) (u : State) (r : Option Nat),
    s.checkBlock p cmd b key = (u, r) →
    (b.length < blockBytes → r = some 2) ∧ (b.length < 48 → u = s)
    ∧ (48 ≤ b.length → s.nonceOf p = some (BitVec.ofNat 256 (leAt b 16 32)) → u.nonceOf p = none)
    ∧ (s.nonceOf p ≠ some (BitVec.ofNat 256 (leAt b 16 32)) → u.nonceOf p = s.nonceOf p)
    ∧ (r = none → s.nonceOf p = some (BitVec.ofNat 256 (leAt b 16 32)) ∧ leAt b 8 8 = s.fuses.serial.toNat
      ∧ key (leAt b 1 1) ((b.drop 48).take 32) = true
      ∧ slh128s.verify ((b.drop 48).take 32) ((b.drop 128).take 7856) (b.take 128) = true)
    ∧ u.fuses = s.fuses ∧ u.mem = s.mem ∧ u.sec.level = s.sec.level

/-- The debug level rises to 2 or 3 only over a package without jobs, without the Alias key and with every byte of device memory zero; level 3
needs the vendor's key and a package whose fuses allow it (R518, R519).  That the management area is zeroed with the rest is inferred (log 168,
DEDUCED). -/
def Obligations.DebugUnlockErasesFirst : Prop :=
  ∀ (s : State) (p : SecPath) (b : List Byte) (u : State), s.debugBlock p b = (u, 0) →
    s.sec.level < u.sec.level ∧ u.sec.level = leAt b 80 1 ∧ u.sec.level ≤ 3
    ∧ (u.sec.level = 3 → s.fuses.debugDisable = false ∧ s.vendorKey (leAt b 1 1) ((b.drop 48).take 32) = true)
    ∧ (2 ≤ u.sec.level → u.mem = [] ∧ u.poison = [] ∧ u.sec.aliasReady = false ∧ u.anyJob = false ∧ (∀ k < 4, (u.stack k).cutHeld = false))

/-- No step raises the debug level to 2 or 3 but over erased device memory and without the Alias key (R519), the
management area with the rest (log 168, DEDUCED). -/
def Obligations.NoDebugLevelOverLiveMemory : Prop :=
  ∀ s t : State, step s = .next t → s.sec.level < t.sec.level →
    t.sec.level ≤ 3 ∧ (2 ≤ t.sec.level → t.mem = [] ∧ t.poison = [] ∧ t.sec.aliasReady = false)

/-- The SPDM connection and the answers that need no session; while a FW_FINISH uses the SHA-256 engine, a signed one is ResponseNotReady
(R511 to R515; RDTExponent 19 is the model's choice, log 152; the layouts of the messages are SPDM's, log 110, PRESUMED).  The responder's nonces,
the randomness of its signatures, and what it signs of the connection are left open. -/
def Obligations.SpdmAnswers : Prop :=
  (∀ s : State, s.spdmRuns →
    exec .getVersion s = .next ((s.modSec (fun x => { x with
      versionDone := true, capsDone := false, algsDone := false, chunkIn := [], chunkOut := [] })).emit
        (.response [0x10, 0x04, 0, 0, 0, 1, 0, 0x13])))
  ∧ (∀ s : State, s.spdmRuns → s.sec.versionDone = true →
    ∃ bs, exec .getCapabilities s = .next ((s.modSec (fun x => { x with capsDone := true })).emit (.response bs))
      ∧ bs.length = 20 ∧ bs.getD 1 0 = 0x61 ∧ leAt bs 12 4 = 4096 ∧ leAt bs 16 4 = 65536)
  ∧ (∀ s : State, s.spdmRuns → s.sec.versionDone = true → s.sec.capsDone = true →
    ∃ bs, exec .negotiateAlgorithms s = .next ((s.modSec (fun x => { x with algsDone := true })).emit (.response bs))
      ∧ bs.length = 52 ∧ bs.getD 1 0 = 0x63 ∧ leAt bs 12 4 = 0 ∧ leAt bs 16 4 = 1 ∧ leAt bs 36 4 = 0x00010003)
  ∧ (∀ s : State, s.spdmConnected →
    exec .getDigests s = .next (s.respond ([0x13, 0x01, 0, 1] ++ sha256 s.certChain)))
  ∧ (∀ (s : State) (off len : BitVec 16) (c : List Byte), s.spdmConnected → c = s.certChain →
    ∃ t, exec (.getCertificate 0 off len) s = .next t
      ∧ (c.length ≤ off.toNat → t = s.emit (.response [0x13, 0x7F, 1, 0]))
      ∧ (off.toNat < c.length → t = s.respond ([0x13, 0x02, 0, 0] ++ leBytes 2 (min len.toNat (c.length - off.toNat))
        ++ leBytes 2 (c.length - off.toNat - min len.toNat (c.length - off.toNat)) ++ (c.drop off.toNat).take len.toNat)))
  ∧ (∀ (s u v : State) (q : SpdmAsk) (n m g : List Byte), s.spdmConnected → s.sec.aliasReady = true → s.hashBusy = false →
    s.freeBytes 32 = (u, n) →
    m = [0x13, 0x03, 0, 1] ++ sha256 s.certChain ++ n ++ s.measureSummary q.summary.toNat ++ [0, 0] ++ leBytes 8 q.context.toNat →
    u.slhSign slh128f s.aliasKey (Config.toSign m) = (v, g) → exec (.challenge 0 q) s = .next (v.respond (m ++ g)))
  ∧ (∀ (s u : State) (i : BitVec 8) (q : SpdmAsk) (n : List Byte), s.spdmConnected → 1 ≤ i.toNat → i.toNat ≤ 7 → s.freeBytes 32 = (u, n) →
    exec (.getMeasurements i false q) s
      = .next (u.respond ([0x13, 0x60, 0, 0, 1] ++ leBytes 3 (s.measurement i.toNat).length ++ s.measurement i.toNat ++ n ++ [0, 0]
        ++ leBytes 8 q.context.toNat)))
  ∧ (∀ (s : State) (n : SpdmAsk), s.spdmConnected → s.sec.aliasReady = true → s.hashBusy = true →
    ∃ t bs, bs.length = 2 ∧ exec (.challenge 0 n) s = .next t ∧ t = ({ s with free := s.free + 2 } : State).emit
      (.response ([0x13, 0x7F, 0x42, 0, 19, 0x83] ++ bs)))
  ∧ (∀ (s u v : State) (q : SpdmAsk) (n m g : List Byte), s.spdmConnected → s.sec.aliasReady = true → s.hashBusy = false →
    s.freeBytes 32 = (u, n) →
    m = [0x13, 0x60, 0, 0, 7] ++ leBytes 3 (([1, 2, 3, 4, 5, 6, 7].map s.measurement).flatten).length
      ++ ([1, 2, 3, 4, 5, 6, 7].map s.measurement).flatten ++ n ++ [0, 0] ++ leBytes 8 q.context.toNat →
    u.slhSign slh128f s.aliasKey (Config.toSign m) = (v, g) → exec (.getMeasurements 255 true q) s = .next (v.respond (m ++ g)))
  ∧ (∀ (s : State) (code : BitVec 8), s.spdmRuns → exec (.spdmUnsupported code) s = .next (s.emit (.response [0x13, 0x7F, 7, code])))

/-- SPDM sessions and chunks, and the host link's IDE keys: a set in use is not programmed, and a switch needs a programmed set (R512, R513, R516,
R517; the layouts of the messages are SPDM's, log 110, PRESUMED).  A request in chunks is served with its last chunk. -/
def Obligations.SpdmSessionsComplete : Prop :=
  (∀ (s u v : State) (req x : List Byte) (i : Fin 2) (n m g : List Byte), s.spdmConnected → s.sec.aliasReady = true → s.hashBusy = false →
    (s.session i).inUse = false →
    (∀ j : Fin 2, j < i → (s.session j).inUse = true) → x = Config.exchange s.sec.drawn req →
    (s.modSec (fun y => { y with sessions := tput y.sessions i { inUse := true, secret := x }, drawn := y.drawn + 1 })).freeBytes 32 = (u, n) →
    m = [0x13, 0x64, 60, 0] ++ leBytes 2 i.val ++ [0, 0] ++ n ++ Config.exchangeKey s.sec.drawn ++ [12, 0] ++ Config.opaqueData →
    u.slhSign slh128f s.aliasKey (Config.toSign m) = (v, g) →
    exec (.keyExchange req) s = .next (v.respond (m ++ g ++ Config.verifyData x)))
  ∧ (∀ (s : State) (i : Fin 2) (req : List Byte), s.spdmConnected → (s.session i).inUse = true → (s.session i).finished = false →
    ∃ t, exec (.finish i req) s = .next t
      ∧ (Config.finishOk (s.session i).secret req = true →
        t = (s.setSession i { s.session i with finished := true }).emit (.response [0x13, 0x65, 0, 0]))
      ∧ (Config.finishOk (s.session i).secret req = false → t = (s.setSession i {}).emit (.response [0x13, 0x7F, 6, 0])))
  ∧ (∀ (s : State) (i : Fin 2), s.spdmSession i → exec (.spdmHeartbeat i) s = .next (s.emit (.response [0x13, 0x68, 0, 0])))
  ∧ (∀ (s : State) (i : Fin 2), s.spdmSession i →
    exec (.keyUpdate i 1) s = .next ((s.setSession i { s.session i with keyGen := ((s.session i).keyGen + 1) % 256 }).emit
      (.response [0x13, 0x69, 1, 0])))
  ∧ (∀ (s : State) (i : Fin 2), s.spdmSession i → exec (.endSession i) s = .next ((s.setSession i {}).emit (.response [0x13, 0x6C, 0, 0])))
  ∧ (∀ (s : State) (i : Fin 2), (s.session i).inUse = true → exec (.spdmHeartbeatTimeout i) s = .next (s.setSession i {}))
  ∧ (∀ (s : State) (h : BitVec 8) (q : BitVec 16) (c : List Byte), s.spdmConnected → s.sec.chunkOut ≠ [] → q.toNat = s.sec.chunkSeq →
    c = s.sec.chunkOut.take 4084 →
    exec (.chunkGet h q) s = .next ((s.modSec (fun x => { x with chunkOut := x.chunkOut.drop 4084, chunkSeq := x.chunkSeq + 1 })).emit
      (.response ([0x13, 0x06, BitVec.ofNat 8 (b2n (s.sec.chunkOut.drop 4084).isEmpty), h] ++ leBytes 2 q.toNat ++ [0, 0] ++ leBytes 4 c.length ++ c))))
  ∧ (∀ (s : State) (h : BitVec 8) (q : BitVec 16) (part : List Byte), s.spdmConnected → q ≠ 0 → q.toNat = s.sec.chunkSeq →
    s.sec.chunkIn.length + part.length ≤ 65536 →
    exec (.chunkSend h q false part) s
      = .next ((s.modSec (fun x => { x with chunkIn := x.chunkIn ++ part, chunkSeq := x.chunkSeq + 1 })).emit
        (.response ([0x13, 0x05, 0, h] ++ leBytes 2 q.toNat))))
  ∧ (∀ (s : State) (h : BitVec 8) (m : List Byte), s.spdmConnected → m.length ≤ 65536 →
    exec (.chunkSend h 0 true m) s
      = .next ((((s.modSec (fun x => { x with chunkIn := [], chunkSeq := 0 })).emit (.response [0x13, 0x05, 0, h, 0, 0])).spdmGathered m)))
  ∧ (∀ (s : State) (i : Fin 2), s.spdmSession i → exec (.query i) s = .next (s.emit (.response [0x13, 0x7E, 0, 0, 1, 0])))
  ∧ (∀ (s : State) (i : Fin 2) (x : IdeStream) (key : BitVec 256), s.spdmSession i → (s.ideDir x).active ≠ some 0 →
    exec (.keyProg i x 0 key) s
      = .next ((s.setIde x { s.ideDir x with key0 := some key }).emit (.response [0x13, 0x7E, 0, 0, 3, 0])))
  ∧ (∀ (s : State) (i : Fin 2) (x : IdeStream) (key : BitVec 256), s.spdmSession i → (s.ideDir x).active ≠ some 1 →
    exec (.keyProg i x 1 key) s
      = .next ((s.setIde x { s.ideDir x with key1 := some key }).emit (.response [0x13, 0x7E, 0, 0, 3, 0])))
  ∧ (∀ (s : State) (i : Fin 2) (x : IdeStream) (k : Fin 2) (key : BitVec 256), (s.ideDir x).active = some k → s.spdmSession i →
    exec (.keyProg i x k key) s = .next (s.emit (.response [0x13, 0x7E, 0, 0, 3, 1])))
  ∧ (∀ (s : State) (i : Fin 2) (x : IdeStream) (k : Fin 2), s.spdmSession i →
    (if k = 0 then (s.ideDir x).key0 else (s.ideDir x).key1).isSome = true →
    exec (.kSetGo i x k) s
      = .next (((s.setIde x { s.ideDir x with active := some k, insecure := false }).raise 0x0A08 0 (ideIx x + k.val * 16)).emit
        (.response [0x13, 0x7E, 0, 0, 6, 0])))
  ∧ (∀ (s : State) (i : Fin 2) (x : IdeStream) (k : Fin 2), s.spdmSession i → (s.ideDir x).active = some k →
    exec (.kSetStop i x k) s
      = .next ((s.setIde x { s.ideDir x with active := none }).emit (.response [0x13, 0x7E, 0, 0, 6, 0])))
  ∧ (∀ (s : State) (x : IdeStream), (s.ideDir x).active.isSome = true → s.host.linkUp = true →
    ∃ t, exec (.ideIntegrityFailure x) s = .next t ∧ t.host.linkUp = false ∧ t.host.attached = false ∧ t.sec.sessions = []
      ∧ t.sec.ide = [(ideIx x, { insecure := true })] ∧ t.mem = s.mem ∧ t.pending = s.pending)

/-! ## Registers -/

/-- The host's writes of registers (R17, R18, R20, R391, R394, R395, R407, R456, R576): a write that is not a naturally aligned 32-bit or 64-bit
one, or at an offset that assigns no register, is discarded; a job slot's phase is the Dealer's while a job is placed.  A component register of
BAR2 takes what is written (log 26); a link without CXL serves no BAR2. -/
def Obligations.RegisterWriteCompletes : Prop :=
  (∀ (s : State) (b2 : Bool) (off : BitVec 25) (n : Nat) (v : Dword), ¬((n = 4 ∨ n = 8) ∧ off.toNat % n = 0) →
    exec (.registerWrite b2 off n v) s = .next s)
  ∧ (∀ (s : State) (off : BitVec 25) (v : Dword), off.toNat % 4 = 0 → blockAt off.toNat = none →
    exec (.registerWrite false off 4 v) s = .next s)
  ∧ (∀ (s : State) (v : Dword), s.awake = true →
    exec (.registerWrite false 0x20044 4 v) s = .next (s.modDealer (fun d => { d with chanCtl := oneFor [(0, 16)] (v.setWidth 32) })))
  ∧ (∀ (s : State) (n : Fin 16) (v : Dword), s.awake = true → (s.job n).valid = true →
    exec (.registerWrite false (BitVec.ofNat 25 (0x21010 + 0x20 * n.val)) 4 v) s = .next (s.modHost (fun h => { h with glbReject := true })))
  ∧ (∀ (s : State) (n : Fin 16) (v : Dword), s.awake = true → (s.job n).valid = false →
    exec (.registerWrite false (BitVec.ofNat 25 (0x21010 + 0x20 * n.val)) 4 v) s
      = .next (s.modJob n (fun j => { j with phaseTarget := v.setWidth 32 })))
  ∧ (∀ (s : State) (q : Fin 64) (v : Dword), s.awake = true → (bits (s.sq q).cfg 31 1 = 0 ∨ s.host.attached = false) →
    exec (.registerWrite false (BitVec.ofNat 25 (0x10000 + 0x20 * q.val)) 8 v) s
      = .next (s.modSq q (fun x => { x with base := v &&& 0xFFFFFFFFFFFFF000 })))
  ∧ (∀ (s : State) (off : BitVec 25) (v : Dword), s.awake = true → s.host.pcieOnly = false → off.toNat % 4 = 0 → off.toNat < 0x8000 →
    exec (.registerWrite true off 4 v) s
      = .next (s.modHost (fun h => { h with component := tput h.component (off.toNat / 4) (componentWritten off.toNat (v.setWidth 32)) })))
  ∧ (∀ (s : State) (off : BitVec 25) (n : Nat) (v : Dword), s.host.pcieOnly = true → exec (.registerWrite true off n v) s = .next s)

/-- What a 32-bit write leaves in a register that the host may read and write is what a read of it then returns, its reserved bits 0 and a field
of which 0 reads as 1 never 0 (R17, R18, R173, R258, R306, R489, R535, R541); a read of BAR0 that is not a naturally aligned 32-bit or 64-bit
one returns all ones, and an aligned one at an offset that assigns no register returns zero (R17, R395). -/
def Obligations.RegistersReadBack : Prop :=
  (∀ (s t : State) (v : Dword) (off : BitVec 25) (mask : Word) (ones : List (Nat × Nat)), s.awake = true →
    (off, mask, ones) ∈ ([(0x20040, 0xFFC00000, []), (0x20044, 0xFFFFFFFF, [(0, 16)]), (0x20048, 0xFFFFFFFF, [(16, 16), (0, 16)]),
      (0x20080, 0x80000FFF, []), (0x2009C, 0x80000FFF, []), (0x30000, 0xFFFF0000, [(16, 8)]), (0x30004, 0xFFFF0000, [(16, 16)]),
      (0x40200, 0x000F007F, []), (0x50010, 0x0000FFFF, [(8, 8), (0, 8)]), (0x5005C, 0xFFFFFFFF, [(0, 8)]), (0x50060, 0x0000FFFF, []),
      (0x50080, 0x0001FFFF, []), (0x1F000, 0x0000FFFF, []), (0x1F010, 0x8000FFFF, [(0, 16)])] : List (BitVec 25 × Word × List (Nat × Nat))) →
    exec (.registerWrite false off 4 v) s = .next t →
    t.readBar0 off.toNat 4 = (oneFor ones (v.setWidth 32 &&& mask)).toNat ∧ t.mem = s.mem ∧ t.tiles = s.tiles ∧ t.pending = s.pending ∧ t.ports = s.ports)
  ∧ (∀ (s : State) (off n : Nat), ¬((n = 4 ∨ n = 8) ∧ off % n = 0) → s.readBar0 off n = 2 ^ (8 * n) - 1)
  ∧ (∀ (s : State) (off n : Nat), (n = 4 ∨ n = 8) → off % n = 0 → blockAt off = none → s.readBar0 off n = 0)

/-- Identity, compute-complex reset and tile control (R103, R104, R397, R475, R576). -/
def Obligations.IdentityAndResetComplete : Prop :=
  (∀ (s : State) (v : Dword), s.awake = true → s.anyJob = false → v ≠ s.host.train →
    ∃ t, exec (.glbIdentityWrite .train v) s = .next t ∧ t.host.train = v ∧ t.host.epoch = s.host.epoch ∧ t.host.package = s.host.package
      ∧ t.mem = s.mem ∧ t.tiles = s.tiles ∧ t.pending = s.pending)
  ∧ (∀ (s : State) (v : Dword), s.awake = true → s.anyJob = false → ¬(bits v 30 2 = s.host.role.toNat ∧ bits v 0 12 = s.host.package.toNat) →
    ∃ t, exec (.glbIdentityWrite .package v) s = .next t ∧ t.host.role.toNat = bits v 30 2 ∧ t.host.package.toNat = bits v 0 12
      ∧ t.host.epoch = s.host.epoch + 1 ∧ t.host.train = s.host.train ∧ t.mem = s.mem ∧ t.tiles = s.tiles ∧ t.pending = s.pending)
  ∧ (∀ (s : State) (r : IdentityReg) (v : Dword), s.awake = true → s.anyJob = true →
    exec (.glbIdentityWrite r v) s = .next (s.modHost (fun h => { h with glbReject := true })))
  ∧ (∀ s : State, s.awake = true → s.host.ccBusy = false →
    ∃ t, exec .ccReset s = .next t ∧ t.host.ccBusy = true ∧ t.anyJob = false ∧ t.objs = [] ∧ t.trk.locals = [] ∧ t.trk.shares = []
      ∧ (∀ L < 128, (t.tile L).streams = [] ∧ (t.tile L).eps = [] ∧ (t.tile L).banks = [] ∧ (t.tile L).finQueue = [])
      ∧ t.flash = s.flash ∧ t.fuses = s.fuses ∧ t.pending = s.pending)
  ∧ (∀ s : State, s.host.ccBusy = true → exec .ccResetDone s = .next (s.modHost (fun h => { h with ccBusy := false })).releaseHost)
  ∧ (∀ (s : State) (k : Fin 4) (p : Fin 34) (v : Word), s.awake = true → s.tileHeld k p = false → (s.tileAt (k.val * 34 + p.val)).arrCtlBad v = false →
    exec (.arrCtlWrite k p v) s = .next (s.modTileAt (k.val * 34 + p.val) (fun x => { x with arrCtl := v &&& 0xCFFFFFFE })))
  ∧ (∀ (s : State) (k : Fin 4) (p : Fin 34) (v : Word), s.awake = true → s.tileHeld k p = false → (s.tileAt (k.val * 34 + p.val)).arrCtlBad v = true →
    exec (.arrCtlWrite k p v) s = .next (s.modTileAt (k.val * 34 + p.val) (fun x => { x with arrReject := true })))
  ∧ (∀ (s : State) (k : Fin 4) (p : Fin 34) (v : Word), s.awake = true → s.tileHeld k p = true →
    exec (.arrCtlWrite k p v) s = .next (s.modHost (fun h => { h with glbReject := true })))

/-! ## GDDR7 and the host's view of it -/

/-- Training, once the devices' reset is released (R561), temperature, retraining, thresholds and margining of a controller (R8, R227 to R232,
R234); that a host's write does nothing to a package in reset or after a trip is the model's reading (log 178); the bytes of margining's test patterns
are left open (log 145). -/
def Obligations.GddrCompletes : Prop :=
  (∀ (s : State) (n : Fin 20), s.pkg.gddrResetN = true → (s.gd n).trained = false → (s.gd n).trainFail = false →
    ∃ t, exec (.gddrTrained n) s = .next t ∧ t.gd n = { s.gd n with trained := true } ∧ (∀ m : Fin 20, m ≠ n → t.gd m = s.gd m)
      ∧ (∀ a, t.memByte a = if isGddr a = true ∧ controllerOf a = n.val then 0 else s.memByte a) ∧ t.host = s.host ∧ t.tiles = s.tiles
      ∧ t.pending = s.pending)
  ∧ (∀ (s : State) (n : Fin 20), s.pkg.gddrResetN = true → (s.gd n).trained = false → (s.gd n).trainFail = false → 2 ≤ (s.gd n).attempts →
    exec (.gddrTrainingFailed n) s
      = .next (((s.modGd n (fun g => { g with attempts := 3, trainFail := true })).raise 0x0620 0 (n.val * 2 ^ 48)).degrade 3))
  ∧ (∀ (s : State) (n : Fin 20), s.pkg.gddrResetN = false →
    exec (.gddrTrained n) s = .next s ∧ exec (.gddrTrainingFailed n) s = .next s)
  ∧ (∀ (s : State) (n : Fin 20) (c : BitVec 8), s.pkg.inReset = false → (s.gd n).thrStep = 0 → (s.gd n).tempFail = false →
    c.toNat < bits (s.gd n).thr 0 8 → c.toNat < bits (s.gd n).thr 8 8 → c.toNat < bits (s.gd n).thr 16 8 → c.toNat < bits (s.gd n).thr 24 8 →
    exec (.gddrTempPoll n (some c)) s = .next (s.modGd n (fun g => { g with tempC := c, badReads := 0, tempFail := false })))
  ∧ (∀ (s : State) (n : Fin 20) (i : Fin 4), s.pkg.inReset = false → (s.gd n).trained = true →
    exec (.gddrRetrain n i) s = .next (s.modGd n (fun g => { g with retrained := some i.val, retrains := g.retrains + 1 })))
  ∧ (∀ (s : State) (n : Fin 20), s.awake = true → exec (.errClr n) s = .next (s.modGd n (fun g => { g with ceCount := 0, ueCount := 0 })))
  ∧ (∀ (s : State) (n : Fin 20) (v : Word), s.awake = true → bits v 0 8 ≤ 85 → bits v 8 8 ≤ 95 → bits v 16 8 ≤ 100 → bits v 24 8 ≤ 105 →
    bits v 0 8 < bits v 8 8 → bits v 8 8 < bits v 16 8 → bits v 16 8 < bits v 24 8 →
    exec (.gdThrWrite n v) s = .next (s.modGd n (fun g => { g with thr := v })))
  ∧ (∀ (s : State) (n : Fin 20), s.awake = true → s.stackBusy (n.val / 5) = false → (∀ m < 20, m / 5 = n.val / 5 → (s.gd m).thrStep = 0) →
    exec (.marginingStart n) s = .next ((s.writePatterns n).modGd n (fun g => { g with marginBusy := true })))
  ∧ (∀ (s : State) (n : Fin 20), s.awake = true → s.stackBusy (n.val / 5) = true →
    exec (.marginingStart n) s = .next (s.modGd n (fun g => { g with marginDone := true, marginResult := 3 })))
  ∧ (∀ (s : State) (n : Fin 20) (ws : List Word), ws.length = 32 → (s.gd n).marginBusy = true → (∀ w ∈ ws, (s.gd n).marginPass (cappedMargins w) = true) →
    exec (.marginingDone n ws) s = .next (s.modGd n (fun g => { g with
      marginBusy := false, marginDone := true, marginResult := 0, marginDq := (List.range 32).map (fun p => (p, cappedMargins (ws.getD p 0))) })))

/-- Scrubbing and a stack's memory layout (R182, R205, R222, R233). -/
def Obligations.LayoutCompletes : Prop :=
  (∀ (s : State) (n : Fin 20), s.pkg.inReset = false → (s.gd n).scrub.getLsbD 31 = true → (s.gd n).trained = true →
    s.isPoisoned (scrubAddr n (s.gd n).scrubPos / 64) = false → tfind s.flaws (scrubAddr n (s.gd n).scrubPos / 64) = none →
    exec (.scrubVisit n .clean false) s = .next ((s.touchChunk (scrubAddr n (s.gd n).scrubPos / 64)).modGd n
      (fun g => { g with scrubPos := (g.scrubPos + 1) % 62914560 })))
  ∧ (∀ (s : State) (k : Fin 4) (v : Word), s.awake = true → s.stackBusy k = false → bits v 0 5 ≤ 16 → v.getLsbD 30 = false →
    exec (.stkMemCfgWrite k v) s = .next (s.modStack k (fun x => { x with memBusy := some (bits v 0 5) })))
  ∧ (∀ (s : State) (k : Fin 4) (f : Nat), (s.stack k).memBusy = some f →
    exec (.farCacheResizeDone k) s = .next (s.modStack k (fun x => { x with far4m := f, memBusy := none, far := [] })))
  ∧ (∀ (s : State) (k : Fin 4) (v : Word), s.awake = true → s.stackBusy k = false → bits v 0 5 ≤ 16 → v.getLsbD 30 = false → (s.stack k).gddrBusy = none →
    bits v 0 5 ≠ (s.stack k).cut512 → (s.stack k).cutHeld = false →
    exec (.stkGddrCfgWrite k v) s
      = .next (s.modStack k (fun x => { x with gddrBusy := some (bits v 0 5), cutHeld := false, cutHeldStep := 0 })))
  ∧ (∀ (s : State) (k : Fin 4) (v : Word), s.awake = true → s.stackBusy k = true →
    exec (.stkMemCfgWrite k v) s = .next (s.modStack k (fun x => { x with memReject := true }))
      ∧ exec (.stkGddrCfgWrite k v) s = .next (s.modStack k (fun x => { x with gddrReject := true })))
  ∧ (∀ (s : State) (k : Fin 4) (c : Nat), (s.stack k).gddrBusy = some c →
    ∃ t, exec (.gddrLayoutDone k) s = .next t ∧ (t.stack k).cut512 = c ∧ (t.stack k).gddrBusy = none
      ∧ (∀ a, (a < gddrOf k + min (s.gsliceBytes k) (t.gsliceBytes k) ∨ gddrOf k + 19136 * mib ≤ a) → t.memByte a = s.memByte a)
      ∧ (∀ a, gddrOf k + min (s.gsliceBytes k) (t.gsliceBytes k) ≤ a → a < gddrOf k + 19136 * mib → t.memByte a = 0)
      ∧ t.tiles = s.tiles ∧ t.pending = s.pending)

/-- The host's CXL.mem accesses, once the HDM decoder is committed (R204, R216, R217, R220, R221, R392): a write into a group slice stores its
bytes at the offset's address and nowhere else, and takes back the host's hold of the line; a write to the cut region or the management area is
discarded, with event 0x0632 once per second at most; an access to a slice that is being zeroed waits; a read gives the bytes, and a poisoned
sector's is marked; an offset past the four stacks faults, and without a committed decoder a write stores nothing and a read gives bytes that
nothing constrains (logs 4 and 94, the model's choice).  A fetched line's snoop, and the answers to page requests of a tile and of the hub, which
stands as tile 128 (R198, R200); while the host is detached a request waits (R424; that it is tried again when the host resumes is the model's
reading, log 170). -/
def Obligations.HostMemoryCompletes : Prop :=
  (∀ (s : State) (h : BitVec 48) (bs : List Byte) (k o : Nat), s.awake = true → h.toNat = k * gddrStackBytes + o → o < gddrStackBytes → k < 4 →
    s.cxlMem = true → s.zeroing k o = false → s.gddrFailed k = false → o + bs.length ≤ 4 * s.gsliceBytes k → bs ≠ [] →
    ∃ t, exec (.hostMemWrite h bs) s = .next t
      ∧ (∀ a, t.memByte a = if gddrOf k + o ≤ a ∧ a < gddrOf k + o + bs.length then bs.getD (a - (gddrOf k + o)) 0 else s.memByte a)
      ∧ t.tiles = s.tiles ∧ t.objs = s.objs ∧ t.pending = s.pending
      ∧ (s.flaws = [] → t.gds = s.gds
        ∧ t.host = { s.host with hostHeld := s.host.hostHeld.filter (fun l => l ≠ (gddrOf k + o) / 64) }))
  ∧ (∀ (s : State) (h : BitVec 48) (bs : List Byte) (k o : Nat), s.awake = true → h.toNat = k * gddrStackBytes + o → o < gddrStackBytes → k < 4 →
    s.cxlMem = true → s.zeroing k o = false → s.gddrFailed k = false → 4 * s.gsliceBytes k ≤ o →
    (s.host.reservedAt = none →
      exec (.hostMemWrite h bs) s = .next ((s.modHost (fun x => { x with reservedAt := some s.now })).raise 0x0632 0 (gddrOf k + o)))
    ∧ (∀ u, s.host.reservedAt = some u → s.now < u + 1000000 → exec (.hostMemWrite h bs) s = .next s))
  ∧ (∀ (s : State) (h : BitVec 48) (bs : List Byte) (n : Nat) (k o : Nat), s.awake = true → h.toNat = k * gddrStackBytes + o → o < gddrStackBytes → k < 4 →
    s.zeroing k o = true →
    exec (.hostMemWrite h bs) s = .next (s.modHost (fun x => { x with memWaiting := x.memWaiting ++ [.write h bs] }))
    ∧ ∀ amb : Ambient, exec (.hostMemRead h n amb) s
      = .next ((s.applyAmb amb).modHost (fun x => { x with memWaiting := x.memWaiting ++ [.read h n] })))
  ∧ (∀ (s : State) (h : BitVec 48) (n : Nat) (k o : Nat), s.awake = true → h.toNat = k * gddrStackBytes + o → o < gddrStackBytes → k < 4 →
    s.cxlMem = true → s.zeroing k o = false → s.gddrFailed k = false → o % 64 + n ≤ 64 → 0 < n →
    (s.isPoisoned ((gddrOf k + o) / 64) = false → tfind s.flaws ((gddrOf k + o) / 64) = none →
      ∃ t, exec (.hostMemRead h n {}) s = .next t ∧ t.out = .memData (s.memRead (gddrOf k + o) n) false :: s.out ∧ t.mem = s.mem
        ∧ t.host = { s.host with hostHeld := addOnce s.host.hostHeld ((gddrOf k + o) / 64) } ∧ t.tiles = s.tiles ∧ t.pending = s.pending)
    ∧ (s.isPoisoned ((gddrOf k + o) / 64) = true →
      ∃ t bs, bs.length = n ∧ exec (.hostMemRead h n {}) s = .next t ∧ t.out.head? = some (.memData bs true) ∧ t.mem = s.mem
        ∧ t.tiles = s.tiles ∧ t.pending = s.pending))
  ∧ (∀ (s : State) (h : BitVec 48) (bs : List Byte) (n : Nat) (k o : Nat), s.awake = true → h.toNat = k * gddrStackBytes + o → o < gddrStackBytes → k < 4 →
    s.cxlMem = false → s.zeroing k o = false →
    exec (.hostMemWrite h bs) s = .next s
    ∧ ∃ ds, ds.length = n ∧ exec (.hostMemRead h n {}) s = .next (({ s with free := s.free + n } : State).emit (.memData ds false)))
  ∧ (∀ (s : State) (h : BitVec 48) (bs : List Byte) (n : Nat) (amb : Ambient), s.awake = true → 4 * gddrStackBytes ≤ h.toNat →
    exec (.hostMemWrite h bs) s = .fault .hdmOffsetOutOfRange ∧ exec (.hostMemRead h n amb) s = .fault .hdmOffsetOutOfRange)
  ∧ (∀ (s : State) (l : BitVec 58), l.toNat ∈ s.host.fetchLines → l.toNat ∈ s.host.aheadLines →
    exec (.hostLineSnoop l) s = .next (s.modHost (fun h => { h with staleLines := addOnce h.staleLines l.toNat })))
  ∧ (∀ (s : State) (l : BitVec 58), (l.toNat ∉ s.host.fetchLines ∨ l.toNat ∉ s.host.aheadLines) →
    exec (.hostLineSnoop l) s = .next (s.modHost (fun h => { h with fetchLines := h.fetchLines.filter (fun m => m ≠ l.toNat) })))
  ∧ (∀ (s : State) (L : Fin 129) (v : Nat) (r : List (Nat × Nat)) (p n : Nat), L.val ≠ 128 →
    s.host.attached = true → s.host.pageRequests = (L.val, v) :: r →
    s.slotOfTile L = some n → p = (v - hostBase) / (2 * mib) → p < 65536 → (tget 0 s.host.hwt p).getLsbD 0 = true →
    bits (tget 0 s.host.hwt p) 9 12 = (s.job n).id.toNat → (tget 0 s.host.hwt p).getLsbD 1 = true → (tget 0 s.host.hwt p).getLsbD 3 = false →
    ∃ t, exec (.pageRequestResponse L true {}) s = .next t ∧ t.host.pageRequests = r
      ∧ (∀ i < 3, ∀ o ∈ (t.stream L i).ops, o.faultAddr.map (·.toNat) ≠ some v) ∧ t.mem = s.mem ∧ t.pending = s.pending)
  ∧ (∀ (s : State) (L : Fin 129) (v : Nat) (r : List (Nat × Nat)), L.val ≠ 128 → s.host.attached = true →
    s.host.pageRequests = (L.val, v) :: r → exec (.pageRequestTimeout L) s = .next ((s.modHost (fun h => { h with pageRequests := r })).hostFault L v 6 false))
  ∧ (∀ (s : State) (q : Nat × Nat × Nat) (r : List (Nat × Nat × Nat)) (g : Bool), s.host.attached = true → s.host.hubRequests = q :: r →
    q.2.2 = 0 →
    exec (.pageRequestResponse 128 g {}) s
      = .next (s.modHost (fun h => { h with hubRequests := if g = true then r else r ++ [(q.1, q.2.1, 5)] }))
    ∧ exec (.pageRequestTimeout 128) s = .next (s.modHost (fun h => { h with hubRequests := r ++ [(q.1, q.2.1, 6)] })))
  ∧ (∀ (s : State) (L : Fin 129) (g : Bool) (amb : Ambient), s.host.attached = false →
    exec (.pageRequestResponse L g amb) s = .next s ∧ exec (.pageRequestTimeout L) s = .next s)

/-! ## Descriptors and jobs -/

/-- The rings that have a descriptor and room are served in rotation (R405): the one whose turn it is has a descriptor fetched whole from its
head, which enters the ring's window, or completes at once with the status of its checks; a fetch that the host completes with an error disables
the ring with event 0x0104 (R426).  A ring out of turn waits. -/
def Obligations.DescriptorFetchCompletes : Prop :=
  (∀ (s u : State) (q : Fin 64) (d : Desc), bits (s.sq q).cfg 31 1 = 1 → (s.sq q).head ≠ (s.sq q).tail → (s.sq q).window.length < 8 →
    s.host.attached = true → s.fetchTurn = some q.val → u = s.modHost (fun h => { h with sqTurn := (q.val + 1) % 64, fetched := h.fetched + 1 }) →
    d = ⟨s.hostRead ((s.sq q).base.toNat + (s.sq q).head.toNat % 2 ^ bits (s.sq q).cfg 0 5 * 64) 64, q, (s.sq q).head.toNat, s.host.fetched⟩ →
    (u.fetchStatus d = none →
      exec (.descriptorFetch q [] false) s
        = .next (u.modSq q (fun x => { x with head := x.head + 1, window := x.window ++ [d] })))
    ∧ (∀ st, u.fetchStatus d = some st → s.findJob d.job = none → s.mayReserve = true →
      exec (.descriptorFetch q [] false) s
        = .next ((u.modSq q (fun x => { x with head := x.head + 1 })).completeDesc d st (descStep {} d) (descRef d) 0))
    ∧ exec (.descriptorFetch q [] true) s
      = .next ((u.modSq q (fun x => { x with cfg := putBits x.cfg 31 1 0 &&& 0xBF00001F })).raise 0x0104 0 q.val))
  ∧ (∀ (s : State) (q p : Fin 64) (hw : List Host.Cell) (f : Bool), s.host.attached = true → s.fetchTurn = some p.val → p ≠ q →
    exec (.descriptorFetch q hw f) s = .next s)

/-- A descriptor with another format version, a job field above 4,095, job 0 in any type but NOP, or a type outside 1 to 7 completes with INVALID
at its fetch (R409, R415). -/
def Obligations.BadDescriptorsAreInvalid : Prop :=
  ∀ (s : State) (d : Desc),
    (d.fmtVer ≠ 1 ∨ 4096 ≤ d.jobField ∨ (d.job = 0 ∧ d.dtype ≠ 7) ∨ d.dtype = 0 ∨ 7 < d.dtype) → s.fetchStatus d = some 0x01

/-- First fit (R168): the first group of a run is a multiple of the alignment, no group of the run is held by a job, the run lies within the 16
groups, and no lower run qualifies. -/
def Obligations.PlacementIsFirstFit : Prop :=
  ∀ (s : State) (n align g : Nat) (gddr : BitVec 16), 1 ≤ n → n ≤ 16 → s.firstFit n align gddr = some g →
    g % align = 0 ∧ g + n ≤ 16 ∧ (∀ i < n, s.slotOfGroup (g + i) = none ∧ s.gddrReady ((g + i) / 4) = true)
    ∧ ((∀ k, (s.stack k).borrowedGroups = [] ∧ (s.stack k).memBusy = none ∧ (s.stack k).gddrBusy = none) → gddr = 0 →
      (∀ k, s.gddrReady k = true) → ∀ h < g, h % align = 0 → ∃ i < n, s.slotOfGroup (h + i) ≠ none)

/-- JOB and the end of its placement, END and the freeing of the groups, NOP (R168 to R170, R216, R410, R411, R415, R417). The time from a job's
placement to its tiles being loaded is left open (log 15). -/
def Obligations.JobLifeCompletes : Prop :=
  (∀ (s u : State) (q : Fin 64) (d : Desc) (r : List Desc) (deck : Deck) (amb : Ambient) (n : Nat), (s.sq q).window = d :: r → d.dtype = 1 →
    s.findJob d.job = none → s.descWaits d = false → s.pkg.testMode = 0 → s.host.ccBusy = false → s.host.attached = true → s.mayReserve = true →
    (s.applyAmb amb).placeJob d deck = (u, .ok n) →
    exec (.job q deck amb) s = .next (((((u.modSq q (fun x => { x with window := r })).modHost (fun h => { h with
      reserved := h.reserved + 1, fullRaised := false })).nextOpen).modJob n (fun j => { j with loadUs := s.openBelow 11 })).openChannels n)
    ∧ (s.job n).valid = false ∧ (∀ m < n, (s.job m).valid = true) ∧ n < 16)
  ∧ (∀ (s : State) (n : Fin 16), (s.job n).valid = true → (s.job n).endingLost = false → (s.job n).placed = false →
    (∀ L ∈ (s.job n).tiles, ∀ e ∈ (s.tile L).eps, e.2.cfg.getLsbD 31 = false ∨ e.2.state = .opened) →
    exec (.jobPlaced n) s = .next ((s.unreserve.completeDesc (s.job n).desc 0 (s.job n).step.toNat 0 (s.job n).seed.toNat).modJob n
      (fun j => { j with placed := true })))
  ∧ (∀ (s : State) (q : Fin 64) (d : Desc) (r : List Desc) (n : Nat), (s.sq q).window = d :: r → d.dtype = 5 → s.findJob d.job = some n →
    (s.job n).runs = true → (s.job n).run = none → (s.job n).startedDescs = [] → s.mayReserve = true →
    ∃ t, exec (.endJob q) s = .next t
      ∧ t = (((s.modSq q (fun x => { x with window := r })).reserve).closeChannels n).modJob n (fun j => { j with ending := some d })
      ∧ (t.job n).ending = some d ∧ (t.sq q).window = r ∧ t.host.reserved = s.host.reserved + 1
      ∧ t.mem = s.mem ∧ t.pending = s.pending)
  ∧ (∀ (s : State) (n : Fin 16) (d : Desc), (s.job n).valid = true → (s.job n).ending = some d → s.host.memWaiting = [] →
    ∃ t, exec (.jobEndDone n) s = .next t ∧ (t.job n).valid = false
      ∧ (∀ a, t.memByte a = if (s.gddrSlices (s.job n)).any (fun r => decide (r.1 ≤ a) && decide (a < r.2)) then 0 else s.memByte a)
      ∧ t.objs = s.objs.filter (fun e => !(s.job n).holds (e.1 / 4096))
      ∧ (∀ x ∈ t.trk.shares, x.2.job ≠ (s.job n).id) ∧ t.pending = s.pending ∧ t.flash = s.flash)
  ∧ (∀ (s : State) (q : Fin 64) (d : Desc) (r : List Desc), (s.sq q).window = d :: r → d.dtype = 7 → d.job = 0 → s.mayReserve = true →
    exec (.nopDescriptor q) s = .next ((s.modSq q (fun x => { x with window := r })).completeDesc d 0 0 0 0))
  ∧ (∀ (s : State) (q : Fin 64) (d : Desc) (r : List Desc) (n : Nat), (s.sq q).window = d :: r → d.dtype = 7 → d.job ≠ 0 →
    s.findJob d.job = some n → (∀ e ∈ (s.job n).startedDescs, later 32 e.1.no d.no = true) → s.mayReserve = true →
    exec (.nopDescriptor q) s = .next ((s.modSq q (fun x => { x with window := r })).completeDesc d 0 0 0 0))

/-- STEP, LOAD, PASS and ABORT descriptors (R412 to R416, R430 to R433). -/
def Obligations.StepDescriptorsComplete : Prop :=
  (∀ (s : State) (q : Fin 64) (d : Desc) (r : List Desc) (n : Nat) (amb : Ambient), (s.sq q).window = d :: r → d.dtype = 2 →
    s.findJob d.job = some n → (s.job n).runs = true → (s.job n).run = none → leAt d.bytes 8 4 = (s.job n).step.toNat →
    ((s.job n).deck.firstStage = none ∨ leAt d.bytes 24 2 % 2 = 1) →
    exec (.step q amb) s = .next ((s.modSq q (fun x => { x with window := r })).modJob n (fun j => { j with
      run := some { desc := d, step := (s.job n).step, mbCount := if (leAt d.bytes 24 2) % 2 = 1 then 0 else leAt d.bytes 12 4,
                    table := BitVec.ofNat 64 (leAt d.bytes 16 8), serving := decide ((leAt d.bytes 24 2) % 2 = 1),
                    attempt := (s.job n).attempt } })))
  ∧ (∀ (s u : State) (q : Fin 64) (d : Desc) (r : List Desc) (n c v : Nat) (as : List Nat), (s.sq q).window = d :: r → d.dtype = 2 →
    s.findJob d.job = some n → (s.job n).runs = true → (s.job n).run = none → leAt d.bytes 8 4 = (s.job n).step.toNat →
    (s.job n).deck.firstStage.isSome = true → leAt d.bytes 24 2 % 2 = 0 → c = leAt d.bytes 12 4 → 0 < c → v = leAt d.bytes 16 8 →
    s.host.attached = true →
    translateAll d.job false ((List.range ((c * 16 + 4095) / 4096 + 1)).map (fun i => min (v + i * 4096) (v + c * 16 - 1))) s = (u, as, none) →
    exec (.step q {}) s = .next ((u.modSq q (fun x => { x with window := r })).modJob n (fun j => { j with
      run := some { desc := d, step := (s.job n).step, mbCount := c, table := BitVec.ofNat 64 v, attempt := (s.job n).attempt } })))
  ∧ (∀ (s : State) (q : Fin 64) (d : Desc) (r : List Desc) (n : Nat) (amb : Ambient) (x : StepRun), s.nextDesc q 2 = some (d, r) →
    s.findJob d.job = some n → (s.job n).runs = true → (s.job n).run = some x → x.serving = true →
    exec (.step q amb) s = .next (s.modJob n (fun j => { j with run := some { x with ctlWanted := true } })))
  ∧ (∀ (s : State) (q : Fin 64) (d : Desc) (r : List Desc) (n : Nat), (s.sq q).window = d :: r → d.dtype = 6 →
    s.findJob d.job = some n → (s.job n).runs = true → s.host.pcieOnly = false → (s.job n).run = none → (s.load n d.loadId).active = false →
    leAt d.bytes 12 2 / 2 % 2 = 0 → leAt d.bytes 8 4 = (s.job n).step.toNat →
    exec (.load q) s = .next ((s.modSq q (fun x => { x with window := r })).modJob n (fun j => { j with
      run := some { desc := d, step := (s.job n).step, mbCount := 0, load := some d.loadId, attempt := (s.job n).attempt } })))
  ∧ (∀ (s : State) (q : Fin 64) (d : Desc) (r : List Desc) (n : Nat), (s.sq q).window = d :: r → d.dtype = 6 →
    s.findJob d.job = some n → (s.job n).runs = true → s.host.pcieOnly = false → (s.load n d.loadId).active = false →
    leAt d.bytes 12 2 / 2 % 2 = 1 →
    ((s.job n).loads.filter (fun l => l.2.active && l.2.background)).length < 4 → s.mayReserve = true →
    ∃ t, exec (.load q) s = .next t ∧ t = ((s.modSq q (fun x => { x with window := r })).reserve).beginLoad n d.loadId d
      ∧ (t.load n d.loadId).desc = d ∧ (t.load n d.loadId).background = true
      ∧ (t.sq q).window = r ∧ t.mem = s.mem ∧ t.pending = s.pending)
  ∧ (∀ (s u : State) (q : Fin 64) (d : Desc) (r : List Desc) (n : Nat) (x : StepRun) (rec' : Nat), (s.sq q).window = d :: r → d.dtype = 3 →
    s.findJob d.job = some n → (s.job n).runs = true → s.host.attached = true → (s.job n).run = some x → x.serving = true →
    x.started = true → x.step.toNat = leAt d.bytes 8 4 → (s.job n).passes = [] → leAt d.bytes 28 4 + leAt d.bytes 24 1 ≤ 2 ^ 20 → rec' = leAt d.bytes 32 8 →
    rec' < 2 ^ 48 → (s.job n).isDurable rec' = true → (s.job n).isDurable (rec' + 71) = true →
    (s.resolve n (8 * (s.job n).first) (rec' : Int)).isSome = true → s.viewTouch n rec' 4 = (u, false) →
    leAt (u.viewBytes n rec' 4) 0 4 = leAt d.bytes 28 4 → u.host.attached = true →
    exec (.pass q {}) s = .next ((u.modSq q (fun x => { x with window := r })).modJob n (fun j => { j with passes :=
      [{ desc := d, step := j.step, mb := BitVec.ofNat 20 (leAt d.bytes 12 4), drafts := BitVec.ofNat 64 (leAt d.bytes 16 8),
         positions := leAt d.bytes 24 1, posBase := BitVec.ofNat 20 (leAt d.bytes 28 4), stream := BitVec.ofNat 48 rec' }] })))
  ∧ (∀ (s : State) (q : Fin 64) (d : Desc) (r : List Desc) (n : Nat) (x : StepRun), (s.sq q).window = d :: r → d.dtype = 4 →
    s.findJob d.job = some n → (s.job n).coordPkg = s.self → s.mayReserve = true → leAt d.bytes 16 1 = 0 → (s.job n).run = some x →
    x.step.toNat = leAt d.bytes 8 4 → x.reserved = false → s.coordAt (s.job n).id.toNat (stepKey x.step) = none →
    exec (.abort q) s = .next ((((s.modSq q (fun x => { x with window := r })).completeDesc x.desc 0x20 x.step.toNat 0
      (0x0302 + 1 * 2 ^ 16 + s.self.toNat * 2 ^ 20)).modJob n (fun j => { j with run := none })).completeDesc d 0 (leAt d.bytes 8 4)
        (leAt d.bytes 12 4 % 2 ^ 20) 0))

/-- The start of a step (R141, R142, R172, R265, R420): a completion record is reserved, the watchdog limit is R172's and its count restarts, and
every stream that the deck configures begins at its entry with the step's base tag, its loop counters zero and its selects restarted; the others
are IDLE (R149, R253). -/
def Obligations.StepStartCompletes : Prop :=
  ∀ (s : State) (n : Fin 16) (r : StepRun), (s.job n).valid = true → (s.job n).first + (s.job n).groups ≤ 16 → (s.job n).run = some r →
    r.load = none → s.host.pcieOnly = false → r.started = false → r.revoked = false → r.done = false → r.reserved = false → (s.job n).runs = true → (s.job n).page = none →
    s.mayReserve = true → (s.job n).deck.update = false → (s.job n).cutDue = false → (s.meld 0).ctxs = [] → (s.meld 1).ctxs = [] →
    (∀ L ∈ (s.job n).tiles, ∀ M ∈ (s.job n).tiles, s.tileIx L = s.tileIx M → L = M) →
    ∃ t, exec (.stepStart n) s = .next t ∧ t.host.reserved = s.host.reserved + 1 ∧ t.mem = s.mem ∧ t.objs = s.objs ∧ t.pending = s.pending
      ∧ (t.job n).run = some { r with started := true, reserved := true, version := (s.job n).curTag, nextMb := 0, ctlDone := false,
                                       slotWait := false }
      ∧ (t.job n).wdogLimit = wdogLimitOf (s.job n).tTile (s.job n).tFixed (s.minClock (s.job n)) (bits s.dealer.wdogCtl 22 6)
      ∧ (t.job n).wdogElapsed = 0
      ∧ (∀ L ∈ (s.job n).tiles, ∀ i < 3,
        ((tfind (deckTile (s.job n).deck (L - 8 * (s.job n).first)).streams i).isSome = true →
          (t.stream L i).state = .run ∧ (t.stream L i).pc.toNat = bits (s.stream L i).prog 0 16
            ∧ (t.stream L i).tag = baseTag (s.job n) i (s.job n).curTag.toNat ∧ (t.stream L i).ops = []
            ∧ (t.stream L i).loops = [] ∧ (t.stream L i).sels = (s.stream L i).sels.map (fun e => (e.1, selRestart e.2)))
        ∧ ((tfind (deckTile (s.job n).deck (L - 8 * (s.job n).first)).streams i).isSome = false → (t.stream L i).state = .idle))

/-- The watchdog limit of R172 in whole µs: the least count of µs that is at least
(tTile × 800 / f + tFixed) × (1 + margin / 64) / 10, the terms in units of 100 ns. -/
def Obligations.WatchdogLimitIsLeast : Prop :=
  ∀ tTile tFixed f margin : Nat, 0 < f →
    (tTile * 800 + tFixed * f) * (64 + margin) ≤ wdogLimitOf tTile tFixed f margin * (640 * f)
    ∧ ∀ w, (tTile * 800 + tFixed * f) * (64 + margin) ≤ w * (640 * f) → wdogLimitOf tTile tFixed f margin ≤ w

/-- Injection, the watchdog of a step and of a pass, and the statistics page (R43, R173, R260, R304, R526): a message is placed in the first-stage ring by
`State.inject`, whose payload the hub reads from the host window. -/
def Obligations.InjectionsComplete : Prop :=
  (∀ (s u v w : State) (n : Fin 16) (r : StepRun) (b payload : List Byte), (s.job n).run = some r → r.started = true → r.revoked = false →
    r.serving = false → r.load = none → (s.job n).deck.firstStage.isSome = true → r.nextMb < r.mbCount → s.host.attached = true →
    s.windowRead n (r.table.toNat + 16 * r.nextMb) 16 = (u, .ok b) → (u.entryBytes (leAt b 8 2)).1.windowRead n (leAt b 0 8) (u.entryBytes (leAt b 8 2)).2 = (v, .ok payload) →
    v.inject n (injectTag (s.job n) 0 r.nextMb (leAt b 12 4 % 2 ^ 20)) payload = some w →
    exec (.microBatchInjection n {}) s = .next (w.modJob n (fun j => { j with run := some { r with nextMb := r.nextMb + 1 } })))
  ∧ (∀ (s w : State) (n : Fin 16) (r : StepRun), (s.job n).run = some r → r.started = true → r.revoked = false → r.serving = false →
    r.load = none → r.ctlDone = false → r.mbCount ≤ r.nextMb → s.host.pcieOnly = false →
    s.inject n (injectTag (s.job n) 3 0 0) [] = some w →
    exec (.controlPassInjection n) s = .next (w.modJob n (fun j => { j with run := some { r with ctlDone := true } })))
  ∧ (∀ (s u w : State) (n : Fin 16) (r : StepRun) (p : PassRun) (payload : List Byte), (s.job n).run = some r → r.started = true →
    r.revoked = false → r.serving = true → (s.job n).passes = [p] → p.injected = false → p.revoked = false → p.reserved = false →
    s.host.attached = true → s.mayReserve = true → s.windowRead n p.drafts.toNat (p.positions * 4) = (u, .ok payload) →
    u.inject n (injectTag (s.job n) 0 p.mb.toNat p.posBase.toNat) payload = some w →
    ∃ t, exec (.passInjection n p.mb {}) s = .next t ∧ t.host.reserved = w.host.reserved + 1
      ∧ t = w.reserve.modJob n (fun j => { j with
        passes := modFirst (fun q => q.mb = p.mb) (fun q => { q with
          injected := true, reserved := true, overrun := false, wdogElapsed := 0, wdogExtra := 0,
          wdogLimit := wdogLimitOf (s.job n).tTile (s.job n).tFixed (s.minClock (s.job n)) (bits s.dealer.wdogCtl 22 6) }) j.passes }))
  ∧ (∀ (s : State) (n : Fin 16) (r : StepRun), (s.job n).run = some r → r.started = true → r.serving = false → r.overrun = false →
    s.workEnded n r = false → (s.job n).wdogLimit ≤ (s.job n).wdogElapsed →
    exec (.stepOverrun n) s = .next ((s.modJob n (fun j => { j with run := some { r with overrun := true } })).raise 0x0201
      (s.job n).id.toNat ((s.job n).wdogLimit + n.val * 2 ^ 32 + (s.job n).step.toNat % 2 ^ 20 * 2 ^ 36)))
  ∧ (∀ (s : State) (n : Fin 16) (r : StepRun) (p : PassRun), (s.job n).run = some r → r.started = true → r.serving = true →
    (s.job n).passes = [p] → p.injected = true → p.wdogLimit ≤ p.wdogElapsed → p.overrun = false → p.readySent = false →
    exec (.stepOverrun n) s = .next ((s.modJob n (fun j => { j with passes := [{ p with overrun := true }] })).raise 0x0201
      (s.job n).id.toNat (p.wdogLimit + n.val * 2 ^ 32 + (s.job n).step.toNat % 2 ^ 20 * 2 ^ 36)))
  ∧ (∀ (s : State) (n : Fin 16) (r : StepRun) (p : PassRun), (s.job n).run = some r → r.started = true → r.serving = true →
    (s.job n).passes = [p] → p.injected = true → bits s.dealer.wdogCtl 28 4 ≠ 0 →
    bits s.dealer.wdogCtl 28 4 * p.wdogLimit ≤ p.wdogElapsed →
    exec (.stepWatchdogFault n) s = .next ((s.raise 0x0202 (s.job n).id.toNat
      (p.wdogLimit + n.val * 2 ^ 32 + (s.job n).step.toNat % 2 ^ 20 * 2 ^ 36)).jobFault 0x0202))
  ∧ (∀ (s : State) (n : Fin 16) (r : StepRun), (s.job n).run = some r → r.started = true → r.serving = false →
    bits s.dealer.wdogCtl 28 4 ≠ 0 → bits s.dealer.wdogCtl 28 4 * (s.job n).wdogLimit ≤ (s.job n).wdogElapsed →
    exec (.stepWatchdogFault n) s = .next ((s.raise 0x0202 (s.job n).id.toNat
      ((s.job n).wdogLimit + n.val * 2 ^ 32 + (s.job n).step.toNat % 2 ^ 20 * 2 ^ 36)).jobFault 0x0202))
  ∧ (∀ (s u : State) (n : Fin 16) (page : List Byte), s.host.attached = true → (s.job n).page = some page → (s.job n).pageHeld = false →
    s.windowWrite n ((s.job n).stats.toNat + leAt page 4 4 % 2 * 0x4000) page = (u, none) →
    exec (.statsPageWritten n) s = .next ((u.modJob n (fun j => { j with
      page := none, pageStep := BitVec.ofNat 32 (leAt page 4 4) })).completeStep n))

/-- A job lost by a fault of the package (R475, R476): after the reset of the compute complex no job exists, no stream runs, no channel is open,
nothing is staged, and device memory holds no byte of the lost jobs' GDDR7 slices. -/
def Obligations.JobFaultLosesEverything : Prop :=
  ∀ (s : State) (code : Nat),
    (s.jobFault code).anyJob = false ∧ (s.jobFault code).objs = [] ∧ (s.jobFault code).trk.locals = [] ∧ (s.jobFault code).trk.shares = []
    ∧ (s.jobFault code).host.ccBusy = true
    ∧ (∀ L < 128, ((s.jobFault code).tile L).eps = [])
    ∧ (∀ L < 128, ∀ i < 3, ((s.jobFault code).stream L i).state = .idle ∧ ((s.jobFault code).stream L i).ops = [])
    ∧ (∀ n ∈ s.jobSlots, ∀ r ∈ s.gddrSlices (s.job n), ∀ a, r.1 ≤ a → a < r.2 → (s.jobFault code).memByte a = 0)
    ∧ (∀ a, s.memByte a = 0 → (s.jobFault code).memByte a = 0)

/-! ## Synchronisation and the sequencers -/

/-- A job-relative object number L names group L[15:12] of the job's groups and index L[11:0]; the package resolves it to object
(first_group + L[15:12]) × 4,096 + L[11:0]. When L[15:12] is not below the number of groups the job holds, every operation is refused: a signal on
the package, a remote signal (event 0x0424, reason 2), and the issue of an instruction that waits on the object or signals it (R157). -/
def Obligations.ObjectNumbersResolve : Prop :=
  ∀ (s : State) (slot : Nat) (l : BitVec 16),
    (bits l 12 4 < (s.job slot).groups → (s.job slot).objectOf l.toNat = some (((s.job slot).first + bits l 12 4) * 4096 + bits l 0 12))
    ∧ ((s.job slot).groups ≤ bits l 12 4 → (s.job slot).objectOf l.toNat = none
      ∧ (∀ op arg : Nat, s.signalObj slot l.toNat op arg = none)
      ∧ (∀ (job op arg step : Nat) (src : BitVec 12),
        s.applyRemote slot job l.toNat op arg src step = s.signalDiscarded job l.toNat op 2 src step)
      ∧ (∀ L n w : Nat, ((insWait w ≠ 0 ∧ (s.handle L n (insWait w)).object = l.toNat)
        ∨ (insSig w ≠ 0 ∧ (s.handle L n (insSig w)).object = l.toNat ∧ (s.handle L n (insSig w)).remote = false)) →
        s.issueBad slot L n w ≠ none))

/-- The order of protocol counters (R24): of two values of a counter w bits wide, a is later than b when it is ahead by 1 to 2^(w − 1) − 1 modulo
2^w; no value is later than itself, two values are never each later than the other, and adding the same amount to both changes nothing. -/
def Obligations.LaterIsAsymmetric : Prop :=
  ∀ w a b c : Nat, 1 ≤ w → a < 2 ^ w → b < 2 ^ w →
    later w a a = false ∧ (later w a b = true → later w b a = false)
    ∧ (later w a b = true ↔ ∃ d, 1 ≤ d ∧ d ≤ 2 ^ (w - 1) - 1 ∧ a = (b + d) % 2 ^ w)
    ∧ later w ((a + c) % 2 ^ w) ((b + c) % 2 ^ w) = later w a b

/-- Signal operations (R153, R154, R157): ADD adds modulo 2^32, the last arrival of a barrier clears its arrivals and advances its generation,
SET and CLEAR set the flag's value; any other object is unchanged, and an operation that does not match the object's kind is refused. -/
def Obligations.SignalsAct : Prop :=
  ∀ (s t : State) (slot l op arg : Nat),
    (s.signalObj slot l op arg = some t → ∃ o, (s.job slot).objectOf l = some o ∧ (∀ p, p ≠ o → t.obj p = s.obj p)
      ∧ (t.obj o).kind = (s.obj o).kind ∧ (t.obj o).membersM1 = (s.obj o).membersM1 ∧ (t.obj o).job = (s.obj o).job
      ∧ (op = 1 → (s.obj o).kind = 0 ∧ (t.obj o).value = (s.obj o).value + BitVec.ofNat 32 arg)
      ∧ (op = 2 → (s.obj o).kind = 1
        ∧ (bits (s.obj o).value 0 12 = (s.obj o).membersM1.toNat →
          bits (t.obj o).value 0 12 = 0 ∧ bits (t.obj o).value 24 8 = (bits (s.obj o).value 24 8 + 1) % 256)
        ∧ (bits (s.obj o).value 0 12 < (s.obj o).membersM1.toNat →
          bits (t.obj o).value 0 12 = bits (s.obj o).value 0 12 + 1 ∧ bits (t.obj o).value 24 8 = bits (s.obj o).value 24 8))
      ∧ (op = 3 → (s.obj o).kind = 2 ∧ (t.obj o).value = 1) ∧ (op = 4 → (s.obj o).kind = 2 ∧ (t.obj o).value = 0)
      ∧ t.mem = s.mem ∧ t.tiles = s.tiles ∧ t.host = s.host ∧ t.pending = s.pending)
    ∧ ((op = 0 ∨ 4 < op) → s.signalObj slot l op arg = none)
    ∧ (∀ o, (s.job slot).objectOf l = some o → (s.obj o).kind = 3 → s.signalObj slot l op arg = none)

/-- NOP, STOP, JMP, LOOP, LDLC, BRTAG and FENCE complete at issue: the wait is taken, the stream goes on at the next word or the target, and the
signal takes effect, unless a replay suppresses it (R140 to R149, R156, R162, R166). -/
def Obligations.SequencerInstructionsComplete : Prop :=
  ∀ (s : State) (L : Fin 128) (n : Fin 3) (slot w : Nat) (u : State), s.mayIssue L n slot w → u = s.issued L n w →
    (insOp w = 0x00 → exec (.nop L n) s = .next ((u.advance L n ((u.stream L n).pc + 1)).signalAtIssue L n (insSig w)))
    ∧ (insOp w = 0x01 → exec (.stop L n) s = .next (((u.advance L n ((u.stream L n).pc + 1)).modStream L n
        (fun x => { x with state := .idle })).signalAtIssue L n (insSig w)))
    ∧ (insOp w = 0x02 → exec (.jmp L n) s = .next ((u.advance L n (BitVec.ofNat 16 (nbits w 32 16))).signalAtIssue L n (insSig w)))
    ∧ (insOp w = 0x03 → ∀ c, c = tget 0 (s.stream L n).loops (nbits w 24 2) - 1 → exec (.loop L n) s
        = .next (((u.modStream L n (fun x => { x with loops := tput x.loops (nbits w 24 2) c })).advance L n
          (if c = 0 then (u.stream L n).pc + 1 else BitVec.ofNat 16 (nbits w 32 16))).signalAtIssue L n (insSig w)))
    ∧ (insOp w = 0x04 → exec (.ldlc L n) s
        = .next (((u.modStream L n (fun x => { x with loops := tput x.loops (nbits w 24 2) (BitVec.ofNat 24 (nbits w 32 24)) })).advance L n
          ((u.stream L n).pc + 1)).signalAtIssue L n (insSig w)))
    ∧ (insOp w = 0x05 → exec (.brtag L n) s
        = .next ((u.advance L n (if tagPass (u.stream L n).tag = nbits w 24 2 then BitVec.ofNat 16 (nbits w 32 16)
          else (u.stream L n).pc + 1)).signalAtIssue L n (insSig w)))
    ∧ (insOp w = 0x06 → exec (.fence L n) s = .next ((u.advance L n ((u.stream L n).pc + 1)).signalAtIssue L n (insSig w)))

/-- What issuing an instruction without a wait changes (the frame of the sequencer's own instructions): only the stream that issues; an error
that the fetch corrects is counted and reported besides (R185). -/
def Obligations.SequencerFrame : Prop :=
  ∀ (s t : State) (L : Fin 128) (n : Fin 3) (slot w : Nat) (c : Instr), s.mayIssue L n slot w → insWait w = 0 → insSig w = 0 →
    c ∈ ([.nop L n, .stop L n, .jmp L n, .loop L n, .ldlc L n, .brtag L n, .fence L n] : List Instr) → exec c s = .next t →
    t.mem = s.mem ∧ t.poison = s.poison ∧ t.objs = s.objs ∧ t.trk = s.trk ∧ t.ports = s.ports ∧ t.noc = s.noc
      ∧ (s.flaws = [] → t.host = s.host ∧ t.dealer = s.dealer ∧ t.out = s.out) ∧ t.pending = s.pending ∧ (∀ i, i ≠ s.tileIx L → t.tileAt i = s.tileAt i)
      ∧ (∀ m, m ≠ n.val → t.stream L m = s.stream L m) ∧ (t.stream L n).handles = (s.stream L n).handles
      ∧ (t.stream L n).ops = (s.stream L n).ops ∧ (t.stream L n).tag = (s.stream L n).tag

/-- The engines' instructions join their engine's queue with the current tag, and the stream goes on at the next word (R141, R143, R147, R149,
R174, R190, R272); a RECV holds the stream's issue until it has taken its message. -/
def Obligations.EngineInstructionsIssue : Prop :=
  ∀ (s u : State) (L : Fin 128) (n : Fin 3) (slot w : Nat), s.mayIssue L n slot w → u = s.issued L n w →
    (∀ v r : State, insOp w = 0x10 → u.scratchTouch L (mmaWest w) 64 = (v, false) → v.scratchTouch L (mmaNorth w) 64 = (r, false) →
      u.mmaBad slot L n (u.stream L n).tag w = none →
      exec (.mma L n) s = .next (r.enqueue L n w (u.keepsOf slot ((feederOf (u.scratchRead L (mmaNorth w) 64)).span false)
        ++ u.keepsOf slot ((feederOf (u.scratchRead L (mmaWest w) 64)).span true)).dedup))
    ∧ (insOp w = 0x11 → exec (.vec L n) s = .next (u.enqueue L n w (u.vecPins slot L w)))
    ∧ (∀ (v x r : State) (d : DmaDesc) (t : Tensor) (f : Fmt), insOp w = 0x18 → d = u.dmaDesc L w →
      u.scratchTouch L (insDesc w) 64 = (v, false) →
      v.scratchTouch L (leAt (u.scratchRead L (insDesc w) 4) 0 2 * 64) 64 = (x, false) →
      x.scratchTouch L (leAt (u.scratchRead L (insDesc w) 4) 2 2 * 64) 64 = (r, false) →
      u.dmaBad slot L n (u.stream L n).tag d = none → u.tensorOf slot (u.stream L n).tag d.src = some t → fmtOfCode (leAt d.dst 8 1) = some f →
      ((u.job slot).det = false ∨ d.accw = false ∨ f.isInt = true) →
      exec (.dma L n) s = .next ((r.runAhead slot L (u.stream L n).tag w d).enqueue L n w (u.keepsOf slot t.extent)))
    ∧ (∀ r : State, insOp w = 0x20 → u.scratchTouch L (insDesc w) 64 = (r, false) → tensorBad (u.descBytes L w) = false →
      u.recvMisuse L (tget 0 (u.stream L n).sels (nbits w 24 3)) = none →
      exec (.recv L n) s = .next ((r.enqueue L n w []).modStream L n (fun x => { x with issueHeld := true })))
    ∧ (∀ (r : State) t o, insOp w = 0x21 → u.scratchTouch L (insDesc w) 64 = (r, false) → tensorBad (u.descBytes L w) = false →
      u.tensorOf slot (u.stream L n).tag (u.descBytes L w) = some t →
      o = ({ engine := .channel, word := BitVec.ofNat 128 w, tag := (u.stream L n).tag, pc := (u.stream L n).pc } : Op) →
      (u.ep L (nbits w 24 5)).sendMisuse (recordUnits (sendPayload o t)) = none →
      exec (.send L n) s = .next (r.enqueue L n w (u.keepsOf slot t.extent)))

/-- A stream held on a wait that is satisfied is released, and a remote SYNC of the job's current step acts on its object; one of a later step is
held, and while its stack's buffer of 256 is full it stays where it is; one of an earlier step is discarded and counted (R154, R156, R160, R165). -/
def Obligations.WaitsAndRemoteSignals : Prop :=
  (∀ (s : State) (L : Fin 128) (n : Fin 3), (s.stream L n).state = .wait → s.waitHolds L n (s.stream L n).waitHandle.toNat = true →
    exec (.waitSatisfied L n) s = .next ((s.waitTaken L n (s.stream L n).waitHandle.toNat).modStream L n
      (fun x => { x with state := .run, waitHandle := 0, waitDone := true })))
  ∧ (∀ (s u v : State) (src : Src) (p : Packet) (slot : Nat), s.takes src p u → p.ptype = 3 → u.findJob (tagJob p.tag) = some slot →
    tagStep p.tag = (u.job slot).step.toNat % 2 ^ 20 →
    u.signalObj slot (bits p.handle 0 16) (bits p.handle 16 4) (bits p.handle 20 16) = some v → exec (.sync src) s = .next v)
  ∧ (∀ (s u : State) (src : Src) (p : Packet) (slot : Nat), s.takes src p u → p.ptype = 3 → u.findJob (tagJob p.tag) = some slot →
    later 20 ((u.job slot).step.toNat % 2 ^ 20) (tagStep p.tag) = true → exec (.sync src) s = .next (u.stat slot 19 1))
  ∧ (∀ (s u : State) (src : Src) (p : Packet) (slot o : Nat), s.takes src p u → p.ptype = 3 → u.findJob (tagJob p.tag) = some slot →
    later 20 (tagStep p.tag) ((u.job slot).step.toNat % 2 ^ 20) = true → (u.job slot).objectOf (bits p.handle 0 16) = some o →
    (u.stack (o / 16384)).deferred.length < 256 →
    exec (.sync src) s = .next (u.modStack (o / 16384) (fun k => { k with deferred := k.deferred ++
      [⟨BitVec.ofNat 12 (tagJob p.tag), BitVec.ofNat 20 (tagStep p.tag), BitVec.ofNat 16 (bits p.handle 0 16),
        BitVec.ofNat 4 (bits p.handle 16 4), BitVec.ofNat 16 (bits p.handle 20 16), p.src, u.nextOrder⟩] })))
  ∧ (∀ (s : State) (p : Packet) (slot o : Nat), s.noc = [p] → p.ptype = 3 → s.findJob (tagJob p.tag) = some slot →
    later 20 (tagStep p.tag) ((s.job slot).step.toNat % 2 ^ 20) = true → (s.job slot).objectOf (bits p.handle 0 16) = some o →
    256 ≤ (s.stack (o / 16384)).deferred.length → exec (.sync .noc) s = .next s)
  ∧ (∀ (s u : State) (src : Src) (p : Packet), s.takes src p u → p.ptype = 3 → u.findJob (tagJob p.tag) = none →
    exec (.sync src) s = .next (u.raise 0x0424 (tagJob p.tag)
      (bits p.handle 0 16 + bits p.handle 16 4 * 2 ^ 16 + 1 * 2 ^ 20 + p.src.toNat * 2 ^ 24 + tagStep p.tag * 2 ^ 36)))

/-! ## Channels -/

/-- Opening and closing a channel; head updates, notices and spill (R241 to R244, R249, R255 to R257). -/
def Obligations.ChannelControlCompletes : Prop :=
  (∀ (s u : State) (src : Src) (p : Packet) (slot L e : Nat), s.takesCtl src 1 p u slot L e →
    u.openRefusal (tagJob p.tag) (bits p.handle 0 12) (p.spec 34 2 % 4096) (p.spec 36 4) p.src = none →
    exec (.openChannel src) s = .next ((u.modEp L e (fun x => { x.restart with
      state := .opened, msgSeq := 0, ringUnits := BitVec.ofNat 32 x.ringOf, spillUnits := BitVec.ofNat 32 x.spillOf })).originate
      (chanCtl u.self p.src (tagJob p.tag) (tagStep p.tag) (p.spec 34 2 % 4096) 2 0 (bits p.handle 0 12) 0 (u.ep L e).ringOf (u.ep L e).spillOf)))
  ∧ (∀ (s u : State) (src : Src) (p : Packet) (r : Nat), s.takes src p u → p.ptype = 2 → p.spec 32 1 = 1 →
    u.openRefusal (tagJob p.tag) (bits p.handle 0 12) (p.spec 34 2 % 4096) (p.spec 36 4) p.src = some r →
    exec (.openChannel src) s = .next (u.originate
      (chanCtl u.self p.src (tagJob p.tag) (tagStep p.tag) (p.spec 34 2 % 4096) 3 r (bits p.handle 0 12) 0 0 0)))
  ∧ (∀ (s u : State) (src : Src) (p : Packet) (slot L e : Nat), s.takesCtl src 2 p u slot L e → (u.ep L e).state = .opening →
    exec (.accept src) s = .next (u.modEp L e (fun x => { x.restart with
      state := .opened, msgSeq := 0, ringUnits := BitVec.ofNat 32 (p.spec 40 4), spillUnits := BitVec.ofNat 32 (p.spec 44 4) })))
  ∧ (∀ (s u : State) (src : Src) (p : Packet) (slot L e : Nat), s.takesCtl src 3 p u slot L e → (u.ep L e).state = .opening →
    (p.spec 33 1 % 8 = 1 ∨ p.spec 33 1 % 8 = 2) →
    exec (.refuse src) s = .next (u.modEp L e (fun x => { x with refuse := BitVec.ofNat 3 (p.spec 33 1), retry := true })))
  ∧ (∀ (s u : State) (src : Src) (p : Packet) (slot L e : Nat), s.takesCtl src 3 p u slot L e → (u.ep L e).state = .opening →
    p.spec 33 1 % 8 ≠ 1 → p.spec 33 1 % 8 ≠ 2 → exec (.refuse src) s
      = .next ((u.modEp L e (fun x => { x with refuse := BitVec.ofNat 3 (p.spec 33 1) })).openFailed slot L e (p.spec 33 1 % 8)))
  ∧ (∀ (s : State) (L : Fin 128) (e : Fin 32) (slot : Nat), s.slotOfTile L = some slot → (s.ep L e).state = .opening → (s.ep L e).retry = true →
    exec (.openRetry L e) s = .next ((s.modEp L e (fun x => { x with retry := false })).tellPeer slot L e 1 (s.ep L e).maxUnits))
  ∧ (∀ (s : State) (L : Fin 128) (e : Fin 32) (slot : Nat), s.slotOfTile L = some slot → (s.ep L e).state = .opening →
    exec (.openTimeout L e) s = .next (s.openFailed slot L e 0))
  ∧ (∀ (s u : State) (src : Src) (p : Packet) (slot L e : Nat), s.takesCtl src 4 p u slot L e → (u.ep L e).isRecv = true →
    (u.ep L e).state = .opened → (u.ep L e).head ≠ (u.ep L e).tail →
    exec (.close src) s = .next (u.modEp L e (fun x => { x with state := .closing })))
  ∧ (∀ (s u : State) (src : Src) (p : Packet) (slot L e : Nat), s.takesCtl src 4 p u slot L e → (u.ep L e).isRecv = false →
    (u.ep L e).state = .closing → exec (.close src) s = .next (u.modEp L e (fun x => { x with state := .closed })))
  ∧ (∀ (s u : State) (src : Src) (p : Packet) (slot L e : Nat), s.takesCtl src 5 p u slot L e → (u.ep L e).isRecv = false →
    later 32 (p.spec 36 4) (u.ep L e).head.toNat = true →
    exec (.headUpdate src) s = .next (u.modEp L e (fun x => { x with head := BitVec.ofNat 32 (p.spec 36 4) })))
  ∧ (∀ (s u : State) (src : Src) (p : Packet) (slot L e : Nat), s.takesCtl src 5 p u slot L e →
    later 32 (p.spec 36 4) (u.ep L e).head.toNat = false → exec (.headUpdate src) s = .next u)
  ∧ (∀ (s : State) (L : Fin 128) (e : Fin 32) (slot : Nat), s.slotOfTile L = some slot → (s.ep L e).valid = true → (s.ep L e).isRecv = true →
    (s.ep L e).isDealer = false → (s.ep L e).state = .opened → (s.ep L e).peerPkg ≠ s.self → (s.ep L e).head ≠ (s.ep L e).reported →
    exec (.headUpdateTimer L e) s
      = .next ((s.modEp L e (fun x => { x with reported := x.head })).tellPeer slot L e 5 (s.ep L e).head.toNat))
  ∧ (∀ (s : State) (L : Fin 128) (e : Fin 32) (slot : Nat), s.slotOfTile L = some slot → (s.ep L e).valid = true → (s.ep L e).isRecv = false →
    (s.ep L e).blocked = true → exec (.blockedNoticeTimer L e) s = .next (s.tellPeer slot L e 6 0))
  ∧ (∀ (s u : State) (src : Src) (p : Packet) (slot L e : Nat), s.takesCtl src 6 p u slot L e → (u.ep L e).isRecv = true →
    (u.ep L e).state = .opened → (u.ep L e).isDealer = false → (∀ i < 32, (u.ep L i).blocked = false) →
    exec (.blocked src) s = .next (u.reportHead slot L e))
  ∧ (∀ (s u : State) (src : Src) (p : Packet) (slot L e : Nat), s.takesCtl src 7 p u slot L e → (u.ep L e).isRecv = false →
    (u.ep L e).state = .opened → (u.ep L e).spillUnits ≠ 0 →
    exec (.spillReq src) s = .next (u.modEp L e (fun x => { x with spill := true })))
  ∧ (∀ (s u : State) (src : Src) (p : Packet) (slot L e : Nat), s.takesCtl src 8 p u slot L e → (u.ep L e).isRecv = false →
    exec (.spillEnd src) s = .next (u.modEp L e (fun x => { x with
      spillHead := BitVec.ofNat 32 (p.spec 36 4), spill := x.spill && decide (x.spillTail ≠ BitVec.ofNat 32 (p.spec 36 4)) })))
  ∧ (∀ (s : State) (L : Fin 128) (e : Fin 32) (slot : Nat), s.slotOfTile L = some slot → (s.ep L e).deadlockTimer = true →
    (s.ep L e).blocked = true → ∃ d, exec (.channelDeadlock L e) s = .next ((s.raise 0x0432 (s.job slot).id.toNat d).jobFault 0x0432))
  ∧ (∀ (s : State) (L : Fin 128) (e : Fin 32), (s.ep L e).deadlockTimer = true →
    exec (.deadlockTimerStop L e) s = .next (s.modEp L e (fun x => { x with deadlockTimer := false, crossedWith := none })))

/-- A message from SEND to RECV (R144, R149, R245 to R256, R268, R291, R322): the SEND that the channel unit takes places its message and starts,
one without space waits, and one that a replay suppresses only starts; the placed message is counted, and its completion drops its version
reference; a DATA packet
advances the tail with the last packet of the record; a RECV that the channel unit takes has the oldest record of the member that its set chooses,
and its completion writes the payload. -/
def Obligations.MessagesComplete : Prop :=
  (∀ (s r v : State) (L : Fin 128) (n : Fin 3) (slot pad : Nat) (o : Op) (p : SendPlan) (bs : List Byte), s.slotOfTile L = some slot →
    (s.stream L n).channelHead 0x21 = some o → s.engineHeld L = false → o.faultAddr = none → s.chanTakes slot L n = true →
    (s.stream L n).pendingSends = 0 → s.sendPlan slot L n o = some p → p.pad = some pad →
    (s.ep L (insEp o.word.toNat)).isDealer = false →
    (s.chanTake slot L n).scratchTouch L (insDesc o.word.toNat) 64 = (r, false) →
    r.engineRead ⟨slot, L, n, o.tag, o.inTrick⟩ dmaRegions false (if tagPass p.tag = 3 then [] else p.tensor.bytes) = (v, .ok bs) →
    ∃ u, exec (.sendPlace L n {}) s = .next u ∧ u = r.placeSend slot L n o p pad ∧ u.mem = v.mem ∧ u.objs = s.objs
      ∧ u.pending = s.pending
      ∧ (p.spill = false → (u.ep L (insEp o.word.toNat)).tail = p.tail + BitVec.ofNat 32 pad + BitVec.ofNat 32 p.len)
      ∧ (p.spill = true → (u.ep L (insEp o.word.toNat)).spillTail = p.tail + BitVec.ofNat 32 pad + BitVec.ofNat 32 p.len)
      ∧ (u.ep L (insEp o.word.toNat)).msgSeq = (s.ep L (insEp o.word.toNat)).msgSeq + 1
      ∧ (u.ep L (insEp o.word.toNat)).msgs = satAdd (s.ep L (insEp o.word.toNat)).msgs 1
      ∧ (u.ep L (insEp o.word.toNat)).bytes = satAdd (s.ep L (insEp o.word.toNat)).bytes bs.length
      ∧ (u.ep L (insEp o.word.toNat)).blocked = false)
  ∧ (∀ (s : State) (L : Fin 128) (n : Fin 3) (slot : Nat) (o : Op) (p : SendPlan), s.slotOfTile L = some slot →
    (s.stream L n).channelHead 0x21 = some o → s.engineHeld L = false → o.faultAddr = none → (s.stream L n).pendingSends = 0 →
    s.keepsReady o = true → s.sendPlan slot L n o = some p → p.pad = none →
    exec (.sendPlace L n {}) s = .next (s.modEp L (insEp o.word.toNat) (fun x => { x with
      blocked := true, head := if p.spill then x.head else p.head })))
  ∧ (∀ (s : State) (L : Fin 128) (n : Fin 3) (slot : Nat) (o : Op), s.slotOfTile L = some slot →
    (s.stream L n).channelHead 0x21 = some o → s.engineHeld L = false → o.faultAddr = none → s.chanTakes slot L n = true →
    0 < (s.stream L n).pendingSends →
    exec (.sendPlace L n {}) s = .next (((s.chanTake slot L n).modOp L n isQueuedChannel (fun q => { q with
      phase := .started, replayed := true })).modStream L n (fun y => { y with pendingSends := y.pendingSends - 1 })))
  ∧ (∀ (s : State) (L : Fin 128) (n : Fin 3) (slot : Nat) (o : Op), s.slotOfTile L = some slot →
    (s.stream L n).findOp (isStarted 0x21) = some o → o.replayed = true →
    exec (.sendComplete L n) s = .next (s.finishOp L n (isStarted 0x21)))
  ∧ (∀ (s : State) (L : Fin 128) (n : Fin 3) (slot : Nat) (o : Op), s.slotOfTile L = some slot →
    (s.stream L n).findOp (isStarted 0x21) = some o → o.replayed = false → (s.ep L (insEp o.word.toNat)).vrefOut = false →
    exec (.sendComplete L n) s = .next (s.finishOp L n (isStarted 0x21)))
  ∧ (∀ (s : State) (L : Fin 128) (n : Fin 3) (slot : Nat) (o : Op) (tag : Tag), s.slotOfTile L = some slot →
    (s.stream L n).findOp (isStarted 0x21) = some o → o.replayed = false → (s.ep L (insEp o.word.toNat)).vrefOut = true →
    tag = sendTag o (s.ep L (insEp o.word.toNat)).peerChannel 0 → tagPass tag ≠ 3 →
    exec (.sendComplete L n) s = .next ((s.finishOp L n (isStarted 0x21)).refChange L n o.pc (tagVersion tag)
      ((s.job slot).channelOf L (insEp o.word.toNat)) false))
  ∧ (∀ (s u : State) (src : Src) (p : Packet) (slot L e : Nat), s.takes src p u → p.ptype = 1 →
    u.endpointOf (tagJob p.tag) (bits p.handle 0 12) = some (slot, L, e) → (u.ep L e).isRecv = true → p.last = true → p.spec 44 1 = 0 →
    exec (.data src) s = .next ((u.writeArea slot L e false p.poison (p.spec 32 4) p.payload).modEp L e
      (fun x => { x with tail := x.tail + BitVec.ofNat 32 (p.spec 36 4) })))
  ∧ (∀ (s v x y : State) (L : Fin 128) (n : Fin 3) (slot k e : Nat) (o : Op) (spill : Bool) (ptr : Word) (h : List Byte) (tag : Tag)
      (sel : Dword), s.slotOfTile L = some slot → (s.stream L n).channelHead 0x20 = some o → s.engineHeld L = false → o.faultAddr = none →
    s.chanTakes slot L n = true → v = s.chanTake slot L n → sel = tget 0 (s.stream L n).sels (nbits o.word.toNat 24 3) →
    v.chooseMember slot L sel = some (k, e) → v.nextRecord slot L e = some (spill, ptr, h) → tag = BitVec.ofNat 128 (leAt h 16 16) →
    v.scratchTouch L (insDesc o.word.toNat) 64 = (x, false) → touchReads (some slot) false (v.headerLines slot L e) x = (y, false) →
    tagPass tag = 3 →
    ∃ u, exec (.recvTake L n) s = .next u ∧ (u.stream L n).tag = tag ∧ (u.stream L n).issueHeld = false
      ∧ tget 0 (u.stream L n).sels (nbits o.word.toNat 24 3) = selAdvance sel k ∧ u.mem = s.mem ∧ u.pending = s.pending)
  ∧ (∀ (s v x y : State) (L : Fin 128) (n : Fin 3) (slot k e : Nat) (o : Op) (t : Tensor) (spill : Bool) (ptr : Word) (h : List Byte)
      (tag : Tag) (sel : Dword), s.slotOfTile L = some slot → (s.stream L n).channelHead 0x20 = some o → s.engineHeld L = false →
    o.faultAddr = none →
    s.chanTakes slot L n = true → v = s.chanTake slot L n → sel = tget 0 (s.stream L n).sels (nbits o.word.toNat 24 3) →
    v.chooseMember slot L sel = some (k, e) → v.nextRecord slot L e = some (spill, ptr, h) → tag = BitVec.ofNat 128 (leAt h 16 16) →
    v.scratchTouch L (insDesc o.word.toNat) 64 = (x, false) → touchReads (some slot) false (v.headerLines slot L e) x = (y, false) →
    tagPass tag ≠ 3 → y.tensorOf slot tag (y.descBytes L o.word.toNat) = some t → t.payload = leAt h 8 4 →
    ∃ u, exec (.recvTake L n) s = .next u ∧ (u.stream L n).tag = tag ∧ (u.stream L n).issueHeld = false
      ∧ (spill = false → (u.ep L e).take = ptr + BitVec.ofNat 32 (leAt h 4 4)) ∧ (u.ep L e).head = (s.ep L e).head
      ∧ tget 0 (u.stream L n).sels (nbits o.word.toNat 24 3) = selAdvance sel k
      ∧ u.mem = s.mem ∧ u.objs = s.objs ∧ u.host = s.host ∧ u.pending = s.pending)
  ∧ (∀ (s u v x : State) (L : Fin 128) (n : Fin 3) (slot e : Nat) (o : Op) (t : Tensor) (bs : List Byte), s.slotOfTile L = some slot →
    (s.stream L n).findOp (isStarted 0x20) = some o → o.takenEp = some e → o.inSpill = false → o.faultAddr = none →
    (s.host.attached = true ∨ s.descOnHost slot L o = false) → s.scratchTouch L (insDesc o.word.toNat) 64 = (x, false) →
    s.tensorOf slot o.tag (s.descBytes L o.word.toNat) = some t →
    x.engineRead ⟨slot, L, n, o.tag, o.inTrick⟩ dmaRegions false
      (viewRange ((bits (s.ep L e).base 0 48 + o.recPtr.toNat % (s.ep L e).ringOf * 64 + 64 : Nat) : Int) t.payload) = (u, .ok bs) →
    u.engineWrite ⟨slot, L, n, o.tag, o.inTrick⟩ dmaRegions false t.direct (t.bytes.zip bs) = (v, .ok) →
    exec (.recvComplete L n {}) s = .next (v.finishRecv slot L n o e bs.length))

/-- A record's place in a ring (R246): it fits in the free space, it never runs past the ring's end, and its pad is what is left to the end. -/
def Obligations.RecordsStayInTheRing : Prop :=
  ∀ (size len pad : Nat) (tail head : Word), 0 < size → (tail - head).toNat ≤ size →
    placeIn size tail head len = some pad →
    (tail - head).toNat + pad + len ≤ size ∧ (pad = 0 ∨ (tail.toNat % size + pad = size ∧ size < tail.toNat % size + len))
    ∧ (pad = 0 → tail.toNat % size + len ≤ size)

/-! ## Engines -/

/-- The DMA engine and the array take their streams' work and end it (R72, R83, R90, R98 to R102, R110, R144, R147, R193): the engine goes on with
a transfer that it holds before any other, and a transfer that has moved waits for its completion, which writes the status block. -/
def Obligations.EnginesComplete : Prop :=
  (∀ (s u : State) (L : Fin 128) (n : Fin 3) (slot : Nat) (o : Op) (amb : Ambient) (f : Op → Bool), s.slotOfTile L = some slot →
    s.engineHeld L = false → (∀ m < 3, (s.stream L m).ops.any isDmaMoved = false) → (∀ m < 3, (s.stream L m).ops.any isDmaHeld = false) →
    (s.stream L n).dmaHead = some o → (∀ m < 3, m ≠ n.val → (s.stream L m).dmaHead = none) → s.keepsReady o = true →
    s.dmaHeld slot L o = false → (s.tile L).pick 2 [n.val] = some n.val →
    u = (s.applyAmb amb).modTile L (fun t => t.notePassed 2 [n.val] n) → f = (fun p => isDmaQueued p && p.word = o.word && p.pc = o.pc) →
    exec (.dmaTransferStart L amb) s = .next (u.dmaMove slot L n f o)
    ∧ ∀ (r v w : State) (d : DmaDesc) (a b : Tensor) (bs : List Byte) (st : Option NumStatus), u.dmaTouch L o.word.toNat = (r, false) →
      d = r.dmaDesc L o.word.toNat → r.tensorOf slot o.tag d.src = some a → r.tensorOf slot o.tag d.dst = some b →
      r.dmaValues ⟨slot, L, n, o.tag, o.inTrick⟩ d (d.bypass || o.word.getLsbD 24) a b = (v, .ok (bs, st)) →
      v.engineWrite ⟨slot, L, n, o.tag, o.inTrick⟩ d.dstRegions (d.bypass || o.word.getLsbD 24) b.direct (b.bytes.zip bs) = (w, .ok) →
      exec (.dmaTransferStart L amb) s = .next (w.modOp L n f (fun p => { p with
        phase := .moved, status := st.getD {}, statusAt := if st.isSome then b.status else 0, tracks := st.isSome })))
  ∧ (∀ (s : State) (L : Fin 128) (n : Fin 3) (slot : Nat) (o : Op) (amb : Ambient), s.slotOfTile L = some slot →
    s.engineHeld L = false → (∀ m < 3, (s.stream L m).ops.any isDmaMoved = false) → (s.stream L n).ops.find? isDmaHeld = some o →
    (∀ m < n.val, (s.stream L m).ops.any isDmaHeld = false) → o.faultAddr = none → s.dmaHeld slot L o = false →
    exec (.dmaTransferStart L amb) s = .next ((s.applyAmb amb).dmaMove slot L n isDmaHeld o))
  ∧ (∀ (s u : State) (L : Fin 128) (n : Fin 3) (slot : Nat) (o : Op), s.slotOfTile L = some slot → s.engineStopped L = false →
    (s.stream L n).ops.find? isDmaMoved = some o → (∀ m < n.val, (s.stream L m).ops.any isDmaMoved = false) → o.faultAddr = none →
    (s.host.attached = true ∨ o.statusAt < (hostBase : Int)) →
    s.writeStatus ⟨slot, L, n, o.tag, o.inTrick⟩ dmaRegions o.statusAt o.status = (u, .ok) →
    exec (.dmaComplete L) s = .next ((if o.tracks then u.recordNumeric L n slot o.inTrick o.status else u).finishOp L n isDmaMoved))
  ∧ (∀ (s u : State) (L : Fin 128) (n : Fin 3) (slot : Nat) (o : Op) (t : Tile) (amb : Ambient), s.slotOfTile L = some slot →
    s.engineHeld L = false → u = amb.held.foldl State.meetHeld (s.applyAmb amb) → u.offer L n = .block o → (∀ m < 3, m ≠ n.val → u.offer L m = .nothing) →
    ((u.tile L).endTurn [n.val]).arbitrate [n.val] = some (n.val, t) →
    exec (.arrayGrant L amb) s = .next ((u.modTile L (fun _ => t)).grantBlock slot L n o))
  ∧ (∀ (s u : State) (L : Fin 128) (n : Fin 3) (slot k : Nat) (t : Tile) (amb : Ambient), s.slotOfTile L = some slot →
    s.engineHeld L = false → u = amb.held.foldl State.meetHeld (s.applyAmb amb) → u.offer L n = .again k → (∀ m < 3, m ≠ n.val → u.offer L m = .nothing) →
    ((u.tile L).endTurn [n.val]).arbitrate [n.val] = some (n.val, t) →
    exec (.arrayGrant L amb) s = .next ((u.modTile L (fun _ => t)).grantAgain slot L n k))
  ∧ (∀ (s u : State) (L : Fin 128) (n : Fin 3) (slot r : Nat) (o : Op) (amb : Ambient), s.slotOfTile L = some slot →
    s.engineHeld L = false → u = amb.held.foldl State.meetHeld (s.applyAmb amb) → u.offer L n = .bad o r → (∀ m < 3, m ≠ n.val → u.offer L m = .nothing) →
    exec (.arrayGrant L amb) s = .next (u.refuse 0x0420 L n o.pc r (mmaBank o.word.toNat)))
  ∧ (∀ (s u : State) (L : Fin 128) (n : Fin 3) (i : Nat) (t : Trick), s.trickOf L n = some (i, t) → u = s.raise 0x0502 t.job.toNat 0 →
    s.meetHeld (.trickCopy L n) = ((u.noteRevoke L n 2 0xFFFF i).interruptTile L (u.now - t.since)).replay L n)
  ∧ (∀ (s : State) (L : Fin 128) (n : Fin 3), s.engineStopped L = false →
    exec (.mmaComplete L n) s = .next (s.finishOp L n isArrayMoved))
  ∧ (∀ (s u v : State) (L : Fin 128) (b : Fin 4) (slot : Nat) (c : SkipCheck) (r : List SkipCheck) (z : Bool), s.slotOfTile L = some slot →
    s.engineStopped L = false → ((s.tile L).bank b).checks = c :: r →
    s.checkSkip slot L ((s.tile L).bank b).stream ((s.tile L).bank b) c = (u, .ok (z, true)) →
    State.checkAll slot L ((s.tile L).bank b).stream ((s.tile L).bank b) [c] u = (v, none) →
    exec (.sparsityCheck L b) s = .next (v.modTile L (fun t => t.modBank b (fun x => { x with checks := r }))))
  ∧ (∀ (s u v : State) (L : Fin 128) (b : Fin 4) (slot : Nat) (c : SkipCheck) (r : List SkipCheck) (z : Bool), s.slotOfTile L = some slot →
    s.engineStopped L = false → ((s.tile L).bank b).checks = c :: r →
    s.checkSkip slot L ((s.tile L).bank b).stream ((s.tile L).bank b) c = (u, .ok (z, false)) →
    State.checkAll slot L ((s.tile L).bank b).stream ((s.tile L).bank b) (c :: r) u = (v, none) →
    exec (.sparsityCheck L b) s = .next (v.modTile L (fun t => t.recomputeBank b)))
  ∧ (∀ (s : State) (L : Fin 128) (b : Fin 4), s.engineStopped L = false → ((s.tile L).bank b).fed = true →
    ((s.tile L).bank b).checks = [] → ((s.tile L).bank b).recompute = false → ((s.tile L).bank b).state = .accumulating →
    exec (.bankComplete L b) s = .next (s.modTile L (fun t =>
      { t.modBank b (fun x => { x with state := .complete }) with completeOrder := t.completeOrder ++ [b.val] })))
  ∧ (∀ (s : State) (L : Fin 128) (k : Nat) (r : List Nat), (s.tile L).completeOrder = k :: r → (s.tile L).draining = none →
    (s.tile L).finQueue.length < 2 → s.engineStopped L = false →
    ∃ t e, exec (.drainStart L) s = .next t ∧ (t.tile L).draining = some k ∧ (t.tile L).completeOrder = r
      ∧ (t.tile L).finQueue = (s.tile L).finQueue ++ [e] ∧ e.bank = k ∧ e.readable = false ∧ e.cells = ((s.tile L).bank k).cells
      ∧ e.stream = ((s.tile L).bank k).stream ∧ e.tag = ((s.tile L).bank k).tag ∧ ((t.tile L).bank k).state = .draining
      ∧ t.mem = s.mem ∧ t.objs = s.objs ∧ t.pending = s.pending)
  ∧ (∀ (s : State) (L : Fin 128) (k : Nat), (s.tile L).draining = some k → s.engineStopped L = false →
    ∃ t, exec (.drainEnd L) s = .next t ∧ ((t.tile L).bank k).state = .free ∧ ((t.tile L).bank k).steps = []
      ∧ (t.tile L).draining = none ∧ (∀ e ∈ (t.tile L).finQueue, e.bank = k → e.readable = true) ∧ t.mem = s.mem ∧ t.objs = s.objs
      ∧ t.pending = s.pending)

/-- The vector engine's instructions (R123, R124, R128 to R135): on a stream that has the turn, each computes its function of its operands and
waits for its completion; the completion writes the status block and gives the signal (R72, R111). -/
def Obligations.VectorInstructionsComplete : Prop :=
  (∀ (s u v : State) (L : Fin 128) (n : Fin 3) (slot vop : Nat) (o : Op) (l : LoopDesc) (st : NumStatus) (x : VecRun) (amb : Ambient),
    s.vecTurn L n slot o l vop amb u → x = s.vecRunOf L n slot o l →
    (∀ (c : Instr) (f : Machine.Num → Machine.Num → Machine.Num → Machine.Num), (vop, c, f) ∈ ([
        (0x01, .vcopy L amb, fun a _ _ => a), (0x02, .vadd L amb, fun a b _ => a.add b), (0x03, .vsub L amb, fun a b _ => a.sub b),
        (0x04, .vmul L amb, fun a b _ => a.mul b), (0x05, .vfma L amb, Machine.Num.fma), (0x06, .vdiv L amb, fun a b _ => a.div b),
        (0x07, .vrcp L amb, fun a _ _ => Machine.Num.one.div a), (0x08, .vsqrt L amb, fun a _ _ => a.sqrt),
        (0x09, .vrsqrt L amb, fun a _ _ => rsqrtRef.at a),
        (0x0A, .vexp L amb, fun a _ _ => expRef.at a), (0x0B, .vlog L amb, fun a _ _ => logRef.at a),
        (0x0C, .vtanh L amb, fun a _ _ => tanhRef.at a),
        (0x0D, .vsigm L amb, fun a _ _ => sigmoidRef.at a),
        (0x0E, .vgelu L amb, fun a _ _ => geluRef.at a), (0x0F, .vmax L amb, fun a b _ => a.max b),
        (0x10, .vmin L amb, fun a b _ => a.min b), (0x40, .vstamp L amb, fun _ _ _ => Machine.Num.ofInt (u.tile L).stepCycle)]
        : List (Nat × Instr × (Machine.Num → Machine.Num → Machine.Num → Machine.Num))) →
      u.vecElements x true f = (v, .ok st) → exec c s = .next (v.vecMoved L n st l))
    ∧ (vop = 0x11 →
      u.vecElements x false (fun a b _ => if condHolds (vecCond o.word.toNat) a b then Machine.Num.one else Machine.Num.zero) = (v, .ok st) →
      exec (.vcmp L amb) s = .next (v.vecMoved L n st l))
    ∧ (∀ (c : Instr) (index : Bool) (f : List Machine.Num → Machine.Num × Option Machine.Num), (vop, c, index, f) ∈ ([
        (0x20, .rsum L amb, false, fun xs => (sumTree id xs, none)), (0x21, .rssq L amb, false, fun xs => (sumTree (fun y => y.mul y) xs, none)),
        (0x22, .rmv L amb, false, fun xs => ((meanVar (vecSample o.word.toNat) xs).1, some (meanVar (vecSample o.word.toNat) xs).2)),
        (0x23, .rmax L amb, false, fun xs => ((xs.drop 1).foldl Machine.Num.max (xs.headD .nan), none)),
        (0x24, .rmin L amb, false, fun xs => ((xs.drop 1).foldl Machine.Num.min (xs.headD .nan), none)),
        (0x25, .rmaxi L amb, true, fun xs => ((winner true xs).1, some (Machine.Num.ofInt (winner true xs).2))),
        (0x26, .rmini L amb, true, fun xs => ((winner false xs).1, some (Machine.Num.ofInt (winner false xs).2)))]
        : List (Nat × Instr × Bool × (List Machine.Num → Machine.Num × Option Machine.Num))) →
      u.vecReduce x index f = (v, .ok st) → exec c s = .next (v.vecMoved L n st l))
    ∧ (∀ (c : Instr) (excl seg : Bool), (vop, c, excl, seg) ∈ ([(0x30, .scan L amb, false, false), (0x31, .scanx L amb, true, false),
        (0x32, .sscan L amb, false, true), (0x33, .sscanx L amb, true, true)] : List (Nat × Instr × Bool × Bool)) →
      u.vecScan x excl seg = (v, .ok st) → exec c s = .next (v.vecMoved L n st l)))
  ∧ (∀ (s u : State) (L : Fin 128) (n : Fin 3) (slot : Nat) (o : Op), (s.tile L).vecStream = some n.val → s.slotOfTile L = some slot →
    (s.stream L n).findOp isVecMoved = some o → s.engineStopped L = false →
    s.writeStatus ⟨slot, L, n, o.tag, o.inTrick⟩ (nearRegions L) o.statusAt o.status = (u, .ok) →
    exec (.vecComplete L) s = .next (((u.recordNumeric L n slot o.inTrick o.status).modTile L (fun t => { t with
      vecStream := none, finQueue := if vecPop o.word.toNat then t.finQueue.drop 1 else t.finQueue })).finishOp L n isVecMoved))

/-! ## Numbers -/

/-- Shuffle reproduces the three test vectors of R69: x and y after round 9, and the result. -/
def Obligations.ShuffleReproducesItsVectors : Prop :=
  shuffleXY 0 0 0 0 0 = (0xE6E02248, 0x9BF675B9) ∧ shuffle 0 0 0 0 0 = 0x82D6
  ∧ shuffleXY 0 0 0 0 1 = (0x0590C464, 0xDE47C90F) ∧ shuffle 0 0 0 0 1 = 0xE3D8
  ∧ shuffleXY 0x0000000300000005 2 1 0 0 = (0xE965DD95, 0x3FBFE725) ∧ shuffle 0x0000000300000005 2 1 0 0 = 0x2925

/-- A W320 sum does not depend on the order in which its values are added (R58, R59, R361). -/
def Obligations.ExactSumsHaveNoOrder : Prop :=
  ∀ (w : W320) (xs ys : List Machine.Num), xs.Perm ys → xs.foldl W320.addNum w = ys.foldl W320.addNum w

/-- The payload of a SUM partial carries its accumulators: unpacking what was packed gives them back (R371, R372). -/
def Obligations.PartialsSurviveTransport : Prop :=
  ∀ ws : List W320, unpackSum ws.length (packSum ws) = ws

/-! ## Tricks -/

/-- TOPEN, TCOMMIT, TREVOKE, the completion of a TCOMMIT and the two timeouts (R285, R288 to R290, R297). -/
def Obligations.LocalTricksComplete : Prop :=
  (∀ (s u : State) (L : Fin 128) (n : Fin 3) (slot w : Nat), s.mayIssue L n slot w → u = s.issued L n w →
    (∀ i, insOp w = 0x30 → u.trickOf L n = none → (u.tile L).carries n = false → trickOperandBad w = false →
      (nbit w 25 = true → nbit w 24 = true) → u.freeSlot = some i → u.stackTricks (L / 32) < 64 →
      exec (.topen L n) s = .next (((((u.advance1 L n).signalAtIssue L n (insSig w)).nextOpen).modTrk (fun v => { v with locals := v.locals ++ [(i,
        { tile := L, stream := n, deferred := nbit w 24, perMb := nbit w 25, job := (u.job slot).id,
          step := BitVec.ofNat 20 (tagStep (u.stream L n).tag), mb := BitVec.ofNat 20 (tagMb (u.stream L n).tag),
          record := u.replayState L n (u.stream L n).pc, since := u.now })] })).modStream L n (fun x => { x with trick := some i })))
    ∧ (∀ i t, insOp w = 0x31 → u.trickOf L n = some (i, t) → (nbit w 24 = true → t.deferred = true ∧ t.perMb = true) →
      trickOperandBad w = false →
      exec (.tcommit L n) s = .next (((u.enqueue L n w []).modStream L n (fun x => { x with issueHeld := true })).modTrickOf L n
        (fun t => { t with committing := true, vote := nbit w 24 })))
    ∧ (∀ i t, insOp w = 0x32 → nbit w 24 = true → u.trickOf L n = some (i, t) → trickOperandBad w = false →
      exec (.trevokeRetry L n) s = .next ((u.noteRevoke L n 1 (u.stream L n).pc.toNat i).replay L n))
    ∧ (∀ i t, insOp w = 0x32 → nbit w 24 = false → u.trickOf L n = some (i, t) → t.sends = 0 → t.signals = 0 → trickOperandBad w = false →
      exec (.trevokeContinue L n) s = .next ((((((u.noteRevoke L n 1 (u.stream L n).pc.toNat i).dropTrick L n).modTile L
        (fun x => x.returnTakes n))).advance1 L n).signalAtIssue L n (insSig w))))
  ∧ (∀ (s : State) (L : Fin 128) (n : Fin 3) (slot i : Nat) (t : Trick), s.slotOfTile L = some slot → s.trickOf L n = some (i, t) →
    t.committing = true → s.engineStopped L = false → exec (.tcommitComplete L n true) s = .next (s.revokeLocal L n 2))
  ∧ (∀ (s u : State) (L : Fin 128) (n : Fin 3) (slot i : Nat) (t : Trick), s.slotOfTile L = some slot → s.trickOf L n = some (i, t) →
    t.committing = true → s.engineStopped L = false →
    u = ((((if t.deferred then s.handOver L n slot else ((s.publish slot t.staged).addNumeric slot t.num).dropTrick L n).releaseAll slot L
      n).stat slot 25 1).finishOp L n isTrickOpIn).modStream L n (fun x => { x with
        issueHeld := false, pending := 0, pendingSends := 0, pendingTakes := 0 }) →
    exec (.tcommitComplete L n false) s = .next (u.modStream L n (fun x => { x with resume := u.replayState L n x.pc })))
  ∧ (∀ (s : State) (i : Fin 256) (t : Trick), s.trickAt i = some t → bits s.trk.ctl 24 8 ≠ 0 →
    exec (.localTrickTimeout i) s = .next (s.revokeLocal t.tile t.stream 5))
  ∧ (∀ (s : State) (i : Fin 256) (t : Trick), s.trickAt i = some t → t.capWait = true →
    exec (.logCapacityTimeout i) s = .next (s.revokeLocal t.tile t.stream 4))

/-- Deck tricks (R286, R292, R299 to R302): a share becomes ready, of a pass with its votes, or without any where none is wanted; the coordinator
commits only with READY from every participant, revokes on a REFUSE or a timeout and ends with every DONE; a participant publishes a ready share,
revokes one, and starts again at RESUME; a log error found in a publication stops the package's heartbeat, which makes it a lost one. -/
def Obligations.DeckTricksComplete : Prop :=
  (∀ (s : State) (n : Fin 16) (r : StepRun) (e : Bool), (s.job n).run = some r → s.stepReady n r = true →
    s.shareFits (s.job n).id.toNat (stepKey r.step) = true →
    exec (.shareReady n none e) s = .next ((s.modJob n (fun j => { j with run := some { r with readySent := true } })).answerShare n
      (stepKey r.step) e))
  ∧ (∀ (s : State) (n : Fin 16) (m : BitVec 20) (i : Nat) (x : Share) (e : Bool),
    s.shareOf (s.job n).id.toNat true (s.job n).step.toNat m.toNat = some (i, x) → x.phase = .opened → 0 < bits (s.job n).trkCtl 8 8 →
    bits (s.job n).trkCtl 8 8 ≤ x.votes → (i ≠ 0 ∨ s.freeSlot.isSome = true) →
    exec (.shareReady n (some m) e) s = .next ((s.modJob n (fun j => { j with
      passes := modFirst (fun p => p.mb = m) (fun p => { p with readySent := true }) j.passes })).answerShare n ⟨x.step, x.mb, true⟩ e))
  ∧ (∀ (s : State) (n : Fin 16) (m : BitVec 20) (k : TrickKey) (e : Bool),
    s.shareOf (s.job n).id.toNat true (s.job n).step.toNat m.toNat = none → s.votelessPass n m = some k →
    s.shareFits (s.job n).id.toNat k = true →
    exec (.shareReady n (some m) e) s = .next ((s.modJob n (fun j => { j with
      passes := modFirst (fun p => p.mb = m) (fun p => { p with readySent := true }) j.passes })).answerShare n k e))
  ∧ (∀ (s u : State) (src : Src) (p : Packet) (n job : Nat) (k : TrickKey) (c : Coord), s.takesTrick src 1 p u n → job = (u.job n).id.toNat →
    k = trickKeyOf p → u.coordTakes p n = true → u.coordAt job k = some c → s.coordAt (s.job n).id.toNat k = some c →
    c.attempt = p.attempt → c.phase = .collecting → (u.job n).restoring = false →
    ((∀ m ∈ c.members, m ∈ c.ready ∨ m = p.src) → exec (.trickReady src) s
      = .next ((u.modCoord job k (fun c => { c with ready := addOnce c.ready p.src, phase := .committed, timer := false })).tellMembers
          c.members job k c.attempt 3 0 u.self))
    ∧ ((∃ m ∈ c.members, m ∉ c.ready ∧ m ≠ p.src) → exec (.trickReady src) s
      = .next (u.modCoord job k (fun c => { c with
        ready := addOnce c.ready p.src, timer := c.timer || p.src = u.self }))))
  ∧ (∀ (s u : State) (src : Src) (p : Packet) (n job : Nat) (k : TrickKey) (c : Coord), s.takesTrick src 2 p u n → job = (u.job n).id.toNat →
    k = trickKeyOf p → u.coordTakes p n = true → u.coordAt job k = some c → s.coordAt (s.job n).id.toNat k = some c →
    c.attempt = p.attempt → c.phase = .collecting → p.cause ≠ 7 → exec (.trickRefuse src) s = .next (u.coordRevoke job k p.cause p.src))
  ∧ (∀ (s u : State) (src : Src) (p : Packet) (n : Nat) (k : TrickKey) (x : Share), s.takesTrick src 3 p u n → k = trickKeyOf p →
    u.keyShare (u.job n).id.toNat k = some x → x.phase = .ready → x.attempt = p.attempt →
    (k.isPass = true → exec (.trickCommit src) s = .next (u.commitPass n x))
    ∧ (∀ r, k.isPass = false → (u.job n).run = some r → (u.job n).cutReady = false → exec (.trickCommit src) s = .next (u.commitStep n r x)))
  ∧ (∀ (s u : State) (src : Src) (p : Packet) (n : Nat) (k : TrickKey) (x : Share), s.takesTrick src 3 p u n → k = trickKeyOf p →
    u.keyShare (u.job n).id.toNat k = some x → x.phase ≠ .ready → exec (.trickCommit src) s = .next u)
  ∧ (∀ (s u : State) (src : Src) (p : Packet) (n : Nat) (k : TrickKey) (x : Share), s.takesTrick src 4 p u n → k = trickKeyOf p →
    p.cause ≠ 6 → p.cause ≠ 7 → u.keyShare (u.job n).id.toNat k = some x → x.attempt = p.attempt → (x.phase = .opened ∨ x.phase = .ready) →
    exec (.trickRevoke src) s = .next (u.revokeShare n k p.cause p.origin))
  ∧ (∀ (s u : State) (src : Src) (p : Packet) (n job : Nat) (k : TrickKey) (c : Coord), s.takesTrick src 5 p u n → job = (u.job n).id.toNat →
    k = trickKeyOf p → u.coordAt job k = some c → c.attempt = p.attempt → c.phase = .committed →
    (∀ m ∈ c.members, m ∈ c.done ∨ m = p.src) →
    exec (.trickDone src) s = .next ((u.modCoord job k (fun _ => { c with done := addOnce c.done p.src })).dropCoord job k))
  ∧ (∀ (s u : State) (src : Src) (p : Packet) (n : Nat) (k : TrickKey) (x : Share), s.takesTrick src 6 p u n → k = trickKeyOf p →
    (s.job n).restoring = false → (u.job n).restoring = false → (u.job n).restored = false → s.keyShare (s.job n).id.toNat k = some x →
    u.keyShare (u.job n).id.toNat k = some x → x.phase ≠ .draining → s.bankUp (s.job n) = true → x.attempt + 1 = p.attempt → k.isPass = false →
    exec (.trickResume src) s
      = .next (((u.resumeReset n).dropShare (u.job n).id.toNat k).restartStep n (some p.attempt)))
  ∧ (∀ (s : State) (i : Fin 64) (c : Coord), s.trk.coords[i.val]? = some c → c.timer = true → c.phase = .collecting →
    exec (.prepareTimeout i) s = .next (s.coordRevoke c.job.toNat ⟨c.step, c.mb, c.isPass⟩ 5 s.self))
  ∧ (∀ (s : State) (n : Fin 16) (x : Share), s.findShare n none .publishing = some x →
    exec (.publicationDone n ⟨none, false⟩) s = .next (((s.dropShare x.job.toNat ⟨x.step, x.mb, x.isPass⟩).completeStep n).tellCoord n
      ⟨x.step, x.mb, x.isPass⟩ x.attempt 5 0))
  ∧ (∀ (s u : State) (n : Fin 16) (m : BitVec 20) (x : Share) (p : PassRun), s.findShare n (some m) .publishing = some x →
    u = s.dropShare x.job.toNat ⟨x.step, x.mb, x.isPass⟩ → (u.job n).passes.find? (fun q => q.mb = m) = some p →
    exec (.publicationDone n ⟨some m, false⟩) s = .next ((u.completePass n p).tellCoord n ⟨x.step, x.mb, x.isPass⟩ x.attempt 5 0))
  ∧ (∀ (s : State) (n : Fin 16) (m : Option (BitVec 20)) (x : Share), s.findShare n m .publishing = some x →
    exec (.publicationDone n ⟨m, true⟩) s = .next (s.modTel (fun t => { t with heartbeat := false })))
  ∧ (∀ (s : State) (n : Fin 16) (mb : Option (BitVec 20)) (x : Share), s.findShare n mb .draining = some x →
    (s.drainedPorts x.job.toNat x.drainSeq = true → (x.cause ≠ 2 ∨ (s.job n).restoring = true ∨ s.bankUp (s.job n) = true) → exec (.revokeDrained n mb) s = .next (s.shareDrained n x))
    ∧ (s.drainedPorts x.job.toNat x.drainSeq = false → exec (.revokeDrained n mb) s = .next s))
/-! ## Hethlink -/

/-- The states of a link, its lanes, and the writes of a port's registers (R313, R316, R334 to R343, R345, R347, R349, R350, R353). -/
def Obligations.LinkStatesComplete : Prop :=
  (∀ (s : State) (p : Fin 16), s.awake = true → s.portExists p = true → (s.port p).state = .disabled → nbit (s.port p).ctl.toNat 27 = false →
    exec (.portEnable p) s = .next (s.modPort p (fun q => { q with ctl := putBits q.ctl 31 1 1, state := .detect })))
  ∧ (∀ (s : State) (p : Fin 16), s.awake = true → s.portExists p = true → (s.port p).state ≠ .up →
    exec (.portDisable p) s = .next (s.modPort p (fun q => { q with
      ctl := putBits q.ctl 31 1 0, state := .disabled, nbr := none, restoring := 0, rxLocked := false, regain := false,
      restriping := false, markerDue := false, rxRestripe := false })))
  ∧ (∀ (s : State) (p : Fin 16) (m : BitVec 8), s.pkg.thermtrip = false → (s.port p).state = .detect → s.minLanes p ≤ popCount (m &&& s.laneMask p) →
    exec (.signalDetect p m) s = .next (s.modPort p (fun q => { q with state := .train })))
  ∧ (∀ (s : State) (p : Fin 16) (rx tx : BitVec 8), (s.port p).state = .train → s.minLanes p ≤ popCount (rx &&& s.laneMask p) →
    s.minLanes p ≤ popCount (tx &&& s.laneMask p) →
    ∃ t, exec (.trainingDone p rx tx) s = .next t ∧ (t.port p).state = .align ∧ (t.port p).rxLanes = rx &&& s.laneMask p
      ∧ (t.port p).txLanes = tx &&& s.laneMask p ∧ (t.port p).expected = 0 ∧ (t.port p).nextSeq = 0 ∧ (t.port p).kitty = []
      ∧ (t.port p).ctl = (s.port p).ctl ∧ (∀ r : Fin 16, r ≠ p → t.port r = s.port r) ∧ t.mem = s.mem ∧ t.tiles = s.tiles
      ∧ t.host = s.host ∧ t.pending = s.pending)
  ∧ (∀ (s : State) (p : Fin 16) (rx tx : BitVec 8), (s.port p).state = .train →
    (popCount (rx &&& s.laneMask p) < s.minLanes p ∨ popCount (tx &&& s.laneMask p) < s.minLanes p) →
    exec (.trainingDone p rx tx) s = exec (.trainingFailed p) s)
  ∧ (∀ (s : State) (p : Fin 16), (s.port p).state = .train → exec (.trainingFailed p) s = .next ((s.modPort p (fun q => { q with
      lastDown := 5, state := .down, nbr := none, restoring := 0, rxLocked := false, regain := false,
      restriping := false, markerDue := false, rxRestripe := false })).raise 0x070B 0 (portDetail p)))
  ∧ (∀ (s : State) (p : Fin 16), (s.port p).state = .align →
    ∃ t k, exec (.alignLock p) s = .next t ∧ (t.port p).state = .discover ∧ (t.port p).rxLocked = true ∧ (t.port p).peerLocked = true
      ∧ (t.port p).txq = (s.port p).txq ++ [k] ∧ k.ptype.toNat = ptIdentity ∧ k.hopLocal = true ∧ k.payload = s.identityBlock p
      ∧ t.mem = s.mem ∧ t.host = s.host ∧ t.pending = s.pending)
  ∧ (∀ (s : State) (p : Fin 16), (s.port p).state = .align → exec (.alignTimeout p) s = .next (s.modPort p (fun q => { q with
      lastDown := 3, state := .down, nbr := none, restoring := 0, rxLocked := false, regain := false,
      restriping := false, markerDue := false, rxRestripe := false })))
  ∧ (∀ (s : State) (p : Fin 16), (s.port p).state = .discover → (s.port p).nbr = none →
    exec (.discoverTimeout p) s = .next (s.modPort p (fun q => { q with
      lastDown := 8, state := .down, nbr := none, restoring := 0, rxLocked := false, regain := false,
      restriping := false, markerDue := false, rxRestripe := false })))
  ∧ (∀ (s u : State) (p : Fin 16) (k : Packet), (s.port p).state = .discover →
    s.freeKitty p (fun x => x.pkt.ptype.toNat = ptIdentity) = some (k, u) → (u.port p).state = .discover →
    (u.modPort p (fun q => { q with nbr := some (Identity.ofBlock k.payload) })).mayCarry p = true →
    exec (.identity p) s = .next (((((u.modPort p (fun q => { q with nbr := some (Identity.ofBlock k.payload) })).modPort p
      (fun q => { q with state := .up, relink := none })).portEvent 0x0701 p 0).checkLanes p).sendOwed))
  ∧ (∀ (s u : State) (p : Fin 16) (k : Packet), (s.port p).state = .discover →
    s.freeKitty p (fun x => x.pkt.ptype.toNat = ptIdentity) = some (k, u) → (u.port p).state = .discover →
    (u.modPort p (fun q => { q with nbr := some (Identity.ofBlock k.payload) })).mayCarry p = false →
    exec (.identity p) s = .next (((u.modPort p (fun q => { q with nbr := some (Identity.ofBlock k.payload) })).modPort p
      (fun q => { q with state := .held })).portEvent 0x0705 p 0))
  ∧ (∀ (s : State) (p : Fin 16), s.awake = true → s.portExists p = true → (s.port p).state ≠ .up →
    exec (.portFence p) s = .next (s.modPort p (fun q => { q with ctl := putBits q.ctl 30 1 1 })))
  ∧ (∀ (s : State) (p : Fin 16), s.awake = true → s.portExists p = true → (s.port p).state ≠ .held →
    exec (.portUnfence p) s = .next (s.modPort p (fun q => { q with ctl := putBits q.ctl 30 1 0 })))
  ∧ (∀ (s : State) (p : Fin 16), (s.port p).state = .up → (s.port p).rxLocked = true →
    exec (.frameLockLost p) s = .next (s.modPort p (fun q => { q with rxLocked := false, regain := true })))
  ∧ (∀ (s : State) (p : Fin 16), (s.port p).state = .up → (s.port p).regain = true →
    ((s.port p).rxRestripe = false →
      exec (.frameLockRegained p) s = .next (s.modPort p (fun q => { q with rxLocked := true, regain := false })))
    ∧ ∃ t, exec (.frameLockTimeout p) s = .next t ∧ (t.port p).state = .down ∧ (t.port p).lastDown = 3 ∧ t.mem = s.mem
        ∧ t.pending = s.pending)
  ∧ (∀ (s : State) (p : Fin 16) (l : Fin 8), (s.port p).aligned = true → (s.port p).restoring.getLsbD l = true →
    exec (.laneRestored p l) s = .next ((s.modPort p (fun q => { q with
      restoring := q.restoring &&& ~~~((1 : BitVec 8) <<< l.val), failedLanes := q.failedLanes &&& ~~~((1 : BitVec 8) <<< l.val),
      rxLanes := q.rxLanes ||| ((1 : BitVec 8) <<< l.val), rxLocked := false, regain := true, rxRestripe := true })).raise 0x0704 0 (portDetail p + l.val * 2 ^ 8)))
  ∧ (∀ (s : State) (p : Fin 16), s.awake = true → (s.port p).aligned = true →
    exec (.laneRestore p) s = .next (s.modPort p (fun q => { q with restoring := q.failedLanes })))
  ∧ (∀ (s : State) (p : Fin 16) (l : Fin 8), (s.port p).state = .align → (s.port p).rxLanes.getLsbD l = true →
    exec (.laneFailure p l) s = .next (((s.modPort p (fun q => { q with
      rxLocked := false, regain := false, rxRestripe := false, rxLanes := q.rxLanes &&& ~~~((1 : BitVec 8) <<< l.val),
      failedLanes := q.failedLanes ||| ((1 : BitVec 8) <<< l.val) })).portCount p 11 1).raise 0x0703 0 (portDetail p + l.val * 2 ^ 8)))
  ∧ (∀ (s u : State) (p : Fin 16) (l : Fin 8), (s.port p).aligned = true → (s.port p).rxLanes.getLsbD l = true →
    u = ((s.modPort p (fun q => { q with
      rxLocked := false, regain := true, rxRestripe := true, rxLanes := q.rxLanes &&& ~~~((1 : BitVec 8) <<< l.val),
      failedLanes := q.failedLanes ||| ((1 : BitVec 8) <<< l.val) })).portCount p 11 1).raise 0x0703 0 (portDetail p + l.val * 2 ^ 8) →
    (((u.port p).state ≠ .up ∨ (s.minLanes p ≤ popCount (u.port p).rxLanes ∧ s.minLanes p ≤ popCount (u.port p).txLanes)) →
      exec (.laneFailure p l) s = .next u)
    ∧ ((u.port p).state = .up → popCount (u.port p).rxLanes < s.minLanes p → exec (.laneFailure p l) s = .next (u.portDown p 2)))
  ∧ (∀ (s : State) (p : Fin 16), (s.port p).aligned = true → (s.port p).rxRestripe = true →
    exec (.restripeLock p) s = .next (s.modPort p (fun q => { q with
      rxLocked := true, regain := false, rxRestripe := false, nak := true, nakId := q.nakId + 1 })))
  ∧ (∀ (s : State) (p : Fin 16), ((s.port p).state = .train ∨ (s.port p).state = .align ∨ (s.port p).state = .discover ∨ (s.port p).state = .held) →
    exec (.peerIdle p) s = .next (s.modPort p (fun q => { q with
      lastDown := 4, state := .down, nbr := none, restoring := 0, rxLocked := false, regain := false,
      restriping := false, markerDue := false, rxRestripe := false })))
  ∧ (∀ (s : State) (p : Fin 16), (s.port p).state = .down → nbit (s.port p).ctl.toNat 29 = true → nbit (s.port p).ctl.toNat 27 = false →
    exec (.holdoffExpiry p) s = .next (s.modPort p (fun q => { q with state := .detect })))
  ∧ (∀ (s : State) (p : Fin 16) (l : Fin 8), (s.port p).state = .loopback → (s.laneMask p).getLsbD l = true →
    exec (.loopbackCheckerLock p l) s = .next (s.modPort p (fun q => { q with
      lbLanes := tput q.lbLanes l (putBits (tget 0 q.lbLanes l) 63 1 1) })))
  ∧ (∀ (s : State) (p : Fin 16), s.awake = true → exec (.hlCntClr p) s = .next (s.modPort p (fun q => { q with counters := [] })))
  ∧ (∀ (s : State) (p : Fin 16) (c : Fin 5) (v : Dword), s.awake = true → bits v 61 2 ≠ 3 → bits v 59 2 ≠ 3 → (c = 4 → bits v 61 2 ≠ 2 ∧ bits v 59 2 ≠ 2) →
    exec (.hlFiWrite p c v) s = .next (s.modPort p (fun q => { q with
      fi := tput q.fi c (oneFor (if bits v 59 2 = 0 then [(24, 5)] else []) (v &&& 0xFE00FFFFFFFFFFFF)), fiLeft := tput q.fiLeft c (bits v 24 24) })))
  ∧ (∀ (s : State) (p : Fin 16) (d : Fin 4096) (v : Word), s.awake = true → codeOk (bits v 24 5) = true → codeOk (bits v 16 5) = true →
    codeOk (bits v 8 5) = true → s.deckUses d = false →
    exec (.rtEntryWrite (some p) d v) s = .next (s.modPort p (fun q => { q with routes := tput q.routes d (v &&& 0x1F1F1F00) }))
    ∧ exec (.rtEntryWrite none d v) s = .next { s with originRoutes := tput s.originRoutes d (v &&& 0x1F1F1F00) })
  ∧ (∀ (s : State) (p : Fin 16) (c : Fin 4) (v : Word), s.awake = true → (s.port p).state = .up →
    exec (.kittyClassWrite p c v) s = .next (s.modPort p (fun q => { q with reject := true })))
  ∧ (∀ (s : State) (p : Fin 16) (c : Fin 4) (v : Word), s.awake = true → (s.port p).state = .disabled → 65 ≤ bits v 0 16 → bits v 0 16 ≤ bits v 16 16 →
    (s.port p).reserve 0 + (s.port p).reserve 1 + (s.port p).reserve 2 + (s.port p).reserve 3 - (s.port p).reserve c + bits v 0 16
      ≤ s.kittySize p / 2 →
    exec (.kittyClassWrite p c v) s = .next (s.modPort p (fun q => { q with kittyClass := tput q.kittyClass c v })))

/-- Frames and packets of a link (R317, R320, R325 to R333, R340, R342, R344, R349, R353, R574): a frame's control block names where the first
header of its packet stream begins, a re-stripe marker that is due follows the frame's block, and after a header that it cannot trust a port
takes nothing until a good control block. -/
def Obligations.PacketsMoveOnLinks : Prop :=
  (∀ (s : State) (p : Fin 16) (h : List Bool), s.pkg.thermtrip = false →
    ((s.port p).state = .align ∨ ((s.port p).aligned = true ∧ (s.port p).resend = [])) → tget 0 (s.port p).fi 4 = 0 →
    ∃ t b, exec (.frameTransmit p h) s = .next t
      ∧ t.out = (if (s.port p).markerDue then [.restripeMarker p (s.port p).txLanes] else [])
          ++ .control p b ((4168 - (s.port p).placed) / 8) .none :: s.out ∧ b.length = 64
      ∧ leAt b 0 4 = ((s.port p).expected - 1).toNat + 15 * 2 ^ 24 ∧ leAt b 56 4 = (crc32c (b.take 56)).toNat
      ∧ ((s.port p).hdrAt = none → leAt b 8 2 = 0xFFFF) ∧ (∀ o < 65536, (s.port p).hdrAt = some o → leAt b 8 2 = o)
      ∧ (t.port p).placed = (if (s.port p).markerDue then 0 else (s.port p).placed - 4168) ∧ (t.port p).markerDue = false
      ∧ (t.port p).hdrAt = (if (s.port p).markerDue then none else (s.port p).hdrNext) ∧ (t.port p).hdrNext = none
      ∧ (t.port p).txq = (s.port p).txq
      ∧ (t.port p).kitty = (s.port p).kitty ∧ t.mem = s.mem ∧ t.host = s.host ∧ t.pending = s.pending)
  ∧ (∀ (s : State) (p : Fin 16) (b : List Byte) (fec : Nat × Nat), (s.port p).aligned = true →
    (leAt b 56 4 ≠ (crc32c (b.take 56)).toNat ∨ nbits (leAt b 0 4) 24 4 ≠ 15) →
    exec (.controlBlock p ⟨b, fec⟩) s = .next (((s.portCount p 9 fec.1).portCount p 10 fec.2).portCount p 8 1))
  ∧ (∀ (s : State) (p : Fin 16) (b : List Byte) (fec : Nat × Nat), (s.port p).aligned = true → leAt b 56 4 = (crc32c (b.take 56)).toNat →
    nbits (leAt b 0 4) 24 4 = 15 → BitVec.ofNat 8 (leAt b 6 1) &&& s.laneMask p = (s.port p).txLanes → nbit (leAt b 4 1) 0 = false →
    ∃ t, exec (.controlBlock p ⟨b, fec⟩) s = .next t ∧ (t.port p).peerLocked = nbit (leAt b 4 1) 1
      ∧ (t.port p).replay = purge (leAt b 0 4 % 2 ^ 24) (fun c => leAt b (28 + 4 * c) 4) (s.port p).replay
      ∧ (∀ c < 4, tget 0 (t.port p).limit c = if later 32 (leAt b (12 + 4 * c) 4) (tget 0 (s.port p).limit c).toNat
          then BitVec.ofNat 32 (leAt b (12 + 4 * c) 4) else tget 0 (s.port p).limit c)
      ∧ (t.port p).kitty = (s.port p).kitty ∧ (t.port p).txq = (s.port p).txq ∧ t.mem = s.mem ∧ t.host = s.host ∧ t.pending = s.pending)
  ∧ (∀ (s : State) (p : Fin 16) (b : List Byte) (fec : Nat × Nat), (s.port p).state = .discover → leAt b 56 4 = (crc32c (b.take 56)).toNat →
    nbits (leAt b 0 4) 24 4 = 15 → BitVec.ofNat 8 (leAt b 6 1) &&& s.laneMask p ≠ (s.port p).txLanes → nbit (leAt b 4 1) 0 = false →
    ∃ t, exec (.controlBlock p ⟨b, fec⟩) s = .next t ∧ (t.port p).txLanes = BitVec.ofNat 8 (leAt b 6 1) &&& s.laneMask p
      ∧ (t.port p).markerDue = true ∧ (t.port p).restriping = true ∧ (t.port p).placed = (s.port p).placed ∧ t.mem = s.mem
      ∧ t.pending = s.pending)
  ∧ (∀ (s : State) (p : Fin 16), (s.port p).aligned = true → (s.port p).replay ≠ [] →
    exec (.replayTimer p) s = .next (s.startReplay p))
  ∧ (∀ (s : State) (p : Fin 16) (w : List Byte), (s.port p).aligned = true → (s.port p).rxLocked = true →
    (s.port p).searching = false → leAt w 56 4 ≠ (crc32c (w.take 56)).toNat → 64 ≤ w.length →
    exec (.packetArrival p w) s = .next (((s.portCount p 4 1).modPort p Port.raiseNak).modPort p (fun q => { q with searching := true })))
  ∧ (∀ (s : State) (p : Fin 16) (w : List Byte), (s.port p).searching = true → exec (.packetArrival p w) s = .next s)
  ∧ (∀ (s : State) (p : Fin 16) (k : Packet) (r : List Packet) (c : Fin 4), s.pkg.thermtrip = false → (s.port p).sending = true → s.nextClass p = some c.val →
    (s.port p).txq = k :: r → k.cls.toNat = c.val → s.sendReady p k = true →
    exec (.packetFirstSend p c false) s = .next ((s.modPort p (fun q => { q with txq := r })).firstSend p k false))
  ∧ (∀ (s : State) (p : Fin 16) (r : ReplayPkt) (b : Bool), s.pkg.thermtrip = false → (s.port p).restriping = false →
    (s.port p).reorder = some (r, b) →
    exec (.reorderTimeout p) s = .next ((s.modPort p (fun q => { q with
      reorder := none, placed := q.placed + 72 + r.pkt.payload.length,
      hdrAt := if q.hdrAt.isNone && decide (q.placed < 4168) then some q.placed else q.hdrAt,
      hdrNext := if q.hdrNext.isNone && decide (4168 ≤ q.placed) then some (q.placed - 4168) else q.hdrNext })).emit (.packet p r.pkt r.seq b .none)))
  ∧ (∀ (s u : State) (p : Fin 16) (q : Nat) (c : Fin 4) (k : Packet), s.passing p c = some (k, some q) →
    s.freeKitty p (fun x => x.pkt = k) = some (k, u) → (s.port q).state = .up → (s.port q).sending = true → s.nextClass q = some c.val →
    s.sendReady q k = true → exec (.packetForward p c false) s = .next (u.firstSend q k false))
  ∧ (∀ (s u : State) (p : Fin 16) (c : Fin 4) (k : Packet), s.passing p c = some (k, none) → s.freeKitty p (fun x => x.pkt = k) = some (k, u) →
    exec (.packetForward p c false) s = .next (u.discardUnroutable p false k))
  ∧ (∀ (s : State) (p : Fin 16) (c : Fin 4) (k : KittyPkt) (r : List KittyPkt), (s.port p).kitty = k :: r → k.freed = false →
    k.stalled = false → k.pkt.cls.toNat = c.val →
    exec (.kittyStall p c) s = .next ((s.modPort p (fun q => { q with kitty := { k with stalled := true } :: r })).raise 0x0709 0 (portDetail p)))

/-- A packet that arrives as another port has sent it (R319, R320, R323, R326): at a port that is UP, whole and with the expected sequence number,
and not searching for a header, the bytes of a well-formed packet put exactly that packet, every field of it, at the end of the kitty, and nothing
else changes but the sequence number, the `nak` bit and the count of received packets. -/
def Obligations.PacketsArriveAsSent : Prop :=
  ∀ (s : State) (p : Fin 16) (k : Packet) (b : Bool), (s.port p).state = .up → (s.port p).rxLocked = true →
    (s.port p).searching = false → k.payload.length % 64 = 0 → k.payload.length ≤ 4096 → k.malformed (k.payload.length / 64) = false →
    exec (.packetArrival p (k.wire (s.port p).expected b)) s = .next ((s.modPort p (fun q => { q with
      kitty := q.kitty ++ [{ pkt := k }], expected := q.expected + 1, nak := false })).portCount p 2 1)
/-! ## Meld -/

/-- The Meld engines (R364 to R381, R384, R386): a trigger starts a firing, whatever earlier firings of its context still run; control and data
packets act on their context, and a relay's firing that a DEMAND names is recorded and starts when it is the next one; a firing that is over ends;
the tables take the host's writes, a write to an entry of a placed job is discarded, and a write that would make a context without contributions
valid is refused. -/
def Obligations.MeldCompletes : Prop :=
  (∀ (s : State) (e : Fin 2) (k : Fin 512) (amb : Ambient) (n o : Nat), s.findJob (s.mctx e k).job = some n → (s.mctx e k).valid = true →
    (s.mctx e k).trigStep ≠ 0 → (s.mctx e k).srcCount ≠ 0 → s.meldLive n = true → s.homeWaits n (s.mctx e k) = false →
    (s.job n).objectOf (s.mctx e k).trigObj = some o →
    reached (s.obj o).value (BitVec.ofNat 32 ((s.mctx e k).trigBase + (s.mctx e k).started * (s.mctx e k).trigStep)) = true →
    exec (.meldTrigger e k amb) s = .next ((s.applyAmb amb).startFiring e k n (s.mctx e k).started))
  ∧ (∀ (s u v : State) (src : Src) (p : Packet) (e k n sh num : Nat) (f : Firing), s.takesMeld src (isMeldCtl 2) p u e k n →
    sh = bits p.handle 12 12 → num = tagMb p.tag → v = u.meldCount e 0 1 → v.shardOk e (v.mctx e k) sh = true → v.firing e k num = some f →
    (∀ h ∈ f.children, h.shard = sh → h.pkg ≠ p.src) →
    (f.children.filter (fun h => h.shard = sh)).length < shardUp (v.shardWord e (v.mctx e k) sh) → (v.mctx e k).spreads = false →
    exec (.join src) s = .next (((v.modFiring e k num (fun f => { f with
      children := f.children ++ [{ shard := sh, pkg := p.src }] })).meldProgress e k n).relayStart e k n))
  ∧ (∀ (s u v : State) (src : Src) (p : Packet) (e k n sh : Nat), s.takesMeld src (isMeldCtl 1) p u e k n → sh = bits p.handle 12 12 →
    v = u.meldCount e 0 1 → v.shardOk e (v.mctx e k) sh = true →
    exec (.grant src) s = .next ((v.modFiring e k (tagMb p.tag) (fun f =>
      if later 32 (p.spec 36 4) (tget 0 f.grants sh).toNat then { f with grants := tput f.grants sh (BitVec.ofNat 32 (p.spec 36 4)) }
      else f)).meldProgress e k n))
  ∧ (∀ (s u v : State) (src : Src) (amb : Ambient) (p : Packet) (e k n sh : Nat), s.takesMeld src (isMeldCtl 3) p u e k n →
    sh = bits p.handle 12 12 → v = (u.meldCount e 0 1).applyAmb amb → v.shardOk e (v.mctx e k) sh = true →
    shardRoot (v.shardWord e (v.mctx e k) sh) = false → (v.mctx e k).trigStep = 0 →
    exec (.demand src amb) s = .next (v.meldSend e { p with dst := shardParent (v.shardWord e (v.mctx e k) sh) }))
  ∧ (∀ (s u v w : State) (src : Src) (amb : Ambient) (p : Packet) (e k n sh : Nat), s.takesMeld src (isMeldCtl 3) p u e k n →
    sh = bits p.handle 12 12 → v = (u.meldCount e 0 1).applyAmb amb → v.shardOk e (v.mctx e k) sh = true →
    shardRoot (v.shardWord e (v.mctx e k) sh) = false → (v.mctx e k).trigStep ≠ 0 → (v.mctx e k).srcCount = 0 →
    (v.mctx e k).started ≤ tagMb p.tag →
    w = ((v.meldSend e { p with dst := shardParent (v.shardWord e (v.mctx e k) sh) }).haveFiring e k (tagMb p.tag)).modFiring e k (tagMb p.tag)
      (fun f => { f with demanded := true }) →
    exec (.demand src amb) s = .next (w.relayStart e k n)
    ∧ ∀ m, tagMb p.tag = (v.mctx e k).started → w.meldLive n = true → w.homeWaits n (v.mctx e k) = false → (w.meld e).firings.length = m + 1 →
      exec (.demand src amb) s = .next (relayLoop e k n m (w.startFiring e k n (v.mctx e k).started)))
  ∧ (∀ (s u v w : State) (src : Src) (amb : Ambient) (p : Packet) (e k n sh : Nat), s.takesMeld src (isMeldCtl 3) p u e k n →
    sh = bits p.handle 12 12 → v = (u.meldCount e 0 1).applyAmb amb → v.shardOk e (v.mctx e k) sh = true →
    shardRoot (v.shardWord e (v.mctx e k) sh) = true → (v.mctx e k).trigStep = 0 →
    answerDemand e k n (tagMb p.tag) (tagVersion p.tag) p.src (v.meldSources e (v.mctx e k)) sh (List.range ((v.mctx e k).slabsIn sh)) v
      = (w, none) →
    exec (.demand src amb) s = .next w)
  ∧ (∀ (s u v : State) (src : Src) (p : Packet) (e k n sh i : Nat) (f : Firing) (x : Slab),
    s.takesMeld src (fun q => q.ptype.toNat = ptMeldData) p u e k n → v = u.meldCount e 0 1 → sh = bits p.handle 12 12 →
    v.shardOk e (v.mctx e k) sh = true → ((v.mctx e k).shardRange sh).1 ≤ p.spec 32 4 → p.spec 32 4 + p.spec 36 2 ≤ ((v.mctx e k).shardRange sh).2 →
    i = p.spec 32 4 - ((v.mctx e k).shardRange sh).1 → v.firing e k (tagMb p.tag) = some f → f.slab sh (i / 1024) = some x →
    p.poison = false → p.spec 38 1 ≠ 3 → (v.mctx e k).reduces = true → x.got < shardUp (v.shardWord e (v.mctx e k) sh) → x.dealt = false →
    x.sent = false →
    exec (.meldData src) s = .next (((v.modSlab e k (tagMb p.tag) sh (i / 1024) (fun x =>
      { ((x.addPartial (v.mctx e k).op (p.spec 38 1) (i % 1024) (p.spec 36 2) p.payload).addCounts (i % 1024) (p.spec 36 2) (p.spec 40 4)) with
        got := if nbit (p.spec 39 1) 0 then x.got + 1 else x.got })).meldCount e 2 (p.spec 36 2)).meldProgress e k n))
  ∧ (∀ (s u v : State) (src : Src) (p : Packet) (e k n : Nat), s.takesMeld src (isMeldCtl 4) p u e k n → v = u.meldCount e 0 1 →
    exec (.ssqSource src) s = .next (v.feedNoise e (v.mctx e k) (tagMb p.tag) (fun x => { x with
      sources := x.sources ++ [(p.src, p.spec 34 2 % 16, p.spec 34 2 / 16 % 1024, BitVec.ofNat 48 (p.spec 40 6))] })))
  ∧ (∀ (s u v : State) (src : Src) (p : Packet) (e k n : Nat), s.takesMeld src (isMeldCtl 5) p u e k n → v = u.meldCount e 0 1 →
    exec (.ssqShard src) s = .next (v.feedNoise e (v.mctx e k) (tagMb p.tag) (fun x => { x with
      shards := x.shards ++ [(bits p.handle 12 12, BitVec.ofNat 48 (p.spec 40 6))] })))
  ∧ (∀ (s : State) (e : Fin 2) (k : Fin 512) (n : Nat) (f : Firing), s.findJob (s.mctx e k).job = some n →
    (s.activeFirings e k).find? (fun f => s.firingOver e k f) = some f → (s.mctx e k).kind = 3 → f.version = none →
    ∃ t, t = (((s.gatherEnd f.home).stat n 33 1).modMctx e k (fun x => { x with done := x.done + 1 })).modMeld e (fun m => { m with
        firings := m.firings.filter (fun g => !(g.slot = k.val && g.number = f.number)) })
      ∧ exec (.meldFiringEnd e k) s = .next (((t.signalObj n (s.mctx e k).doneObj 1 1).getD t).relayStart e k n))
  ∧ (∀ (s : State) (e : Fin 2), s.awake = true → exec (.mldCntClr e) s = .next (s.modMeld e (fun m => { m with counters := [] })))
  ∧ (∀ (s : State) (e : Fin 2) (v : Dword) (b : Bool), s.awake = true →
    exec (.mldEntryWrite e 0x200 v b) s = .next (s.modMeld e (fun m => { m with srcIndex := BitVec.ofNat 12 (bits v 0 12) })))
  ∧ (∀ (s : State) (e : Fin 2) (v : Dword), s.awake = true → s.sourceHeld e (s.meld e).srcIndex.toNat = true →
    exec (.mldEntryWrite e 0x210 v false) s = .next (s.modHost (fun h => { h with glbReject := true })))
  ∧ (∀ (s : State) (e : Fin 2) (v : Dword) (m : Meld), s.awake = true → s.sourceHeld e (s.meld e).srcIndex.toNat = false →
    m = { s.meld e with
      sources := tput (s.meld e).sources (s.meld e).srcIndex.toNat ((tget (0, 0) (s.meld e).sources (s.meld e).srcIndex.toNat).1, v) } →
    m.ctxs.any (fun (x : Nat × MeldCtx) => x.2.valid && s.ctxClash m x.2) = false →
    exec (.mldEntryWrite e 0x210 v false) s = .next (s.modMeld e (fun _ => m)))
  ∧ (∀ (s : State) (e : Fin 2) (k : Fin 512) (v : Dword), s.awake = true → ((s.mctx e k).valid = false ∨ s.findJob (s.mctx e k).job = none) →
    ((s.mctx e k).write 0 v).valid = true → ((s.mctx e k).write 0 v).contribs = 0 →
    exec (.mldEntryWrite e (BitVec.ofNat 16 (0x8000 + 0x40 * k.val)) v false) s = .next (s.modMeld e (fun m => { m with reject := true })))
  ∧ (∀ (s u w z : State) (k : Fin 128) (v : BitVec 8) (amb : Ambient) (n e c num : Nat) (x : Keep) (m : MeldCtx) (order own : List (Nat × Nat)),
    x = s.keep k → s.findJob x.job.toNat = some n → s.findCtx x.job.toNat x.recipe.toNat = some (e, c) → m = s.mctx e c →
    x.valid = true → (x.state = 0 ∨ x.state = 2) → s.keepWanted k v.toNat = true → m.kind = 3 → m.trigStep = 0 → s.gatherWaits k = false →
    (∀ y ∈ s.meldSources e m, y.versionRel = false) → num = m.started →
    order = ((s.partShards e m).map (fun sh => (List.range (m.slabsIn sh)).map (fun i => (sh, i)))).flatten →
    own = order.filter (fun y => shardRoot (s.shardWord e m y.1)) →
    u = (s.applyAmb amb).gatherStart n k v → u.hasJob n = true →
    w = ((u.haveFiring e c num).modFiring e c num (fun f => { f with
      started := true, version := none, recipe := some k.val, home := some k.val,
      slabs := order.map (fun y => { shard := y.1, index := y.2 }) })).modMctx e c (fun y => { y with started := y.started + 1 }) →
    readAll e c n num v.toNat ((s.meldSources e m).map (fun y => own.map (fun a => (y, a.1, a.2)))).flatten w = (z, none) →
    exec (.keepRecipeFiring k v amb) s = .next (((s.partShards e m).filter (fun sh => !shardRoot (s.shardWord e m sh))).foldl (fun s' sh =>
      s'.meldCtl e m (shardParent (s.shardWord e m sh)) num v.toNat sh 3 []) (own.foldl (fun s' y => s'.slabResult e c n num y.1 y.2) z)))

/-! ## Loads, cuts and recovery -/

/-- Loads and cuts (R428, R436 to R440, R478 to R483, R485, R486): READY and RESTART pass along the chain, the head reads a segment and sends it
on or keeps it, a package keeps what is for it and forwards the rest, the partner takes cut writes into its region and streams a cut back or
answers CUT_NONE, a talon gathers what it is sent and places the job, and a job goes on from its cut. -/
def Obligations.LoadsAndCutsComplete : Prop :=
  (∀ (s u : State) (src : Src) (p : Packet) (n : Nat), s.takes src p u → isLoadReq 1 p = true → s.findJob (tagJob p.tag) = some n →
    u.findJob (tagJob p.tag) = some n →
    (u.loadRuns n (bits p.handle 16 4) = true → (u.load n (bits p.handle 16 4)).readyDown = false →
      exec (.loadReady src) s
        = .next ((u.modLoad n (bits p.handle 16 4) (fun l => { l with readyDown := true })).passReady n (bits p.handle 16 4)))
    ∧ (u.loadRuns n (bits p.handle 16 4) = false →
      exec (.loadReady src) s = .next (u.modLoad n (bits p.handle 16 4) (fun l => { l with readyHeld := true }))))
  ∧ (∀ (s u : State) (src : Src) (p : Packet) (n : Nat), s.takes src p u → isLoadReq 2 p = true → u.findJob (tagJob p.tag) = some n →
    (u.load n (bits p.handle 16 4)).active = true → (u.load n (bits p.handle 16 4)).background = true →
    ((u.load n (bits p.handle 16 4)).head = true →
      exec (.loadRestart src) s = .next (u.restartLoad n (bits p.handle 16 4)))
    ∧ ((u.load n (bits p.handle 16 4)).head = false → p.src ≠ (u.load n (bits p.handle 16 4)).up →
      ∀ v ok, u.sendRequest (bulkRequest u.self (u.load n (bits p.handle 16 4)).up (u.job n).id.toNat (bits p.handle 16 4)
        (u.load n (bits p.handle 16 4)).stepOf 2) = (v, ok) →
      exec (.loadRestart src) s = .next (if ok = true then v
        else v.modLoad n (bits p.handle 16 4) (fun l => { l with owed := addOnce l.owed (true, 2) }))))
  ∧ (∀ (s u v : State) (n i : Fin 16) (amb : Ambient) (l : Load) (h bs : List Byte) (addr count : Nat) (w : State),
    l = s.load n i → s.loadRuns n i = true → l.head = true →
    l.readyDown = true → l.endSeen = false → l.image ≠ 0 → s.host.attached = true → l.readPos + 64 ≤ l.imageBytes → l.tail = false →
    (s.applyAmb amb).hubWindow n (l.image.toNat + l.readPos) 64 = (u, .ok h) → leAt h 0 2 = 0x4C47 → leAt h 56 4 = (crc32c (h.take 56)).toNat →
    leAt h 2 2 = 0 → leAt h 4 2 < 4096 → leAt h 6 2 = 0 → addr = leAt h 8 8 → addr < 2 ^ 48 → leAt h 28 28 = 0 →
    leAt h 60 4 = 0 → leAt h 24 4 = 0 → count = leAt h 16 8 → l.readPos + 64 + (count + 63) / 64 * 64 < l.imageBytes →
    u.hubWindow n (l.image.toNat + l.readPos + 64) count = (v, .ok bs) →
    (leAt h 4 2 ≠ s.self.toNat →
      exec (.loadImageFetch n i amb) s = .next (((segmentPieces addr bs).foldl (fun w c => w.originate
        (loadPacket w.self l.down (s.job n).id.toNat i l.stepOf c.1 l.total (leAt h 4 2) 0 c.2 false)) v).modLoad n i (fun l' => { l' with
          readPos := l.readPos + 64 + (count + 63) / 64 * 64, segments := satNat 24 l'.segments 1, total := l'.total + 1 })))
    ∧ (leAt h 4 2 = s.self.toNat → w = v.modLoad n i (fun l' => { l' with
          readPos := l.readPos + 64 + (count + 63) / 64 * 64, segments := satNat 24 l'.segments 1, total := l'.total + 1 }) →
      ∀ a, w.loadTarget n l false addr count = some a → exec (.loadImageFetch n i amb) s = .next (w.keepBytes n i a bs false)))
  ∧ (∀ (s u v : State) (src : Src) (p : Packet) (n i a : Nat), s.takes src p u → s.host.pcieOnly = false → p.ptype = 7 →
    bits p.handle 12 4 = 1 → (u.load n i).segAt.map (·.1) ≠ some (p.spec 40 4) →
    u.findJob (tagJob p.tag) = some n → i = bits p.handle 16 4 → u.loadRuns n i = true → (u.load n i).head = false →
    (u.load n i).tail = true → p.spec 46 2 = 1 →
    v = u.modLoad n i (fun l => { l with
      segments := max l.segments (min (p.spec 40 4 + 1) (2 ^ 24 - 1)), total := max l.total (p.spec 40 4 + 1),
      segAt := some (p.spec 40 4, p.spec 32 8) }) →
    v.loadTarget n (u.load n i) false (p.spec 32 8) (min (p.spec 48 2) p.payload.length) = some a →
    exec (.loadPacket src) s = .next (v.keepBytes n i a (p.payload.take (min (p.spec 48 2) p.payload.length)) p.poison))
  ∧ (∀ (s u : State) (src : Src) (p : Packet) (n i : Nat), s.takes src p u → s.host.pcieOnly = false → p.ptype = 7 →
    bits p.handle 12 4 = 1 → (u.load n i).segAt.map (·.1) ≠ some (p.spec 40 4) →
    u.findJob (tagJob p.tag) = some n → i = bits p.handle 16 4 → u.loadRuns n i = true → (u.load n i).head = false →
    (u.load n i).tail = false → p.spec 46 2 = 0 → p.spec 44 2 % 4096 ≠ s.self.toNat →
    exec (.loadPacket src) s = .next ((u.sendCopy { p with dst := (u.load n i).down }).modLoad n i (fun l => { l with
      segments := max l.segments (min (p.spec 40 4 + 1) (2 ^ 24 - 1)), total := max l.total (p.spec 40 4 + 1),
      segAt := some (p.spec 40 4, p.spec 32 8) })))
  ∧ (∀ (s : State) (n : Fin 16), (s.job n).cutCopy.isSome = true → (s.job n).cutReady = false → (s.job n).cutBad = false →
    exec (.cutCopyDone n false) s = .next (s.modJob n (fun j => { j with cutReady := true, cut := putBits j.cut 28 1 0 }))
    ∧ exec (.cutCopyDone n true) s = .next (s.cutFailed n 1))
  ∧ (∀ (s u : State) (src : Src) (p : Packet) (k n base : Nat), s.takes src p u → p.ptype = 7 → bits p.handle 12 4 = 2 → k = p.spec 40 4 % 4 →
    n = min (p.spec 48 2) p.payload.length → base = (u.cutRegion k).1 + p.spec 32 8 → p.spec 32 8 + n ≤ (u.cutRegion k).2 →
    u.gddrFailed k = false →
    ∃ t, exec (.cutWrite src) s = .next t
      ∧ (∀ a, t.memByte a = if base ≤ a ∧ a < base + n then p.payload.getD (a - base) 0 else s.memByte a)
      ∧ t.tiles = s.tiles ∧ t.objs = s.objs ∧ t.pending = s.pending)
  ∧ (∀ (s u w : State) (src : Src) (p : Packet) (rs : List CutRec) (d : List Byte) (job step : Nat) (half : Nat → List Byte),
    s.takes src p u → p.ptype = 8 → bits p.handle 12 4 = 3 → p.spec 32 1 = 3 →
    half = (fun k => u.wardBytes k (p.spec 33 1 % 2) (p.spec 40 2 * mib) (p.spec 42 2 * mib)) →
    readCut half (tagJob p.tag) (p.spec 36 4) = .done rs job step → dealerOf rs = some d → step = p.spec 36 4 →
    (∀ k ∈ cutStacks d, u.gddrFailed k = false) →
    touchReads none true ((cutStacks d).map (fun k =>
      linesOf (upFrom ((u.cutRegion k).1 + u.wardHalf k (p.spec 33 1 % 2) (p.spec 40 2 * mib)) (halfLength rs k)))).flatten u = (w, false) →
    exec (.cutFetch src) s = .next ((cutStacks d).foldl (fun v k =>
      (segmentPieces 0 ((half k).take (halfLength rs k))).foldl (fun v c =>
        v.originate (cutPacket v.self p.src (tagJob p.tag) step 3 k c.1 c.2)) v) w))
  ∧ (∀ (s u : State) (src : Src) (p : Packet) (c : CutParse), s.takes src p u → p.ptype = 8 → bits p.handle 12 4 = 3 → p.spec 32 1 = 3 →
    c = readCut (fun k => u.wardBytes k (p.spec 33 1 % 2) (p.spec 40 2 * mib) (p.spec 42 2 * mib)) (tagJob p.tag) (p.spec 36 4) → (c = .more ∨ c = .bad) →
    exec (.cutFetch src) s = .next (u.originate (cutRequest u.self p.src (tagJob p.tag) 4 (decide (p.spec 33 1 % 2 = 1))
      (BitVec.ofNat 12 (p.spec 34 2)) (BitVec.ofNat 32 (p.spec 36 4)) (BitVec.ofNat 16 (p.spec 40 2)) (BitVec.ofNat 16 (p.spec 42 2)))))
  ∧ (∀ (s u v : State) (src : Src) (p : Packet) (lead : BitVec 12) (ws : List Watched) (w : Watched) (k : Nat) (bs : List Byte)
    (half : Nat → List Byte), s.takes src p u → p.ptype = 7 →
    bits p.handle 12 4 = 3 → u.recov.takeover = some (lead, ws) → ws.find? (fun w => w.job.toNat = tagJob p.tag) = some w →
    u.recov.restore = [] → k = p.spec 40 4 % 4 → p.poison = false → p.spec 32 8 = 0 → bs = p.payload.take (p.spec 48 2) →
    half = (fun i => if i = k then bs else []) → v = { u with recov := { u.recov with restore := [(w.job, k, bs)] } } →
    (readCut half (tagJob p.tag) w.cutStep.toNat = .more → exec (.cutRead src) s = .next v)
    ∧ (∀ rs job z, readCut half (tagJob p.tag) w.cutStep.toNat = .done rs job w.cutStep.toNat → v.placeCut w rs = (z, true) →
      exec (.cutRead src) s = .next { z with recov := { z.recov with restore := z.recov.restore.filter (fun x => x.1 ≠ w.job) } }))
  ∧ (∀ (s u : State) (src : Src) (p : Packet), s.takes src p u → p.ptype = 8 → bits p.handle 12 4 = 3 → p.spec 32 1 = 4 →
    (∀ lead w v, u.findJob (tagJob p.tag) = none → u.endFetch (tagJob p.tag) = some (lead, w, v) →
      exec (.cutNone src) s = .next (v.sendCopy { p with dst := lead }))
    ∧ (∀ n, u.findJob (tagJob p.tag) = some n → u.leadOf (u.job n) = u.self →
      exec (.cutNone src) s = .next (u.cutLost n (if BitVec.ofNat 12 (p.spec 34 2) = p.src then 4 else 3) (BitVec.ofNat 32 (p.spec 36 4))
        p.src)))
  ∧ (∀ (s v w : State) (n : Fin 16), (s.job n).valid = true → (s.job n).endingLost = false → (s.job n).restoring = true →
    (s.job n).restored = false →
    (∀ e ∈ s.trk.shares, e.2.job = (s.job n).id → e.2.phase = .drained ∨ (e.2.isPass = true ∧ e.2.phase = .opened)) →
    s.leadOf (s.job n) ≠ s.self →
    ((s.recov.takeover = none ∧ s.readBack n = (v, true))
      ∨ ∃ lead ws, s.recov.takeover = some (lead, ws) ∧ (∃ x ∈ ws, x.job = (s.job n).id)
        ∧ v = { s with recov := { s.recov with takeover := some (lead, ws.filter (fun x => x.job ≠ (s.job n).id)) } }) →
    w = (((v.restart n).writeBanks ((s.job n).deck.talonRoutes.filter (fun r => (v.restart n).recov.lost.contains r.dest))).modJob n
      (fun j => { j with rolledLines := (s.poisonedLines n).map (fun l => (l, j.cutStep)) })) →
    exec (.cutRestored n) s = .next ((w.raise 0x0233 (s.job n).id.toNat (s.job n).cutStep.toNat).resumeDeck n))

/-- Tile failures, die-to-die lanes, heartbeats, lost packages and the takeover (R461, R465 to R467, R471, R472, R474, R484, R485). -/
def Obligations.RecoveryCompletes : Prop :=
  (∀ (s : State) (k : Fin 4) (t : Fin 34) (m : BitVec 34), (∀ i < 34, m.getLsbD i = decide (i = t.val)) →
    ∃ u, exec (.tileHeartbeatSample k m) s = .next u ∧ exec (.tileCheckFailure k t .heartbeat) s = .next u)
  ∧ (∀ (s : State) (k : Fin 4) (t : Fin 34) (c : TileCheck) (L p : Nat) (r : List Nat), s.pkg.inReset = false → s.logicalOf k t = some L →
    s.tileStateOf k t = 0 → s.spares k = p :: r →
    ∃ u, exec (.tileCheckFailure k t c) s = .next u ∧ u.physOf k (L % 32) = p ∧ u.tileStateOf k t = 3 ∧ u.tileStateOf k p = 0
      ∧ u.pending = s.pending ∧ u.fuses = s.fuses)
  ∧ (∀ (s : State) (L : Fin 128), (s.tile L).fenced = true → (s.tile L).exempt = true → s.slotOfTile L = none →
    (∀ n < 3, s.trickOf L n = none) →
    ∃ u, exec (.tileImageReloaded L) s = .next u ∧ (u.tile L).fenced = false
      ∧ (∀ a, u.memByte a = if scratchOf (L / 32) (s.physOf (L / 32) (L % 32)) ≤ a
          ∧ a < scratchOf (L / 32) (s.physOf (L / 32) (L % 32)) + 0x400000 then 0 else s.memByte a)
      ∧ u.pending = s.pending)
  ∧ (∀ (s : State) (m : Fin 84) (l : BitVec 5) (n : Nat), (tget (0, 0) s.pkg.d2d m).1 < 2 → n = (tget (0, 0) s.pkg.d2d m).1 + 1 →
    s.pkg.inReset = false → s.jobSlots = [] →
    exec (.d2dLaneFailure m l) s = .next ((s.modPkg (fun p => { p with
      d2d := tput p.d2d m (n, min 18 ((tget (0, 0) s.pkg.d2d m).2 + 1)) })).raise 0x0901 0 (m + l.toNat * 2 ^ 8)))
  ∧ (∀ (s : State) (js : List Job), s.tel.heartbeat = true → s.tel.mcReset = false → s.pkg.inReset = false → js = s.jobSlots.map s.job →
    exec .packageHeartbeat s = .next ((((js.map s.leadOf).dedup).filter (· ≠ s.self)).foldl (fun u p =>
      u.originate (mgmtPacket u.self p 1 ((js.filter (fun j => u.leadOf j = p)).map Job.watched).length
        (BitVec.ofNat 12 (b2n u.host.degraded)) ((((js.filter (fun j => u.leadOf j = p)).map Job.watched).map Watched.bytes).flatten))) s))
  ∧ (∀ (s u : State) (src : Src) (p : Packet), s.takes src p u → p.ptype = 9 → p.mgmtKind = 1 →
    exec (.mgmt src) s = .next { u with recov := { u.recov with
      heard := tput u.recov.heard p.src.toNat (mergeWatched (tget [] u.recov.heard p.src.toNat) p.mgmtJobs),
      planned := if nbit p.mgmtPkg.toNat 0 then addOnce u.recov.planned p.src else u.recov.planned } })
  ∧ (∀ (s : State) (p : BitVec 12) (n : Nat), p ∉ s.recov.lost → p ≠ s.self → s.jobSlots = [n] → p ∈ s.deckOf (s.job n) →
    ({ s with recov := { s.recov with lost := s.recov.lost ++ [p] } } : State).leadOf (s.job n) = s.self →
    exec (.packageLossDeclared p) s
      = .next (((({ s with recov := { s.recov with lost := s.recov.lost ++ [p] } } : State).forgetRelink p).raise 0x0232 0 p.toNat).jobLosesPackage n
        p))
  ∧ (∀ (s : State) (q : Fin 16) (p : BitVec 12), (s.port q).relink = some p →
    (s.jobSlots = [] ∨ p ∈ s.recov.lost ∨ s.tel.heartbeat = false) →
    exec (.relinkTimeout q) s = .next (s.modPort q (fun x => { x with relink := none })))
  ∧ (∀ (s : State) (q : Fin 16) (p : BitVec 12) (n : Nat), (s.port q).relink = some p → s.jobSlots = [n] → p ∈ s.deckOf (s.job n) →
    s.leadOf (s.job n) = s.self → s.self.toNat < p.toNat → p ∉ s.recov.lost → s.self ∉ s.recov.lost → s.tel.heartbeat = true →
    exec (.relinkTimeout q) s = .next (((s.modPort q (fun x => { x with relink := none })).originate
      (mgmtPacket s.self p 3 1 p ((s.job n).watched.bytes))).declareLost p))
  ∧ (∀ (s : State) (q : Fin 16) (p : BitVec 12) (n : Nat), (s.port q).relink = some p → s.jobSlots = [n] → p ∈ s.deckOf (s.job n) →
    s.leadOf (s.job n) ≠ s.self → p ∉ s.recov.lost → s.tel.heartbeat = true →
    exec (.relinkTimeout q) s = .next ((s.modPort q (fun x => { x with relink := none })).originate
      (mgmtPacket s.self (s.leadOf (s.job n)) 5 0 p [])))
  ∧ (∀ (s u : State) (src : Src) (p : Packet), s.takes src p u → p.ptype = 9 → p.mgmtKind = 5 →
    exec (.mgmt src) s = .next (u.relinkLost p.src p.mgmtPkg))
  ∧ (∀ (s u : State) (src : Src) (p : Packet) (w : Watched) (n : Nat), s.takes src p u → p.ptype = 9 → p.mgmtKind = 6 → p.mgmtJobs = [w] →
    u.findJob w.job.toNat = some n → exec (.mgmt src) s
      = .next (({ u with recov := { u.recov with
          lost := if p.mgmtPkg = p.src then u.recov.lost else addOnce u.recov.lost p.mgmtPkg } } : State).modJob n (fun j => { j with
        restoring := true, restored := false })))
  ∧ (∀ (s u : State) (src : Src) (p : Packet), s.takes src p u → p.ptype = 9 → p.mgmtKind = 7 →
    exec (.mgmt src) s = .next (u.rebase p.mgmtPkg (BitVec.ofNat 12 (leAt p.payload 16 2))))
  ∧ (∀ (s u : State) (src : Src) (p : Packet), s.takes src p u → p.ptype = 9 → p.mgmtKind = 3 → p.mgmtJobs = [] →
    exec (.fenceOrder src) s = .next (u.modTel (fun t => { t with heartbeat := false })))
  ∧ (∀ (s u : State) (src : Src) (p : Packet) (w : Watched) (n : Nat), s.takes src p u → p.ptype = 9 → p.mgmtKind = 3 → p.mgmtJobs = [w] →
    u.findJob w.job.toNat = some n → exec (.fenceOrder src) s
      = .next ((u.modTel (fun t => { t with heartbeat := false })).loseJob n 0x0232 p.src false))
  ∧ (∀ (s u : State) (src : Src) (p : Packet), s.takes src p u → p.ptype = 9 → p.mgmtKind = 2 → u.host.role = 1 →
    ∀ v, v = (u.modHost (fun h => { h with role := 0, package := p.mgmtPkg, epoch := h.epoch + 1 })).identityChanged →
    exec (.takeoverOrder src) s = .next (p.mgmtJobs.foldl (fun x w => x.originate
      (cutRequest x.self w.partner w.job.toNat 3 w.half p.mgmtPkg w.cutStep w.cutOff w.cutMib))
        { v with recov := { v.recov with takeover := some (p.src, p.mgmtJobs), restore := [] } }))
end

