-- ==== Sys2Proof/Laws/Exec.lean ====
section
/-! SUPPORT. Exec.lean: the meaning that each command runs. -/
namespace Sys2Proof.Machine

@[simp] theorem exec_powerOnReset (s : State) : exec .powerOnReset s = execPowerOnReset s := rfl
@[simp] theorem exec_powerOnResetRelease (testMode : BitVec 3) (s : State) : exec (.powerOnResetRelease testMode) s = execPowerOnResetRelease testMode s := rfl
@[simp] theorem exec_firmwareStart (s : State) : exec .firmwareStart s = execFirmwareStart s := rfl
@[simp] theorem exec_bootReady (s : State) : exec .bootReady s = execBootReady s := rfl
@[simp] theorem exec_perstNAssert (s : State) : exec .perstNAssert s = execPerstNAssert s := rfl
@[simp] theorem exec_hostLinkDown (s : State) : exec .hostLinkDown s = execHostLinkDown s := rfl
@[simp] theorem exec_hostLinkLossTimeout (s : State) : exec .hostLinkLossTimeout s = execHostLinkLossTimeout s := rfl
@[simp] theorem exec_hostLinkBack (speed : BitVec 2) (width : BitVec 5) (s : State) : exec (.hostLinkBack speed width) s = execHostLinkBack speed width s := rfl
@[simp] theorem exec_pcieOnly (speed : BitVec 2) (width : BitVec 5) (s : State) : exec (.pcieOnly speed width) s = execPcieOnly speed width s := rfl
@[simp] theorem exec_resume (value : BitVec 32) (hw : List Host.Cell) (s : State) : exec (.resume value hw) s = execResume value hw s := rfl
@[simp] theorem exec_prochotNAssert (s : State) : exec .prochotNAssert s = execProchotNAssert s := rfl
@[simp] theorem exec_powerCapEvaluation (powerDw : BitVec 16) (s : State) : exec (.powerCapEvaluation powerDw) s = execPowerCapEvaluation powerDw s := rfl
@[simp] theorem exec_hostCapWrite (value : BitVec 32) (s : State) : exec (.hostCapWrite value) s = execHostCapWrite value s := rfl
@[simp] theorem exec_bmcCapWrite (setting : BmcSetting) (s : State) : exec (.bmcCapWrite setting) s = execBmcCapWrite setting s := rfl
@[simp] theorem exec_avsAcknowledge (stack : Fin 4) (s : State) : exec (.avsAcknowledge stack) s = execAvsAcknowledge stack s := rfl
@[simp] theorem exec_avsAckTimeout (stack : Fin 4) (s : State) : exec (.avsAckTimeout stack) s = execAvsAckTimeout stack s := rfl
@[simp] theorem exec_thermalSensorRead (hottest : List (BitVec 8)) (s : State) : exec (.thermalSensorRead hottest) s = execThermalSensorRead hottest s := rfl
@[simp] theorem exec_throttleLevelCheck (stack : Fin 4) (s : State) : exec (.throttleLevelCheck stack) s = execThrottleLevelCheck stack s := rfl
@[simp] theorem exec_railOutOfRange (rail : Fin 15) (millivolts : BitVec 16) (returned : Bool) (s : State) : exec (.railOutOfRange rail millivolts returned) s = execRailOutOfRange rail millivolts returned s := rfl
@[simp] theorem exec_powerMonitorSample (microjoules : List (BitVec 32)) (s : State) : exec (.powerMonitorSample microjoules) s = execPowerMonitorSample microjoules s := rfl
@[simp] theorem exec_pldmSensorUpdate (s : State) : exec .pldmSensorUpdate s = execPldmSensorUpdate s := rfl
@[simp] theorem exec_mcWatchdogExpiry (s : State) : exec .mcWatchdogExpiry s = execMcWatchdogExpiry s := rfl
@[simp] theorem exec_mcRestart (s : State) : exec .mcRestart s = execMcRestart s := rfl
@[simp] theorem exec_ccReset (s : State) : exec .ccReset s = execCcReset s := rfl
@[simp] theorem exec_ccResetDone (s : State) : exec .ccResetDone s = execCcResetDone s := rfl
@[simp] theorem exec_registerWrite (bar2 : Bool) (offset : BitVec 25) (bytes : Nat) (value : BitVec 64) (s : State) : exec (.registerWrite bar2 offset bytes value) s = execRegisterWrite bar2 offset bytes value s := rfl
@[simp] theorem exec_glbIdentityWrite (reg : IdentityReg) (value : BitVec 64) (s : State) : exec (.glbIdentityWrite reg value) s = execGlbIdentityWrite reg value s := rfl
@[simp] theorem exec_ringEnable (ring : RingRef) (cfg : BitVec 32) (hw : List Host.Cell) (s : State) : exec (.ringEnable ring cfg hw) s = execRingEnable ring cfg hw s := rfl
@[simp] theorem exec_ringDisable (ring : RingRef) (s : State) : exec (.ringDisable ring) s = execRingDisable ring s := rfl
@[simp] theorem exec_monitorSnoop (line : BitVec 58) (s : State) : exec (.monitorSnoop line) s = execMonitorSnoop line s := rfl
@[simp] theorem exec_monitorPoll (s : State) : exec .monitorPoll s = execMonitorPoll s := rfl
@[simp] theorem exec_monitorLineRead (line : BitVec 58) (hw : List Host.Cell) (failed : List HostErr) (s : State) : exec (.monitorLineRead line hw failed) s = execMonitorLineRead line hw failed s := rfl
@[simp] theorem exec_descriptorFetch (sq : Fin 64) (hw : List Host.Cell) (failed : Bool) (s : State) : exec (.descriptorFetch sq hw failed) s = execDescriptorFetch sq hw failed s := rfl
@[simp] theorem exec_job (sq : Fin 64) (deck : Deck) (amb : Ambient) (s : State) : exec (.job sq deck amb) s = execJob sq deck amb s := rfl
@[simp] theorem exec_jobPlaced (slot : Fin 16) (s : State) : exec (.jobPlaced slot) s = execJobPlaced slot s := rfl
@[simp] theorem exec_step (sq : Fin 64) (amb : Ambient) (s : State) : exec (.step sq amb) s = execStep sq amb s := rfl
@[simp] theorem exec_pass (sq : Fin 64) (amb : Ambient) (s : State) : exec (.pass sq amb) s = execPass sq amb s := rfl
@[simp] theorem exec_abort (sq : Fin 64) (s : State) : exec (.abort sq) s = execAbort sq s := rfl
@[simp] theorem exec_endJob (sq : Fin 64) (s : State) : exec (.endJob sq) s = execEnd sq s := rfl
@[simp] theorem exec_nop (tile : Fin 128) (stream : Fin 3) (s : State) : exec (.nop tile stream) s = execNop tile stream s := rfl
@[simp] theorem exec_nopDescriptor (sq : Fin 64) (s : State) : exec (.nopDescriptor sq) s = execNopDescriptor sq s := rfl
@[simp] theorem exec_load (sq : Fin 64) (s : State) : exec (.load sq) s = execLoad sq s := rfl
@[simp] theorem exec_jobEndDone (slot : Fin 16) (s : State) : exec (.jobEndDone slot) s = execJobEndDone slot s := rfl
@[simp] theorem exec_stepStart (slot : Fin 16) (s : State) : exec (.stepStart slot) s = execStepStart slot s := rfl
@[simp] theorem exec_microBatchInjection (slot : Fin 16) (amb : Ambient) (s : State) : exec (.microBatchInjection slot amb) s = execMicroBatchInjection slot amb s := rfl
@[simp] theorem exec_controlPassInjection (slot : Fin 16) (s : State) : exec (.controlPassInjection slot) s = execControlPassInjection slot s := rfl
@[simp] theorem exec_passInjection (slot : Fin 16) (microBatch : BitVec 20) (amb : Ambient) (s : State) : exec (.passInjection slot microBatch amb) s = execPassInjection slot microBatch amb s := rfl
@[simp] theorem exec_stepOverrun (slot : Fin 16) (s : State) : exec (.stepOverrun slot) s = execStepOverrun slot s := rfl
@[simp] theorem exec_stepWatchdogFault (slot : Fin 16) (s : State) : exec (.stepWatchdogFault slot) s = execStepWatchdogFault slot s := rfl
@[simp] theorem exec_completionBufferDrain (s : State) : exec .completionBufferDrain s = execCompletionBufferDrain s := rfl
@[simp] theorem exec_msixMessage (vector : Fin 64) (s : State) : exec (.msixMessage vector) s = execMsixMessage vector s := rfl
@[simp] theorem exec_atsInvalidation (firstPage : BitVec 52) (lastPage : BitVec 52) (s : State) : exec (.atsInvalidation firstPage lastPage) s = execAtsInvalidation firstPage lastPage s := rfl
@[simp] theorem exec_hostMemRead (offset : BitVec 48) (bytes : Nat) (amb : Ambient) (s : State) : exec (.hostMemRead offset bytes amb) s = execHostMemRead offset bytes amb s := rfl
@[simp] theorem exec_hostMemWrite (offset : BitVec 48) (data : List (BitVec 8)) (s : State) : exec (.hostMemWrite offset data) s = execHostMemWrite offset data s := rfl
@[simp] theorem exec_hostLineSnoop (line : BitVec 58) (s : State) : exec (.hostLineSnoop line) s = execHostLineSnoop line s := rfl
@[simp] theorem exec_pageRequestResponse (tile : Fin 129) (granted : Bool) (amb : Ambient) (s : State) : exec (.pageRequestResponse tile granted amb) s = execPageRequestResponse tile granted amb s := rfl
@[simp] theorem exec_pageRequestTimeout (tile : Fin 129) (s : State) : exec (.pageRequestTimeout tile) s = execPageRequestTimeout tile s := rfl
@[simp] theorem exec_hwtEntryWrite (value : BitVec 64) (s : State) : exec (.hwtEntryWrite value) s = execHwtEntryWrite value s := rfl
@[simp] theorem exec_stop (tile : Fin 128) (stream : Fin 3) (s : State) : exec (.stop tile stream) s = execStop tile stream s := rfl
@[simp] theorem exec_jmp (tile : Fin 128) (stream : Fin 3) (s : State) : exec (.jmp tile stream) s = execJmp tile stream s := rfl
@[simp] theorem exec_loop (tile : Fin 128) (stream : Fin 3) (s : State) : exec (.loop tile stream) s = execLoop tile stream s := rfl
@[simp] theorem exec_ldlc (tile : Fin 128) (stream : Fin 3) (s : State) : exec (.ldlc tile stream) s = execLdlc tile stream s := rfl
@[simp] theorem exec_brtag (tile : Fin 128) (stream : Fin 3) (s : State) : exec (.brtag tile stream) s = execBrtag tile stream s := rfl
@[simp] theorem exec_fence (tile : Fin 128) (stream : Fin 3) (s : State) : exec (.fence tile stream) s = execFence tile stream s := rfl
@[simp] theorem exec_mma (tile : Fin 128) (stream : Fin 3) (s : State) : exec (.mma tile stream) s = execMma tile stream s := rfl
@[simp] theorem exec_vec (tile : Fin 128) (stream : Fin 3) (s : State) : exec (.vec tile stream) s = execVec tile stream s := rfl
@[simp] theorem exec_dma (tile : Fin 128) (stream : Fin 3) (s : State) : exec (.dma tile stream) s = execDma tile stream s := rfl
@[simp] theorem exec_recv (tile : Fin 128) (stream : Fin 3) (s : State) : exec (.recv tile stream) s = execRecv tile stream s := rfl
@[simp] theorem exec_send (tile : Fin 128) (stream : Fin 3) (s : State) : exec (.send tile stream) s = execSend tile stream s := rfl
@[simp] theorem exec_topen (tile : Fin 128) (stream : Fin 3) (s : State) : exec (.topen tile stream) s = execTopen tile stream s := rfl
@[simp] theorem exec_tcommit (tile : Fin 128) (stream : Fin 3) (s : State) : exec (.tcommit tile stream) s = execTcommit tile stream s := rfl
@[simp] theorem exec_trevokeRetry (tile : Fin 128) (stream : Fin 3) (s : State) : exec (.trevokeRetry tile stream) s = execTrevokeRetry tile stream s := rfl
@[simp] theorem exec_trevokeContinue (tile : Fin 128) (stream : Fin 3) (s : State) : exec (.trevokeContinue tile stream) s = execTrevokeContinue tile stream s := rfl
@[simp] theorem exec_waitSatisfied (tile : Fin 128) (stream : Fin 3) (s : State) : exec (.waitSatisfied tile stream) s = execWaitSatisfied tile stream s := rfl
@[simp] theorem exec_sync (src : Src) (s : State) : exec (.sync src) s = execSync src s := rfl
@[simp] theorem exec_arrayGrant (tile : Fin 128) (amb : Ambient) (s : State) : exec (.arrayGrant tile amb) s = execArrayGrant tile amb s := rfl
@[simp] theorem exec_mmaComplete (tile : Fin 128) (stream : Fin 3) (s : State) : exec (.mmaComplete tile stream) s = execMmaComplete tile stream s := rfl
@[simp] theorem exec_sparsityCheck (tile : Fin 128) (bank : Fin 4) (s : State) : exec (.sparsityCheck tile bank) s = execSparsityCheck tile bank s := rfl
@[simp] theorem exec_bankComplete (tile : Fin 128) (bank : Fin 4) (s : State) : exec (.bankComplete tile bank) s = execBankComplete tile bank s := rfl
@[simp] theorem exec_drainStart (tile : Fin 128) (s : State) : exec (.drainStart tile) s = execDrainStart tile s := rfl
@[simp] theorem exec_drainEnd (tile : Fin 128) (s : State) : exec (.drainEnd tile) s = execDrainEnd tile s := rfl
@[simp] theorem exec_arrCtlWrite (stack : Fin 4) (phys : Fin 34) (value : BitVec 32) (s : State) : exec (.arrCtlWrite stack phys value) s = execArrCtlWrite stack phys value s := rfl
@[simp] theorem exec_vcopy (tile : Fin 128) (amb : Ambient) (s : State) : exec (.vcopy tile amb) s = execVcopy tile amb s := rfl
@[simp] theorem exec_vadd (tile : Fin 128) (amb : Ambient) (s : State) : exec (.vadd tile amb) s = execVadd tile amb s := rfl
@[simp] theorem exec_vsub (tile : Fin 128) (amb : Ambient) (s : State) : exec (.vsub tile amb) s = execVsub tile amb s := rfl
@[simp] theorem exec_vmul (tile : Fin 128) (amb : Ambient) (s : State) : exec (.vmul tile amb) s = execVmul tile amb s := rfl
@[simp] theorem exec_vfma (tile : Fin 128) (amb : Ambient) (s : State) : exec (.vfma tile amb) s = execVfma tile amb s := rfl
@[simp] theorem exec_vdiv (tile : Fin 128) (amb : Ambient) (s : State) : exec (.vdiv tile amb) s = execVdiv tile amb s := rfl
@[simp] theorem exec_vrcp (tile : Fin 128) (amb : Ambient) (s : State) : exec (.vrcp tile amb) s = execVrcp tile amb s := rfl
@[simp] theorem exec_vsqrt (tile : Fin 128) (amb : Ambient) (s : State) : exec (.vsqrt tile amb) s = execVsqrt tile amb s := rfl
@[simp] theorem exec_vrsqrt (tile : Fin 128) (amb : Ambient) (s : State) : exec (.vrsqrt tile amb) s = execVrsqrt tile amb s := rfl
@[simp] theorem exec_vexp (tile : Fin 128) (amb : Ambient) (s : State) : exec (.vexp tile amb) s = execVexp tile amb s := rfl
@[simp] theorem exec_vlog (tile : Fin 128) (amb : Ambient) (s : State) : exec (.vlog tile amb) s = execVlog tile amb s := rfl
@[simp] theorem exec_vtanh (tile : Fin 128) (amb : Ambient) (s : State) : exec (.vtanh tile amb) s = execVtanh tile amb s := rfl
@[simp] theorem exec_vsigm (tile : Fin 128) (amb : Ambient) (s : State) : exec (.vsigm tile amb) s = execVsigm tile amb s := rfl
@[simp] theorem exec_vgelu (tile : Fin 128) (amb : Ambient) (s : State) : exec (.vgelu tile amb) s = execVgelu tile amb s := rfl
@[simp] theorem exec_vmax (tile : Fin 128) (amb : Ambient) (s : State) : exec (.vmax tile amb) s = execVmax tile amb s := rfl
@[simp] theorem exec_vmin (tile : Fin 128) (amb : Ambient) (s : State) : exec (.vmin tile amb) s = execVmin tile amb s := rfl
@[simp] theorem exec_vcmp (tile : Fin 128) (amb : Ambient) (s : State) : exec (.vcmp tile amb) s = execVcmp tile amb s := rfl
@[simp] theorem exec_rsum (tile : Fin 128) (amb : Ambient) (s : State) : exec (.rsum tile amb) s = execRsum tile amb s := rfl
@[simp] theorem exec_rssq (tile : Fin 128) (amb : Ambient) (s : State) : exec (.rssq tile amb) s = execRssq tile amb s := rfl
@[simp] theorem exec_rmv (tile : Fin 128) (amb : Ambient) (s : State) : exec (.rmv tile amb) s = execRmv tile amb s := rfl
@[simp] theorem exec_rmax (tile : Fin 128) (amb : Ambient) (s : State) : exec (.rmax tile amb) s = execRmax tile amb s := rfl
@[simp] theorem exec_rmin (tile : Fin 128) (amb : Ambient) (s : State) : exec (.rmin tile amb) s = execRmin tile amb s := rfl
@[simp] theorem exec_rmaxi (tile : Fin 128) (amb : Ambient) (s : State) : exec (.rmaxi tile amb) s = execRmaxi tile amb s := rfl
@[simp] theorem exec_rmini (tile : Fin 128) (amb : Ambient) (s : State) : exec (.rmini tile amb) s = execRmini tile amb s := rfl
@[simp] theorem exec_scan (tile : Fin 128) (amb : Ambient) (s : State) : exec (.scan tile amb) s = execScan tile amb s := rfl
@[simp] theorem exec_scanx (tile : Fin 128) (amb : Ambient) (s : State) : exec (.scanx tile amb) s = execScanx tile amb s := rfl
@[simp] theorem exec_sscan (tile : Fin 128) (amb : Ambient) (s : State) : exec (.sscan tile amb) s = execSscan tile amb s := rfl
@[simp] theorem exec_sscanx (tile : Fin 128) (amb : Ambient) (s : State) : exec (.sscanx tile amb) s = execSscanx tile amb s := rfl
@[simp] theorem exec_vstamp (tile : Fin 128) (amb : Ambient) (s : State) : exec (.vstamp tile amb) s = execVstamp tile amb s := rfl
@[simp] theorem exec_vecComplete (tile : Fin 128) (s : State) : exec (.vecComplete tile) s = execVecComplete tile s := rfl
@[simp] theorem exec_dmaTransferStart (tile : Fin 128) (amb : Ambient) (s : State) : exec (.dmaTransferStart tile amb) s = execDmaTransferStart tile amb s := rfl
@[simp] theorem exec_dmaComplete (tile : Fin 128) (s : State) : exec (.dmaComplete tile) s = execDmaComplete tile s := rfl
@[simp] theorem exec_sendPlace (tile : Fin 128) (stream : Fin 3) (amb : Ambient) (s : State) : exec (.sendPlace tile stream amb) s = execSendPlace tile stream amb s := rfl
@[simp] theorem exec_sendComplete (tile : Fin 128) (stream : Fin 3) (s : State) : exec (.sendComplete tile stream) s = execSendComplete tile stream s := rfl
@[simp] theorem exec_recvTake (tile : Fin 128) (stream : Fin 3) (s : State) : exec (.recvTake tile stream) s = execRecvTake tile stream s := rfl
@[simp] theorem exec_recvComplete (tile : Fin 128) (stream : Fin 3) (amb : Ambient) (s : State) : exec (.recvComplete tile stream amb) s = execRecvComplete tile stream amb s := rfl
@[simp] theorem exec_openChannel (src : Src) (s : State) : exec (.openChannel src) s = execOpen src s := rfl
@[simp] theorem exec_accept (src : Src) (s : State) : exec (.accept src) s = execAccept src s := rfl
@[simp] theorem exec_refuse (src : Src) (s : State) : exec (.refuse src) s = execRefuse src s := rfl
@[simp] theorem exec_close (src : Src) (s : State) : exec (.close src) s = execClose src s := rfl
@[simp] theorem exec_headUpdate (src : Src) (s : State) : exec (.headUpdate src) s = execHeadUpdate src s := rfl
@[simp] theorem exec_blocked (src : Src) (s : State) : exec (.blocked src) s = execBlocked src s := rfl
@[simp] theorem exec_spillReq (src : Src) (s : State) : exec (.spillReq src) s = execSpillReq src s := rfl
@[simp] theorem exec_spillEnd (src : Src) (s : State) : exec (.spillEnd src) s = execSpillEnd src s := rfl
@[simp] theorem exec_openRetry (tile : Fin 128) (ep : Fin 32) (s : State) : exec (.openRetry tile ep) s = execOpenRetry tile ep s := rfl
@[simp] theorem exec_openTimeout (tile : Fin 128) (ep : Fin 32) (s : State) : exec (.openTimeout tile ep) s = execOpenTimeout tile ep s := rfl
@[simp] theorem exec_headUpdateTimer (tile : Fin 128) (ep : Fin 32) (s : State) : exec (.headUpdateTimer tile ep) s = execHeadUpdateTimer tile ep s := rfl
@[simp] theorem exec_blockedNoticeTimer (tile : Fin 128) (ep : Fin 32) (s : State) : exec (.blockedNoticeTimer tile ep) s = execBlockedNoticeTimer tile ep s := rfl
@[simp] theorem exec_channelDeadlock (tile : Fin 128) (ep : Fin 32) (s : State) : exec (.channelDeadlock tile ep) s = execChannelDeadlock tile ep s := rfl
@[simp] theorem exec_deadlockTimerStop (tile : Fin 128) (ep : Fin 32) (s : State) : exec (.deadlockTimerStop tile ep) s = execDeadlockTimerStop tile ep s := rfl
@[simp] theorem exec_data (src : Src) (s : State) : exec (.data src) s = execData src s := rfl
@[simp] theorem exec_keepRecipeFiring (entry : Fin 128) (version : BitVec 8) (amb : Ambient) (s : State) : exec (.keepRecipeFiring entry version amb) s = execKeepRecipeFiring entry version amb s := rfl
@[simp] theorem exec_localTrickTimeout (slot : Fin 256) (s : State) : exec (.localTrickTimeout slot) s = execLocalTrickTimeout slot s := rfl
@[simp] theorem exec_logCapacityTimeout (slot : Fin 256) (s : State) : exec (.logCapacityTimeout slot) s = execLogCapacityTimeout slot s := rfl
@[simp] theorem exec_shareReady (slot : Fin 16) (mb : Option (BitVec 20)) (logError : Bool) (s : State) : exec (.shareReady slot mb logError) s = execShareReady slot mb logError s := rfl
@[simp] theorem exec_trickReady (src : Src) (s : State) : exec (.trickReady src) s = execTrickReady src s := rfl
@[simp] theorem exec_trickRefuse (src : Src) (s : State) : exec (.trickRefuse src) s = execTrickRefuse src s := rfl
@[simp] theorem exec_prepareTimeout (entry : Fin 64) (s : State) : exec (.prepareTimeout entry) s = execPrepareTimeout entry s := rfl
@[simp] theorem exec_trickCommit (src : Src) (s : State) : exec (.trickCommit src) s = execTrickCommit src s := rfl
@[simp] theorem exec_publicationDone (slot : Fin 16) (published : Published) (s : State) : exec (.publicationDone slot published) s = execPublicationDone slot published s := rfl
@[simp] theorem exec_trickRevoke (src : Src) (s : State) : exec (.trickRevoke src) s = execTrickRevoke src s := rfl
@[simp] theorem exec_revokeDrained (slot : Fin 16) (mb : Option (BitVec 20)) (s : State) : exec (.revokeDrained slot mb) s = execRevokeDrained slot mb s := rfl
@[simp] theorem exec_trickDone (src : Src) (s : State) : exec (.trickDone src) s = execTrickDone src s := rfl
@[simp] theorem exec_trickResume (src : Src) (s : State) : exec (.trickResume src) s = execTrickResume src s := rfl
@[simp] theorem exec_portEnable (port : Fin 16) (s : State) : exec (.portEnable port) s = execPortEnable port s := rfl
@[simp] theorem exec_portDisable (port : Fin 16) (s : State) : exec (.portDisable port) s = execPortDisable port s := rfl
@[simp] theorem exec_portFence (port : Fin 16) (s : State) : exec (.portFence port) s = execPortFence port s := rfl
@[simp] theorem exec_portUnfence (port : Fin 16) (s : State) : exec (.portUnfence port) s = execPortUnfence port s := rfl
@[simp] theorem exec_signalDetect (port : Fin 16) (lanes : BitVec 8) (s : State) : exec (.signalDetect port lanes) s = execSignalDetect port lanes s := rfl
@[simp] theorem exec_trainingDone (port : Fin 16) (rxLanes : BitVec 8) (txLanes : BitVec 8) (s : State) : exec (.trainingDone port rxLanes txLanes) s = execTrainingDone port rxLanes txLanes s := rfl
@[simp] theorem exec_trainingFailed (port : Fin 16) (s : State) : exec (.trainingFailed port) s = execTrainingFailed port s := rfl
@[simp] theorem exec_alignLock (port : Fin 16) (s : State) : exec (.alignLock port) s = execAlignLock port s := rfl
@[simp] theorem exec_alignTimeout (port : Fin 16) (s : State) : exec (.alignTimeout port) s = execAlignTimeout port s := rfl
@[simp] theorem exec_identity (port : Fin 16) (s : State) : exec (.identity port) s = execIdentity port s := rfl
@[simp] theorem exec_discoverTimeout (port : Fin 16) (s : State) : exec (.discoverTimeout port) s = execDiscoverTimeout port s := rfl
@[simp] theorem exec_frameLockTimeout (port : Fin 16) (s : State) : exec (.frameLockTimeout port) s = execFrameLockTimeout port s := rfl
@[simp] theorem exec_peerIdle (port : Fin 16) (s : State) : exec (.peerIdle port) s = execPeerIdle port s := rfl
@[simp] theorem exec_holdoffExpiry (port : Fin 16) (s : State) : exec (.holdoffExpiry port) s = execHoldoffExpiry port s := rfl
@[simp] theorem exec_frameTransmit (port : Fin 16) (rateHits : List Bool) (s : State) : exec (.frameTransmit port rateHits) s = execFrameTransmit port rateHits s := rfl
@[simp] theorem exec_controlBlock (port : Fin 16) (frame : FrameEnd) (s : State) : exec (.controlBlock port frame) s = execControlBlock port frame s := rfl
@[simp] theorem exec_replayTimer (port : Fin 16) (s : State) : exec (.replayTimer port) s = execReplayTimer port s := rfl
@[simp] theorem exec_packetArrival (port : Fin 16) (wire : List (BitVec 8)) (s : State) : exec (.packetArrival port wire) s = execPacketArrival port wire s := rfl
@[simp] theorem exec_packetFirstSend (port : Fin 16) (cls : Fin 4) (rateHit : Bool) (s : State) : exec (.packetFirstSend port cls rateHit) s = execPacketFirstSend port cls rateHit s := rfl
@[simp] theorem exec_reorderTimeout (port : Fin 16) (s : State) : exec (.reorderTimeout port) s = execReorderTimeout port s := rfl
@[simp] theorem exec_packetForward (port : Fin 16) (cls : Fin 4) (rateHit : Bool) (s : State) : exec (.packetForward port cls rateHit) s = execPacketForward port cls rateHit s := rfl
@[simp] theorem exec_kittyStall (port : Fin 16) (cls : Fin 4) (s : State) : exec (.kittyStall port cls) s = execKittyStall port cls s := rfl
@[simp] theorem exec_laneFailure (port : Fin 16) (lane : Fin 8) (s : State) : exec (.laneFailure port lane) s = execLaneFailure port lane s := rfl
@[simp] theorem exec_restripeLock (port : Fin 16) (s : State) : exec (.restripeLock port) s = execRestripeLock port s := rfl
@[simp] theorem exec_laneRestore (port : Fin 16) (s : State) : exec (.laneRestore port) s = execLaneRestore port s := rfl
@[simp] theorem exec_laneRestored (port : Fin 16) (lane : Fin 8) (s : State) : exec (.laneRestored port lane) s = execLaneRestored port lane s := rfl
@[simp] theorem exec_hlCntClr (port : Fin 16) (s : State) : exec (.hlCntClr port) s = execHlCntClr port s := rfl
@[simp] theorem exec_hlFiWrite (port : Fin 16) (cls : Fin 5) (value : BitVec 64) (s : State) : exec (.hlFiWrite port cls value) s = execHlFiWrite port cls value s := rfl
@[simp] theorem exec_rtEntryWrite (table : Option (Fin 16)) (dest : Fin 4096) (value : BitVec 32) (s : State) : exec (.rtEntryWrite table dest value) s = execRtEntryWrite table dest value s := rfl
@[simp] theorem exec_kittyClassWrite (port : Fin 16) (cls : Fin 4) (value : BitVec 32) (s : State) : exec (.kittyClassWrite port cls value) s = execKittyClassWrite port cls value s := rfl
@[simp] theorem exec_mgmt (src : Src) (s : State) : exec (.mgmt src) s = execMgmt src s := rfl
@[simp] theorem exec_meldTrigger (engine : Fin 2) (slot : Fin 512) (amb : Ambient) (s : State) : exec (.meldTrigger engine slot amb) s = execMeldTrigger engine slot amb s := rfl
@[simp] theorem exec_join (src : Src) (s : State) : exec (.join src) s = execJoin src s := rfl
@[simp] theorem exec_grant (src : Src) (s : State) : exec (.grant src) s = execGrant src s := rfl
@[simp] theorem exec_demand (src : Src) (amb : Ambient) (s : State) : exec (.demand src amb) s = execDemand src amb s := rfl
@[simp] theorem exec_meldData (src : Src) (s : State) : exec (.meldData src) s = execMeldData src s := rfl
@[simp] theorem exec_ssqSource (src : Src) (s : State) : exec (.ssqSource src) s = execSsqSource src s := rfl
@[simp] theorem exec_ssqShard (src : Src) (s : State) : exec (.ssqShard src) s = execSsqShard src s := rfl
@[simp] theorem exec_meldFiringEnd (engine : Fin 2) (slot : Fin 512) (s : State) : exec (.meldFiringEnd engine slot) s = execMeldFiringEnd engine slot s := rfl
@[simp] theorem exec_mldCntClr (engine : Fin 2) (s : State) : exec (.mldCntClr engine) s = execMldCntClr engine s := rfl
@[simp] theorem exec_mldEntryWrite (engine : Fin 2) (offset : BitVec 16) (value : BitVec 64) (byDealer : Bool) (s : State) : exec (.mldEntryWrite engine offset value byDealer) s = execMldEntryWrite engine offset value byDealer s := rfl
@[simp] theorem exec_gddrTrained (ctrl : Fin 20) (s : State) : exec (.gddrTrained ctrl) s = execGddrTrained ctrl s := rfl
@[simp] theorem exec_gddrTrainingFailed (ctrl : Fin 20) (s : State) : exec (.gddrTrainingFailed ctrl) s = execGddrTrainingFailed ctrl s := rfl
@[simp] theorem exec_gddrTempPoll (ctrl : Fin 20) (reading : Option (BitVec 8)) (s : State) : exec (.gddrTempPoll ctrl reading) s = execGddrTempPoll ctrl reading s := rfl
@[simp] theorem exec_gddrRetrain (ctrl : Fin 20) (channel : Fin 4) (s : State) : exec (.gddrRetrain ctrl channel) s = execGddrRetrain ctrl channel s := rfl
@[simp] theorem exec_scrubVisit (ctrl : Fin 20) (outcome : ReadOutcome) (overtaken : Bool) (s : State) : exec (.scrubVisit ctrl outcome overtaken) s = execScrubVisit ctrl outcome overtaken s := rfl
@[simp] theorem exec_errClr (ctrl : Fin 20) (s : State) : exec (.errClr ctrl) s = execErrClr ctrl s := rfl
@[simp] theorem exec_gdThrWrite (ctrl : Fin 20) (value : BitVec 32) (s : State) : exec (.gdThrWrite ctrl value) s = execGdThrWrite ctrl value s := rfl
@[simp] theorem exec_marginingStart (ctrl : Fin 20) (s : State) : exec (.marginingStart ctrl) s = execMarginingStart ctrl s := rfl
@[simp] theorem exec_marginingDone (ctrl : Fin 20) (margins : List (BitVec 32)) (s : State) : exec (.marginingDone ctrl margins) s = execMarginingDone ctrl margins s := rfl
@[simp] theorem exec_stkGddrCfgWrite (stack : Fin 4) (value : BitVec 32) (s : State) : exec (.stkGddrCfgWrite stack value) s = execStkGddrCfgWrite stack value s := rfl
@[simp] theorem exec_gddrLayoutDone (stack : Fin 4) (s : State) : exec (.gddrLayoutDone stack) s = execGddrLayoutDone stack s := rfl
@[simp] theorem exec_stkMemCfgWrite (stack : Fin 4) (value : BitVec 32) (s : State) : exec (.stkMemCfgWrite stack value) s = execStkMemCfgWrite stack value s := rfl
@[simp] theorem exec_farCacheResizeDone (stack : Fin 4) (s : State) : exec (.farCacheResizeDone stack) s = execFarCacheResizeDone stack s := rfl
@[simp] theorem exec_loadReady (src : Src) (s : State) : exec (.loadReady src) s = execLoadReady src s := rfl
@[simp] theorem exec_loadRestart (src : Src) (s : State) : exec (.loadRestart src) s = execLoadRestart src s := rfl
@[simp] theorem exec_loadImageFetch (slot : Fin 16) (loadId : Fin 16) (amb : Ambient) (s : State) : exec (.loadImageFetch slot loadId amb) s = execLoadImageFetch slot loadId amb s := rfl
@[simp] theorem exec_loadPacket (src : Src) (s : State) : exec (.loadPacket src) s = execLoadPacket src s := rfl
@[simp] theorem exec_tileHeartbeatSample (stack : Fin 4) (missed : BitVec 34) (s : State) : exec (.tileHeartbeatSample stack missed) s = execTileHeartbeatSample stack missed s := rfl
@[simp] theorem exec_tileCheckFailure (stack : Fin 4) (phys : Fin 34) (check : TileCheck) (s : State) : exec (.tileCheckFailure stack phys check) s = execTileCheckFailure stack phys check s := rfl
@[simp] theorem exec_tileImageReloaded (tile : Fin 128) (s : State) : exec (.tileImageReloaded tile) s = execTileImageReloaded tile s := rfl
@[simp] theorem exec_d2dLaneFailure (d2d : Fin 84) (lane : BitVec 5) (s : State) : exec (.d2dLaneFailure d2d lane) s = execD2dLaneFailure d2d lane s := rfl
@[simp] theorem exec_cutCopyDone (slot : Fin 16) (refused : Bool) (s : State) : exec (.cutCopyDone slot refused) s = execCutCopyDone slot refused s := rfl
@[simp] theorem exec_cutWrite (src : Src) (s : State) : exec (.cutWrite src) s = execCutWrite src s := rfl
@[simp] theorem exec_packageHeartbeat (s : State) : exec .packageHeartbeat s = execPackageHeartbeat s := rfl
@[simp] theorem exec_packageLossDeclared (package : BitVec 12) (s : State) : exec (.packageLossDeclared package) s = execPackageLossDeclared package s := rfl
@[simp] theorem exec_takeoverOrder (src : Src) (s : State) : exec (.takeoverOrder src) s = execTakeoverOrder src s := rfl
@[simp] theorem exec_cutFetch (src : Src) (s : State) : exec (.cutFetch src) s = execCutFetch src s := rfl
@[simp] theorem exec_cutNone (src : Src) (s : State) : exec (.cutNone src) s = execCutNone src s := rfl
@[simp] theorem exec_cutRead (src : Src) (s : State) : exec (.cutRead src) s = execCutRead src s := rfl
@[simp] theorem exec_cutRestored (slot : Fin 16) (s : State) : exec (.cutRestored slot) s = execCutRestored slot s := rfl
@[simp] theorem exec_relinkTimeout (port : Fin 16) (s : State) : exec (.relinkTimeout port) s = execRelinkTimeout port s := rfl
@[simp] theorem exec_fenceOrder (src : Src) (s : State) : exec (.fenceOrder src) s = execFenceOrder src s := rfl
@[simp] theorem exec_nonce (path : SecPath) (drawn : BitVec 256) (s : State) : exec (.nonce path drawn) s = execNonce path drawn s := rfl
@[simp] theorem exec_nonceExpiry (path : SecPath) (s : State) : exec (.nonceExpiry path) s = execNonceExpiry path s := rfl
@[simp] theorem exec_fwBegin (path : SecPath) (s : State) : exec (.fwBegin path) s = execFwBegin path s := rfl
@[simp] theorem exec_fwWrite (path : SecPath) (arg : BitVec 32) (buffer : List (BitVec 8)) (s : State) : exec (.fwWrite path arg buffer) s = execFwWrite path arg buffer s := rfl
@[simp] theorem exec_fwFinish (path : SecPath) (s : State) : exec (.fwFinish path) s = execFwFinish path s := rfl
@[simp] theorem exec_fwActivate (path : SecPath) (s : State) : exec (.fwActivate path) s = execFwActivate path s := rfl
@[simp] theorem exec_updateSessionTimeout (s : State) : exec .updateSessionTimeout s = execUpdateSessionTimeout s := rfl
@[simp] theorem exec_bootConfirm (path : SecPath) (s : State) : exec (.bootConfirm path) s = execBootConfirm path s := rfl
@[simp] theorem exec_svnCommit (path : SecPath) (s : State) : exec (.svnCommit path) s = execSvnCommit path s := rfl
@[simp] theorem exec_ownerClaim (path : SecPath) (buffer : List (BitVec 8)) (s : State) : exec (.ownerClaim path buffer) s = execOwnerClaim path buffer s := rfl
@[simp] theorem exec_ownerRelease (path : SecPath) (buffer : List (BitVec 8)) (s : State) : exec (.ownerRelease path buffer) s = execOwnerRelease path buffer s := rfl
@[simp] theorem exec_debugUnlock (path : SecPath) (buffer : List (BitVec 8)) (s : State) : exec (.debugUnlock path buffer) s = execDebugUnlock path buffer s := rfl
@[simp] theorem exec_debugNonceDraw (drawn : BitVec 256) (s : State) : exec (.debugNonceDraw drawn) s = execDebugNonceDraw drawn s := rfl
@[simp] theorem exec_debugBlockCheck (block : List (BitVec 8)) (s : State) : exec (.debugBlockCheck block) s = execDebugBlockCheck block s := rfl
@[simp] theorem exec_recorderClear (path : SecPath) (buffer : List (BitVec 8)) (s : State) : exec (.recorderClear path buffer) s = execRecorderClear path buffer s := rfl
@[simp] theorem exec_recorderClearDone (s : State) : exec .recorderClearDone s = execRecorderClearDone s := rfl
@[simp] theorem exec_getVersion (s : State) : exec .getVersion s = execGetVersion s := rfl
@[simp] theorem exec_getCapabilities (s : State) : exec .getCapabilities s = execGetCapabilities s := rfl
@[simp] theorem exec_negotiateAlgorithms (s : State) : exec .negotiateAlgorithms s = execNegotiateAlgorithms s := rfl
@[simp] theorem exec_getDigests (s : State) : exec .getDigests s = execGetDigests s := rfl
@[simp] theorem exec_getCertificate (slot : BitVec 8) (offset : BitVec 16) (length : BitVec 16) (s : State) : exec (.getCertificate slot offset length) s = execGetCertificate slot offset length s := rfl
@[simp] theorem exec_challenge (slot : BitVec 8) (asked : SpdmAsk) (s : State) : exec (.challenge slot asked) s = execChallenge slot asked s := rfl
@[simp] theorem exec_getMeasurements (index : BitVec 8) (signed : Bool) (asked : SpdmAsk) (s : State) : exec (.getMeasurements index signed asked) s = execGetMeasurements index signed asked s := rfl
@[simp] theorem exec_keyExchange (request : List (BitVec 8)) (s : State) : exec (.keyExchange request) s = execKeyExchange request s := rfl
@[simp] theorem exec_finish (session : Fin 2) (request : List (BitVec 8)) (s : State) : exec (.finish session request) s = execFinish session request s := rfl
@[simp] theorem exec_spdmHeartbeat (session : Fin 2) (s : State) : exec (.spdmHeartbeat session) s = execSpdmHeartbeat session s := rfl
@[simp] theorem exec_keyUpdate (session : Fin 2) (op : BitVec 8) (s : State) : exec (.keyUpdate session op) s = execKeyUpdate session op s := rfl
@[simp] theorem exec_endSession (session : Fin 2) (s : State) : exec (.endSession session) s = execEndSession session s := rfl
@[simp] theorem exec_chunkGet (handle : BitVec 8) (seq : BitVec 16) (s : State) : exec (.chunkGet handle seq) s = execChunkGet handle seq s := rfl
@[simp] theorem exec_chunkSend (handle : BitVec 8) (seq : BitVec 16) (last : Bool) (data : List (BitVec 8)) (s : State) : exec (.chunkSend handle seq last data) s = execChunkSend handle seq last data s := rfl
@[simp] theorem exec_spdmUnsupported (code : BitVec 8) (s : State) : exec (.spdmUnsupported code) s = execSpdmUnsupported code s := rfl
@[simp] theorem exec_query (session : Fin 2) (s : State) : exec (.query session) s = execQuery session s := rfl
@[simp] theorem exec_keyProg (session : Fin 2) (stream : IdeStream) (keySet : Fin 2) (key : BitVec 256) (s : State) : exec (.keyProg session stream keySet key) s = execKeyProg session stream keySet key s := rfl
@[simp] theorem exec_kSetGo (session : Fin 2) (stream : IdeStream) (keySet : Fin 2) (s : State) : exec (.kSetGo session stream keySet) s = execKSetGo session stream keySet s := rfl
@[simp] theorem exec_kSetStop (session : Fin 2) (stream : IdeStream) (keySet : Fin 2) (s : State) : exec (.kSetStop session stream keySet) s = execKSetStop session stream keySet s := rfl
@[simp] theorem exec_ideIntegrityFailure (stream : IdeStream) (s : State) : exec (.ideIntegrityFailure stream) s = execIdeIntegrityFailure stream s := rfl
@[simp] theorem exec_recRead (start : BitVec 32) (unit : BitVec 16) (s : State) : exec (.recRead start unit) s = execRecRead start unit s := rfl
@[simp] theorem exec_recStatus (s : State) : exec .recStatus s = execRecStatus s := rfl
@[simp] theorem exec_rateLimitRefill (code : BitVec 16) (s : State) : exec (.rateLimitRefill code) s = execRateLimitRefill code s := rfl
@[simp] theorem exec_recorderProgram (s : State) : exec .recorderProgram s = execRecorderProgram s := rfl
@[simp] theorem exec_journalWrite (failed : Bool) (s : State) : exec (.journalWrite failed) s = execJournalWrite failed s := rfl
@[simp] theorem exec_statsPageWritten (slot : Fin 16) (s : State) : exec (.statsPageWritten slot) s = execStatsPageWritten slot s := rfl
@[simp] theorem exec_perstNDeassert (s : State) : exec .perstNDeassert s = execPerstNDeassert s := rfl
@[simp] theorem exec_prochotNDeassert (s : State) : exec .prochotNDeassert s = execProchotNDeassert s := rfl
@[simp] theorem exec_frameLockLost (port : Fin 16) (s : State) : exec (.frameLockLost port) s = execFrameLockLost port s := rfl
@[simp] theorem exec_frameLockRegained (port : Fin 16) (s : State) : exec (.frameLockRegained port) s = execFrameLockRegained port s := rfl
@[simp] theorem exec_tcommitComplete (tile : Fin 128) (stream : Fin 3) (logError : Bool) (s : State) : exec (.tcommitComplete tile stream logError) s = execTcommitComplete tile stream logError s := rfl
@[simp] theorem exec_loopbackCheckerLock (port : Fin 16) (lane : Fin 8) (s : State) : exec (.loopbackCheckerLock port lane) s = execLoopbackCheckerLock port lane s := rfl
@[simp] theorem exec_spdmHeartbeatTimeout (session : Fin 2) (s : State) : exec (.spdmHeartbeatTimeout session) s = execSpdmHeartbeatTimeout session s := rfl

end Sys2Proof.Machine
end

