-- ==== Sys2Proof/Laws/Mem.lean ====
section
/-! SUPPORT. Mem.lean: the sparse tables and the device memory: a read after a write, and the canonical form that every operation keeps. -/
namespace Sys2Proof.Machine

/-! ## Tables -/

@[simp] theorem tget_nil {α : Type} (d : α) (i : Nat) : tget d [] i = d := rfl

theorem tget_tput_same {α : Type} (d : α) (t : Tbl α) (i : Nat) (x : α) : tget d (tput t i x) i = x := by
  induction t with
  | nil => simp [tput, tget]
  | cons e r ih =>
    obtain ⟨k, v⟩ := e
    simp only [tput]
    split
    · simp [tget]
    · split
      · simp [tget]
      · simp [tget, *]

theorem tget_tput_ne {α : Type} (d : α) (t : Tbl α) {i j : Nat} (x : α) (h : j ≠ i) : tget d (tput t i x) j = tget d t j := by
  induction t with
  | nil => simp [tput, tget, h]
  | cons e r ih =>
    obtain ⟨k, v⟩ := e
    simp only [tput]
    split
    · next hk => subst hk; simp [tget, h]
    · split
      · simp [tget, h]
      · simp only [tget]; split <;> simp_all

/-- A write of an entry, read anywhere. -/
theorem tget_tput {α : Type} (d : α) (t : Tbl α) (i j : Nat) (x : α) :
    tget d (tput t i x) j = if j = i then x else tget d t j := by
  split
  · next h => rw [h, tget_tput_same]
  · next h => exact tget_tput_ne d t x h

theorem tget_tmod {α : Type} (d : α) (t : Tbl α) (i j : Nat) (f : α → α) :
    tget d (tmod d t i f) j = if j = i then f (tget d t i) else tget d t j := tget_tput d t i j _

theorem tget_tdel {α : Type} (d : α) (t : Tbl α) (i j : Nat) : tget d (tdel t i) j = if j = i then d else tget d t j := by
  induction t with
  | nil => simp [tdel]
  | cons e r ih =>
    obtain ⟨k, v⟩ := e
    simp only [tdel, List.filter] at ih ⊢
    by_cases hk : k = i
    · subst hk
      simp only [bne_self_eq_false, tget]
      rw [ih]
      split <;> simp_all
    · simp only [tget]
      have : (k != i) = true := by simp [hk]
      simp only [this, tget]
      rw [ih]
      split <;> simp_all

/-! ## Order -/

/-- Every index of a table is above `a`. -/
def aboveAll {α : Type} (a : Nat) (t : Tbl α) : Prop := ∀ e ∈ t, a < e.1

theorem tsorted_cons {α : Type} (a : Nat) (x : α) (r : Tbl α) : tsorted ((a, x) :: r) = true ↔ tsorted r = true ∧ aboveAll a r := by
  induction r generalizing a x with
  | nil => simp [tsorted, aboveAll]
  | cons e r ih =>
    obtain ⟨b, y⟩ := e
    simp only [tsorted, Bool.and_eq_true, decide_eq_true_eq, aboveAll, List.mem_cons]
    constructor
    · rintro ⟨h, hs⟩
      refine ⟨hs, ?_⟩
      rintro e (rfl | he)
      · exact h
      · exact lt_trans h (((ih b y).mp hs).2 e he)
    · rintro ⟨hs, h⟩
      exact ⟨h (b, y) (Or.inl rfl), hs⟩

theorem mem_tput {α : Type} {t : Tbl α} {i : Nat} {x : α} {e : Nat × α} (h : e ∈ tput t i x) : e = (i, x) ∨ e ∈ t := by
  induction t with
  | nil => simpa [tput] using h
  | cons p r ih =>
    obtain ⟨k, v⟩ := p
    simp only [tput] at h
    split at h
    · rcases List.mem_cons.mp h with h | h
      · exact Or.inl h
      · exact Or.inr (List.mem_cons_of_mem _ h)
    · split at h
      · rcases List.mem_cons.mp h with h | h
        · exact Or.inl h
        · exact Or.inr h
      · rcases List.mem_cons.mp h with h | h
        · exact Or.inr (h ▸ List.mem_cons_self ..)
        · rcases ih h with h | h
          · exact Or.inl h
          · exact Or.inr (List.mem_cons_of_mem _ h)

theorem tsorted_tput {α : Type} (t : Tbl α) (i : Nat) (x : α) (h : tsorted t = true) : tsorted (tput t i x) = true := by
  induction t with
  | nil => rfl
  | cons p r ih =>
    obtain ⟨k, v⟩ := p
    have hr := (tsorted_cons k v r).mp h
    simp only [tput]
    split
    · next hk => subst hk; exact (tsorted_cons i x r).mpr hr
    · split
      · next hk =>
        refine (tsorted_cons i x _).mpr ⟨h, ?_⟩
        intro e he
        rcases List.mem_cons.mp he with he | he
        · rw [he]; exact hk
        · exact lt_trans hk (hr.2 e he)
      · next h1 h2 =>
        refine (tsorted_cons k v _).mpr ⟨ih hr.1, ?_⟩
        intro e he
        rcases mem_tput he with he | he
        · rw [he]; exact lt_of_le_of_ne (Nat.le_of_not_lt h2) (fun hh => h1 hh.symm)
        · exact hr.2 e he

theorem tsorted_filter {α : Type} (t : Tbl α) (p : Nat × α → Bool) (h : tsorted t = true) : tsorted (t.filter p) = true := by
  induction t with
  | nil => rfl
  | cons e r ih =>
    obtain ⟨k, v⟩ := e
    have hr := (tsorted_cons k v r).mp h
    simp only [List.filter]
    split
    · refine (tsorted_cons k v _).mpr ⟨ih hr.1, ?_⟩
      intro e he
      exact hr.2 e (List.mem_of_mem_filter he)
    · exact ih hr.1

/-! ## The canonical form of device memory -/

theorem Memory.wf_iff (m : Mem) : Memory.wf m = true ↔ tsorted m = true ∧ ∀ e ∈ m, e.2 ≠ 0 := by
  simp [Memory.wf]

theorem Memory.wf_nil : Memory.wf [] = true := rfl

theorem Memory.wf_filter (m : Mem) (p : Nat × Byte → Bool) (h : Memory.wf m = true) : Memory.wf (m.filter p) = true := by
  rw [Memory.wf_iff] at h ⊢
  exact ⟨tsorted_filter m p h.1, fun e he => h.2 e (List.mem_of_mem_filter he)⟩

theorem Memory.wf_set (m : Mem) (a : Nat) (b : Byte) (h : Memory.wf m = true) : Memory.wf (Mem.set m a b) = true := by
  simp only [Mem.set]
  split
  · exact Memory.wf_filter m _ h
  · next hb =>
    rw [Memory.wf_iff] at h ⊢
    refine ⟨tsorted_tput m a b h.1, fun e he => ?_⟩
    rcases mem_tput he with he | he
    · rw [he]; exact hb
    · exact h.2 e he

theorem Memory.wf_setCells (cells : List Host.Cell) (m : Mem) (h : Memory.wf m = true) : Memory.wf (Mem.setCells m cells) = true := by
  induction cells generalizing m with
  | nil => exact h
  | cons c r ih => exact ih _ (Memory.wf_set m c.1 c.2 h)

theorem Memory.wf_clear (m : Mem) (lo hi : Nat) (h : Memory.wf m = true) : Memory.wf (Mem.clear m lo hi) = true :=
  Memory.wf_filter m _ h

theorem Memory.wf_reset : Memory.wf State.reset.mem = true := rfl

/-- A byte read after one is written. -/
theorem Mem.byte_set (m : Mem) (a b : Nat) (x : Byte) : Mem.byte (Mem.set m a x) b = if b = a then x else Mem.byte m b := by
  simp only [Mem.byte, Mem.set]
  split
  · next hx => rw [tget_tdel, hx]
  · exact tget_tput 0 m a b x

/-- Cells written leave every other address as it was. -/
theorem Mem.byte_setCells_other (cells : List Host.Cell) (m : Mem) (a : Nat) (h : ∀ c ∈ cells, c.1 ≠ a) :
    Mem.byte (Mem.setCells m cells) a = Mem.byte m a := by
  induction cells generalizing m with
  | nil => rfl
  | cons c r ih =>
    rw [Mem.setCells, ih _ (fun c hc => h c (List.mem_cons_of_mem _ hc)), Mem.byte_set]
    exact if_neg (fun hh => h c (List.mem_cons_self ..) hh.symm)

/-- Bytes of a cleared range are zero, others are kept. -/
theorem Mem.byte_clear (m : Mem) (lo hi a : Nat) : Mem.byte (Mem.clear m lo hi) a = if lo ≤ a ∧ a < hi then 0 else Mem.byte m a := by
  induction m with
  | nil => simp [Mem.clear, Mem.byte]
  | cons e r ih =>
    obtain ⟨k, v⟩ := e
    simp only [Mem.clear, Mem.byte] at ih ⊢
    rw [List.filter_cons]
    split
    · next hk =>
      simp only [tget]
      by_cases hak : a = k
      · subst hak
        simp only [Bool.or_eq_true, decide_eq_true_eq] at hk
        rw [if_pos rfl, if_pos rfl, if_neg (by omega)]
      · rw [if_neg hak, if_neg hak, ih]
    · next hk =>
      rw [ih]
      simp only [tget]
      by_cases hak : a = k
      · subst hak
        simp only [Bool.or_eq_true, decide_eq_true_eq] at hk
        rw [if_pos (by omega), if_pos (by omega)]
      · rw [if_neg hak]

end Sys2Proof.Machine
end

