-- ==== Sys2Proof/Laws/State.lean ====
section
/-! SUPPORT. State.lean: what each update of the state leaves in each field. -/
namespace Sys2Proof.Machine

/-! ### modStack -/

@[simp] theorem State.modStack_pending (s : State) (k : Nat) (f : Stack → Stack) : (s.modStack k f).pending = s.pending := rfl
@[simp] theorem State.modStack_mem (s : State) (k : Nat) (f : Stack → Stack) : (s.modStack k f).mem = s.mem := rfl
@[simp] theorem State.modStack_poison (s : State) (k : Nat) (f : Stack → Stack) : (s.modStack k f).poison = s.poison := rfl
@[simp] theorem State.modStack_flaws (s : State) (k : Nat) (f : Stack → Stack) : (s.modStack k f).flaws = s.flaws := rfl
@[simp] theorem State.modStack_chunkCache (s : State) (k : Nat) (f : Stack → Stack) : (s.modStack k f).chunkCache = s.chunkCache := rfl
@[simp] theorem State.modStack_hostMem (s : State) (k : Nat) (f : Stack → Stack) : (s.modStack k f).hostMem = s.hostMem := rfl
@[simp] theorem State.modStack_flash (s : State) (k : Nat) (f : Stack → Stack) : (s.modStack k f).flash = s.flash := rfl
@[simp] theorem State.modStack_tiles (s : State) (k : Nat) (f : Stack → Stack) : (s.modStack k f).tiles = s.tiles := rfl
@[simp] theorem State.modStack_stks (s : State) (k : Nat) (f : Stack → Stack) : (s.modStack k f).stks = tmod {} s.stks k f := rfl
@[simp] theorem State.modStack_gds (s : State) (k : Nat) (f : Stack → Stack) : (s.modStack k f).gds = s.gds := rfl
@[simp] theorem State.modStack_objs (s : State) (k : Nat) (f : Stack → Stack) : (s.modStack k f).objs = s.objs := rfl
@[simp] theorem State.modStack_dealer (s : State) (k : Nat) (f : Stack → Stack) : (s.modStack k f).dealer = s.dealer := rfl
@[simp] theorem State.modStack_trk (s : State) (k : Nat) (f : Stack → Stack) : (s.modStack k f).trk = s.trk := rfl
@[simp] theorem State.modStack_host (s : State) (k : Nat) (f : Stack → Stack) : (s.modStack k f).host = s.host := rfl
@[simp] theorem State.modStack_ports (s : State) (k : Nat) (f : Stack → Stack) : (s.modStack k f).ports = s.ports := rfl
@[simp] theorem State.modStack_originRoutes (s : State) (k : Nat) (f : Stack → Stack) : (s.modStack k f).originRoutes = s.originRoutes := rfl
@[simp] theorem State.modStack_ortIndex (s : State) (k : Nat) (f : Stack → Stack) : (s.modStack k f).ortIndex = s.ortIndex := rfl
@[simp] theorem State.modStack_melds (s : State) (k : Nat) (f : Stack → Stack) : (s.modStack k f).melds = s.melds := rfl
@[simp] theorem State.modStack_tel (s : State) (k : Nat) (f : Stack → Stack) : (s.modStack k f).tel = s.tel := rfl
@[simp] theorem State.modStack_pkg (s : State) (k : Nat) (f : Stack → Stack) : (s.modStack k f).pkg = s.pkg := rfl
@[simp] theorem State.modStack_fuses (s : State) (k : Nat) (f : Stack → Stack) : (s.modStack k f).fuses = s.fuses := rfl
@[simp] theorem State.modStack_sec (s : State) (k : Nat) (f : Stack → Stack) : (s.modStack k f).sec = s.sec := rfl
@[simp] theorem State.modStack_recov (s : State) (k : Nat) (f : Stack → Stack) : (s.modStack k f).recov = s.recov := rfl
@[simp] theorem State.modStack_noc (s : State) (k : Nat) (f : Stack → Stack) : (s.modStack k f).noc = s.noc := rfl
@[simp] theorem State.modStack_out (s : State) (k : Nat) (f : Stack → Stack) : (s.modStack k f).out = s.out := rfl
@[simp] theorem State.modStack_now (s : State) (k : Nat) (f : Stack → Stack) : (s.modStack k f).now = s.now := rfl
@[simp] theorem State.modStack_free (s : State) (k : Nat) (f : Stack → Stack) : (s.modStack k f).free = s.free := rfl

/-! ### modTileAt -/

@[simp] theorem State.modTileAt_pending (s : State) (i : Nat) (f : Tile → Tile) : (s.modTileAt i f).pending = s.pending := rfl
@[simp] theorem State.modTileAt_mem (s : State) (i : Nat) (f : Tile → Tile) : (s.modTileAt i f).mem = s.mem := rfl
@[simp] theorem State.modTileAt_poison (s : State) (i : Nat) (f : Tile → Tile) : (s.modTileAt i f).poison = s.poison := rfl
@[simp] theorem State.modTileAt_flaws (s : State) (i : Nat) (f : Tile → Tile) : (s.modTileAt i f).flaws = s.flaws := rfl
@[simp] theorem State.modTileAt_chunkCache (s : State) (i : Nat) (f : Tile → Tile) : (s.modTileAt i f).chunkCache = s.chunkCache := rfl
@[simp] theorem State.modTileAt_hostMem (s : State) (i : Nat) (f : Tile → Tile) : (s.modTileAt i f).hostMem = s.hostMem := rfl
@[simp] theorem State.modTileAt_flash (s : State) (i : Nat) (f : Tile → Tile) : (s.modTileAt i f).flash = s.flash := rfl
@[simp] theorem State.modTileAt_tiles (s : State) (i : Nat) (f : Tile → Tile) : (s.modTileAt i f).tiles = tmod {} s.tiles i f := rfl
@[simp] theorem State.modTileAt_stks (s : State) (i : Nat) (f : Tile → Tile) : (s.modTileAt i f).stks = s.stks := rfl
@[simp] theorem State.modTileAt_gds (s : State) (i : Nat) (f : Tile → Tile) : (s.modTileAt i f).gds = s.gds := rfl
@[simp] theorem State.modTileAt_objs (s : State) (i : Nat) (f : Tile → Tile) : (s.modTileAt i f).objs = s.objs := rfl
@[simp] theorem State.modTileAt_dealer (s : State) (i : Nat) (f : Tile → Tile) : (s.modTileAt i f).dealer = s.dealer := rfl
@[simp] theorem State.modTileAt_trk (s : State) (i : Nat) (f : Tile → Tile) : (s.modTileAt i f).trk = s.trk := rfl
@[simp] theorem State.modTileAt_host (s : State) (i : Nat) (f : Tile → Tile) : (s.modTileAt i f).host = s.host := rfl
@[simp] theorem State.modTileAt_ports (s : State) (i : Nat) (f : Tile → Tile) : (s.modTileAt i f).ports = s.ports := rfl
@[simp] theorem State.modTileAt_originRoutes (s : State) (i : Nat) (f : Tile → Tile) : (s.modTileAt i f).originRoutes = s.originRoutes := rfl
@[simp] theorem State.modTileAt_ortIndex (s : State) (i : Nat) (f : Tile → Tile) : (s.modTileAt i f).ortIndex = s.ortIndex := rfl
@[simp] theorem State.modTileAt_melds (s : State) (i : Nat) (f : Tile → Tile) : (s.modTileAt i f).melds = s.melds := rfl
@[simp] theorem State.modTileAt_tel (s : State) (i : Nat) (f : Tile → Tile) : (s.modTileAt i f).tel = s.tel := rfl
@[simp] theorem State.modTileAt_pkg (s : State) (i : Nat) (f : Tile → Tile) : (s.modTileAt i f).pkg = s.pkg := rfl
@[simp] theorem State.modTileAt_fuses (s : State) (i : Nat) (f : Tile → Tile) : (s.modTileAt i f).fuses = s.fuses := rfl
@[simp] theorem State.modTileAt_sec (s : State) (i : Nat) (f : Tile → Tile) : (s.modTileAt i f).sec = s.sec := rfl
@[simp] theorem State.modTileAt_recov (s : State) (i : Nat) (f : Tile → Tile) : (s.modTileAt i f).recov = s.recov := rfl
@[simp] theorem State.modTileAt_noc (s : State) (i : Nat) (f : Tile → Tile) : (s.modTileAt i f).noc = s.noc := rfl
@[simp] theorem State.modTileAt_out (s : State) (i : Nat) (f : Tile → Tile) : (s.modTileAt i f).out = s.out := rfl
@[simp] theorem State.modTileAt_now (s : State) (i : Nat) (f : Tile → Tile) : (s.modTileAt i f).now = s.now := rfl
@[simp] theorem State.modTileAt_free (s : State) (i : Nat) (f : Tile → Tile) : (s.modTileAt i f).free = s.free := rfl

/-! ### modTile -/

@[simp] theorem State.modTile_pending (s : State) (L : Nat) (f : Tile → Tile) : (s.modTile L f).pending = s.pending := rfl
@[simp] theorem State.modTile_mem (s : State) (L : Nat) (f : Tile → Tile) : (s.modTile L f).mem = s.mem := rfl
@[simp] theorem State.modTile_poison (s : State) (L : Nat) (f : Tile → Tile) : (s.modTile L f).poison = s.poison := rfl
@[simp] theorem State.modTile_flaws (s : State) (L : Nat) (f : Tile → Tile) : (s.modTile L f).flaws = s.flaws := rfl
@[simp] theorem State.modTile_chunkCache (s : State) (L : Nat) (f : Tile → Tile) : (s.modTile L f).chunkCache = s.chunkCache := rfl
@[simp] theorem State.modTile_hostMem (s : State) (L : Nat) (f : Tile → Tile) : (s.modTile L f).hostMem = s.hostMem := rfl
@[simp] theorem State.modTile_flash (s : State) (L : Nat) (f : Tile → Tile) : (s.modTile L f).flash = s.flash := rfl
@[simp] theorem State.modTile_tiles (s : State) (L : Nat) (f : Tile → Tile) : (s.modTile L f).tiles = tmod {} s.tiles (s.tileIx L) f := rfl
@[simp] theorem State.modTile_stks (s : State) (L : Nat) (f : Tile → Tile) : (s.modTile L f).stks = s.stks := rfl
@[simp] theorem State.modTile_gds (s : State) (L : Nat) (f : Tile → Tile) : (s.modTile L f).gds = s.gds := rfl
@[simp] theorem State.modTile_objs (s : State) (L : Nat) (f : Tile → Tile) : (s.modTile L f).objs = s.objs := rfl
@[simp] theorem State.modTile_dealer (s : State) (L : Nat) (f : Tile → Tile) : (s.modTile L f).dealer = s.dealer := rfl
@[simp] theorem State.modTile_trk (s : State) (L : Nat) (f : Tile → Tile) : (s.modTile L f).trk = s.trk := rfl
@[simp] theorem State.modTile_host (s : State) (L : Nat) (f : Tile → Tile) : (s.modTile L f).host = s.host := rfl
@[simp] theorem State.modTile_ports (s : State) (L : Nat) (f : Tile → Tile) : (s.modTile L f).ports = s.ports := rfl
@[simp] theorem State.modTile_originRoutes (s : State) (L : Nat) (f : Tile → Tile) : (s.modTile L f).originRoutes = s.originRoutes := rfl
@[simp] theorem State.modTile_ortIndex (s : State) (L : Nat) (f : Tile → Tile) : (s.modTile L f).ortIndex = s.ortIndex := rfl
@[simp] theorem State.modTile_melds (s : State) (L : Nat) (f : Tile → Tile) : (s.modTile L f).melds = s.melds := rfl
@[simp] theorem State.modTile_tel (s : State) (L : Nat) (f : Tile → Tile) : (s.modTile L f).tel = s.tel := rfl
@[simp] theorem State.modTile_pkg (s : State) (L : Nat) (f : Tile → Tile) : (s.modTile L f).pkg = s.pkg := rfl
@[simp] theorem State.modTile_fuses (s : State) (L : Nat) (f : Tile → Tile) : (s.modTile L f).fuses = s.fuses := rfl
@[simp] theorem State.modTile_sec (s : State) (L : Nat) (f : Tile → Tile) : (s.modTile L f).sec = s.sec := rfl
@[simp] theorem State.modTile_recov (s : State) (L : Nat) (f : Tile → Tile) : (s.modTile L f).recov = s.recov := rfl
@[simp] theorem State.modTile_noc (s : State) (L : Nat) (f : Tile → Tile) : (s.modTile L f).noc = s.noc := rfl
@[simp] theorem State.modTile_out (s : State) (L : Nat) (f : Tile → Tile) : (s.modTile L f).out = s.out := rfl
@[simp] theorem State.modTile_now (s : State) (L : Nat) (f : Tile → Tile) : (s.modTile L f).now = s.now := rfl
@[simp] theorem State.modTile_free (s : State) (L : Nat) (f : Tile → Tile) : (s.modTile L f).free = s.free := rfl

/-! ### modJob -/

@[simp] theorem State.modJob_pending (s : State) (n : Nat) (f : Job → Job) : (s.modJob n f).pending = s.pending := rfl
@[simp] theorem State.modJob_mem (s : State) (n : Nat) (f : Job → Job) : (s.modJob n f).mem = s.mem := rfl
@[simp] theorem State.modJob_poison (s : State) (n : Nat) (f : Job → Job) : (s.modJob n f).poison = s.poison := rfl
@[simp] theorem State.modJob_flaws (s : State) (n : Nat) (f : Job → Job) : (s.modJob n f).flaws = s.flaws := rfl
@[simp] theorem State.modJob_chunkCache (s : State) (n : Nat) (f : Job → Job) : (s.modJob n f).chunkCache = s.chunkCache := rfl
@[simp] theorem State.modJob_hostMem (s : State) (n : Nat) (f : Job → Job) : (s.modJob n f).hostMem = s.hostMem := rfl
@[simp] theorem State.modJob_flash (s : State) (n : Nat) (f : Job → Job) : (s.modJob n f).flash = s.flash := rfl
@[simp] theorem State.modJob_tiles (s : State) (n : Nat) (f : Job → Job) : (s.modJob n f).tiles = s.tiles := rfl
@[simp] theorem State.modJob_stks (s : State) (n : Nat) (f : Job → Job) : (s.modJob n f).stks = s.stks := rfl
@[simp] theorem State.modJob_gds (s : State) (n : Nat) (f : Job → Job) : (s.modJob n f).gds = s.gds := rfl
@[simp] theorem State.modJob_objs (s : State) (n : Nat) (f : Job → Job) : (s.modJob n f).objs = s.objs := rfl
@[simp] theorem State.modJob_dealer (s : State) (n : Nat) (f : Job → Job) : (s.modJob n f).dealer = { s.dealer with jobs := tmod {} s.dealer.jobs n f } := rfl
@[simp] theorem State.modJob_trk (s : State) (n : Nat) (f : Job → Job) : (s.modJob n f).trk = s.trk := rfl
@[simp] theorem State.modJob_host (s : State) (n : Nat) (f : Job → Job) : (s.modJob n f).host = s.host := rfl
@[simp] theorem State.modJob_ports (s : State) (n : Nat) (f : Job → Job) : (s.modJob n f).ports = s.ports := rfl
@[simp] theorem State.modJob_originRoutes (s : State) (n : Nat) (f : Job → Job) : (s.modJob n f).originRoutes = s.originRoutes := rfl
@[simp] theorem State.modJob_ortIndex (s : State) (n : Nat) (f : Job → Job) : (s.modJob n f).ortIndex = s.ortIndex := rfl
@[simp] theorem State.modJob_melds (s : State) (n : Nat) (f : Job → Job) : (s.modJob n f).melds = s.melds := rfl
@[simp] theorem State.modJob_tel (s : State) (n : Nat) (f : Job → Job) : (s.modJob n f).tel = s.tel := rfl
@[simp] theorem State.modJob_pkg (s : State) (n : Nat) (f : Job → Job) : (s.modJob n f).pkg = s.pkg := rfl
@[simp] theorem State.modJob_fuses (s : State) (n : Nat) (f : Job → Job) : (s.modJob n f).fuses = s.fuses := rfl
@[simp] theorem State.modJob_sec (s : State) (n : Nat) (f : Job → Job) : (s.modJob n f).sec = s.sec := rfl
@[simp] theorem State.modJob_recov (s : State) (n : Nat) (f : Job → Job) : (s.modJob n f).recov = s.recov := rfl
@[simp] theorem State.modJob_noc (s : State) (n : Nat) (f : Job → Job) : (s.modJob n f).noc = s.noc := rfl
@[simp] theorem State.modJob_out (s : State) (n : Nat) (f : Job → Job) : (s.modJob n f).out = s.out := rfl
@[simp] theorem State.modJob_now (s : State) (n : Nat) (f : Job → Job) : (s.modJob n f).now = s.now := rfl
@[simp] theorem State.modJob_free (s : State) (n : Nat) (f : Job → Job) : (s.modJob n f).free = s.free := rfl

/-! ### modGd -/

@[simp] theorem State.modGd_pending (s : State) (n : Nat) (f : Gd → Gd) : (s.modGd n f).pending = s.pending := rfl
@[simp] theorem State.modGd_mem (s : State) (n : Nat) (f : Gd → Gd) : (s.modGd n f).mem = s.mem := rfl
@[simp] theorem State.modGd_poison (s : State) (n : Nat) (f : Gd → Gd) : (s.modGd n f).poison = s.poison := rfl
@[simp] theorem State.modGd_flaws (s : State) (n : Nat) (f : Gd → Gd) : (s.modGd n f).flaws = s.flaws := rfl
@[simp] theorem State.modGd_chunkCache (s : State) (n : Nat) (f : Gd → Gd) : (s.modGd n f).chunkCache = s.chunkCache := rfl
@[simp] theorem State.modGd_hostMem (s : State) (n : Nat) (f : Gd → Gd) : (s.modGd n f).hostMem = s.hostMem := rfl
@[simp] theorem State.modGd_flash (s : State) (n : Nat) (f : Gd → Gd) : (s.modGd n f).flash = s.flash := rfl
@[simp] theorem State.modGd_tiles (s : State) (n : Nat) (f : Gd → Gd) : (s.modGd n f).tiles = s.tiles := rfl
@[simp] theorem State.modGd_stks (s : State) (n : Nat) (f : Gd → Gd) : (s.modGd n f).stks = s.stks := rfl
@[simp] theorem State.modGd_gds (s : State) (n : Nat) (f : Gd → Gd) : (s.modGd n f).gds = tmod {} s.gds n f := rfl
@[simp] theorem State.modGd_objs (s : State) (n : Nat) (f : Gd → Gd) : (s.modGd n f).objs = s.objs := rfl
@[simp] theorem State.modGd_dealer (s : State) (n : Nat) (f : Gd → Gd) : (s.modGd n f).dealer = s.dealer := rfl
@[simp] theorem State.modGd_trk (s : State) (n : Nat) (f : Gd → Gd) : (s.modGd n f).trk = s.trk := rfl
@[simp] theorem State.modGd_host (s : State) (n : Nat) (f : Gd → Gd) : (s.modGd n f).host = s.host := rfl
@[simp] theorem State.modGd_ports (s : State) (n : Nat) (f : Gd → Gd) : (s.modGd n f).ports = s.ports := rfl
@[simp] theorem State.modGd_originRoutes (s : State) (n : Nat) (f : Gd → Gd) : (s.modGd n f).originRoutes = s.originRoutes := rfl
@[simp] theorem State.modGd_ortIndex (s : State) (n : Nat) (f : Gd → Gd) : (s.modGd n f).ortIndex = s.ortIndex := rfl
@[simp] theorem State.modGd_melds (s : State) (n : Nat) (f : Gd → Gd) : (s.modGd n f).melds = s.melds := rfl
@[simp] theorem State.modGd_tel (s : State) (n : Nat) (f : Gd → Gd) : (s.modGd n f).tel = s.tel := rfl
@[simp] theorem State.modGd_pkg (s : State) (n : Nat) (f : Gd → Gd) : (s.modGd n f).pkg = s.pkg := rfl
@[simp] theorem State.modGd_fuses (s : State) (n : Nat) (f : Gd → Gd) : (s.modGd n f).fuses = s.fuses := rfl
@[simp] theorem State.modGd_sec (s : State) (n : Nat) (f : Gd → Gd) : (s.modGd n f).sec = s.sec := rfl
@[simp] theorem State.modGd_recov (s : State) (n : Nat) (f : Gd → Gd) : (s.modGd n f).recov = s.recov := rfl
@[simp] theorem State.modGd_noc (s : State) (n : Nat) (f : Gd → Gd) : (s.modGd n f).noc = s.noc := rfl
@[simp] theorem State.modGd_out (s : State) (n : Nat) (f : Gd → Gd) : (s.modGd n f).out = s.out := rfl
@[simp] theorem State.modGd_now (s : State) (n : Nat) (f : Gd → Gd) : (s.modGd n f).now = s.now := rfl
@[simp] theorem State.modGd_free (s : State) (n : Nat) (f : Gd → Gd) : (s.modGd n f).free = s.free := rfl

/-! ### modPort -/

@[simp] theorem State.modPort_pending (s : State) (p : Nat) (f : Port → Port) : (s.modPort p f).pending = s.pending := rfl
@[simp] theorem State.modPort_mem (s : State) (p : Nat) (f : Port → Port) : (s.modPort p f).mem = s.mem := rfl
@[simp] theorem State.modPort_poison (s : State) (p : Nat) (f : Port → Port) : (s.modPort p f).poison = s.poison := rfl
@[simp] theorem State.modPort_flaws (s : State) (p : Nat) (f : Port → Port) : (s.modPort p f).flaws = s.flaws := rfl
@[simp] theorem State.modPort_chunkCache (s : State) (p : Nat) (f : Port → Port) : (s.modPort p f).chunkCache = s.chunkCache := rfl
@[simp] theorem State.modPort_hostMem (s : State) (p : Nat) (f : Port → Port) : (s.modPort p f).hostMem = s.hostMem := rfl
@[simp] theorem State.modPort_flash (s : State) (p : Nat) (f : Port → Port) : (s.modPort p f).flash = s.flash := rfl
@[simp] theorem State.modPort_tiles (s : State) (p : Nat) (f : Port → Port) : (s.modPort p f).tiles = s.tiles := rfl
@[simp] theorem State.modPort_stks (s : State) (p : Nat) (f : Port → Port) : (s.modPort p f).stks = s.stks := rfl
@[simp] theorem State.modPort_gds (s : State) (p : Nat) (f : Port → Port) : (s.modPort p f).gds = s.gds := rfl
@[simp] theorem State.modPort_objs (s : State) (p : Nat) (f : Port → Port) : (s.modPort p f).objs = s.objs := rfl
@[simp] theorem State.modPort_dealer (s : State) (p : Nat) (f : Port → Port) : (s.modPort p f).dealer = s.dealer := rfl
@[simp] theorem State.modPort_trk (s : State) (p : Nat) (f : Port → Port) : (s.modPort p f).trk = s.trk := rfl
@[simp] theorem State.modPort_host (s : State) (p : Nat) (f : Port → Port) : (s.modPort p f).host = s.host := rfl
@[simp] theorem State.modPort_ports (s : State) (p : Nat) (f : Port → Port) : (s.modPort p f).ports = tmod {} s.ports p f := rfl
@[simp] theorem State.modPort_originRoutes (s : State) (p : Nat) (f : Port → Port) : (s.modPort p f).originRoutes = s.originRoutes := rfl
@[simp] theorem State.modPort_ortIndex (s : State) (p : Nat) (f : Port → Port) : (s.modPort p f).ortIndex = s.ortIndex := rfl
@[simp] theorem State.modPort_melds (s : State) (p : Nat) (f : Port → Port) : (s.modPort p f).melds = s.melds := rfl
@[simp] theorem State.modPort_tel (s : State) (p : Nat) (f : Port → Port) : (s.modPort p f).tel = s.tel := rfl
@[simp] theorem State.modPort_pkg (s : State) (p : Nat) (f : Port → Port) : (s.modPort p f).pkg = s.pkg := rfl
@[simp] theorem State.modPort_fuses (s : State) (p : Nat) (f : Port → Port) : (s.modPort p f).fuses = s.fuses := rfl
@[simp] theorem State.modPort_sec (s : State) (p : Nat) (f : Port → Port) : (s.modPort p f).sec = s.sec := rfl
@[simp] theorem State.modPort_recov (s : State) (p : Nat) (f : Port → Port) : (s.modPort p f).recov = s.recov := rfl
@[simp] theorem State.modPort_noc (s : State) (p : Nat) (f : Port → Port) : (s.modPort p f).noc = s.noc := rfl
@[simp] theorem State.modPort_out (s : State) (p : Nat) (f : Port → Port) : (s.modPort p f).out = s.out := rfl
@[simp] theorem State.modPort_now (s : State) (p : Nat) (f : Port → Port) : (s.modPort p f).now = s.now := rfl
@[simp] theorem State.modPort_free (s : State) (p : Nat) (f : Port → Port) : (s.modPort p f).free = s.free := rfl

/-! ### modMeld -/

@[simp] theorem State.modMeld_pending (s : State) (e : Nat) (f : Meld → Meld) : (s.modMeld e f).pending = s.pending := rfl
@[simp] theorem State.modMeld_mem (s : State) (e : Nat) (f : Meld → Meld) : (s.modMeld e f).mem = s.mem := rfl
@[simp] theorem State.modMeld_poison (s : State) (e : Nat) (f : Meld → Meld) : (s.modMeld e f).poison = s.poison := rfl
@[simp] theorem State.modMeld_flaws (s : State) (e : Nat) (f : Meld → Meld) : (s.modMeld e f).flaws = s.flaws := rfl
@[simp] theorem State.modMeld_chunkCache (s : State) (e : Nat) (f : Meld → Meld) : (s.modMeld e f).chunkCache = s.chunkCache := rfl
@[simp] theorem State.modMeld_hostMem (s : State) (e : Nat) (f : Meld → Meld) : (s.modMeld e f).hostMem = s.hostMem := rfl
@[simp] theorem State.modMeld_flash (s : State) (e : Nat) (f : Meld → Meld) : (s.modMeld e f).flash = s.flash := rfl
@[simp] theorem State.modMeld_tiles (s : State) (e : Nat) (f : Meld → Meld) : (s.modMeld e f).tiles = s.tiles := rfl
@[simp] theorem State.modMeld_stks (s : State) (e : Nat) (f : Meld → Meld) : (s.modMeld e f).stks = s.stks := rfl
@[simp] theorem State.modMeld_gds (s : State) (e : Nat) (f : Meld → Meld) : (s.modMeld e f).gds = s.gds := rfl
@[simp] theorem State.modMeld_objs (s : State) (e : Nat) (f : Meld → Meld) : (s.modMeld e f).objs = s.objs := rfl
@[simp] theorem State.modMeld_dealer (s : State) (e : Nat) (f : Meld → Meld) : (s.modMeld e f).dealer = s.dealer := rfl
@[simp] theorem State.modMeld_trk (s : State) (e : Nat) (f : Meld → Meld) : (s.modMeld e f).trk = s.trk := rfl
@[simp] theorem State.modMeld_host (s : State) (e : Nat) (f : Meld → Meld) : (s.modMeld e f).host = s.host := rfl
@[simp] theorem State.modMeld_ports (s : State) (e : Nat) (f : Meld → Meld) : (s.modMeld e f).ports = s.ports := rfl
@[simp] theorem State.modMeld_originRoutes (s : State) (e : Nat) (f : Meld → Meld) : (s.modMeld e f).originRoutes = s.originRoutes := rfl
@[simp] theorem State.modMeld_ortIndex (s : State) (e : Nat) (f : Meld → Meld) : (s.modMeld e f).ortIndex = s.ortIndex := rfl
@[simp] theorem State.modMeld_melds (s : State) (e : Nat) (f : Meld → Meld) : (s.modMeld e f).melds = tmod {} s.melds e f := rfl
@[simp] theorem State.modMeld_tel (s : State) (e : Nat) (f : Meld → Meld) : (s.modMeld e f).tel = s.tel := rfl
@[simp] theorem State.modMeld_pkg (s : State) (e : Nat) (f : Meld → Meld) : (s.modMeld e f).pkg = s.pkg := rfl
@[simp] theorem State.modMeld_fuses (s : State) (e : Nat) (f : Meld → Meld) : (s.modMeld e f).fuses = s.fuses := rfl
@[simp] theorem State.modMeld_sec (s : State) (e : Nat) (f : Meld → Meld) : (s.modMeld e f).sec = s.sec := rfl
@[simp] theorem State.modMeld_recov (s : State) (e : Nat) (f : Meld → Meld) : (s.modMeld e f).recov = s.recov := rfl
@[simp] theorem State.modMeld_noc (s : State) (e : Nat) (f : Meld → Meld) : (s.modMeld e f).noc = s.noc := rfl
@[simp] theorem State.modMeld_out (s : State) (e : Nat) (f : Meld → Meld) : (s.modMeld e f).out = s.out := rfl
@[simp] theorem State.modMeld_now (s : State) (e : Nat) (f : Meld → Meld) : (s.modMeld e f).now = s.now := rfl
@[simp] theorem State.modMeld_free (s : State) (e : Nat) (f : Meld → Meld) : (s.modMeld e f).free = s.free := rfl

/-! ### setObj -/

@[simp] theorem State.setObj_pending (s : State) (o : Nat) (x : SyncObj) : (s.setObj o x).pending = s.pending := rfl
@[simp] theorem State.setObj_mem (s : State) (o : Nat) (x : SyncObj) : (s.setObj o x).mem = s.mem := rfl
@[simp] theorem State.setObj_poison (s : State) (o : Nat) (x : SyncObj) : (s.setObj o x).poison = s.poison := rfl
@[simp] theorem State.setObj_flaws (s : State) (o : Nat) (x : SyncObj) : (s.setObj o x).flaws = s.flaws := rfl
@[simp] theorem State.setObj_chunkCache (s : State) (o : Nat) (x : SyncObj) : (s.setObj o x).chunkCache = s.chunkCache := rfl
@[simp] theorem State.setObj_hostMem (s : State) (o : Nat) (x : SyncObj) : (s.setObj o x).hostMem = s.hostMem := rfl
@[simp] theorem State.setObj_flash (s : State) (o : Nat) (x : SyncObj) : (s.setObj o x).flash = s.flash := rfl
@[simp] theorem State.setObj_tiles (s : State) (o : Nat) (x : SyncObj) : (s.setObj o x).tiles = s.tiles := rfl
@[simp] theorem State.setObj_stks (s : State) (o : Nat) (x : SyncObj) : (s.setObj o x).stks = s.stks := rfl
@[simp] theorem State.setObj_gds (s : State) (o : Nat) (x : SyncObj) : (s.setObj o x).gds = s.gds := rfl
@[simp] theorem State.setObj_objs (s : State) (o : Nat) (x : SyncObj) : (s.setObj o x).objs = tput s.objs o x := rfl
@[simp] theorem State.setObj_dealer (s : State) (o : Nat) (x : SyncObj) : (s.setObj o x).dealer = s.dealer := rfl
@[simp] theorem State.setObj_trk (s : State) (o : Nat) (x : SyncObj) : (s.setObj o x).trk = s.trk := rfl
@[simp] theorem State.setObj_host (s : State) (o : Nat) (x : SyncObj) : (s.setObj o x).host = s.host := rfl
@[simp] theorem State.setObj_ports (s : State) (o : Nat) (x : SyncObj) : (s.setObj o x).ports = s.ports := rfl
@[simp] theorem State.setObj_originRoutes (s : State) (o : Nat) (x : SyncObj) : (s.setObj o x).originRoutes = s.originRoutes := rfl
@[simp] theorem State.setObj_ortIndex (s : State) (o : Nat) (x : SyncObj) : (s.setObj o x).ortIndex = s.ortIndex := rfl
@[simp] theorem State.setObj_melds (s : State) (o : Nat) (x : SyncObj) : (s.setObj o x).melds = s.melds := rfl
@[simp] theorem State.setObj_tel (s : State) (o : Nat) (x : SyncObj) : (s.setObj o x).tel = s.tel := rfl
@[simp] theorem State.setObj_pkg (s : State) (o : Nat) (x : SyncObj) : (s.setObj o x).pkg = s.pkg := rfl
@[simp] theorem State.setObj_fuses (s : State) (o : Nat) (x : SyncObj) : (s.setObj o x).fuses = s.fuses := rfl
@[simp] theorem State.setObj_sec (s : State) (o : Nat) (x : SyncObj) : (s.setObj o x).sec = s.sec := rfl
@[simp] theorem State.setObj_recov (s : State) (o : Nat) (x : SyncObj) : (s.setObj o x).recov = s.recov := rfl
@[simp] theorem State.setObj_noc (s : State) (o : Nat) (x : SyncObj) : (s.setObj o x).noc = s.noc := rfl
@[simp] theorem State.setObj_out (s : State) (o : Nat) (x : SyncObj) : (s.setObj o x).out = s.out := rfl
@[simp] theorem State.setObj_now (s : State) (o : Nat) (x : SyncObj) : (s.setObj o x).now = s.now := rfl
@[simp] theorem State.setObj_free (s : State) (o : Nat) (x : SyncObj) : (s.setObj o x).free = s.free := rfl

/-! ### modHost -/

@[simp] theorem State.modHost_pending (s : State) (f : HostIf → HostIf) : (s.modHost f).pending = s.pending := rfl
@[simp] theorem State.modHost_mem (s : State) (f : HostIf → HostIf) : (s.modHost f).mem = s.mem := rfl
@[simp] theorem State.modHost_poison (s : State) (f : HostIf → HostIf) : (s.modHost f).poison = s.poison := rfl
@[simp] theorem State.modHost_flaws (s : State) (f : HostIf → HostIf) : (s.modHost f).flaws = s.flaws := rfl
@[simp] theorem State.modHost_chunkCache (s : State) (f : HostIf → HostIf) : (s.modHost f).chunkCache = s.chunkCache := rfl
@[simp] theorem State.modHost_hostMem (s : State) (f : HostIf → HostIf) : (s.modHost f).hostMem = s.hostMem := rfl
@[simp] theorem State.modHost_flash (s : State) (f : HostIf → HostIf) : (s.modHost f).flash = s.flash := rfl
@[simp] theorem State.modHost_tiles (s : State) (f : HostIf → HostIf) : (s.modHost f).tiles = s.tiles := rfl
@[simp] theorem State.modHost_stks (s : State) (f : HostIf → HostIf) : (s.modHost f).stks = s.stks := rfl
@[simp] theorem State.modHost_gds (s : State) (f : HostIf → HostIf) : (s.modHost f).gds = s.gds := rfl
@[simp] theorem State.modHost_objs (s : State) (f : HostIf → HostIf) : (s.modHost f).objs = s.objs := rfl
@[simp] theorem State.modHost_dealer (s : State) (f : HostIf → HostIf) : (s.modHost f).dealer = s.dealer := rfl
@[simp] theorem State.modHost_trk (s : State) (f : HostIf → HostIf) : (s.modHost f).trk = s.trk := rfl
@[simp] theorem State.modHost_host (s : State) (f : HostIf → HostIf) : (s.modHost f).host = f s.host := rfl
@[simp] theorem State.modHost_ports (s : State) (f : HostIf → HostIf) : (s.modHost f).ports = s.ports := rfl
@[simp] theorem State.modHost_originRoutes (s : State) (f : HostIf → HostIf) : (s.modHost f).originRoutes = s.originRoutes := rfl
@[simp] theorem State.modHost_ortIndex (s : State) (f : HostIf → HostIf) : (s.modHost f).ortIndex = s.ortIndex := rfl
@[simp] theorem State.modHost_melds (s : State) (f : HostIf → HostIf) : (s.modHost f).melds = s.melds := rfl
@[simp] theorem State.modHost_tel (s : State) (f : HostIf → HostIf) : (s.modHost f).tel = s.tel := rfl
@[simp] theorem State.modHost_pkg (s : State) (f : HostIf → HostIf) : (s.modHost f).pkg = s.pkg := rfl
@[simp] theorem State.modHost_fuses (s : State) (f : HostIf → HostIf) : (s.modHost f).fuses = s.fuses := rfl
@[simp] theorem State.modHost_sec (s : State) (f : HostIf → HostIf) : (s.modHost f).sec = s.sec := rfl
@[simp] theorem State.modHost_recov (s : State) (f : HostIf → HostIf) : (s.modHost f).recov = s.recov := rfl
@[simp] theorem State.modHost_noc (s : State) (f : HostIf → HostIf) : (s.modHost f).noc = s.noc := rfl
@[simp] theorem State.modHost_out (s : State) (f : HostIf → HostIf) : (s.modHost f).out = s.out := rfl
@[simp] theorem State.modHost_now (s : State) (f : HostIf → HostIf) : (s.modHost f).now = s.now := rfl
@[simp] theorem State.modHost_free (s : State) (f : HostIf → HostIf) : (s.modHost f).free = s.free := rfl

/-! ### modTel -/

@[simp] theorem State.modTel_pending (s : State) (f : Telemetry → Telemetry) : (s.modTel f).pending = s.pending := rfl
@[simp] theorem State.modTel_mem (s : State) (f : Telemetry → Telemetry) : (s.modTel f).mem = s.mem := rfl
@[simp] theorem State.modTel_poison (s : State) (f : Telemetry → Telemetry) : (s.modTel f).poison = s.poison := rfl
@[simp] theorem State.modTel_flaws (s : State) (f : Telemetry → Telemetry) : (s.modTel f).flaws = s.flaws := rfl
@[simp] theorem State.modTel_chunkCache (s : State) (f : Telemetry → Telemetry) : (s.modTel f).chunkCache = s.chunkCache := rfl
@[simp] theorem State.modTel_hostMem (s : State) (f : Telemetry → Telemetry) : (s.modTel f).hostMem = s.hostMem := rfl
@[simp] theorem State.modTel_flash (s : State) (f : Telemetry → Telemetry) : (s.modTel f).flash = s.flash := rfl
@[simp] theorem State.modTel_tiles (s : State) (f : Telemetry → Telemetry) : (s.modTel f).tiles = s.tiles := rfl
@[simp] theorem State.modTel_stks (s : State) (f : Telemetry → Telemetry) : (s.modTel f).stks = s.stks := rfl
@[simp] theorem State.modTel_gds (s : State) (f : Telemetry → Telemetry) : (s.modTel f).gds = s.gds := rfl
@[simp] theorem State.modTel_objs (s : State) (f : Telemetry → Telemetry) : (s.modTel f).objs = s.objs := rfl
@[simp] theorem State.modTel_dealer (s : State) (f : Telemetry → Telemetry) : (s.modTel f).dealer = s.dealer := rfl
@[simp] theorem State.modTel_trk (s : State) (f : Telemetry → Telemetry) : (s.modTel f).trk = s.trk := rfl
@[simp] theorem State.modTel_host (s : State) (f : Telemetry → Telemetry) : (s.modTel f).host = s.host := rfl
@[simp] theorem State.modTel_ports (s : State) (f : Telemetry → Telemetry) : (s.modTel f).ports = s.ports := rfl
@[simp] theorem State.modTel_originRoutes (s : State) (f : Telemetry → Telemetry) : (s.modTel f).originRoutes = s.originRoutes := rfl
@[simp] theorem State.modTel_ortIndex (s : State) (f : Telemetry → Telemetry) : (s.modTel f).ortIndex = s.ortIndex := rfl
@[simp] theorem State.modTel_melds (s : State) (f : Telemetry → Telemetry) : (s.modTel f).melds = s.melds := rfl
@[simp] theorem State.modTel_tel (s : State) (f : Telemetry → Telemetry) : (s.modTel f).tel = f s.tel := rfl
@[simp] theorem State.modTel_pkg (s : State) (f : Telemetry → Telemetry) : (s.modTel f).pkg = s.pkg := rfl
@[simp] theorem State.modTel_fuses (s : State) (f : Telemetry → Telemetry) : (s.modTel f).fuses = s.fuses := rfl
@[simp] theorem State.modTel_sec (s : State) (f : Telemetry → Telemetry) : (s.modTel f).sec = s.sec := rfl
@[simp] theorem State.modTel_recov (s : State) (f : Telemetry → Telemetry) : (s.modTel f).recov = s.recov := rfl
@[simp] theorem State.modTel_noc (s : State) (f : Telemetry → Telemetry) : (s.modTel f).noc = s.noc := rfl
@[simp] theorem State.modTel_out (s : State) (f : Telemetry → Telemetry) : (s.modTel f).out = s.out := rfl
@[simp] theorem State.modTel_now (s : State) (f : Telemetry → Telemetry) : (s.modTel f).now = s.now := rfl
@[simp] theorem State.modTel_free (s : State) (f : Telemetry → Telemetry) : (s.modTel f).free = s.free := rfl

/-! ### modPkg -/

@[simp] theorem State.modPkg_pending (s : State) (f : Package → Package) : (s.modPkg f).pending = s.pending := rfl
@[simp] theorem State.modPkg_mem (s : State) (f : Package → Package) : (s.modPkg f).mem = s.mem := rfl
@[simp] theorem State.modPkg_poison (s : State) (f : Package → Package) : (s.modPkg f).poison = s.poison := rfl
@[simp] theorem State.modPkg_flaws (s : State) (f : Package → Package) : (s.modPkg f).flaws = s.flaws := rfl
@[simp] theorem State.modPkg_chunkCache (s : State) (f : Package → Package) : (s.modPkg f).chunkCache = s.chunkCache := rfl
@[simp] theorem State.modPkg_hostMem (s : State) (f : Package → Package) : (s.modPkg f).hostMem = s.hostMem := rfl
@[simp] theorem State.modPkg_flash (s : State) (f : Package → Package) : (s.modPkg f).flash = s.flash := rfl
@[simp] theorem State.modPkg_tiles (s : State) (f : Package → Package) : (s.modPkg f).tiles = s.tiles := rfl
@[simp] theorem State.modPkg_stks (s : State) (f : Package → Package) : (s.modPkg f).stks = s.stks := rfl
@[simp] theorem State.modPkg_gds (s : State) (f : Package → Package) : (s.modPkg f).gds = s.gds := rfl
@[simp] theorem State.modPkg_objs (s : State) (f : Package → Package) : (s.modPkg f).objs = s.objs := rfl
@[simp] theorem State.modPkg_dealer (s : State) (f : Package → Package) : (s.modPkg f).dealer = s.dealer := rfl
@[simp] theorem State.modPkg_trk (s : State) (f : Package → Package) : (s.modPkg f).trk = s.trk := rfl
@[simp] theorem State.modPkg_host (s : State) (f : Package → Package) : (s.modPkg f).host = s.host := rfl
@[simp] theorem State.modPkg_ports (s : State) (f : Package → Package) : (s.modPkg f).ports = s.ports := rfl
@[simp] theorem State.modPkg_originRoutes (s : State) (f : Package → Package) : (s.modPkg f).originRoutes = s.originRoutes := rfl
@[simp] theorem State.modPkg_ortIndex (s : State) (f : Package → Package) : (s.modPkg f).ortIndex = s.ortIndex := rfl
@[simp] theorem State.modPkg_melds (s : State) (f : Package → Package) : (s.modPkg f).melds = s.melds := rfl
@[simp] theorem State.modPkg_tel (s : State) (f : Package → Package) : (s.modPkg f).tel = s.tel := rfl
@[simp] theorem State.modPkg_pkg (s : State) (f : Package → Package) : (s.modPkg f).pkg = f s.pkg := rfl
@[simp] theorem State.modPkg_fuses (s : State) (f : Package → Package) : (s.modPkg f).fuses = s.fuses := rfl
@[simp] theorem State.modPkg_sec (s : State) (f : Package → Package) : (s.modPkg f).sec = s.sec := rfl
@[simp] theorem State.modPkg_recov (s : State) (f : Package → Package) : (s.modPkg f).recov = s.recov := rfl
@[simp] theorem State.modPkg_noc (s : State) (f : Package → Package) : (s.modPkg f).noc = s.noc := rfl
@[simp] theorem State.modPkg_out (s : State) (f : Package → Package) : (s.modPkg f).out = s.out := rfl
@[simp] theorem State.modPkg_now (s : State) (f : Package → Package) : (s.modPkg f).now = s.now := rfl
@[simp] theorem State.modPkg_free (s : State) (f : Package → Package) : (s.modPkg f).free = s.free := rfl

/-! ### modSec -/

@[simp] theorem State.modSec_pending (s : State) (f : Security → Security) : (s.modSec f).pending = s.pending := rfl
@[simp] theorem State.modSec_mem (s : State) (f : Security → Security) : (s.modSec f).mem = s.mem := rfl
@[simp] theorem State.modSec_poison (s : State) (f : Security → Security) : (s.modSec f).poison = s.poison := rfl
@[simp] theorem State.modSec_flaws (s : State) (f : Security → Security) : (s.modSec f).flaws = s.flaws := rfl
@[simp] theorem State.modSec_chunkCache (s : State) (f : Security → Security) : (s.modSec f).chunkCache = s.chunkCache := rfl
@[simp] theorem State.modSec_hostMem (s : State) (f : Security → Security) : (s.modSec f).hostMem = s.hostMem := rfl
@[simp] theorem State.modSec_flash (s : State) (f : Security → Security) : (s.modSec f).flash = s.flash := rfl
@[simp] theorem State.modSec_tiles (s : State) (f : Security → Security) : (s.modSec f).tiles = s.tiles := rfl
@[simp] theorem State.modSec_stks (s : State) (f : Security → Security) : (s.modSec f).stks = s.stks := rfl
@[simp] theorem State.modSec_gds (s : State) (f : Security → Security) : (s.modSec f).gds = s.gds := rfl
@[simp] theorem State.modSec_objs (s : State) (f : Security → Security) : (s.modSec f).objs = s.objs := rfl
@[simp] theorem State.modSec_dealer (s : State) (f : Security → Security) : (s.modSec f).dealer = s.dealer := rfl
@[simp] theorem State.modSec_trk (s : State) (f : Security → Security) : (s.modSec f).trk = s.trk := rfl
@[simp] theorem State.modSec_host (s : State) (f : Security → Security) : (s.modSec f).host = s.host := rfl
@[simp] theorem State.modSec_ports (s : State) (f : Security → Security) : (s.modSec f).ports = s.ports := rfl
@[simp] theorem State.modSec_originRoutes (s : State) (f : Security → Security) : (s.modSec f).originRoutes = s.originRoutes := rfl
@[simp] theorem State.modSec_ortIndex (s : State) (f : Security → Security) : (s.modSec f).ortIndex = s.ortIndex := rfl
@[simp] theorem State.modSec_melds (s : State) (f : Security → Security) : (s.modSec f).melds = s.melds := rfl
@[simp] theorem State.modSec_tel (s : State) (f : Security → Security) : (s.modSec f).tel = s.tel := rfl
@[simp] theorem State.modSec_pkg (s : State) (f : Security → Security) : (s.modSec f).pkg = s.pkg := rfl
@[simp] theorem State.modSec_fuses (s : State) (f : Security → Security) : (s.modSec f).fuses = s.fuses := rfl
@[simp] theorem State.modSec_sec (s : State) (f : Security → Security) : (s.modSec f).sec = f s.sec := rfl
@[simp] theorem State.modSec_recov (s : State) (f : Security → Security) : (s.modSec f).recov = s.recov := rfl
@[simp] theorem State.modSec_noc (s : State) (f : Security → Security) : (s.modSec f).noc = s.noc := rfl
@[simp] theorem State.modSec_out (s : State) (f : Security → Security) : (s.modSec f).out = s.out := rfl
@[simp] theorem State.modSec_now (s : State) (f : Security → Security) : (s.modSec f).now = s.now := rfl
@[simp] theorem State.modSec_free (s : State) (f : Security → Security) : (s.modSec f).free = s.free := rfl

/-! ### modDealer -/

@[simp] theorem State.modDealer_pending (s : State) (f : Dealer → Dealer) : (s.modDealer f).pending = s.pending := rfl
@[simp] theorem State.modDealer_mem (s : State) (f : Dealer → Dealer) : (s.modDealer f).mem = s.mem := rfl
@[simp] theorem State.modDealer_poison (s : State) (f : Dealer → Dealer) : (s.modDealer f).poison = s.poison := rfl
@[simp] theorem State.modDealer_flaws (s : State) (f : Dealer → Dealer) : (s.modDealer f).flaws = s.flaws := rfl
@[simp] theorem State.modDealer_chunkCache (s : State) (f : Dealer → Dealer) : (s.modDealer f).chunkCache = s.chunkCache := rfl
@[simp] theorem State.modDealer_hostMem (s : State) (f : Dealer → Dealer) : (s.modDealer f).hostMem = s.hostMem := rfl
@[simp] theorem State.modDealer_flash (s : State) (f : Dealer → Dealer) : (s.modDealer f).flash = s.flash := rfl
@[simp] theorem State.modDealer_tiles (s : State) (f : Dealer → Dealer) : (s.modDealer f).tiles = s.tiles := rfl
@[simp] theorem State.modDealer_stks (s : State) (f : Dealer → Dealer) : (s.modDealer f).stks = s.stks := rfl
@[simp] theorem State.modDealer_gds (s : State) (f : Dealer → Dealer) : (s.modDealer f).gds = s.gds := rfl
@[simp] theorem State.modDealer_objs (s : State) (f : Dealer → Dealer) : (s.modDealer f).objs = s.objs := rfl
@[simp] theorem State.modDealer_dealer (s : State) (f : Dealer → Dealer) : (s.modDealer f).dealer = f s.dealer := rfl
@[simp] theorem State.modDealer_trk (s : State) (f : Dealer → Dealer) : (s.modDealer f).trk = s.trk := rfl
@[simp] theorem State.modDealer_host (s : State) (f : Dealer → Dealer) : (s.modDealer f).host = s.host := rfl
@[simp] theorem State.modDealer_ports (s : State) (f : Dealer → Dealer) : (s.modDealer f).ports = s.ports := rfl
@[simp] theorem State.modDealer_originRoutes (s : State) (f : Dealer → Dealer) : (s.modDealer f).originRoutes = s.originRoutes := rfl
@[simp] theorem State.modDealer_ortIndex (s : State) (f : Dealer → Dealer) : (s.modDealer f).ortIndex = s.ortIndex := rfl
@[simp] theorem State.modDealer_melds (s : State) (f : Dealer → Dealer) : (s.modDealer f).melds = s.melds := rfl
@[simp] theorem State.modDealer_tel (s : State) (f : Dealer → Dealer) : (s.modDealer f).tel = s.tel := rfl
@[simp] theorem State.modDealer_pkg (s : State) (f : Dealer → Dealer) : (s.modDealer f).pkg = s.pkg := rfl
@[simp] theorem State.modDealer_fuses (s : State) (f : Dealer → Dealer) : (s.modDealer f).fuses = s.fuses := rfl
@[simp] theorem State.modDealer_sec (s : State) (f : Dealer → Dealer) : (s.modDealer f).sec = s.sec := rfl
@[simp] theorem State.modDealer_recov (s : State) (f : Dealer → Dealer) : (s.modDealer f).recov = s.recov := rfl
@[simp] theorem State.modDealer_noc (s : State) (f : Dealer → Dealer) : (s.modDealer f).noc = s.noc := rfl
@[simp] theorem State.modDealer_out (s : State) (f : Dealer → Dealer) : (s.modDealer f).out = s.out := rfl
@[simp] theorem State.modDealer_now (s : State) (f : Dealer → Dealer) : (s.modDealer f).now = s.now := rfl
@[simp] theorem State.modDealer_free (s : State) (f : Dealer → Dealer) : (s.modDealer f).free = s.free := rfl

/-! ### modTrk -/

@[simp] theorem State.modTrk_pending (s : State) (f : TrickUnit → TrickUnit) : (s.modTrk f).pending = s.pending := rfl
@[simp] theorem State.modTrk_mem (s : State) (f : TrickUnit → TrickUnit) : (s.modTrk f).mem = s.mem := rfl
@[simp] theorem State.modTrk_poison (s : State) (f : TrickUnit → TrickUnit) : (s.modTrk f).poison = s.poison := rfl
@[simp] theorem State.modTrk_flaws (s : State) (f : TrickUnit → TrickUnit) : (s.modTrk f).flaws = s.flaws := rfl
@[simp] theorem State.modTrk_chunkCache (s : State) (f : TrickUnit → TrickUnit) : (s.modTrk f).chunkCache = s.chunkCache := rfl
@[simp] theorem State.modTrk_hostMem (s : State) (f : TrickUnit → TrickUnit) : (s.modTrk f).hostMem = s.hostMem := rfl
@[simp] theorem State.modTrk_flash (s : State) (f : TrickUnit → TrickUnit) : (s.modTrk f).flash = s.flash := rfl
@[simp] theorem State.modTrk_tiles (s : State) (f : TrickUnit → TrickUnit) : (s.modTrk f).tiles = s.tiles := rfl
@[simp] theorem State.modTrk_stks (s : State) (f : TrickUnit → TrickUnit) : (s.modTrk f).stks = s.stks := rfl
@[simp] theorem State.modTrk_gds (s : State) (f : TrickUnit → TrickUnit) : (s.modTrk f).gds = s.gds := rfl
@[simp] theorem State.modTrk_objs (s : State) (f : TrickUnit → TrickUnit) : (s.modTrk f).objs = s.objs := rfl
@[simp] theorem State.modTrk_dealer (s : State) (f : TrickUnit → TrickUnit) : (s.modTrk f).dealer = s.dealer := rfl
@[simp] theorem State.modTrk_trk (s : State) (f : TrickUnit → TrickUnit) : (s.modTrk f).trk = f s.trk := rfl
@[simp] theorem State.modTrk_host (s : State) (f : TrickUnit → TrickUnit) : (s.modTrk f).host = s.host := rfl
@[simp] theorem State.modTrk_ports (s : State) (f : TrickUnit → TrickUnit) : (s.modTrk f).ports = s.ports := rfl
@[simp] theorem State.modTrk_originRoutes (s : State) (f : TrickUnit → TrickUnit) : (s.modTrk f).originRoutes = s.originRoutes := rfl
@[simp] theorem State.modTrk_ortIndex (s : State) (f : TrickUnit → TrickUnit) : (s.modTrk f).ortIndex = s.ortIndex := rfl
@[simp] theorem State.modTrk_melds (s : State) (f : TrickUnit → TrickUnit) : (s.modTrk f).melds = s.melds := rfl
@[simp] theorem State.modTrk_tel (s : State) (f : TrickUnit → TrickUnit) : (s.modTrk f).tel = s.tel := rfl
@[simp] theorem State.modTrk_pkg (s : State) (f : TrickUnit → TrickUnit) : (s.modTrk f).pkg = s.pkg := rfl
@[simp] theorem State.modTrk_fuses (s : State) (f : TrickUnit → TrickUnit) : (s.modTrk f).fuses = s.fuses := rfl
@[simp] theorem State.modTrk_sec (s : State) (f : TrickUnit → TrickUnit) : (s.modTrk f).sec = s.sec := rfl
@[simp] theorem State.modTrk_recov (s : State) (f : TrickUnit → TrickUnit) : (s.modTrk f).recov = s.recov := rfl
@[simp] theorem State.modTrk_noc (s : State) (f : TrickUnit → TrickUnit) : (s.modTrk f).noc = s.noc := rfl
@[simp] theorem State.modTrk_out (s : State) (f : TrickUnit → TrickUnit) : (s.modTrk f).out = s.out := rfl
@[simp] theorem State.modTrk_now (s : State) (f : TrickUnit → TrickUnit) : (s.modTrk f).now = s.now := rfl
@[simp] theorem State.modTrk_free (s : State) (f : TrickUnit → TrickUnit) : (s.modTrk f).free = s.free := rfl

/-! ### emit -/

@[simp] theorem State.emit_pending (s : State) (o : Out) : (s.emit o).pending = s.pending := rfl
@[simp] theorem State.emit_mem (s : State) (o : Out) : (s.emit o).mem = s.mem := rfl
@[simp] theorem State.emit_poison (s : State) (o : Out) : (s.emit o).poison = s.poison := rfl
@[simp] theorem State.emit_flaws (s : State) (o : Out) : (s.emit o).flaws = s.flaws := rfl
@[simp] theorem State.emit_chunkCache (s : State) (o : Out) : (s.emit o).chunkCache = s.chunkCache := rfl
@[simp] theorem State.emit_hostMem (s : State) (o : Out) : (s.emit o).hostMem = s.hostMem := rfl
@[simp] theorem State.emit_flash (s : State) (o : Out) : (s.emit o).flash = s.flash := rfl
@[simp] theorem State.emit_tiles (s : State) (o : Out) : (s.emit o).tiles = s.tiles := rfl
@[simp] theorem State.emit_stks (s : State) (o : Out) : (s.emit o).stks = s.stks := rfl
@[simp] theorem State.emit_gds (s : State) (o : Out) : (s.emit o).gds = s.gds := rfl
@[simp] theorem State.emit_objs (s : State) (o : Out) : (s.emit o).objs = s.objs := rfl
@[simp] theorem State.emit_dealer (s : State) (o : Out) : (s.emit o).dealer = s.dealer := rfl
@[simp] theorem State.emit_trk (s : State) (o : Out) : (s.emit o).trk = s.trk := rfl
@[simp] theorem State.emit_host (s : State) (o : Out) : (s.emit o).host = s.host := rfl
@[simp] theorem State.emit_ports (s : State) (o : Out) : (s.emit o).ports = s.ports := rfl
@[simp] theorem State.emit_originRoutes (s : State) (o : Out) : (s.emit o).originRoutes = s.originRoutes := rfl
@[simp] theorem State.emit_ortIndex (s : State) (o : Out) : (s.emit o).ortIndex = s.ortIndex := rfl
@[simp] theorem State.emit_melds (s : State) (o : Out) : (s.emit o).melds = s.melds := rfl
@[simp] theorem State.emit_tel (s : State) (o : Out) : (s.emit o).tel = s.tel := rfl
@[simp] theorem State.emit_pkg (s : State) (o : Out) : (s.emit o).pkg = s.pkg := rfl
@[simp] theorem State.emit_fuses (s : State) (o : Out) : (s.emit o).fuses = s.fuses := rfl
@[simp] theorem State.emit_sec (s : State) (o : Out) : (s.emit o).sec = s.sec := rfl
@[simp] theorem State.emit_recov (s : State) (o : Out) : (s.emit o).recov = s.recov := rfl
@[simp] theorem State.emit_noc (s : State) (o : Out) : (s.emit o).noc = s.noc := rfl
@[simp] theorem State.emit_out (s : State) (o : Out) : (s.emit o).out = o :: s.out := rfl
@[simp] theorem State.emit_now (s : State) (o : Out) : (s.emit o).now = s.now := rfl
@[simp] theorem State.emit_free (s : State) (o : Out) : (s.emit o).free = s.free := rfl

end Sys2Proof.Machine
end

