-- ==== Sys2Proof/Laws/Ops.lean ====
section
/-! SUPPORT. Ops.lean: what the shared operations of events, completions and memory leave as it was. -/
namespace Sys2Proof.Machine

/-! ## Records -/

theorem SameButRecords.refl (s : State) : SameButRecords s s := by constructor <;> rfl

theorem SameButRecords.trans {s t u : State} (h : SameButRecords s t) (k : SameButRecords t u) : SameButRecords s u := by
  constructor
  · exact k.pending.trans h.pending
  · exact k.mem.trans h.mem
  · exact k.poison.trans h.poison
  · exact k.flaws.trans h.flaws
  · exact k.chunkCache.trans h.chunkCache
  · exact k.flash.trans h.flash
  · exact k.tiles.trans h.tiles
  · exact k.stks.trans h.stks
  · exact k.gds.trans h.gds
  · exact k.objs.trans h.objs
  · exact k.dealer.trans h.dealer
  · exact k.trk.trans h.trk
  · exact k.ports.trans h.ports
  · exact k.originRoutes.trans h.originRoutes
  · exact k.ortIndex.trans h.ortIndex
  · exact k.melds.trans h.melds
  · exact k.pkg.trans h.pkg
  · exact k.fuses.trans h.fuses
  · exact k.sec.trans h.sec
  · exact k.recov.trans h.recov
  · exact k.noc.trans h.noc
  · exact k.now.trans h.now
  · exact k.free.trans h.free

theorem records_modHost (s : State) (f : HostIf → HostIf) : SameButRecords s (s.modHost f) := by constructor <;> rfl

theorem records_modTel (s : State) (f : Telemetry → Telemetry) : SameButRecords s (s.modTel f) := by constructor <;> rfl

theorem records_modCq (s : State) (c : Nat) (f : Cq → Cq) : SameButRecords s (s.modCq c f) := by constructor <;> rfl

theorem records_emit (s : State) (o : Out) : SameButRecords s (s.emit o) := by constructor <;> rfl

theorem records_hostWrite (s : State) (a : Nat) (bs : List Byte) : SameButRecords s (s.hostWrite a bs) := by constructor <;> rfl

theorem records_applyHw (s : State) (hw : List Host.Cell) : SameButRecords s (s.applyHw hw) := by constructor <;> rfl

theorem records_sendMsix (s : State) (v : Nat) : SameButRecords s (s.sendMsix v) := by
  unfold State.sendMsix
  dsimp only
  split
  · exact records_modHost s _
  · exact records_emit s _

theorem records_raiseVector (s : State) (cfg : Word) : SameButRecords s (s.raiseVector cfg) := by
  unfold State.raiseVector
  dsimp only
  split
  · exact records_sendMsix s _
  · exact records_modHost s _

theorem records_placeRecord {s t : State} {r q : Cq} {len : Nat} {mk : Nat → List Byte} (h : placeRecord s r len mk = some (t, q)) :
    SameButRecords s t := by
  unfold placeRecord at h
  dsimp only at h
  split at h
  · cases h
  · cases h
    split
    · exact records_hostWrite s _ _
    · exact (records_hostWrite s _ _).trans (records_hostWrite _ _ _)

theorem records_putEvent {s t : State} {r : EventRec} (h : s.putEvent r = some t) : SameButRecords s t := by
  unfold State.putEvent at h
  split at h
  · split at h
    · cases h
    · next hp =>
      cases h
      split
      · exact ((records_placeRecord hp).trans (records_modHost _ _)).trans (records_raiseVector _ _)
      · exact (records_placeRecord hp).trans (records_modHost _ _)
  · cases h

theorem records_flushHeld (rs : List EventRec) (s : State) : SameButRecords s (flushHeld rs s) := by
  induction rs generalizing s with
  | nil => exact records_modHost s _
  | cons r rs ih =>
    unfold flushHeld
    split
    · exact records_modHost s _
    · next h => exact (records_putEvent h).trans (ih _)

theorem records_flushEvents (s : State) : SameButRecords s s.flushEvents := records_flushHeld _ s

theorem records_toEventRing (s : State) (r : EventRec) : SameButRecords s (s.toEventRing r) := by
  unfold State.toEventRing
  split
  · split
    · next h => exact records_putEvent h
    · exact records_modHost s _
  · split
    · exact records_modHost s _
    · exact SameButRecords.refl s

theorem records_tellBmc (s : State) (r : EventRec) : SameButRecords s (s.tellBmc r) := by
  unfold State.tellBmc
  split
  · exact records_emit s _
  · exact SameButRecords.refl s

theorem records_deliverEvent (s : State) (r : EventRec) : SameButRecords s (s.deliverEvent r) :=
  (records_toEventRing s r).trans (records_tellBmc _ r)

theorem records_queueEvent (s : State) (r : EventRec) : SameButRecords s (s.queueEvent r) := records_modTel s _

theorem records_takeToken (s : State) (code job detail : Nat) : SameButRecords s (s.takeToken code job detail).1 := by
  unfold State.takeToken
  dsimp only
  split <;> constructor <;> rfl

/-- An event changes nothing but the records of it. -/
theorem records_raise (s : State) (code job detail : Nat) : SameButRecords s (s.raise code job detail) := by
  have h := records_takeToken s code job detail
  unfold State.raise
  split
  · next heq => rw [heq] at h; exact h
  · next heq =>
    rw [heq] at h
    exact h.trans ((records_queueEvent _ _).trans (records_deliverEvent _ _))

theorem records_degrade (s : State) (reason : Nat) : SameButRecords s (s.degrade reason) :=
  (records_modHost s _).trans (records_raise _ _ _ _)

theorem records_putCompletion {s t : State} {c : Completion} (h : s.putCompletion c = some t) : SameButRecords s t := by
  unfold State.putCompletion at h
  dsimp only at h
  split at h
  · split at h
    · cases h
    · next hp =>
      cases h
      split
      · exact ((records_placeRecord hp).trans (records_modCq _ _ _)).trans (records_raiseVector _ _)
      · exact (records_placeRecord hp).trans (records_modCq _ _ _)
  · cases h

/-- A completion changes nothing but the record of it. -/
theorem records_complete (s : State) (c : Completion) : SameButRecords s (s.complete c) := by
  unfold State.complete
  dsimp only
  split
  · exact records_modHost s _
  · split
    · next h => exact records_putCompletion h
    · exact records_modHost s _

theorem records_drainBuffer (cs : List Completion) (blocked : List Nat) (s : State) : SameButRecords s (drainBuffer cs blocked s) := by
  induction cs generalizing blocked s with
  | nil => exact SameButRecords.refl s
  | cons c cs ih =>
    unfold drainBuffer
    split
    · exact (records_modHost s _).trans (ih _ _)
    · split
      · next h => exact (records_putCompletion h).trans (ih _ _)
      · exact (records_modHost s _).trans (ih _ _)

theorem records_takeOwed (s : State) : SameButRecords s s.takeOwed := by constructor <;> rfl

theorem records_drain (s : State) : SameButRecords s s.drain := by
  have h := (records_modHost s (fun h => { h with buffer := [] })).trans (records_drainBuffer s.host.buffer [] _)
  unfold State.drain
  dsimp only
  split
  · exact (h.trans (records_modHost _ _)).trans (records_takeOwed _)
  · exact h.trans (records_takeOwed _)

/-! ## What the host sends -/

/-- What the host sends to a package that is awake is done. -/
@[simp] theorem fromHost_awake {s : State} (t : State) (h : s.awake = true) : s.fromHost t = t := by simp [State.fromHost, h]

/-- What the host sends to a package that is in reset or has tripped does nothing. -/
@[simp] theorem fromHost_asleep {s : State} (t : State) (h : s.awake = false) : s.fromHost t = s := by simp [State.fromHost, h]

/-! ## Device memory -/

/-- A back-invalidate snoop leaves device memory as it was. -/
@[simp] theorem snoopHost_mem (s : State) (lines : List Nat) : (s.snoopHost lines).mem = s.mem := by
  have fold : ∀ (ls : List Nat) (u : State), (ls.foldl (fun s l => s.emit (.backInvalidate l)) u).mem = u.mem := by
    intro ls
    induction ls with
    | nil => exact fun _ => rfl
    | cons l r ih => exact fun u => ih _
  unfold State.snoopHost
  dsimp only
  rw [fold]
  split <;> rfl

/-- What a store leaves in device memory: the cells, and nothing else. -/
theorem storeCells_mem (s : State) (slot : Option Nat) (cells : List Host.Cell) :
    (s.storeCells slot cells).mem = Mem.setCells s.mem cells :=
  congrArg (fun m => Mem.setCells m cells) (snoopHost_mem s _)

/-- Cells stored keep the canonical form. -/
theorem memOk_storeCells (s : State) (slot : Option Nat) (cells : List Host.Cell) (h : s.memOk) : (s.storeCells slot cells).memOk := by
  unfold State.memOk
  rw [storeCells_mem]
  exact Memory.wf_setCells cells s.mem h

/-- Cells stored leave every other address as it was. -/
theorem storeCells_other (s : State) (slot : Option Nat) (cells : List Host.Cell) (a : Nat) (h : ∀ c ∈ cells, c.1 ≠ a) :
    (s.storeCells slot cells).memByte a = s.memByte a := by
  unfold State.memByte
  rw [storeCells_mem]
  exact Mem.byte_setCells_other cells s.mem a h

/-- Ranges zeroed keep the canonical form. -/
theorem memOk_zeroRanges (rs : List (Nat × Nat)) (s : State) (h : s.memOk) : (s.zeroRanges rs).memOk := by
  have fold : ∀ (ls : List (Nat × Nat)) (u : State), u.memOk → (ls.foldl (fun (s : State) r => { s with
      mem := Mem.clear s.mem r.1 r.2,
      poison := s.poison.filter (fun e => decide (e.1 * 64 < r.1) || decide (r.2 ≤ e.1 * 64)),
      flaws := s.flaws.filter (fun e => decide (e.1 * 64 < r.1) || decide (r.2 ≤ e.1 * 64)) }) u).memOk := by
    intro ls
    induction ls with
    | nil => exact fun _ hu => hu
    | cons r rs ih => exact fun u hu => ih _ (Memory.wf_clear u.mem r.1 r.2 hu)
  exact fold rs _ (by unfold State.memOk; rw [snoopHost_mem]; exact h)

/-! ## Trick slots -/

/-- A free trick slot is found whenever one is free, and it is one of the free ones. -/
theorem freeSlot_mem (s : State) (h : s.freeSlots ≠ []) : ∃ i, s.freeSlot = some i ∧ i ∈ s.freeSlots := by
  have hl : s.openBelow s.freeSlots.length < s.freeSlots.length := Nat.mod_lt _ (List.length_pos_iff.mpr h)
  exact ⟨_, List.getElem?_eq_getElem hl, List.getElem_mem hl⟩

end Sys2Proof.Machine
end

