-- ==== Sys2Proof/Laws/PerInstr.lean ====
section
/-! SUPPORT. PerInstr.lean: what holds of every command's operands, one lemma per command. -/
namespace Sys2Proof.Laws

/-- A well-formed command carries at most 65,536 bytes, the longest message of any interface (R512). -/
def OperandsInRange.Statement (i : Instr) : Prop := i.wf = true → i.payload ≤ 65536

theorem OperandsInRange.powerOnReset : OperandsInRange.Statement (.powerOnReset) := fun _ => Nat.zero_le _

theorem OperandsInRange.powerOnResetRelease (testMode : BitVec 3) : OperandsInRange.Statement (.powerOnResetRelease testMode) := fun _ => Nat.zero_le _

theorem OperandsInRange.firmwareStart : OperandsInRange.Statement (.firmwareStart) := fun _ => Nat.zero_le _

theorem OperandsInRange.bootReady : OperandsInRange.Statement (.bootReady) := fun _ => Nat.zero_le _

theorem OperandsInRange.perstNAssert : OperandsInRange.Statement (.perstNAssert) := fun _ => Nat.zero_le _

theorem OperandsInRange.hostLinkDown : OperandsInRange.Statement (.hostLinkDown) := fun _ => Nat.zero_le _

theorem OperandsInRange.hostLinkLossTimeout : OperandsInRange.Statement (.hostLinkLossTimeout) := fun _ => Nat.zero_le _

theorem OperandsInRange.hostLinkBack (speed : BitVec 2) (width : BitVec 5) : OperandsInRange.Statement (.hostLinkBack speed width) := fun _ => Nat.zero_le _

theorem OperandsInRange.pcieOnly (speed : BitVec 2) (width : BitVec 5) : OperandsInRange.Statement (.pcieOnly speed width) := fun _ => Nat.zero_le _

theorem OperandsInRange.resume (value : BitVec 32) (hw : List Host.Cell) : OperandsInRange.Statement (.resume value hw) := fun _ => Nat.zero_le _

theorem OperandsInRange.prochotNAssert : OperandsInRange.Statement (.prochotNAssert) := fun _ => Nat.zero_le _

theorem OperandsInRange.powerCapEvaluation (powerDw : BitVec 16) : OperandsInRange.Statement (.powerCapEvaluation powerDw) := fun _ => Nat.zero_le _

theorem OperandsInRange.hostCapWrite (value : BitVec 32) : OperandsInRange.Statement (.hostCapWrite value) := fun _ => Nat.zero_le _

theorem OperandsInRange.bmcCapWrite (setting : BmcSetting) : OperandsInRange.Statement (.bmcCapWrite setting) := fun _ => Nat.zero_le _

theorem OperandsInRange.avsAcknowledge (stack : Fin 4) : OperandsInRange.Statement (.avsAcknowledge stack) := fun _ => Nat.zero_le _

theorem OperandsInRange.avsAckTimeout (stack : Fin 4) : OperandsInRange.Statement (.avsAckTimeout stack) := fun _ => Nat.zero_le _

theorem OperandsInRange.thermalSensorRead (hottest : List (BitVec 8)) : OperandsInRange.Statement (.thermalSensorRead hottest) := fun _ => Nat.zero_le _

theorem OperandsInRange.throttleLevelCheck (stack : Fin 4) : OperandsInRange.Statement (.throttleLevelCheck stack) := fun _ => Nat.zero_le _

theorem OperandsInRange.railOutOfRange (rail : Fin 15) (millivolts : BitVec 16) (returned : Bool) : OperandsInRange.Statement (.railOutOfRange rail millivolts returned) := fun _ => Nat.zero_le _

theorem OperandsInRange.powerMonitorSample (microjoules : List (BitVec 32)) : OperandsInRange.Statement (.powerMonitorSample microjoules) := fun _ => Nat.zero_le _

theorem OperandsInRange.pldmSensorUpdate : OperandsInRange.Statement (.pldmSensorUpdate) := fun _ => Nat.zero_le _

theorem OperandsInRange.mcWatchdogExpiry : OperandsInRange.Statement (.mcWatchdogExpiry) := fun _ => Nat.zero_le _

theorem OperandsInRange.mcRestart : OperandsInRange.Statement (.mcRestart) := fun _ => Nat.zero_le _

theorem OperandsInRange.ccReset : OperandsInRange.Statement (.ccReset) := fun _ => Nat.zero_le _

theorem OperandsInRange.ccResetDone : OperandsInRange.Statement (.ccResetDone) := fun _ => Nat.zero_le _

theorem OperandsInRange.registerWrite (bar2 : Bool) (offset : BitVec 25) (bytes : Nat) (value : BitVec 64) : OperandsInRange.Statement (.registerWrite bar2 offset bytes value) := fun _ => Nat.zero_le _

theorem OperandsInRange.glbIdentityWrite (reg : IdentityReg) (value : BitVec 64) : OperandsInRange.Statement (.glbIdentityWrite reg value) := fun _ => Nat.zero_le _

theorem OperandsInRange.ringEnable (ring : RingRef) (cfg : BitVec 32) (hw : List Host.Cell) : OperandsInRange.Statement (.ringEnable ring cfg hw) := fun _ => Nat.zero_le _

theorem OperandsInRange.ringDisable (ring : RingRef) : OperandsInRange.Statement (.ringDisable ring) := fun _ => Nat.zero_le _

theorem OperandsInRange.monitorSnoop (line : BitVec 58) : OperandsInRange.Statement (.monitorSnoop line) := fun _ => Nat.zero_le _

theorem OperandsInRange.monitorPoll : OperandsInRange.Statement (.monitorPoll) := fun _ => Nat.zero_le _

theorem OperandsInRange.monitorLineRead (line : BitVec 58) (hw : List Host.Cell) (failed : List HostErr) : OperandsInRange.Statement (.monitorLineRead line hw failed) := fun _ => Nat.zero_le _

theorem OperandsInRange.descriptorFetch (sq : Fin 64) (hw : List Host.Cell) (failed : Bool) : OperandsInRange.Statement (.descriptorFetch sq hw failed) := fun _ => Nat.zero_le _

theorem OperandsInRange.job (sq : Fin 64) (deck : Deck) (amb : Ambient) : OperandsInRange.Statement (.job sq deck amb) := fun _ => Nat.zero_le _

theorem OperandsInRange.jobPlaced (slot : Fin 16) : OperandsInRange.Statement (.jobPlaced slot) := fun _ => Nat.zero_le _

theorem OperandsInRange.step (sq : Fin 64) (amb : Ambient) : OperandsInRange.Statement (.step sq amb) := fun _ => Nat.zero_le _

theorem OperandsInRange.pass (sq : Fin 64) (amb : Ambient) : OperandsInRange.Statement (.pass sq amb) := fun _ => Nat.zero_le _

theorem OperandsInRange.abort (sq : Fin 64) : OperandsInRange.Statement (.abort sq) := fun _ => Nat.zero_le _

theorem OperandsInRange.endJob (sq : Fin 64) : OperandsInRange.Statement (.endJob sq) := fun _ => Nat.zero_le _

theorem OperandsInRange.nop (tile : Fin 128) (stream : Fin 3) : OperandsInRange.Statement (.nop tile stream) := fun _ => Nat.zero_le _

theorem OperandsInRange.nopDescriptor (sq : Fin 64) : OperandsInRange.Statement (.nopDescriptor sq) := fun _ => Nat.zero_le _

theorem OperandsInRange.load (sq : Fin 64) : OperandsInRange.Statement (.load sq) := fun _ => Nat.zero_le _

theorem OperandsInRange.jobEndDone (slot : Fin 16) : OperandsInRange.Statement (.jobEndDone slot) := fun _ => Nat.zero_le _

theorem OperandsInRange.stepStart (slot : Fin 16) : OperandsInRange.Statement (.stepStart slot) := fun _ => Nat.zero_le _

theorem OperandsInRange.microBatchInjection (slot : Fin 16) (amb : Ambient) : OperandsInRange.Statement (.microBatchInjection slot amb) := fun _ => Nat.zero_le _

theorem OperandsInRange.controlPassInjection (slot : Fin 16) : OperandsInRange.Statement (.controlPassInjection slot) := fun _ => Nat.zero_le _

theorem OperandsInRange.passInjection (slot : Fin 16) (microBatch : BitVec 20) (amb : Ambient) : OperandsInRange.Statement (.passInjection slot microBatch amb) := fun _ => Nat.zero_le _

theorem OperandsInRange.stepOverrun (slot : Fin 16) : OperandsInRange.Statement (.stepOverrun slot) := fun _ => Nat.zero_le _

theorem OperandsInRange.stepWatchdogFault (slot : Fin 16) : OperandsInRange.Statement (.stepWatchdogFault slot) := fun _ => Nat.zero_le _

theorem OperandsInRange.completionBufferDrain : OperandsInRange.Statement (.completionBufferDrain) := fun _ => Nat.zero_le _

theorem OperandsInRange.msixMessage (vector : Fin 64) : OperandsInRange.Statement (.msixMessage vector) := fun _ => Nat.zero_le _

theorem OperandsInRange.atsInvalidation (firstPage : BitVec 52) (lastPage : BitVec 52) : OperandsInRange.Statement (.atsInvalidation firstPage lastPage) := fun _ => Nat.zero_le _

theorem OperandsInRange.hostMemRead (offset : BitVec 48) (bytes : Nat) (amb : Ambient) : OperandsInRange.Statement (.hostMemRead offset bytes amb) := fun _ => Nat.zero_le _

theorem OperandsInRange.hostMemWrite (offset : BitVec 48) (data : List (BitVec 8)) : OperandsInRange.Statement (.hostMemWrite offset data) := by
  intro h
  simp [Instr.wf, Instr.payload, inLine] at h ⊢
  omega

theorem OperandsInRange.hostLineSnoop (line : BitVec 58) : OperandsInRange.Statement (.hostLineSnoop line) := fun _ => Nat.zero_le _

theorem OperandsInRange.pageRequestResponse (tile : Fin 129) (granted : Bool) (amb : Ambient) : OperandsInRange.Statement (.pageRequestResponse tile granted amb) := fun _ => Nat.zero_le _

theorem OperandsInRange.pageRequestTimeout (tile : Fin 129) : OperandsInRange.Statement (.pageRequestTimeout tile) := fun _ => Nat.zero_le _

theorem OperandsInRange.hwtEntryWrite (value : BitVec 64) : OperandsInRange.Statement (.hwtEntryWrite value) := fun _ => Nat.zero_le _

theorem OperandsInRange.stop (tile : Fin 128) (stream : Fin 3) : OperandsInRange.Statement (.stop tile stream) := fun _ => Nat.zero_le _

theorem OperandsInRange.jmp (tile : Fin 128) (stream : Fin 3) : OperandsInRange.Statement (.jmp tile stream) := fun _ => Nat.zero_le _

theorem OperandsInRange.loop (tile : Fin 128) (stream : Fin 3) : OperandsInRange.Statement (.loop tile stream) := fun _ => Nat.zero_le _

theorem OperandsInRange.ldlc (tile : Fin 128) (stream : Fin 3) : OperandsInRange.Statement (.ldlc tile stream) := fun _ => Nat.zero_le _

theorem OperandsInRange.brtag (tile : Fin 128) (stream : Fin 3) : OperandsInRange.Statement (.brtag tile stream) := fun _ => Nat.zero_le _

theorem OperandsInRange.fence (tile : Fin 128) (stream : Fin 3) : OperandsInRange.Statement (.fence tile stream) := fun _ => Nat.zero_le _

theorem OperandsInRange.mma (tile : Fin 128) (stream : Fin 3) : OperandsInRange.Statement (.mma tile stream) := fun _ => Nat.zero_le _

theorem OperandsInRange.vec (tile : Fin 128) (stream : Fin 3) : OperandsInRange.Statement (.vec tile stream) := fun _ => Nat.zero_le _

theorem OperandsInRange.dma (tile : Fin 128) (stream : Fin 3) : OperandsInRange.Statement (.dma tile stream) := fun _ => Nat.zero_le _

theorem OperandsInRange.recv (tile : Fin 128) (stream : Fin 3) : OperandsInRange.Statement (.recv tile stream) := fun _ => Nat.zero_le _

theorem OperandsInRange.send (tile : Fin 128) (stream : Fin 3) : OperandsInRange.Statement (.send tile stream) := fun _ => Nat.zero_le _

theorem OperandsInRange.topen (tile : Fin 128) (stream : Fin 3) : OperandsInRange.Statement (.topen tile stream) := fun _ => Nat.zero_le _

theorem OperandsInRange.tcommit (tile : Fin 128) (stream : Fin 3) : OperandsInRange.Statement (.tcommit tile stream) := fun _ => Nat.zero_le _

theorem OperandsInRange.trevokeRetry (tile : Fin 128) (stream : Fin 3) : OperandsInRange.Statement (.trevokeRetry tile stream) := fun _ => Nat.zero_le _

theorem OperandsInRange.trevokeContinue (tile : Fin 128) (stream : Fin 3) : OperandsInRange.Statement (.trevokeContinue tile stream) := fun _ => Nat.zero_le _

theorem OperandsInRange.waitSatisfied (tile : Fin 128) (stream : Fin 3) : OperandsInRange.Statement (.waitSatisfied tile stream) := fun _ => Nat.zero_le _

theorem OperandsInRange.sync (src : Src) : OperandsInRange.Statement (.sync src) := fun _ => Nat.zero_le _

theorem OperandsInRange.arrayGrant (tile : Fin 128) (amb : Ambient) : OperandsInRange.Statement (.arrayGrant tile amb) := fun _ => Nat.zero_le _

theorem OperandsInRange.mmaComplete (tile : Fin 128) (stream : Fin 3) : OperandsInRange.Statement (.mmaComplete tile stream) := fun _ => Nat.zero_le _

theorem OperandsInRange.sparsityCheck (tile : Fin 128) (bank : Fin 4) : OperandsInRange.Statement (.sparsityCheck tile bank) := fun _ => Nat.zero_le _

theorem OperandsInRange.bankComplete (tile : Fin 128) (bank : Fin 4) : OperandsInRange.Statement (.bankComplete tile bank) := fun _ => Nat.zero_le _

theorem OperandsInRange.drainStart (tile : Fin 128) : OperandsInRange.Statement (.drainStart tile) := fun _ => Nat.zero_le _

theorem OperandsInRange.drainEnd (tile : Fin 128) : OperandsInRange.Statement (.drainEnd tile) := fun _ => Nat.zero_le _

theorem OperandsInRange.arrCtlWrite (stack : Fin 4) (phys : Fin 34) (value : BitVec 32) : OperandsInRange.Statement (.arrCtlWrite stack phys value) := fun _ => Nat.zero_le _

theorem OperandsInRange.vcopy (tile : Fin 128) (amb : Ambient) : OperandsInRange.Statement (.vcopy tile amb) := fun _ => Nat.zero_le _

theorem OperandsInRange.vadd (tile : Fin 128) (amb : Ambient) : OperandsInRange.Statement (.vadd tile amb) := fun _ => Nat.zero_le _

theorem OperandsInRange.vsub (tile : Fin 128) (amb : Ambient) : OperandsInRange.Statement (.vsub tile amb) := fun _ => Nat.zero_le _

theorem OperandsInRange.vmul (tile : Fin 128) (amb : Ambient) : OperandsInRange.Statement (.vmul tile amb) := fun _ => Nat.zero_le _

theorem OperandsInRange.vfma (tile : Fin 128) (amb : Ambient) : OperandsInRange.Statement (.vfma tile amb) := fun _ => Nat.zero_le _

theorem OperandsInRange.vdiv (tile : Fin 128) (amb : Ambient) : OperandsInRange.Statement (.vdiv tile amb) := fun _ => Nat.zero_le _

theorem OperandsInRange.vrcp (tile : Fin 128) (amb : Ambient) : OperandsInRange.Statement (.vrcp tile amb) := fun _ => Nat.zero_le _

theorem OperandsInRange.vsqrt (tile : Fin 128) (amb : Ambient) : OperandsInRange.Statement (.vsqrt tile amb) := fun _ => Nat.zero_le _

theorem OperandsInRange.vrsqrt (tile : Fin 128) (amb : Ambient) : OperandsInRange.Statement (.vrsqrt tile amb) := fun _ => Nat.zero_le _

theorem OperandsInRange.vexp (tile : Fin 128) (amb : Ambient) : OperandsInRange.Statement (.vexp tile amb) := fun _ => Nat.zero_le _

theorem OperandsInRange.vlog (tile : Fin 128) (amb : Ambient) : OperandsInRange.Statement (.vlog tile amb) := fun _ => Nat.zero_le _

theorem OperandsInRange.vtanh (tile : Fin 128) (amb : Ambient) : OperandsInRange.Statement (.vtanh tile amb) := fun _ => Nat.zero_le _

theorem OperandsInRange.vsigm (tile : Fin 128) (amb : Ambient) : OperandsInRange.Statement (.vsigm tile amb) := fun _ => Nat.zero_le _

theorem OperandsInRange.vgelu (tile : Fin 128) (amb : Ambient) : OperandsInRange.Statement (.vgelu tile amb) := fun _ => Nat.zero_le _

theorem OperandsInRange.vmax (tile : Fin 128) (amb : Ambient) : OperandsInRange.Statement (.vmax tile amb) := fun _ => Nat.zero_le _

theorem OperandsInRange.vmin (tile : Fin 128) (amb : Ambient) : OperandsInRange.Statement (.vmin tile amb) := fun _ => Nat.zero_le _

theorem OperandsInRange.vcmp (tile : Fin 128) (amb : Ambient) : OperandsInRange.Statement (.vcmp tile amb) := fun _ => Nat.zero_le _

theorem OperandsInRange.rsum (tile : Fin 128) (amb : Ambient) : OperandsInRange.Statement (.rsum tile amb) := fun _ => Nat.zero_le _

theorem OperandsInRange.rssq (tile : Fin 128) (amb : Ambient) : OperandsInRange.Statement (.rssq tile amb) := fun _ => Nat.zero_le _

theorem OperandsInRange.rmv (tile : Fin 128) (amb : Ambient) : OperandsInRange.Statement (.rmv tile amb) := fun _ => Nat.zero_le _

theorem OperandsInRange.rmax (tile : Fin 128) (amb : Ambient) : OperandsInRange.Statement (.rmax tile amb) := fun _ => Nat.zero_le _

theorem OperandsInRange.rmin (tile : Fin 128) (amb : Ambient) : OperandsInRange.Statement (.rmin tile amb) := fun _ => Nat.zero_le _

theorem OperandsInRange.rmaxi (tile : Fin 128) (amb : Ambient) : OperandsInRange.Statement (.rmaxi tile amb) := fun _ => Nat.zero_le _

theorem OperandsInRange.rmini (tile : Fin 128) (amb : Ambient) : OperandsInRange.Statement (.rmini tile amb) := fun _ => Nat.zero_le _

theorem OperandsInRange.scan (tile : Fin 128) (amb : Ambient) : OperandsInRange.Statement (.scan tile amb) := fun _ => Nat.zero_le _

theorem OperandsInRange.scanx (tile : Fin 128) (amb : Ambient) : OperandsInRange.Statement (.scanx tile amb) := fun _ => Nat.zero_le _

theorem OperandsInRange.sscan (tile : Fin 128) (amb : Ambient) : OperandsInRange.Statement (.sscan tile amb) := fun _ => Nat.zero_le _

theorem OperandsInRange.sscanx (tile : Fin 128) (amb : Ambient) : OperandsInRange.Statement (.sscanx tile amb) := fun _ => Nat.zero_le _

theorem OperandsInRange.vstamp (tile : Fin 128) (amb : Ambient) : OperandsInRange.Statement (.vstamp tile amb) := fun _ => Nat.zero_le _

theorem OperandsInRange.vecComplete (tile : Fin 128) : OperandsInRange.Statement (.vecComplete tile) := fun _ => Nat.zero_le _

theorem OperandsInRange.dmaTransferStart (tile : Fin 128) (amb : Ambient) : OperandsInRange.Statement (.dmaTransferStart tile amb) := fun _ => Nat.zero_le _

theorem OperandsInRange.dmaComplete (tile : Fin 128) : OperandsInRange.Statement (.dmaComplete tile) := fun _ => Nat.zero_le _

theorem OperandsInRange.sendPlace (tile : Fin 128) (stream : Fin 3) (amb : Ambient) : OperandsInRange.Statement (.sendPlace tile stream amb) := fun _ => Nat.zero_le _

theorem OperandsInRange.sendComplete (tile : Fin 128) (stream : Fin 3) : OperandsInRange.Statement (.sendComplete tile stream) := fun _ => Nat.zero_le _

theorem OperandsInRange.recvTake (tile : Fin 128) (stream : Fin 3) : OperandsInRange.Statement (.recvTake tile stream) := fun _ => Nat.zero_le _

theorem OperandsInRange.recvComplete (tile : Fin 128) (stream : Fin 3) (amb : Ambient) : OperandsInRange.Statement (.recvComplete tile stream amb) := fun _ => Nat.zero_le _

theorem OperandsInRange.openChannel (src : Src) : OperandsInRange.Statement (.openChannel src) := fun _ => Nat.zero_le _

theorem OperandsInRange.accept (src : Src) : OperandsInRange.Statement (.accept src) := fun _ => Nat.zero_le _

theorem OperandsInRange.refuse (src : Src) : OperandsInRange.Statement (.refuse src) := fun _ => Nat.zero_le _

theorem OperandsInRange.close (src : Src) : OperandsInRange.Statement (.close src) := fun _ => Nat.zero_le _

theorem OperandsInRange.headUpdate (src : Src) : OperandsInRange.Statement (.headUpdate src) := fun _ => Nat.zero_le _

theorem OperandsInRange.blocked (src : Src) : OperandsInRange.Statement (.blocked src) := fun _ => Nat.zero_le _

theorem OperandsInRange.spillReq (src : Src) : OperandsInRange.Statement (.spillReq src) := fun _ => Nat.zero_le _

theorem OperandsInRange.spillEnd (src : Src) : OperandsInRange.Statement (.spillEnd src) := fun _ => Nat.zero_le _

theorem OperandsInRange.openRetry (tile : Fin 128) (ep : Fin 32) : OperandsInRange.Statement (.openRetry tile ep) := fun _ => Nat.zero_le _

theorem OperandsInRange.openTimeout (tile : Fin 128) (ep : Fin 32) : OperandsInRange.Statement (.openTimeout tile ep) := fun _ => Nat.zero_le _

theorem OperandsInRange.headUpdateTimer (tile : Fin 128) (ep : Fin 32) : OperandsInRange.Statement (.headUpdateTimer tile ep) := fun _ => Nat.zero_le _

theorem OperandsInRange.blockedNoticeTimer (tile : Fin 128) (ep : Fin 32) : OperandsInRange.Statement (.blockedNoticeTimer tile ep) := fun _ => Nat.zero_le _

theorem OperandsInRange.channelDeadlock (tile : Fin 128) (ep : Fin 32) : OperandsInRange.Statement (.channelDeadlock tile ep) := fun _ => Nat.zero_le _

theorem OperandsInRange.deadlockTimerStop (tile : Fin 128) (ep : Fin 32) : OperandsInRange.Statement (.deadlockTimerStop tile ep) := fun _ => Nat.zero_le _

theorem OperandsInRange.data (src : Src) : OperandsInRange.Statement (.data src) := fun _ => Nat.zero_le _

theorem OperandsInRange.keepRecipeFiring (entry : Fin 128) (version : BitVec 8) (amb : Ambient) : OperandsInRange.Statement (.keepRecipeFiring entry version amb) := fun _ => Nat.zero_le _

theorem OperandsInRange.localTrickTimeout (slot : Fin 256) : OperandsInRange.Statement (.localTrickTimeout slot) := fun _ => Nat.zero_le _

theorem OperandsInRange.logCapacityTimeout (slot : Fin 256) : OperandsInRange.Statement (.logCapacityTimeout slot) := fun _ => Nat.zero_le _

theorem OperandsInRange.shareReady (slot : Fin 16) (mb : Option (BitVec 20)) (logError : Bool) : OperandsInRange.Statement (.shareReady slot mb logError) := fun _ => Nat.zero_le _

theorem OperandsInRange.trickReady (src : Src) : OperandsInRange.Statement (.trickReady src) := fun _ => Nat.zero_le _

theorem OperandsInRange.trickRefuse (src : Src) : OperandsInRange.Statement (.trickRefuse src) := fun _ => Nat.zero_le _

theorem OperandsInRange.prepareTimeout (entry : Fin 64) : OperandsInRange.Statement (.prepareTimeout entry) := fun _ => Nat.zero_le _

theorem OperandsInRange.trickCommit (src : Src) : OperandsInRange.Statement (.trickCommit src) := fun _ => Nat.zero_le _

theorem OperandsInRange.publicationDone (slot : Fin 16) (published : Published) : OperandsInRange.Statement (.publicationDone slot published) := fun _ => Nat.zero_le _

theorem OperandsInRange.trickRevoke (src : Src) : OperandsInRange.Statement (.trickRevoke src) := fun _ => Nat.zero_le _

theorem OperandsInRange.revokeDrained (slot : Fin 16) (mb : Option (BitVec 20)) : OperandsInRange.Statement (.revokeDrained slot mb) := fun _ => Nat.zero_le _

theorem OperandsInRange.trickDone (src : Src) : OperandsInRange.Statement (.trickDone src) := fun _ => Nat.zero_le _

theorem OperandsInRange.trickResume (src : Src) : OperandsInRange.Statement (.trickResume src) := fun _ => Nat.zero_le _

theorem OperandsInRange.portEnable (port : Fin 16) : OperandsInRange.Statement (.portEnable port) := fun _ => Nat.zero_le _

theorem OperandsInRange.portDisable (port : Fin 16) : OperandsInRange.Statement (.portDisable port) := fun _ => Nat.zero_le _

theorem OperandsInRange.portFence (port : Fin 16) : OperandsInRange.Statement (.portFence port) := fun _ => Nat.zero_le _

theorem OperandsInRange.portUnfence (port : Fin 16) : OperandsInRange.Statement (.portUnfence port) := fun _ => Nat.zero_le _

theorem OperandsInRange.signalDetect (port : Fin 16) (lanes : BitVec 8) : OperandsInRange.Statement (.signalDetect port lanes) := fun _ => Nat.zero_le _

theorem OperandsInRange.trainingDone (port : Fin 16) (rxLanes : BitVec 8) (txLanes : BitVec 8) : OperandsInRange.Statement (.trainingDone port rxLanes txLanes) := fun _ => Nat.zero_le _

theorem OperandsInRange.trainingFailed (port : Fin 16) : OperandsInRange.Statement (.trainingFailed port) := fun _ => Nat.zero_le _

theorem OperandsInRange.alignLock (port : Fin 16) : OperandsInRange.Statement (.alignLock port) := fun _ => Nat.zero_le _

theorem OperandsInRange.alignTimeout (port : Fin 16) : OperandsInRange.Statement (.alignTimeout port) := fun _ => Nat.zero_le _

theorem OperandsInRange.identity (port : Fin 16) : OperandsInRange.Statement (.identity port) := fun _ => Nat.zero_le _

theorem OperandsInRange.discoverTimeout (port : Fin 16) : OperandsInRange.Statement (.discoverTimeout port) := fun _ => Nat.zero_le _

theorem OperandsInRange.frameLockTimeout (port : Fin 16) : OperandsInRange.Statement (.frameLockTimeout port) := fun _ => Nat.zero_le _

theorem OperandsInRange.peerIdle (port : Fin 16) : OperandsInRange.Statement (.peerIdle port) := fun _ => Nat.zero_le _

theorem OperandsInRange.holdoffExpiry (port : Fin 16) : OperandsInRange.Statement (.holdoffExpiry port) := fun _ => Nat.zero_le _

theorem OperandsInRange.frameTransmit (port : Fin 16) (rateHits : List Bool) : OperandsInRange.Statement (.frameTransmit port rateHits) := fun _ => Nat.zero_le _

theorem OperandsInRange.controlBlock (port : Fin 16) (frame : FrameEnd) : OperandsInRange.Statement (.controlBlock port frame) := by
  intro h
  simp [Instr.wf, Instr.payload] at h ⊢
  omega

theorem OperandsInRange.replayTimer (port : Fin 16) : OperandsInRange.Statement (.replayTimer port) := fun _ => Nat.zero_le _

theorem OperandsInRange.packetArrival (port : Fin 16) (wire : List (BitVec 8)) : OperandsInRange.Statement (.packetArrival port wire) := by
  intro h
  simp [Instr.wf, Instr.payload, wireSize] at h ⊢
  omega

theorem OperandsInRange.packetFirstSend (port : Fin 16) (cls : Fin 4) (rateHit : Bool) : OperandsInRange.Statement (.packetFirstSend port cls rateHit) := fun _ => Nat.zero_le _

theorem OperandsInRange.reorderTimeout (port : Fin 16) : OperandsInRange.Statement (.reorderTimeout port) := fun _ => Nat.zero_le _

theorem OperandsInRange.packetForward (port : Fin 16) (cls : Fin 4) (rateHit : Bool) : OperandsInRange.Statement (.packetForward port cls rateHit) := fun _ => Nat.zero_le _

theorem OperandsInRange.kittyStall (port : Fin 16) (cls : Fin 4) : OperandsInRange.Statement (.kittyStall port cls) := fun _ => Nat.zero_le _

theorem OperandsInRange.laneFailure (port : Fin 16) (lane : Fin 8) : OperandsInRange.Statement (.laneFailure port lane) := fun _ => Nat.zero_le _

theorem OperandsInRange.restripeLock (port : Fin 16) : OperandsInRange.Statement (.restripeLock port) := fun _ => Nat.zero_le _

theorem OperandsInRange.laneRestore (port : Fin 16) : OperandsInRange.Statement (.laneRestore port) := fun _ => Nat.zero_le _

theorem OperandsInRange.laneRestored (port : Fin 16) (lane : Fin 8) : OperandsInRange.Statement (.laneRestored port lane) := fun _ => Nat.zero_le _

theorem OperandsInRange.hlCntClr (port : Fin 16) : OperandsInRange.Statement (.hlCntClr port) := fun _ => Nat.zero_le _

theorem OperandsInRange.hlFiWrite (port : Fin 16) (cls : Fin 5) (value : BitVec 64) : OperandsInRange.Statement (.hlFiWrite port cls value) := fun _ => Nat.zero_le _

theorem OperandsInRange.rtEntryWrite (table : Option (Fin 16)) (dest : Fin 4096) (value : BitVec 32) : OperandsInRange.Statement (.rtEntryWrite table dest value) := fun _ => Nat.zero_le _

theorem OperandsInRange.kittyClassWrite (port : Fin 16) (cls : Fin 4) (value : BitVec 32) : OperandsInRange.Statement (.kittyClassWrite port cls value) := fun _ => Nat.zero_le _

theorem OperandsInRange.mgmt (src : Src) : OperandsInRange.Statement (.mgmt src) := fun _ => Nat.zero_le _

theorem OperandsInRange.meldTrigger (engine : Fin 2) (slot : Fin 512) (amb : Ambient) : OperandsInRange.Statement (.meldTrigger engine slot amb) := fun _ => Nat.zero_le _

theorem OperandsInRange.join (src : Src) : OperandsInRange.Statement (.join src) := fun _ => Nat.zero_le _

theorem OperandsInRange.grant (src : Src) : OperandsInRange.Statement (.grant src) := fun _ => Nat.zero_le _

theorem OperandsInRange.demand (src : Src) (amb : Ambient) : OperandsInRange.Statement (.demand src amb) := fun _ => Nat.zero_le _

theorem OperandsInRange.meldData (src : Src) : OperandsInRange.Statement (.meldData src) := fun _ => Nat.zero_le _

theorem OperandsInRange.ssqSource (src : Src) : OperandsInRange.Statement (.ssqSource src) := fun _ => Nat.zero_le _

theorem OperandsInRange.ssqShard (src : Src) : OperandsInRange.Statement (.ssqShard src) := fun _ => Nat.zero_le _

theorem OperandsInRange.meldFiringEnd (engine : Fin 2) (slot : Fin 512) : OperandsInRange.Statement (.meldFiringEnd engine slot) := fun _ => Nat.zero_le _

theorem OperandsInRange.mldCntClr (engine : Fin 2) : OperandsInRange.Statement (.mldCntClr engine) := fun _ => Nat.zero_le _

theorem OperandsInRange.mldEntryWrite (engine : Fin 2) (offset : BitVec 16) (value : BitVec 64) (byDealer : Bool) : OperandsInRange.Statement (.mldEntryWrite engine offset value byDealer) := fun _ => Nat.zero_le _

theorem OperandsInRange.gddrTrained (ctrl : Fin 20) : OperandsInRange.Statement (.gddrTrained ctrl) := fun _ => Nat.zero_le _

theorem OperandsInRange.gddrTrainingFailed (ctrl : Fin 20) : OperandsInRange.Statement (.gddrTrainingFailed ctrl) := fun _ => Nat.zero_le _

theorem OperandsInRange.gddrTempPoll (ctrl : Fin 20) (reading : Option (BitVec 8)) : OperandsInRange.Statement (.gddrTempPoll ctrl reading) := fun _ => Nat.zero_le _

theorem OperandsInRange.gddrRetrain (ctrl : Fin 20) (channel : Fin 4) : OperandsInRange.Statement (.gddrRetrain ctrl channel) := fun _ => Nat.zero_le _

theorem OperandsInRange.scrubVisit (ctrl : Fin 20) (outcome : ReadOutcome) (overtaken : Bool) : OperandsInRange.Statement (.scrubVisit ctrl outcome overtaken) := fun _ => Nat.zero_le _

theorem OperandsInRange.errClr (ctrl : Fin 20) : OperandsInRange.Statement (.errClr ctrl) := fun _ => Nat.zero_le _

theorem OperandsInRange.gdThrWrite (ctrl : Fin 20) (value : BitVec 32) : OperandsInRange.Statement (.gdThrWrite ctrl value) := fun _ => Nat.zero_le _

theorem OperandsInRange.marginingStart (ctrl : Fin 20) : OperandsInRange.Statement (.marginingStart ctrl) := fun _ => Nat.zero_le _

theorem OperandsInRange.marginingDone (ctrl : Fin 20) (margins : List (BitVec 32)) : OperandsInRange.Statement (.marginingDone ctrl margins) := fun _ => Nat.zero_le _

theorem OperandsInRange.stkGddrCfgWrite (stack : Fin 4) (value : BitVec 32) : OperandsInRange.Statement (.stkGddrCfgWrite stack value) := fun _ => Nat.zero_le _

theorem OperandsInRange.gddrLayoutDone (stack : Fin 4) : OperandsInRange.Statement (.gddrLayoutDone stack) := fun _ => Nat.zero_le _

theorem OperandsInRange.stkMemCfgWrite (stack : Fin 4) (value : BitVec 32) : OperandsInRange.Statement (.stkMemCfgWrite stack value) := fun _ => Nat.zero_le _

theorem OperandsInRange.farCacheResizeDone (stack : Fin 4) : OperandsInRange.Statement (.farCacheResizeDone stack) := fun _ => Nat.zero_le _

theorem OperandsInRange.loadReady (src : Src) : OperandsInRange.Statement (.loadReady src) := fun _ => Nat.zero_le _

theorem OperandsInRange.loadRestart (src : Src) : OperandsInRange.Statement (.loadRestart src) := fun _ => Nat.zero_le _

theorem OperandsInRange.loadImageFetch (slot : Fin 16) (loadId : Fin 16) (amb : Ambient) : OperandsInRange.Statement (.loadImageFetch slot loadId amb) := fun _ => Nat.zero_le _

theorem OperandsInRange.loadPacket (src : Src) : OperandsInRange.Statement (.loadPacket src) := fun _ => Nat.zero_le _

theorem OperandsInRange.tileHeartbeatSample (stack : Fin 4) (missed : BitVec 34) : OperandsInRange.Statement (.tileHeartbeatSample stack missed) := fun _ => Nat.zero_le _

theorem OperandsInRange.tileCheckFailure (stack : Fin 4) (phys : Fin 34) (check : TileCheck) : OperandsInRange.Statement (.tileCheckFailure stack phys check) := fun _ => Nat.zero_le _

theorem OperandsInRange.tileImageReloaded (tile : Fin 128) : OperandsInRange.Statement (.tileImageReloaded tile) := fun _ => Nat.zero_le _

theorem OperandsInRange.d2dLaneFailure (d2d : Fin 84) (lane : BitVec 5) : OperandsInRange.Statement (.d2dLaneFailure d2d lane) := fun _ => Nat.zero_le _

theorem OperandsInRange.cutCopyDone (slot : Fin 16) (refused : Bool) : OperandsInRange.Statement (.cutCopyDone slot refused) := fun _ => Nat.zero_le _

theorem OperandsInRange.cutWrite (src : Src) : OperandsInRange.Statement (.cutWrite src) := fun _ => Nat.zero_le _

theorem OperandsInRange.packageHeartbeat : OperandsInRange.Statement (.packageHeartbeat) := fun _ => Nat.zero_le _

theorem OperandsInRange.packageLossDeclared (package : BitVec 12) : OperandsInRange.Statement (.packageLossDeclared package) := fun _ => Nat.zero_le _

theorem OperandsInRange.takeoverOrder (src : Src) : OperandsInRange.Statement (.takeoverOrder src) := fun _ => Nat.zero_le _

theorem OperandsInRange.cutFetch (src : Src) : OperandsInRange.Statement (.cutFetch src) := fun _ => Nat.zero_le _

theorem OperandsInRange.cutNone (src : Src) : OperandsInRange.Statement (.cutNone src) := fun _ => Nat.zero_le _

theorem OperandsInRange.cutRead (src : Src) : OperandsInRange.Statement (.cutRead src) := fun _ => Nat.zero_le _

theorem OperandsInRange.cutRestored (slot : Fin 16) : OperandsInRange.Statement (.cutRestored slot) := fun _ => Nat.zero_le _

theorem OperandsInRange.relinkTimeout (port : Fin 16) : OperandsInRange.Statement (.relinkTimeout port) := fun _ => Nat.zero_le _

theorem OperandsInRange.fenceOrder (src : Src) : OperandsInRange.Statement (.fenceOrder src) := fun _ => Nat.zero_le _

theorem OperandsInRange.nonce (path : SecPath) (drawn : BitVec 256) : OperandsInRange.Statement (.nonce path drawn) := fun _ => Nat.zero_le _

theorem OperandsInRange.nonceExpiry (path : SecPath) : OperandsInRange.Statement (.nonceExpiry path) := fun _ => Nat.zero_le _

theorem OperandsInRange.fwBegin (path : SecPath) : OperandsInRange.Statement (.fwBegin path) := fun _ => Nat.zero_le _

theorem OperandsInRange.fwWrite (path : SecPath) (arg : BitVec 32) (buffer : List (BitVec 8)) : OperandsInRange.Statement (.fwWrite path arg buffer) := by
  intro h
  simp [Instr.wf, Instr.payload, mailSize] at h ⊢
  omega

theorem OperandsInRange.fwFinish (path : SecPath) : OperandsInRange.Statement (.fwFinish path) := fun _ => Nat.zero_le _

theorem OperandsInRange.fwActivate (path : SecPath) : OperandsInRange.Statement (.fwActivate path) := fun _ => Nat.zero_le _

theorem OperandsInRange.updateSessionTimeout : OperandsInRange.Statement (.updateSessionTimeout) := fun _ => Nat.zero_le _

theorem OperandsInRange.bootConfirm (path : SecPath) : OperandsInRange.Statement (.bootConfirm path) := fun _ => Nat.zero_le _

theorem OperandsInRange.svnCommit (path : SecPath) : OperandsInRange.Statement (.svnCommit path) := fun _ => Nat.zero_le _

theorem OperandsInRange.ownerClaim (path : SecPath) (buffer : List (BitVec 8)) : OperandsInRange.Statement (.ownerClaim path buffer) := by
  intro h
  simp [Instr.wf, Instr.payload, mailSize] at h ⊢
  omega

theorem OperandsInRange.ownerRelease (path : SecPath) (buffer : List (BitVec 8)) : OperandsInRange.Statement (.ownerRelease path buffer) := by
  intro h
  simp [Instr.wf, Instr.payload, mailSize] at h ⊢
  omega

theorem OperandsInRange.debugUnlock (path : SecPath) (buffer : List (BitVec 8)) : OperandsInRange.Statement (.debugUnlock path buffer) := by
  intro h
  simp [Instr.wf, Instr.payload, mailSize] at h ⊢
  omega

theorem OperandsInRange.debugNonceDraw (drawn : BitVec 256) : OperandsInRange.Statement (.debugNonceDraw drawn) := fun _ => Nat.zero_le _

theorem OperandsInRange.debugBlockCheck (block : List (BitVec 8)) : OperandsInRange.Statement (.debugBlockCheck block) := by
  intro h
  simp [Instr.wf, Instr.payload] at h ⊢
  omega

theorem OperandsInRange.recorderClear (path : SecPath) (buffer : List (BitVec 8)) : OperandsInRange.Statement (.recorderClear path buffer) := by
  intro h
  simp [Instr.wf, Instr.payload, mailSize] at h ⊢
  omega

theorem OperandsInRange.recorderClearDone : OperandsInRange.Statement (.recorderClearDone) := fun _ => Nat.zero_le _

theorem OperandsInRange.getVersion : OperandsInRange.Statement (.getVersion) := fun _ => Nat.zero_le _

theorem OperandsInRange.getCapabilities : OperandsInRange.Statement (.getCapabilities) := fun _ => Nat.zero_le _

theorem OperandsInRange.negotiateAlgorithms : OperandsInRange.Statement (.negotiateAlgorithms) := fun _ => Nat.zero_le _

theorem OperandsInRange.getDigests : OperandsInRange.Statement (.getDigests) := fun _ => Nat.zero_le _

theorem OperandsInRange.getCertificate (slot : BitVec 8) (offset : BitVec 16) (length : BitVec 16) : OperandsInRange.Statement (.getCertificate slot offset length) := fun _ => Nat.zero_le _

theorem OperandsInRange.challenge (slot : BitVec 8) (asked : SpdmAsk) : OperandsInRange.Statement (.challenge slot asked) := fun _ => Nat.zero_le _

theorem OperandsInRange.getMeasurements (index : BitVec 8) (signed : Bool) (asked : SpdmAsk) : OperandsInRange.Statement (.getMeasurements index signed asked) := fun _ => Nat.zero_le _

theorem OperandsInRange.keyExchange (request : List (BitVec 8)) : OperandsInRange.Statement (.keyExchange request) := by
  intro h
  simp [Instr.wf, Instr.payload, spdmSize] at h ⊢
  omega

theorem OperandsInRange.finish (session : Fin 2) (request : List (BitVec 8)) : OperandsInRange.Statement (.finish session request) := by
  intro h
  simp [Instr.wf, Instr.payload, spdmSize] at h ⊢
  omega

theorem OperandsInRange.spdmHeartbeat (session : Fin 2) : OperandsInRange.Statement (.spdmHeartbeat session) := fun _ => Nat.zero_le _

theorem OperandsInRange.keyUpdate (session : Fin 2) (op : BitVec 8) : OperandsInRange.Statement (.keyUpdate session op) := fun _ => Nat.zero_le _

theorem OperandsInRange.endSession (session : Fin 2) : OperandsInRange.Statement (.endSession session) := fun _ => Nat.zero_le _

theorem OperandsInRange.chunkGet (handle : BitVec 8) (seq : BitVec 16) : OperandsInRange.Statement (.chunkGet handle seq) := fun _ => Nat.zero_le _

theorem OperandsInRange.chunkSend (handle : BitVec 8) (seq : BitVec 16) (last : Bool) (data : List (BitVec 8)) : OperandsInRange.Statement (.chunkSend handle seq last data) := by
  intro h
  simp [Instr.wf, Instr.payload, spdmSize] at h ⊢
  omega

theorem OperandsInRange.spdmUnsupported (code : BitVec 8) : OperandsInRange.Statement (.spdmUnsupported code) := fun _ => Nat.zero_le _

theorem OperandsInRange.query (session : Fin 2) : OperandsInRange.Statement (.query session) := fun _ => Nat.zero_le _

theorem OperandsInRange.keyProg (session : Fin 2) (stream : IdeStream) (keySet : Fin 2) (key : BitVec 256) : OperandsInRange.Statement (.keyProg session stream keySet key) := fun _ => Nat.zero_le _

theorem OperandsInRange.kSetGo (session : Fin 2) (stream : IdeStream) (keySet : Fin 2) : OperandsInRange.Statement (.kSetGo session stream keySet) := fun _ => Nat.zero_le _

theorem OperandsInRange.kSetStop (session : Fin 2) (stream : IdeStream) (keySet : Fin 2) : OperandsInRange.Statement (.kSetStop session stream keySet) := fun _ => Nat.zero_le _

theorem OperandsInRange.ideIntegrityFailure (stream : IdeStream) : OperandsInRange.Statement (.ideIntegrityFailure stream) := fun _ => Nat.zero_le _

theorem OperandsInRange.recRead (start : BitVec 32) (unit : BitVec 16) : OperandsInRange.Statement (.recRead start unit) := fun _ => Nat.zero_le _

theorem OperandsInRange.recStatus : OperandsInRange.Statement (.recStatus) := fun _ => Nat.zero_le _

theorem OperandsInRange.rateLimitRefill (code : BitVec 16) : OperandsInRange.Statement (.rateLimitRefill code) := fun _ => Nat.zero_le _

theorem OperandsInRange.recorderProgram : OperandsInRange.Statement (.recorderProgram) := fun _ => Nat.zero_le _

theorem OperandsInRange.journalWrite (failed : Bool) : OperandsInRange.Statement (.journalWrite failed) := fun _ => Nat.zero_le _

theorem OperandsInRange.statsPageWritten (slot : Fin 16) : OperandsInRange.Statement (.statsPageWritten slot) := fun _ => Nat.zero_le _

theorem OperandsInRange.perstNDeassert : OperandsInRange.Statement (.perstNDeassert) := fun _ => Nat.zero_le _

theorem OperandsInRange.prochotNDeassert : OperandsInRange.Statement (.prochotNDeassert) := fun _ => Nat.zero_le _

theorem OperandsInRange.frameLockLost (port : Fin 16) : OperandsInRange.Statement (.frameLockLost port) := fun _ => Nat.zero_le _

theorem OperandsInRange.frameLockRegained (port : Fin 16) : OperandsInRange.Statement (.frameLockRegained port) := fun _ => Nat.zero_le _

theorem OperandsInRange.tcommitComplete (tile : Fin 128) (stream : Fin 3) (logError : Bool) : OperandsInRange.Statement (.tcommitComplete tile stream logError) := fun _ => Nat.zero_le _

theorem OperandsInRange.loopbackCheckerLock (port : Fin 16) (lane : Fin 8) : OperandsInRange.Statement (.loopbackCheckerLock port lane) := fun _ => Nat.zero_le _

theorem OperandsInRange.spdmHeartbeatTimeout (session : Fin 2) : OperandsInRange.Statement (.spdmHeartbeatTimeout session) := fun _ => Nat.zero_le _

end Sys2Proof.Laws
end

