-- ==== Sys2Proof/Tests/Slice0.lean ====
section
/-! SUPPORT. Slice0.lean: ill-formed commands that WellFormed refuses; for every statement a witness, a state and operands that meet its
hypotheses, clause by clause; and small tests whose expected values are the spec's own. A hypothesis that only names a value (`x = …`) is met
by taking that value, and is left out. -/
open Sys2Proof Sys2Proof.Machine
namespace Sys2Proof.Tests
set_option Elab.async false

/-! ## Ill-formed commands -/

theorem test_wf_hostCells : (Instr.resume 0 [(2 ^ 64, 1)]).wf = false ∧ (Instr.resume 0 [(2 ^ 64 - 1, 1)]).wf = true := by decide +kernel

theorem test_wf_trainedLink : (Instr.hostLinkBack 0 16).wf = false ∧ (Instr.hostLinkBack 2 12).wf = false
    ∧ (Instr.hostLinkBack 2 16).wf = true := by decide +kernel

theorem test_wf_accessSize : (Instr.registerWrite false 0 3 0).wf = false ∧ (Instr.registerWrite false 0 4 0x100000000).wf = false
    ∧ (Instr.registerWrite true 0x10000 4 0).wf = false ∧ (Instr.registerWrite false 0 4 0xFFFFFFFF).wf = true := by decide +kernel

theorem test_wf_inLine : (Instr.hostMemRead 63 2 {}).wf = false ∧ (Instr.hostMemRead 0 0 {}).wf = false
    ∧ (Instr.hostMemRead 63 1 {}).wf = true := by decide +kernel

theorem test_wf_wireSize : (Instr.packetArrival 0 (List.replicate 71 0)).wf = false ∧ (Instr.packetArrival 0 (List.replicate 100 0)).wf = false
    ∧ (Instr.packetArrival 0 (List.replicate 136 0)).wf = true := by decide +kernel

theorem test_wf_mailSize : mailSize (List.replicate 32769 0) = false ∧ mailSize (List.replicate 32768 0) = true := by decide +kernel

theorem test_wf_spdmSize : spdmSize (List.replicate 65537 0) = false ∧ spdmSize (List.replicate 65536 0) = true := by decide +kernel

theorem test_wf_deckSizes : (Instr.job 0 { tiles := [{ rel := 128 }] } {}).wf = false
    ∧ (Instr.job 0 { tiles := [{ rel := 3 }, { rel := 3 }] } {}).wf = false ∧ (Instr.job 0 { tiles := [{ rel := 127 }] } {}).wf = true := by
  decide +kernel

theorem test_wf_listLengths : (Instr.thermalSensorRead [1, 2]).wf = false ∧ (Instr.powerMonitorSample []).wf = false
    ∧ (Instr.atsInvalidation 5 4).wf = false := by decide +kernel

/-! ## States of the witnesses -/

/-- Out of reset, booted, with an established host link and an SPDM connection. -/
def live : State :=
  { pkg := { inReset := false, gddrResetN := true }
    sec := { running := true, responder := true, versionDone := true, capsDone := true, algsDone := true, aliasReady := true }
    host := { ready := true, linkUp := true, attached := true, monitoring := true, perstHigh := true } }

/-- Whether an outcome is a next state. -/
def runs (o : Host.Outcome State Fault Refusal) : Bool :=
  match o with
  | .next _ => true
  | _ => false

def sendsRec : EventRec := ⟨0x0101, 0, 0, 0, 0, 0⟩

/-! ## Witnesses: the machine, boot, power, telemetry -/

theorem witness_EmptyQueueLetsTimePass : State.reset.pending = [] ∧ State.reset.pkg.inReset = true
    ∧ (let s := { live with tel := { micros := 999999 }, tiles := [(127, { stepCycle := 4294967295, clock := 400 })],
                            dealer := { jobs := [(15, { valid := true, run := some { desc := ⟨[], 0, 0, 0⟩, step := 0, mbCount := 1, table := 0, started := true } })] } }
       s.pending = [] ∧ s.pkg.inReset = false ∧ s.tel.micros = 999999 ∧ s.tel.seconds ≠ BitVec.allOnes 40 ∧ s.sec.burn = none
         ∧ (∃ r, (s.job 15).run = some r ∧ r.started = true) ∧ (∃ e, e ∈ s.tiles) ∧ live.tel.micros + 1 < 1000000) := by
  refine ⟨rfl, rfl, rfl, rfl, rfl, by decide, rfl, ⟨_, rfl, rfl⟩, ⟨_, by simp; rfl⟩, by decide⟩

theorem witness_EveryStepKeepsMemoryCanonical : State.reset.memOk ∧ ∃ t, step State.reset = .next t := ⟨rfl, _, rfl⟩

theorem witness_BurnedFusesStayBurned : ∃ t, step State.reset = .next t := ⟨_, rfl⟩

theorem witness_ResetAndBootComplete :
    (State.reset.pkg.inReset = true ∧ (4 : BitVec 3).toNat < 5)
    ∧ (let s := { live with sec := {} }
       s.pkg.inReset = false ∧ s.pkg.testMode = 0 ∧ s.sec.running = false ∧ s.sec.recovery = false ∧ s.bootRecord.trial = false)
    ∧ (let s := { live with host := {}, gds := (List.range 20).map (fun n => (n, { trained := decide (n ≠ 7), trainFail := decide (n = 7) })) }
       s.sec.running = true ∧ s.host.ready = false ∧ s.tel.mcReset = false ∧ ∀ n < 20, (s.gd n).trained = true ∨ (s.gd n).trainFail = true)
    ∧ (State.reset.pkg.inReset = true ∨ State.reset.pkg.thermtrip = true)
    ∧ { live with pkg := { inReset := false, thermtrip := true } }.pkg.thermtrip = true := by
  decide +kernel

theorem witness_PowerAndRailsComplete :
    live.awake = true ∧ (64 ≤ (256 : BitVec 16).toNat ∧ (256 : BitVec 16).toNat ≤ 256) ∧ (300 ≤ bits (300 : Word) 0 10 ∧ bits (750 : Word) 0 10 ≤ 750) ∧ (bits (299 : Word) 0 10 < 300 ∧ 750 < bits (751 : Word) 0 10)
    ∧ (live.mctpAnswers = true ∧ 300 ≤ (300 : BitVec 16).toNat ∧ (750 : BitVec 16).toNat ≤ 750 ∧ 750 < (751 : BitVec 16).toNat)
    ∧ (let s := { live with pkg := { inReset := false, fSet := 775 } }
       s.pkg.inReset = false ∧ s.tel.mcReset = false ∧ s.sec.running = true ∧ s.pkg.prochot = false ∧ 10 * s.pkg.cap < (7501 : BitVec 16).toNat
         ∧ s.pkg.fSet ≤ 775)
    ∧ (let s := { live with stks := [(0, { pendingMv := some 700 }), (3, { pendingMv := some 700, avsRetried := true })] }
       (s.stack 0).pendingMv = some 700 ∧ (s.stack 0).avsRetried = false ∧ (s.stack 3).pendingMv = some 700 ∧ (s.stack 3).avsRetried = true
         ∧ s.tel.mcReset = false)
    ∧ (let s := { live with pkg := { inReset := false, badRails := [14] } }
       s.pkg.inReset = false ∧ s.tel.mcReset = false ∧ (0 : Fin 15).val ∉ s.pkg.badRails ∧ (14 : Fin 15).val ∈ s.pkg.badRails) := by
  decide +kernel

theorem witness_ThermalLimitsComplete :
    (let ts : List Byte := List.replicate 11 99
     ts.length = 11 ∧ live.pkg.inReset = false ∧ ∀ b ∈ ts, b.toNat < 100)
    ∧ (∀ k, (live.stack k).throttle = 0)
    ∧ (let ts : List Byte := List.replicate 11 115
       ts.length = 11 ∧ live.pkg.inReset = false ∧ live.pkg.thermtrip = false ∧ 115 ≤ (ts.getD 0 0).toNat)
    ∧ (let s := { live with stks := [(2, { throttle := 1 })], pkg := { inReset := false, temps := [(2, 100)] } }
       (s.stack 2).throttle = 1 ∧ 100 ≤ s.stackTemp 2) :=
  ⟨by decide +kernel, fun _ => rfl, by decide +kernel, by decide +kernel⟩

theorem witness_TelemetryCompletes :
    ((List.replicate 15 (7 : Word)).length = 15 ∧ live.pkg.inReset = false ∧ live.tel.mcReset = false ∧ live.sec.running = true
      ∧ live.tel.wdogTimes = [])
    ∧ ({ live with tel := { journalNext := 2047 } }.tel.journalNext % 2048 ≠ 0)
    ∧ (let s := { live with tel := { mcReset := true } }
       s.tel.mcReset = true ∧ s.tel.mcHeld = false) := by decide +kernel

theorem witness_RecorderCompletes :
    (let s := { live with tel := { queue := [sendsRec], next := 131069 } }
     s.tel.queue = sendsRec :: [] ∧ s.tel.full = false ∧ s.tel.clearing = false ∧ s.tel.mcReset = false ∧ s.pkg.inReset = false
       ∧ s.sec.running = true ∧ s.tel.next + 2 < 131072)
    ∧ live.mctpAnswers = true
    ∧ (let s := { live with tel := { buckets := [(0x0101, { tokens := 0 })] } }
       (tget ({} : Bucket) s.tel.buckets (0x0101 : BitVec 16).toNat).tokens < (tget ({} : Bucket) s.tel.buckets (0x0101 : BitVec 16).toNat).burst)
    ∧ { live with tel := { clearing := true } }.tel.clearing = true := by decide +kernel

theorem witness_EventsFollowTheRateLimit :
    (let s := { live with host := {} }
     0xFFFF < 2 ^ 16 ∧ 0 < min (tget ({} : Bucket) s.tel.buckets 0xFFFF).tokens (s.rateOf 0xFFFF).1 ∧ s.host.attached = false ∧ s.host.heldEvents = []
       ∧ s.tel.full = false ∧ s.tel.queue.length < 1024)
    ∧ (tget ({} : Bucket) { live with tel := { buckets := [(0x0101, { tokens := 0 })] } }.tel.buckets 0x0101).tokens = 0 := by decide +kernel

/-! ## Witnesses: host interface and security -/

def oneSq : State :=
  { live with host := { live.host with
      sqs := [(0, { base := 0x10000, db := 0x20000, cfg := 0x80000006, tail := 0, head := 0 })], cqs := [(0, { hw := 0x30000, cfg := 0x80000006 })] } }

theorem witness_HostLinkAndHubComplete :
    live.host.linkUp = true
    ∧ (let s := { live with host := { perstHigh := true } }
       s.awake = true ∧ s.host.perstHigh = true ∧ s.host.attached = false)
    ∧ (let s := { live with host := { resumeWait := true } }
       s.awake = true ∧ s.host.resumeWait = true ∧ s.host.pageRequests = [] ∧ ∀ n < 16, (s.job n).page = none)
    ∧ (oneSq.host.monitoring = true ∧ (0x900 : BitVec 58).toNat ∉ oneSq.host.stale ∧ bits (oneSq.ringCfg (.cq 0)) 31 1 = 1
      ∧ ∀ q : Fin 64, RingRef.cq 0 ≠ .sq q)
    ∧ (oneSq.host.monitoring = true ∧ (0x800 : BitVec 58).toNat ∈ oneSq.monitored ∧ bits oneSq.host.ctl 0 16 ≠ 0)
    ∧ (let s := oneSq.modHost (fun h => { h with stale := [0x800] })
       s.host.monitoring = true ∧ (0x800 : BitVec 58).toNat ∈ s.host.stale ∧ (0x800 : BitVec 58).toNat = (s.sq 0).db.toNat / 64
         ∧ bits (s.sq 0).cfg 31 1 = 1 ∧ (∀ q : Fin 64, q ≠ 0 → bits (s.ringCfg (.sq q)) 31 1 ≠ 1)
         ∧ (∀ c : Fin 64, bits (s.ringCfg (.cq c)) 31 1 = 1 → s.ringLine (.cq c) ≠ 0x800) ∧ bits (s.ringCfg .eq) 31 1 ≠ 1
         ∧ BitVec.ofNat 32 (leNat ((s.applyHw [(0x20000, 64), (0x20001, 0), (0x20002, 0), (0x20003, 0)]).hostRead (s.sq 0).db.toNat 4)) = 64 ∧ (64 : Word) ≠ (s.sq 0).tail
         ∧ (64 - (s.sq 0).head).toNat ≤ 2 ^ bits (s.sq 0).cfg 0 5)
    ∧ (let s := live.modHost (fun h => { h with msixDue := [63] })
       (63 : Fin 64).val ∈ s.host.msixDue)
    ∧ (let s := oneSq.modHost (fun h => { h with buffer := [⟨0, 0, 7, 0, 0, 0, 0, 0, 0, [], false⟩] })
       ∃ c r, s.host.buffer = c :: r ∧ (s.putCompletion c).isSome = true) :=
  ⟨by decide +kernel, by decide +kernel, by decide +kernel, by decide +kernel, by decide +kernel, by decide +kernel, by decide +kernel, _, _, rfl,
    by decide +kernel⟩

/-- All submission and completion rings are enabled, each with a line of its own: 128 lines. -/
def fullMonitor : State :=
  { live with host := { live.host with
      sqs := (List.range 64).map (fun i => (i, { db := BitVec.ofNat 64 (64 * i), cfg := 0x80000006 }))
      cqs := (List.range 64).map (fun i => (i, { hw := BitVec.ofNat 64 (4096 + 64 * i), cfg := 0x80000006 })) } }

theorem witness_RingEnableCompletes :
    (live.awake = true ∧ oneSq.awake = true ∧ bits live.host.eq.cfg 31 1 = 0)
    ∧ (let s := oneSq.modHost (fun h => { h with eq := { h.eq with cfg := 0x80000006 }, cqs := h.cqs ++ [(63, { cfg := 0x80000006 })] })
       bits (s.cq 63).cfg 31 1 = 1 ∧ (∀ q < 64, bits (s.sq q).cfg 31 1 = 1 → bits (s.sq q).cfg 24 6 ≠ (63 : Fin 64).val)
         ∧ bits s.host.eq.cfg 31 1 = 1)
    ∧ (bits (oneSq.cq 0).cfg 31 1 = 1 ∧ 0 < 64 ∧ bits (oneSq.sq 0).cfg 31 1 = 1 ∧ bits (oneSq.sq 0).cfg 24 6 = (0 : Fin 64).val)
    ∧ (bits (oneSq.ringCfg (.sq 0)) 31 1 = 1 ∧ oneSq.host.attached = true)
    ∧ (let s := fullMonitor.modHost (fun h => { h with eq := { h.eq with hw := 0x100000 } })
       s.awake = true ∧ s.ringLine .eq ∉ s.monitored ∧ 128 ≤ s.monitored.length)
    ∧ (bits (live.cq 63).cfg 31 1 = 0 ∧ 6 ≤ bits (0x80000006 : Word) 0 5 ∧ bits (0x80000010 : Word) 0 5 ≤ 16 ∧ live.monitored.length < 128)
    ∧ (bits (oneSq.sq 63).cfg 31 1 = 0 ∧ oneSq.monitored.length < 128 ∧ bits (oneSq.cq (bits (0x80000010 : Word) 24 6)).cfg 31 1 = 1)
    ∧ bits (oneSq.sq 0).cfg 31 1 = 1
    ∧ (bits (0x80000005 : Word) 0 5 < 6 ∧ 16 < bits (0x80000011 : Word) 0 5 ∧ bits (oneSq.cq (bits (0x81000006 : Word) 24 6)).cfg 31 1 = 0) := by
  decide +kernel

/-- A SEC command waits in the mailbox. -/
def mailed (cmd : Byte) : State := live.modSec (fun x => { x with cmd := cmd, busy := true })

theorem witness_secReady (cmd : Byte) : (mailed cmd).secReady .mailbox cmd.toNat ∧ live.secReady .mctp cmd.toNat :=
  ⟨⟨rfl, rfl, rfl, rfl, nofun, rfl, rfl, fun _ => ⟨rfl, rfl⟩, nofun⟩, rfl, rfl, rfl, rfl, nofun, rfl, rfl, nofun, fun _ => rfl⟩

theorem witness_FirmwareUpdateCompletes :
    ((mailed 0x10).secReady .mailbox 0x10 ∧ (mailed 0x10).sec.session = none)
    ∧ (let s := live.modSec (fun x => { x with session := some .mctp })
       s.secReady .mctp 0x11 ∧ s.sec.session = some .mctp ∧ s.secArg .mctp 64 % 64 = 0 ∧ (s.secBuffer .mctp [1, 2]).length ≤ 32768
         ∧ s.secArg .mctp 64 + (s.secBuffer .mctp [1, 2]).length ≤ slotBytes)
    ∧ (let s := live.modSec (fun x => { x with session := some .mctp })
       s.secReady .mctp 0x12 ∧ s.sec.session = some .mctp ∧ s.sec.session.isSome = true)
    ∧ (let s := live.modSec (fun x => { x with checked := true })
       s.secReady .mctp 0x13 ∧ s.sec.session = none ∧ s.sec.checked = true)
    ∧ (live.secReady .mctp 0x14 ∧ live.bootRecord.prefer = live.sec.slot)
    ∧ (let s := live.modSec (fun x => { x with svnRun := 1 })
       s.secReady .mctp 0x15 ∧ s.bootRecord.trial = false ∧ s.fuses.svn < s.sec.svnRun)
    ∧ (let s := live.modSec (fun x => { x with svnRun := 2, burn := some .mailbox })
       s.sec.burn = some .mailbox ∧ s.fuses.svn + 1 < s.sec.svnRun)
    ∧ (let s := live.modSec (fun x => { x with svnRun := 1, burn := some .mctp })
       s.sec.burn = some .mctp ∧ s.fuses.svn + 1 = s.sec.svnRun ∧ s.sec.waiting = [])
    ∧ ((mailed 0x12).secServed = true ∧ (mailed 0x12).sec.busy = true) :=
  ⟨⟨(witness_secReady 0x10).1, rfl⟩, ⟨(witness_secReady 0x11).2, rfl, rfl, by decide +kernel, by decide +kernel⟩,
    ⟨(witness_secReady 0x12).2, rfl, rfl⟩, ⟨(witness_secReady 0x13).2, rfl, rfl⟩, ⟨(witness_secReady 0x14).2, by decide +kernel⟩,
    ⟨(witness_secReady 0x15).2, by decide +kernel, by decide +kernel⟩, by decide +kernel, by decide +kernel, by decide +kernel⟩
/-- A signed block with its fields in place: a command, signer 1, the serial number 0 and the nonce 5 of its path. -/
def block (cmd level : Byte) : List Byte :=
  [cmd, 1, 0, 0, 0, 0, 0, 0] ++ List.replicate 8 0 ++ (5 :: List.replicate 31 0) ++ List.replicate 32 0 ++ (level :: List.replicate 7903 0)

def withNonce (p : SecPath) : State := live.setNonce p (some 5)

/-- A block passes R508's checks where its signature is good (SLH-DSA-SHA2-128s decides that; a whole verification is too long for the
kernel here). -/
theorem witness_checkBlock (h : slh128s.verify (((block 0x31 2).drop 48).take 32) (((block 0x31 2).drop 128).take 7856)
    ((block 0x31 2).take 128) = true) :
    (withNonce .mctp).checkBlock .mctp 0x31 (block 0x31 2) (fun signer _ => signer = 1) = ((withNonce .mctp).setNonce .mctp none, none) := by
  have h1 : ¬ (block 0x31 2).length < blockBytes ∧ leAt (block 0x31 2) 0 1 = 0x31 ∧ ¬ 2 ≤ leAt (block 0x31 2) 1 1
      ∧ leAt (block 0x31 2) 2 6 = 0 := by decide +kernel
  have h2 : leAt (block 0x31 2) 8 8 = (withNonce .mctp).fuses.serial.toNat ∧ leAt (block 0x31 2) 1 1 = 1
      ∧ (withNonce .mctp).nonceOf .mctp = some (BitVec.ofNat 256 (leAt (block 0x31 2) 16 32)) := by decide +kernel
  generalize block 0x31 2 = b at h h1 h2 ⊢
  have h3 : 48 ≤ b.length := Nat.le_trans (by decide) (Nat.le_of_not_lt h1.1)
  simp [State.checkBlock, h1, h2, h, h3]

/-- A block in no known format is refused, and the nonce lives on. -/
theorem test_checkBlock_format : ((withNonce .mctp).checkBlock .mctp 0x31 [1, 2, 3] (fun _ _ => true)) = (withNonce .mctp, some 2) := by
  decide +kernel

/-- With the key that each command asks for, a good block reaches its command: an owner's claim, an owner's block, a block of level 2. -/
theorem witness_SignedCommandsComplete :
    (mailed 0x01).secReady .mailbox 0x01 ∧ live.secReady .mctp 0x20 ∧ (mailed 0x21).secReady .mailbox 0x21
    ∧ (mailed 0x31).secReady .mailbox 0x31 ∧ live.secReady .mctp 0x40 ∧ live.pkg.inReset = false
    ∧ (let s := (mailed 0x01).modSec (fun x => { x with waiting := [{ cmd := 0x01, drawn := 7 }] })
       s.secServed = true ∧ s.sec.busy = true ∧ s.sec.cmd = 0x01 ∧ s.sec.burn = none ∧ s.sec.waiting = [{ cmd := 0x01, drawn := 7 }])
    ∧ ((withNonce .mctp).setNonce .mctp none).ownerSlot = none
    ∧ ((withNonce .mctp).owner 0).2.1 = false
    ∧ (let s := { live with fuses := { owners := [(0, (9, true, true)), (1, (9, true, false))] } }
       s.ownerSlot = some 1 ∧ (s.owner 0).2.1 = true)
    ∧ { live with tel := { clearing := true } }.tel.clearing = true :=
  ⟨(witness_secReady 0x01).1, (witness_secReady 0x20).2, (witness_secReady 0x21).1, (witness_secReady 0x31).1, (witness_secReady 0x40).2,
    rfl, by decide +kernel, by decide +kernel, by decide +kernel, by decide +kernel, rfl⟩

/-- Each clause of NonceServesOnce: a short block, a block that names a live nonce, and (`witness_checkBlock`) one that passes. -/
theorem witness_NonceServesOnce :
    ([1, 2, 3] : List Byte).length < blockBytes ∧ ([1, 2, 3] : List Byte).length < 48 ∧ 48 ≤ (block 0x31 2).length
    ∧ live.nonceOf .mctp ≠ some (BitVec.ofNat 256 (leAt (block 0x31 2) 16 32))
    ∧ (withNonce .mctp).nonceOf .mctp = some (BitVec.ofNat 256 (leAt (block 0x31 2) 16 32)) := by decide +kernel

/-- A block of level 1, 2 or 3 whose key is the vendor's and whose signature is good unlocks (both are
computed, log 9; too long for the kernel here). -/
theorem witness_DebugUnlockErasesFirst (level : Byte) (hl : level = 1 ∨ level = 2 ∨ level = 3) (b : List Byte)
    (hb : b = [0x31, 0, 0, 0, 0, 0, 0, 0] ++ List.replicate 8 0 ++ (5 :: List.replicate 31 0) ++ List.replicate 32 0
      ++ (level :: List.replicate 7903 0))
    (hk : (withNonce .mctp).vendorKey 0 ((b.drop 48).take 32) = true)
    (h : slh128s.verify ((b.drop 48).take 32) ((b.drop 128).take 7856) (b.take 128) = true) :
    ((withNonce .mctp).debugBlock .mctp b).2 = 0 := by
  have h1 : ¬ b.length < blockBytes ∧ leAt b 0 1 = 0x31 ∧ leAt b 1 1 = 0 ∧ leAt b 2 6 = 0 ∧ leAt b 80 1 = level.toNat
      ∧ leAt b 8 8 = (withNonce .mctp).fuses.serial.toNat
      ∧ (withNonce .mctp).nonceOf .mctp = some (BitVec.ofNat 256 (leAt b 16 32)) := by
    subst hb
    rcases hl with rfl | rfl | rfl <;> decide +kernel
  have h2 : ((withNonce .mctp).setNonce .mctp none).sec.level = 0
      ∧ ((withNonce .mctp).setNonce .mctp none).fuses.debugDisable = false := ⟨rfl, rfl⟩
  have h3 : (level.toNat = 0) = False ∧ (3 < level.toNat) = False ∧ (level.toNat ≤ 0) = False := by
    rcases hl with rfl | rfl | rfl <;> simp
  have h4 : 48 ≤ b.length := Nat.le_trans (by decide) (Nat.le_of_not_lt h1.1)
  clear hb
  simp [State.debugBlock, State.checkBlock, h1, h2, hk, h, h3, h4]

/-- A step that raises the level: the command of the front block checks as above; a package at level 0 below 2. -/
theorem witness_NoDebugLevelOverLiveMemory : (withNonce .instrument).sec.level < 2
    ∧ ∃ t, step { withNonce .instrument with pending := [.debugBlockCheck (block 0x31 2)] } = .next t := ⟨by decide, _, rfl⟩

theorem witness_SpdmAnswers : live.spdmRuns ∧ live.spdmConnected ∧ live.sec.aliasReady = true ∧ live.hashBusy = false
    ∧ ((mailed 0x12).spdmConnected ∧ (mailed 0x12).sec.aliasReady = true ∧ (mailed 0x12).hashBusy = true)
    ∧ (1 ≤ (1 : BitVec 8).toNat ∧ (7 : BitVec 8).toNat ≤ 7) :=
  ⟨⟨rfl, rfl, rfl, rfl⟩, ⟨⟨rfl, rfl, rfl, rfl⟩, rfl, rfl, rfl⟩, rfl, rfl, ⟨⟨⟨rfl, rfl, rfl, rfl⟩, rfl, rfl, rfl⟩, rfl, by decide +kernel⟩,
    by decide⟩

def inSession : State := live.modSec (fun x => { x with
  sessions := [(1, { inUse := true, finished := true })], chunkOut := [7], chunkSeq := 3, chunkIn := [1] })

theorem witness_SpdmSessionsComplete :
    (live.spdmConnected ∧ live.sec.aliasReady = true ∧ live.hashBusy = false ∧ (live.session (0 : Fin 2)).inUse = false ∧ ∀ j : Fin 2, j < 0 → (live.session j).inUse = true)
    ∧ (let s := live.modSec (fun x => { x with sessions := [(0, { inUse := true })] })
       s.spdmConnected ∧ (s.session (0 : Fin 2)).inUse = true ∧ (s.session (0 : Fin 2)).finished = false
         ∧ (s.session (1 : Fin 2)).inUse = false ∧ ∀ j : Fin 2, j < 1 → (s.session j).inUse = true)
    ∧ (inSession.spdmSession (1 : Fin 2) ∧ (inSession.session (1 : Fin 2)).inUse = true)
    ∧ (inSession.spdmConnected ∧ inSession.sec.chunkOut ≠ [] ∧ (3 : BitVec 16).toNat = inSession.sec.chunkSeq ∧ (3 : BitVec 16) ≠ 0
       ∧ inSession.sec.chunkIn.length + ([1] : List Byte).length ≤ 65536)
    ∧ (let x : IdeStream := .ioPosted
       (inSession.ideDir x).active ≠ some 0 ∧ (inSession.ideDir x).active ≠ some 1)
    ∧ (let x : IdeStream := .ioPosted
       let s := inSession.setIde x { key0 := some 1, key1 := some 2, active := some 1 }
       s.spdmSession (1 : Fin 2) ∧ (s.ideDir x).active = some 1 ∧ (s.ideDir x).key0.isSome = true ∧ (s.ideDir x).key1.isSome = true
         ∧ (s.ideDir x).active.isSome = true ∧ s.host.linkUp = true) := by
  refine ⟨⟨⟨⟨rfl, rfl, rfl, rfl⟩, rfl, rfl, rfl⟩, rfl, rfl, rfl, by decide⟩, ⟨⟨⟨rfl, rfl, rfl, rfl⟩, rfl, rfl, rfl⟩, rfl, rfl, rfl, by decide⟩,
    ⟨⟨⟨⟨rfl, rfl, rfl, rfl⟩, rfl, rfl, rfl⟩, rfl, rfl⟩, rfl⟩, ⟨⟨⟨rfl, rfl, rfl, rfl⟩, rfl, rfl, rfl⟩, by decide +kernel⟩,
    by decide +kernel, ⟨⟨⟨rfl, rfl, rfl, rfl⟩, rfl, rfl, rfl⟩, rfl, rfl⟩, by decide +kernel⟩

/-! ## Witnesses: registers, GDDR7 and the host's view of it -/

/-- Job 5 is placed in slot 0 and holds tile group 0. -/
def jobbed : State := { live with dealer := { jobs := [(0, { valid := true, placed := true, id := 5, groups := 1 })] } }

theorem witness_RegisterWriteCompletes :
    (¬((2 = 4 ∨ 2 = 8) ∧ (0 : BitVec 25).toNat % 2 = 0) ∧ ¬((4 = 4 ∨ 4 = 8) ∧ (2 : BitVec 25).toNat % 4 = 0)
      ∧ ¬((8 = 4 ∨ 8 = 8) ∧ (4 : BitVec 25).toNat % 8 = 0))
    ∧ ((0x80000 : BitVec 25).toNat % 4 = 0 ∧ blockAt (0x80000 : BitVec 25).toNat = none)
    ∧ (live.awake = true ∧ jobbed.awake = true ∧ oneSq.awake = true)
    ∧ ((jobbed.job (0 : Fin 16)).valid = true ∧ (jobbed.job (15 : Fin 16)).valid = false)
    ∧ (bits (oneSq.sq 63).cfg 31 1 = 0 ∧ bits (oneSq.sq 0).cfg 31 1 = 1 ∧ (oneSq.modHost (fun h => { h with attached := false })).host.attached = false)
    ∧ (live.host.pcieOnly = false ∧ (0x7FFC : BitVec 25).toNat % 4 = 0 ∧ (0x7FFC : BitVec 25).toNat < 0x8000)
    ∧ (live.modHost (fun h => { h with pcieOnly := true })).host.pcieOnly = true := by decide +kernel

theorem witness_RegistersReadBack :
    live.awake = true ∧ runs (exec (.registerWrite false 0x20040 4 0xFFFFFFFF) live) = true
    ∧ ¬((4 = 4 ∨ 4 = 8) ∧ 2 % 4 = 0) ∧ ((8 = 4 ∨ 8 = 8) ∧ 0x80000 % 8 = 0 ∧ blockAt 0x80000 = none) :=
  by decide +kernel

theorem witness_IdentityAndResetComplete :
    live.awake = true ∧ jobbed.awake = true
    ∧ (live.anyJob = false ∧ (1 : Dword) ≠ live.host.train ∧ ¬(bits (0x40000001 : Dword) 30 2 = live.host.role.toNat ∧ bits (0x40000001 : Dword) 0 12 = live.host.package.toNat))
    ∧ jobbed.anyJob = true ∧ live.host.ccBusy = false ∧ (live.modHost (fun h => { h with ccBusy := true })).host.ccBusy = true
    ∧ (live.tileHeld (3 : Fin 4) (33 : Fin 34) = false ∧ (live.tileAt (3 * 34 + 33)).arrCtlBad 0x00C3104A = false
      ∧ (live.tileAt (3 * 34 + 33)).arrCtlBad 0 = true ∧ jobbed.tileHeld (0 : Fin 4) (0 : Fin 34) = true) := by decide +kernel

theorem witness_GddrCompletes :
    live.pkg.inReset = false ∧ live.awake = true ∧ jobbed.awake = true ∧ live.pkg.gddrResetN = true ∧ State.reset.pkg.gddrResetN = false
    ∧ ((live.gd (19 : Fin 20)).trained = false ∧ (live.gd (19 : Fin 20)).trainFail = false)
    ∧ (let s := { live with gds := [(19, { attempts := 2 })] }
       s.pkg.gddrResetN = true ∧ (s.gd (19 : Fin 20)).trained = false ∧ (s.gd (19 : Fin 20)).trainFail = false ∧ 2 ≤ (s.gd (19 : Fin 20)).attempts)
    ∧ ((live.gd (0 : Fin 20)).thrStep = 0 ∧ (live.gd (0 : Fin 20)).tempFail = false ∧ (84 : BitVec 8).toNat < bits (live.gd (0 : Fin 20)).thr 0 8
      ∧ (84 : BitVec 8).toNat < bits (live.gd (0 : Fin 20)).thr 8 8 ∧ (84 : BitVec 8).toNat < bits (live.gd (0 : Fin 20)).thr 16 8
      ∧ (84 : BitVec 8).toNat < bits (live.gd (0 : Fin 20)).thr 24 8)
    ∧ ({ live with gds := [(0, { trained := true })] }.gd (0 : Fin 20)).trained = true
    ∧ (let v : Word := 0x69645F55
       bits v 0 8 ≤ 85 ∧ bits v 8 8 ≤ 95 ∧ bits v 16 8 ≤ 100 ∧ bits v 24 8 ≤ 105 ∧ bits v 0 8 < bits v 8 8 ∧ bits v 8 8 < bits v 16 8
         ∧ bits v 16 8 < bits v 24 8)
    ∧ (live.stackBusy ((19 : Fin 20).val / 5) = false ∧ (∀ m < 20, m / 5 = (19 : Fin 20).val / 5 → (live.gd m).thrStep = 0)
      ∧ jobbed.stackBusy ((0 : Fin 20).val / 5) = true) := by decide +kernel

theorem witness_GddrCompletes_margins :
    let s : State := { live with gds := [(0, { marginBusy := true })] }
    let ws : List Word := List.replicate 32 0x10100808
    ws.length = 32 ∧ (s.gd (0 : Fin 20)).marginBusy = true ∧ ∀ w ∈ ws, (s.gd (0 : Fin 20)).marginPass (cappedMargins w) = true := by
  refine ⟨rfl, by decide +kernel, fun w h => ?_⟩
  rw [List.eq_of_mem_replicate h, show cappedMargins 0x10100808 = 0x10100808 by decide +kernel]
  simp only [Gd.marginPass, show ((State.gd { live with gds := [(0, { marginBusy := true })] } (0 : Fin 20)).minUi) = 12 from rfl,
    show ((State.gd { live with gds := [(0, { marginBusy := true })] } (0 : Fin 20)).minVref) = 8 from rfl]
  decide

theorem witness_LayoutCompletes :
    (let s := { live with gds := [(0, { trained := true })] }
     s.pkg.inReset = false ∧ (s.gd (0 : Fin 20)).scrub.getLsbD 31 = true ∧ (s.gd (0 : Fin 20)).trained = true
       ∧ s.isPoisoned (scrubAddr (0 : Fin 20) (s.gd (0 : Fin 20)).scrubPos / 64) = false
       ∧ tfind s.flaws (scrubAddr (0 : Fin 20) (s.gd (0 : Fin 20)).scrubPos / 64) = none)
    ∧ live.awake = true ∧ jobbed.awake = true
    ∧ (live.stackBusy (3 : Fin 4) = false ∧ bits (16 : Word) 0 5 ≤ 16 ∧ (16 : Word).getLsbD 30 = false)
    ∧ ({ live with stks := [(3, { memBusy := some 16 })] }.stack (3 : Fin 4)).memBusy = some 16
    ∧ ((live.stack (3 : Fin 4)).gddrBusy = none ∧ bits (16 : Word) 0 5 ≠ (live.stack (3 : Fin 4)).cut512 ∧ (live.stack (3 : Fin 4)).cutHeld = false)
    ∧ jobbed.stackBusy (0 : Fin 4) = true
    ∧ ({ live with stks := [(3, { gddrBusy := some 16 })] }.stack (3 : Fin 4)).gddrBusy = some 16 := by decide +kernel

/-- The host has committed the HDM decoder. -/
def committed : State := live.modHost (fun h => { h with component := [(hdmControl / 4, 0x400)] })

theorem witness_HostMemoryCompletes :
    committed.awake = true ∧ live.awake = true ∧ jobbed.awake = true ∧ live.host.attached = true
    ∧ (live.modHost (fun h => { h with attached := false })).host.attached = false
    ∧ (let o := 4 * live.gsliceBytes 3 - 1
     (BitVec.ofNat 48 (3 * gddrStackBytes + o)).toNat = 3 * gddrStackBytes + o ∧ o < gddrStackBytes ∧ 3 < 4 ∧ committed.cxlMem = true
       ∧ committed.zeroing 3 o = false ∧ committed.gddrFailed 3 = false ∧ o + ([1] : List Byte).length ≤ 4 * committed.gsliceBytes 3
       ∧ ([1] : List Byte) ≠ [] ∧ o % 64 + 1 ≤ 64 ∧ committed.isPoisoned ((gddrOf 3 + o) / 64) = false ∧ committed.flaws = []
       ∧ tfind committed.flaws ((gddrOf 3 + o) / 64) = none ∧ 0 < 1
       ∧ { committed with poison := [((gddrOf 3 + o) / 64, 1)] }.isPoisoned ((gddrOf 3 + o) / 64) = true
       ∧ { committed with poison := [((gddrOf 3 + o) / 64, 1)] }.cxlMem = true)
    ∧ (let o := 4 * committed.gsliceBytes 0
       (BitVec.ofNat 48 o).toNat = 0 * gddrStackBytes + o ∧ o < gddrStackBytes ∧ committed.cxlMem = true ∧ committed.zeroing 0 o = false
         ∧ committed.gddrFailed 0 = false ∧ 4 * committed.gsliceBytes 0 ≤ o ∧ committed.host.reservedAt = none
         ∧ (committed.modHost (fun h => { h with reservedAt := some 0 })).host.reservedAt = some 0 ∧ committed.now < 0 + 1000000)
    ∧ ({ jobbed with dealer := { jobs := [(0, { valid := true, placed := true, id := 5, groups := 1, ending := some ⟨[], 0, 0, 0⟩ })] } }.zeroing 0 0 = true
      ∧ live.cxlMem = false ∧ live.zeroing 0 0 = false)
    ∧ 4 * gddrStackBytes ≤ (BitVec.ofNat 48 (4 * gddrStackBytes)).toNat
    ∧ (let s := live.modHost (fun h => { h with fetchLines := [0x100], aheadLines := [0x100] })
       (0x100 : BitVec 58).toNat ∈ s.host.fetchLines ∧ (0x100 : BitVec 58).toNat ∈ s.host.aheadLines
         ∧ (0x100 : BitVec 58).toNat ∉ live.host.aheadLines ∧ (0x101 : BitVec 58).toNat ∉ s.host.fetchLines)
    ∧ (let s := jobbed.modHost (fun h => { h with pageRequests := [(7, hostBase + 65535 * (2 * mib))], hwt := [(65535, 0xA03)] })
       (7 : Fin 129).val ≠ 128 ∧ s.host.pageRequests = ((7 : Fin 129).val, hostBase + 65535 * (2 * mib)) :: []
         ∧ s.host.attached = true ∧ s.slotOfTile (7 : Fin 129) = some 0
         ∧ (hostBase + 65535 * (2 * mib) - hostBase) / (2 * mib) = 65535 ∧ (tget 0 s.host.hwt 65535).getLsbD 0 = true
         ∧ bits (tget 0 s.host.hwt 65535) 9 12 = (s.job 0).id.toNat ∧ (tget 0 s.host.hwt 65535).getLsbD 1 = true
         ∧ (tget 0 s.host.hwt 65535).getLsbD 3 = false)
    ∧ (live.modHost (fun h => { h with hubRequests := [(0, hostBase, 0)] })).host.hubRequests = (0, hostBase, 0) :: [] := by decide +kernel
/-! ## Witnesses: descriptors and jobs -/

/-- The bytes of a 64-byte descriptor: type, job 5, its remaining bytes by offset. -/
def descBytes (dtype : Byte) (fields : List (Nat × List Byte)) : List Byte :=
  let b : List Byte := [dtype, 1, 5, 0] ++ List.replicate 60 0
  fields.foldl (fun b f => b.take f.1 ++ f.2 ++ b.drop (f.1 + f.2.length)) b

/-- A package whose GDDR7 has trained, whose translation table maps the host window of job 5, and whose ring 0 holds `d` at its head and
`w` in its window. -/
def ringed (d : List Byte) (w : List (List Byte)) (mem : List Byte) (jobs : List (Nat × Job)) : State :=
  { live with
    gds := (List.range 20).map (fun n => (n, { trained := true }))
    dealer := { jobs := jobs }
    hostMem := ((List.range 64).zip d).map (fun c => (0x10000 + c.1, c.2)) ++ ((List.range 128).zip mem).map (fun c => (0x20000 + c.1, c.2))
    host := { live.host with
      hwt := [(0, 0x0A07)]
      sqs := [(0, { base := 0x10000, cfg := 0x80000006, tail := 1, head := if d = [] then 1 else 0, window := w.map (fun b => ⟨b, 0, 0, 0⟩) })] } }

/-- Job 5 in slot 0 of group 0. -/
def job5 : Job := { valid := true, placed := true, id := 5, groups := 1, step := 3 }

def dNop : List Byte := descBytes 7 []

theorem witness_DescriptorFetchCompletes :
    (let s := ringed dNop [] [] [(0, job5)]
     bits (s.sq (0 : Fin 64)).cfg 31 1 = 1 ∧ (s.sq (0 : Fin 64)).head ≠ (s.sq (0 : Fin 64)).tail ∧ (s.sq (0 : Fin 64)).window.length < 8
       ∧ s.host.attached = true ∧ s.fetchTurn = some (0 : Fin 64).val ∧ s.hostRead 0x10000 64 = dNop
       ∧ (s.modHost (fun h => { h with sqTurn := 1 })).fetchStatus ⟨dNop, 0, 0, 0⟩ = none ∧ (0 : Fin 64) ≠ 1)
    ∧ (let s := ringed dNop [] [] []
       bits (s.sq (0 : Fin 64)).cfg 31 1 = 1 ∧ (s.sq (0 : Fin 64)).head ≠ (s.sq (0 : Fin 64)).tail ∧ (s.sq (0 : Fin 64)).window.length < 8
         ∧ s.host.attached = true ∧ s.fetchTurn = some (0 : Fin 64).val ∧ s.hostRead 0x10000 64 = dNop
         ∧ (s.modHost (fun h => { h with sqTurn := 1 })).fetchStatus ⟨dNop, 0, 0, 0⟩ = some 0x02 ∧ s.findJob 5 = none
         ∧ s.mayReserve = true) := by decide +kernel

theorem witness_BadDescriptorsAreInvalid :
    (⟨descBytes 7 [(1, [2])], 0, 0, 0⟩ : Desc).fmtVer ≠ 1 ∧ 4096 ≤ (⟨descBytes 7 [(2, [0, 0x10])], 0, 0, 0⟩ : Desc).jobField
    ∧ ((⟨descBytes 5 [(2, [0])], 0, 0, 0⟩ : Desc).job = 0 ∧ (⟨descBytes 5 [(2, [0])], 0, 0, 0⟩ : Desc).dtype ≠ 7)
    ∧ (⟨descBytes 0 [], 0, 0, 0⟩ : Desc).dtype = 0 ∧ 7 < (⟨descBytes 8 [], 0, 0, 0⟩ : Desc).dtype := by decide +kernel

theorem witness_PlacementIsFirstFit :
    (ringed [] [] [] [(0, job5)]).firstFit 2 2 0 = some 2 ∧ (ringed [] [] [] []).firstFit 16 4 0 = some 0
    ∧ (let s := ringed [] [] [] [(0, job5)]
       ∀ k < 20, (s.stack k).borrowedGroups = [] ∧ (s.stack k).memBusy = none ∧ (s.stack k).gddrBusy = none)
    ∧ ∀ k < 4, (ringed [] [] [] [(0, job5)]).gddrReady k = true := by decide +kernel

/-- A deck header of R411 for one group. -/
def deckHeader : List Byte :=
  let h : List Byte := [0x44, 0x45, 0x43, 0x4B, 1, 0, 0, 0, 1, 1] ++ List.replicate 50 0
  h ++ (List.range 4).map (fun i => BitVec.ofNat 8 ((crc32c h).toNat / 2 ^ (8 * i)))

/-- A JOB descriptor for a 64-byte deck image at host window offset 0x20000. -/
def dJob : List Byte := descBytes 1 [(8, [0, 0, 2, 0, 0, 0x80, 0, 0]), (16, [64])]

def dEnd : List Byte := descBytes 5 []

theorem witness_JobLifeCompletes :
    (let s := ringed [] [dJob] deckHeader []
     (s.sq (0 : Fin 64)).window = ⟨dJob, 0, 0, 0⟩ :: [] ∧ (⟨dJob, 0, 0, 0⟩ : Desc).dtype = 1 ∧ s.findJob 5 = none ∧ s.host.ccBusy = false
       ∧ s.descWaits ⟨dJob, 0, 0, 0⟩ = false ∧ s.pkg.testMode = 0
       ∧ s.host.attached = true ∧ s.mayReserve = true
       ∧ (match ((s.applyAmb {}).placeJob ⟨dJob, 0, 0, 0⟩ {}).2 with
          | .ok n => decide (n = 0)
          | _ => false) = true)
    ∧ (let s := ringed [] [] [] [(0, { job5 with placed := false })]
       (s.job (0 : Fin 16)).valid = true ∧ (s.job (0 : Fin 16)).endingLost = false ∧ (s.job (0 : Fin 16)).placed = false
         ∧ ∀ L ∈ (s.job (0 : Fin 16)).tiles, ∀ e ∈ (s.tile L).eps, e.2.cfg.getLsbD 31 = false ∨ e.2.state = .opened)
    ∧ (let s := ringed [] [dEnd] [] [(0, job5)]
       (s.sq (0 : Fin 64)).window = ⟨dEnd, 0, 0, 0⟩ :: [] ∧ (⟨dEnd, 0, 0, 0⟩ : Desc).dtype = 5 ∧ s.findJob 5 = some 0 ∧ (s.job 0).runs = true
         ∧ (s.job 0).run = none ∧ (s.job 0).startedDescs = [] ∧ s.mayReserve = true)
    ∧ (let s := ringed [] [] [] [(0, { job5 with ending := some ⟨dEnd, 0, 0, 0⟩ })]
       (s.job (0 : Fin 16)).valid = true ∧ (s.job (0 : Fin 16)).ending = some ⟨dEnd, 0, 0, 0⟩ ∧ s.host.memWaiting = [])
    ∧ (let s := ringed [] [descBytes 7 [(2, [0])]] [] []
       (s.sq (0 : Fin 64)).window = ⟨descBytes 7 [(2, [0])], 0, 0, 0⟩ :: [] ∧ (⟨descBytes 7 [(2, [0])], 0, 0, 0⟩ : Desc).dtype = 7
         ∧ (⟨descBytes 7 [(2, [0])], 0, 0, 0⟩ : Desc).job = 0 ∧ s.mayReserve = true)
    ∧ (let s := ringed [] [dNop] [] [(0, { job5 with placed := false, desc := ⟨dNop, 0, 1, 0⟩ })]
       (s.sq (0 : Fin 64)).window = ⟨dNop, 0, 0, 0⟩ :: [] ∧ (⟨dNop, 0, 0, 0⟩ : Desc).dtype = 7 ∧ (⟨dNop, 0, 0, 0⟩ : Desc).job ≠ 0 ∧ s.findJob 5 = some 0
         ∧ (s.job 0).startedDescs.length = 1 ∧ (∀ e ∈ (s.job 0).startedDescs, later 32 e.1.no (⟨dNop, 0, 0, 0⟩ : Desc).no = true)
         ∧ s.mayReserve = true) := by decide +kernel

/-- A STEP of step 3: a training step of two micro-batches, or (flag 1) a serving step. -/
def dStep (serving : Byte) : List Byte := descBytes 2 [(8, [3]), (12, [2]), (16, [0, 0, 2, 0, 0, 0x80]), (24, [serving])]

def dLoad (flags : Byte) : List Byte := descBytes 6 [(8, [3]), (12, [flags]), (14, [1])]

def dPass : List Byte := descBytes 3 [(8, [3]), (12, [6]), (16, [0, 0, 2, 0, 0, 0x80]), (24, [1]), (28, [0]), (32, [0, 1])]

def dAbort : List Byte := descBytes 4 [(8, [3]), (12, [6])]

def openRun : StepRun := { desc := ⟨dStep 0, 0, 0, 0⟩, step := 3, mbCount := 2, table := 0x800000020000 }

theorem witness_StepDescriptorsComplete :
    (let s := ringed [] [dStep 1] [] [(0, job5)]
     (s.sq (0 : Fin 64)).window = ⟨dStep 1, 0, 0, 0⟩ :: [] ∧ (⟨dStep 1, 0, 0, 0⟩ : Desc).dtype = 2 ∧ s.findJob 5 = some 0 ∧ (s.job 0).runs = true
       ∧ (s.job 0).run = none ∧ leAt (dStep 1) 8 4 = (s.job 0).step.toNat ∧ leAt (dStep 1) 24 2 % 2 = 1)
    ∧ (let s := ringed [] [dStep 0] [] [(0, { job5 with deck := { firstStage := some (1, 0) } })]
       (s.sq (0 : Fin 64)).window = ⟨dStep 0, 0, 0, 0⟩ :: [] ∧ (s.job 0).runs = true ∧ (s.job 0).run = none
         ∧ leAt (dStep 0) 8 4 = (s.job 0).step.toNat ∧ (s.job 0).deck.firstStage.isSome = true ∧ leAt (dStep 0) 24 2 % 2 = 0
         ∧ 0 < leAt (dStep 0) 12 4 ∧ s.host.attached = true
         ∧ (translateAll 5 false ((List.range ((2 * 16 + 4095) / 4096 + 1)).map (fun i =>
             min (0x800000020000 + i * 4096) (0x800000020000 + 2 * 16 - 1))) s).2.2 = none)
    ∧ (let s := ringed [] [dStep 0] [] [(0, { job5 with run := some { openRun with serving := true } })]
       (s.sq (0 : Fin 64)).window = ⟨dStep 0, 0, 0, 0⟩ :: [] ∧ s.findJob 5 = some 0 ∧ (s.job 0).runs = true
         ∧ (s.job 0).run = some { openRun with serving := true } ∧ s.nextDesc (0 : Fin 64) 2 = some (⟨dStep 0, 0, 0, 0⟩, []))
    ∧ (let s := ringed [] [dLoad 0] [] [(0, job5)]
       (s.sq (0 : Fin 64)).window = [⟨dLoad 0, 0, 0, 0⟩] ∧ s.host.pcieOnly = false
         ∧ (⟨dLoad 0, 0, 0, 0⟩ : Desc).dtype = 6 ∧ (s.job 0).runs = true ∧ (s.job 0).run = none ∧ (s.load 0 (⟨dLoad 0, 0, 0, 0⟩ : Desc).loadId).active = false
         ∧ leAt (dLoad 0) 12 2 / 2 % 2 = 0 ∧ leAt (dLoad 0) 8 4 = (s.job 0).step.toNat)
    ∧ (let s := ringed [] [dLoad 2] [] [(0, job5)]
       (s.sq (0 : Fin 64)).window = [⟨dLoad 2, 0, 0, 0⟩] ∧ s.host.pcieOnly = false
         ∧ (⟨dLoad 2, 0, 0, 0⟩ : Desc).dtype = 6 ∧ s.findJob 5 = some 0 ∧ (s.job 0).runs = true ∧ (s.load 0 (⟨dLoad 2, 0, 0, 0⟩ : Desc).loadId).active = false
         ∧ leAt (dLoad 2) 12 2 / 2 % 2 = 1 ∧ ((s.job 0).loads.filter (fun l => l.2.active && l.2.background)).length < 4
         ∧ s.mayReserve = true) := by decide +kernel

theorem witness_StepDescriptorsComplete_pass :
    (let s := ringed [] [dPass] []
       [(0, { job5 with run := some { openRun with serving := true, started := true }, durable := [(0, (0x8000000000000000, 0x1000))] })]
     (⟨dPass, 0, 0, 0⟩ : Desc).dtype = 3 ∧ s.findJob 5 = some 0 ∧ (s.job 0).runs = true ∧ s.host.attached = true
       ∧ (s.job 0).run = some { openRun with serving := true, started := true } ∧ openRun.step.toNat = leAt dPass 8 4 ∧ (s.job 0).passes = []
       ∧ leAt dPass 28 4 + leAt dPass 24 1 ≤ 2 ^ 20 ∧ leAt dPass 32 8 = 0x100 ∧ (s.job 0).isDurable 0x100 = true
       ∧ (s.job 0).isDurable (0x100 + 71) = true
       ∧ (s.resolve 0 (8 * (s.job 0).first) (0x100 : Int)).isSome = true ∧ (s.sq (0 : Fin 64)).window = [⟨dPass, 0, 0, 0⟩]
       ∧ (s.viewTouch 0 0x100 4).2 = false ∧ leAt ((s.viewTouch 0 0x100 4).1.viewBytes 0 0x100 4) 0 4 = leAt dPass 28 4
       ∧ (s.viewTouch 0 0x100 4).1.host.attached = true)
    ∧ (let s := ringed [] [dAbort] [] [(0, { job5 with run := some openRun })]
       (⟨dAbort, 0, 0, 0⟩ : Desc).dtype = 4 ∧ s.findJob 5 = some 0 ∧ (s.job 0).coordPkg = s.self ∧ s.mayReserve = true ∧ leAt dAbort 16 1 = 0
         ∧ (s.job 0).run = some openRun ∧ openRun.step.toNat = leAt dAbort 8 4 ∧ openRun.reserved = false
         ∧ s.coordAt (s.job 0).id.toNat (stepKey openRun.step) = none) := by decide +kernel

/-- Job 5 with a step and a deck that configures stream 0 of its first tile and injects into channel 1, whose endpoint is open. -/
def stepping (r : StepRun) : State :=
  let s := ringed [] [] ([0, 0, 2, 0, 0, 0x80, 0, 0, 4, 0, 0, 0, 0, 0, 0, 0] ++ List.replicate 112 0)
    [(0, { job5 with run := some r, wdogLimit := 10, wdogElapsed := 80, page := if r.started then some (List.replicate 64 0) else none,
                     stats := 0x800000020000,
                     deck := { firstStage := some (1, 0), tiles := [{ rel := 0, streams := [(0, {})] }] } })]
  { s with tiles := [(0, { eps := [(1, { cfg := 0x80000000, state := .opened })], streams := [(0, { state := .run })] })] }

theorem witness_StepStartCompletes :
    let s := stepping openRun
    (s.job (0 : Fin 16)).valid = true ∧ (s.job (0 : Fin 16)).first + (s.job (0 : Fin 16)).groups ≤ 16 ∧ (s.job (0 : Fin 16)).run = some openRun
      ∧ openRun.load = none ∧ s.host.pcieOnly = false ∧ openRun.started = false ∧ openRun.revoked = false ∧ openRun.done = false ∧ openRun.reserved = false ∧ (s.job (0 : Fin 16)).runs = true
      ∧ (s.job (0 : Fin 16)).page = none ∧ s.mayReserve = true ∧ (s.job (0 : Fin 16)).deck.update = false
      ∧ (s.job (0 : Fin 16)).cutDue = false ∧ (s.meld 0).ctxs = [] ∧ (s.meld 1).ctxs = []
      ∧ ∀ L ∈ (s.job (0 : Fin 16)).tiles, ∀ M ∈ (s.job (0 : Fin 16)).tiles, s.tileIx L = s.tileIx M → L = M := by decide +kernel

theorem witness_WatchdogLimitIsLeast : 0 < 775 ∧ wdogLimitOf 0 0 775 8 = 0 ∧ wdogLimitOf 0 80 800 8 = 9 := by decide +kernel

def startedRun : StepRun := { openRun with started := true }

theorem witness_InjectionsComplete :
    (let s := stepping startedRun
     (s.job (0 : Fin 16)).run = some startedRun ∧ (s.job (0 : Fin 16)).deck.firstStage.isSome = true ∧ startedRun.nextMb < startedRun.mbCount
       ∧ s.host.attached = true
       ∧ (match s.windowRead 0 0x800000020000 16 with
          | (u, .ok b) => (match (u.entryBytes (leAt b 8 2)).1.windowRead 0 (leAt b 0 8) (u.entryBytes (leAt b 8 2)).2 with
            | (v, .ok p) => (v.inject 0 (injectTag (s.job 0) 0 0 (leAt b 12 4 % 2 ^ 20)) p).isSome
            | _ => false)
          | _ => false) = true)
    ∧ (let r := { startedRun with nextMb := 2 }
       let s := stepping r
       (s.job (0 : Fin 16)).run = some r ∧ r.ctlDone = false ∧ r.mbCount ≤ r.nextMb ∧ s.host.pcieOnly = false
         ∧ (s.inject 0 (injectTag (s.job 0) 3 0 0) []).isSome = true)
    ∧ (let p : PassRun := { desc := ⟨dPass, 0, 0, 0⟩, step := 3, mb := 6, drafts := 0x800000020000, positions := 1, posBase := 0, stream := 0x100 }
       let s := (stepping { startedRun with serving := true }).modJob 0 (fun j => { j with passes := [p] })
       (s.job (0 : Fin 16)).passes = [p] ∧ p.injected = false ∧ p.revoked = false ∧ p.reserved = false ∧ s.host.attached = true ∧ s.mayReserve = true
         ∧ (match s.windowRead 0 p.drafts.toNat (p.positions * 4) with
            | (u, .ok b) => (u.inject 0 (injectTag (s.job 0) 0 p.mb.toNat p.posBase.toNat) b).isSome
            | _ => false) = true)
    ∧ (let s := stepping startedRun
       startedRun.serving = false ∧ startedRun.overrun = false ∧ s.workEnded (0 : Fin 16) startedRun = false ∧ (s.job (0 : Fin 16)).wdogLimit ≤ (s.job (0 : Fin 16)).wdogElapsed
         ∧ bits s.dealer.wdogCtl 28 4 ≠ 0 ∧ bits s.dealer.wdogCtl 28 4 * (s.job (0 : Fin 16)).wdogLimit ≤ (s.job (0 : Fin 16)).wdogElapsed)
    ∧ (let p : PassRun := { desc := ⟨dPass, 0, 0, 0⟩, step := 3, mb := 6, drafts := 0, positions := 1, posBase := 0, stream := 0x100,
                             injected := true, wdogLimit := 10, wdogElapsed := 80 }
       let s := (stepping { startedRun with serving := true }).modJob 0 (fun j => { j with passes := [p] })
       (s.job (0 : Fin 16)).run = some { startedRun with serving := true } ∧ (s.job (0 : Fin 16)).passes = [p] ∧ p.injected = true
         ∧ p.wdogLimit ≤ p.wdogElapsed ∧ p.overrun = false ∧ p.readySent = false ∧ bits s.dealer.wdogCtl 28 4 ≠ 0
         ∧ bits s.dealer.wdogCtl 28 4 * p.wdogLimit ≤ p.wdogElapsed)
    ∧ (let s := stepping startedRun
       s.host.attached = true ∧ (s.job (0 : Fin 16)).page = some (List.replicate 64 0) ∧ (s.job (0 : Fin 16)).pageHeld = false
         ∧ (s.windowWrite 0 ((s.job 0).stats.toNat + 0) (List.replicate 64 0)).2 = none) := by decide +kernel

theorem witness_JobFaultLosesEverything :
    let s := ringed [] [] [] [(0, { job5 with gddrGroups := 1 })]
    0 ∈ s.jobSlots ∧ (s.gddrSlices (s.job 0)).length = 1 ∧ s.memByte 0 = 0 := by decide +kernel

/-! ## Witnesses: synchronisation and the sequencers -/

/-- Bytes in scratch of tile 0, as memory. -/
def inScratch (ps : List (Nat × List Byte)) : List (Nat × Byte) :=
  (ps.map (fun p => ((List.range p.2.length).zip p.2).map (fun c => (scratchOf 0 (live.physOf 0 0) + p.1 + c.1, c.2)))).flatten.filter
    (fun c => decide (c.2 ≠ 0))

/-- Job 5 with stream 0 of its first tile running at scratch 0, and bytes in the tile's scratch. -/
def coded (ps : List (Nat × List Byte)) (x : Stream) : State :=
  { ringed [] [] [] [(0, job5)] with
    mem := inScratch ps
    tiles := [(0, { streams := [(0, { x with state := .run })] })] }

/-- Job 5 at the package's last group: the object numbers of group 0 exist, those of group 1 do not. -/
def lastGroup : State :=
  { ringed [] [] [] [(0, { job5 with first := 15 })] with
    tiles := [(0, { streams := [(0, { handles := [(2, { obj := 0x80001000 })] })] })] }

theorem witness_ObjectNumbersResolve :
    (bits (0xFFF : BitVec 16) 12 4 < (lastGroup.job 0).groups ∧ (lastGroup.job 0).objectOf 0xFFF = some (15 * 4096 + 0xFFF))
    ∧ ((lastGroup.job 0).groups ≤ bits (0x1000 : BitVec 16) 12 4
      ∧ (insWait 0x200 ≠ 0 ∧ (lastGroup.handle 0 0 (insWait 0x200)).object = (0x1000 : BitVec 16).toNat)
      ∧ (insSig 0x8000 ≠ 0 ∧ (lastGroup.handle 0 0 (insSig 0x8000)).object = (0x1000 : BitVec 16).toNat
        ∧ (lastGroup.handle 0 0 (insSig 0x8000)).remote = false)) := by decide +kernel

/-- The ends of the range of a later counter 20 bits wide. -/
theorem witness_LaterIsAsymmetric :
    1 ≤ 20 ∧ 2 ^ 20 - 1 < 2 ^ 20 ∧ later 20 0 (2 ^ 20 - 1) = true ∧ later 20 (2 ^ 19 - 1) 0 = true ∧ later 20 (2 ^ 19) 0 = false
    ∧ later 1 1 0 = false := by decide +kernel

/-- Job 5 with a counter, a barrier of two whose last member is awaited, and an event flag. -/
def objects : State :=
  { ringed [] [] [] [(0, job5)] with
    objs := [(0, { job := 5, kind := 0, value := 0xFFFFFFFF }), (1, { job := 5, kind := 1, membersM1 := 1, value := 0xFF000001 }),
             (2, { job := 5, kind := 2 }), (4, { job := 5, kind := 1, membersM1 := 1 })] }

theorem witness_SignalsAct :
    (objects.signalObj 0 0 1 1).isSome = true ∧ (objects.signalObj 0 1 2 0).isSome = true ∧ (objects.signalObj 0 4 2 0).isSome = true
    ∧ (objects.signalObj 0 2 3 0).isSome = true ∧ (objects.signalObj 0 2 4 0).isSome = true
    ∧ bits (objects.obj 1).value 0 12 = (objects.obj 1).membersM1.toNat ∧ bits (objects.obj 4).value 0 12 < (objects.obj 4).membersM1.toNat
    ∧ (objects.job 0).objectOf 3 = some 3 ∧ (objects.obj 3).kind = 3 := by decide +kernel

/-- R153's wraps: 0xFFFF_FFFF + 1 is 0, and the last arrival takes generation 255 to 0. -/
theorem test_signals_wrap :
    (objects.signalObj 0 0 1 1).map (fun t => (t.obj 0).value) = some 0 ∧ (objects.signalObj 0 1 2 0).map (fun t => (t.obj 1).value) = some 0 := by
  decide +kernel

/-- A word of an instruction: its first bytes. -/
def ins (b : List Byte) : List Byte := b ++ List.replicate (16 - b.length) 0

def word (b : List Byte) : Nat := leNat (ins b)

theorem witness_SequencerInstructionsComplete :
    ∀ b ∈ ([[0x00], [0x01], [0x02, 0, 0, 0, 0xFF, 0xFF, 0, 0], [0x03, 0, 0, 3, 5], [0x04, 0, 0, 3, 0xFF, 0xFF, 0xFF], [0x05, 0, 0, 3, 5], [0x06]]
      : List (List Byte)), (b ≠ [0x02, 0, 0, 0, 0xFF, 0xFF, 0, 0]) →
      (coded [(0, ins b)] { loops := [(3, 1)] }).mayIssue (0 : Fin 128) (0 : Fin 3) 0 (word b) := by
  unfold State.mayIssue; decide +kernel

/-- JMP to the last word of scratch. -/
theorem witness_SequencerInstructionsComplete_jmp :
    (coded [(0x3F0000, ins [0x02, 0, 0, 0, 0xFF, 0x0F])] { prog := 0x03F00000 }).mayIssue (0 : Fin 128) (0 : Fin 3) 0
      (word [0x02, 0, 0, 0, 0xFF, 0x0F]) := by
  unfold State.mayIssue; decide +kernel

theorem witness_SequencerInstructionsComplete_ops : insOp (word [0x00]) = 0x00 ∧ insOp (word [0x01]) = 0x01 ∧ insOp (word [0x02]) = 0x02
    ∧ insOp (word [0x03]) = 0x03 ∧ insOp (word [0x04]) = 0x04 ∧ insOp (word [0x05]) = 0x05 ∧ insOp (word [0x06]) = 0x06 := by decide +kernel

theorem witness_SequencerFrame : insWait (word [0x06]) = 0 ∧ insSig (word [0x06]) = 0
    ∧ runs (exec (.fence 0 0) (coded [(0, ins [0x06])] {})) = true := by decide +kernel

/-- A tensor descriptor of one FP32 element at a job-view address. -/
def tensor1 (base : List Byte) : List Byte :=
  base ++ List.replicate (6 - base.length) 0 ++ [0, 0, 0, 0, 0, 0, 1, 0, 0, 0, 1, 0, 1, 0, 1, 0, 1, 0, 1, 0] ++ List.replicate 38 0

/-- A feeder descriptor of FP8 E4M3 (code 3): base, row stride 128, extent 128, k_total 128. -/
def feeder1 (base : List Byte) : List Byte :=
  base ++ List.replicate (6 - base.length) 0 ++ [0, 0, 3, 0, 0, 0, 128, 0, 0, 0, 128, 0, 0, 0, 128, 0, 0, 0] ++ List.replicate 40 0

/-- MMA of one k-block from the feeders at 0x1000 and 0x1040 to bank 0. -/
def mmaWord : List Byte := ins [0x10, 0, 0, 4, 0x40, 0, 0x41, 0, 0, 0, 0, 0, 0, 0, 1, 0]

def mmaAt : State := coded [(0, mmaWord), (0x1000, feeder1 [0, 0, 1, 0, 1]), (0x1040, feeder1 [0, 0, 2, 0, 1])] {}

theorem witness_EngineInstructionsIssue_mma :
    mmaAt.mayIssue (0 : Fin 128) (0 : Fin 3) 0 (leNat mmaWord) ∧ insOp (leNat mmaWord) = 0x10
    ∧ mmaAt.scratchTouch (0 : Fin 128) (mmaWest (leNat mmaWord)) 64 = (mmaAt, false)
    ∧ mmaAt.scratchTouch (0 : Fin 128) (mmaNorth (leNat mmaWord)) 64 = (mmaAt, false)
    ∧ mmaAt.mmaBad 0 (0 : Fin 128) (0 : Fin 3) (mmaAt.stream (0 : Fin 128) (0 : Fin 3)).tag (leNat mmaWord) = none := by
  unfold State.mayIssue; decide +kernel

theorem witness_EngineInstructionsIssue_vec :
    (coded [(0, ins [0x11])] {}).mayIssue (0 : Fin 128) (0 : Fin 3) 0 (word [0x11]) ∧ insOp (word [0x11]) = 0x11 := by
  unfold State.mayIssue; decide +kernel

/-- DMA by the descriptor at 0x1000 from the tensor at 0x1040 to the tensor at 0x1080. -/
def dmaAt : State := coded [(0, ins [0x18, 0, 0, 0, 0x40]), (0x1000, [0x41, 0, 0x42]), (0x1040, tensor1 [0, 0, 1, 0, 1]), (0x1080, tensor1 [0, 0, 2, 0, 1])] {}

theorem witness_EngineInstructionsIssue_dma :
    let w := word [0x18, 0, 0, 0, 0x40]
    dmaAt.mayIssue (0 : Fin 128) (0 : Fin 3) 0 w ∧ insOp w = 0x18 ∧ dmaAt.scratchTouch (0 : Fin 128) (insDesc w) 64 = (dmaAt, false)
      ∧ dmaAt.scratchTouch (0 : Fin 128) (leAt (dmaAt.scratchRead (0 : Fin 128) (insDesc w) 4) 0 2 * 64) 64 = (dmaAt, false)
      ∧ dmaAt.scratchTouch (0 : Fin 128) (leAt (dmaAt.scratchRead (0 : Fin 128) (insDesc w) 4) 2 2 * 64) 64 = (dmaAt, false)
      ∧ dmaAt.dmaBad 0 (0 : Fin 128) (0 : Fin 3) 0 (dmaAt.dmaDesc (0 : Fin 128) w) = none
      ∧ (dmaAt.tensorOf 0 0 (dmaAt.dmaDesc (0 : Fin 128) w).src).isSome = true
      ∧ fmtOfCode (leAt (dmaAt.dmaDesc (0 : Fin 128) w).dst 8 1) = some .fp32 ∧ (dmaAt.job 0).det = false := by
  unfold State.mayIssue; decide +kernel

/-- A channel instruction with its tensor descriptor at 0x1000; endpoint 1 of tile 0 is open, and select set 0 holds it. -/
def chanIns (b : List Byte) (cfg : Word) : State :=
  let s := coded [(0, ins b), (0x1000, tensor1 [0, 0, 1, 0, 1])] { sels := [(0, 0x0001000000000001)] }
  s.modTile 0 (fun t => { t with eps := [(1, { cfg := cfg, state := .opened, ringUnits := 64 })] })

theorem witness_EngineInstructionsIssue_recv :
    let s := chanIns [0x20, 0, 0, 0, 0x40] 0xC0000008
    let w := word [0x20, 0, 0, 0, 0x40]
    s.mayIssue (0 : Fin 128) (0 : Fin 3) 0 w ∧ insOp w = 0x20 ∧ s.scratchTouch (0 : Fin 128) (insDesc w) 64 = (s, false) ∧ tensorBad (s.descBytes (0 : Fin 128) w) = false
      ∧ s.recvMisuse (0 : Fin 128) (tget 0 (s.stream (0 : Fin 128) (0 : Fin 3)).sels (nbits w 24 3)) = none := by
  unfold State.mayIssue; decide +kernel

theorem witness_EngineInstructionsIssue_send :
    let s := chanIns [0x21, 0, 0, 1, 0x40] 0x80000008
    let w := word [0x21, 0, 0, 1, 0x40]
    s.mayIssue (0 : Fin 128) (0 : Fin 3) 0 w ∧ insOp w = 0x21 ∧ s.scratchTouch (0 : Fin 128) (insDesc w) 64 = (s, false) ∧ tensorBad (s.descBytes (0 : Fin 128) w) = false
      ∧ (s.tensorOf 0 (s.stream (0 : Fin 128) (0 : Fin 3)).tag (s.descBytes (0 : Fin 128) w)).any (fun t =>
        (s.ep (0 : Fin 128) (nbits w 24 5)).sendMisuse (recordUnits (sendPayload ({ engine := .channel, word := BitVec.ofNat 128 w, tag := 0, pc := 0 } : Op) t)) = none) = true := by
  unfold State.mayIssue; decide +kernel

/-- A state with a packet first on the package's own network. -/
def arrived (p : Packet) (s : State) : State := { s with noc := [p] }

theorem arrived_takes (p : Packet) (s : State) (h : s.noc = []) : (arrived p s).takes .noc p s :=
  ⟨[], rfl, by rw [arrived, ← h]⟩

/-- The same at port 0: the packet is taken out of the port's kitty. -/
theorem witness_takes_port : ∃ u, { live with ports := [(0, { kitty := [{ pkt := { cls := 1, ptype := 3, src := 1, dst := 0, tag := 0 } }] })] }.takes
    (.port 0) { cls := 1, ptype := 3, src := 1, dst := 0, tag := 0 } u := ⟨_, _, _, rfl, rfl, rfl, rfl, rfl, rfl⟩

/-- A SYNC packet of a job: ADD 1 to object 0 in a step. -/
def syncPkt (job step : Nat) : Packet :=
  { cls := 1, ptype := 3, src := 1, dst := 0, tag := mkTag job 0 0 0 0 0 0 0 0 step, handle := 0x00110000 }

theorem witness_WaitsAndRemoteSignals :
    (let s := { objects with tiles := [(0, { streams := [(0, { state := .wait, waitHandle := 63, handles :=
         [(63, { obj := 0x80000000, wait := 0x10000001, tgt := 0xFFFFFFFF })] })] })] }
     (s.stream (0 : Fin 128) (0 : Fin 3)).state = .wait
       ∧ s.waitHolds (0 : Fin 128) (0 : Fin 3) (s.stream (0 : Fin 128) (0 : Fin 3)).waitHandle.toNat = true)
    ∧ (objects.noc = [] ∧ (syncPkt 5 3).ptype = 3 ∧ objects.findJob (tagJob (syncPkt 5 3).tag) = some 0
      ∧ tagStep (syncPkt 5 3).tag = (objects.job 0).step.toNat % 2 ^ 20
      ∧ (objects.signalObj 0 (bits (syncPkt 5 3).handle 0 16) (bits (syncPkt 5 3).handle 16 4) (bits (syncPkt 5 3).handle 20 16)).isSome = true)
    ∧ later 20 ((objects.job 0).step.toNat % 2 ^ 20) (tagStep (syncPkt 5 2).tag) = true
    ∧ (later 20 (tagStep (syncPkt 5 4).tag) ((objects.job 0).step.toNat % 2 ^ 20) = true
      ∧ (objects.job 0).objectOf (bits (syncPkt 5 4).handle 0 16) = some 0 ∧ (objects.stack (0 / 16384)).deferred.length < 256
      ∧ (let s := { objects with noc := [syncPkt 5 4], stks := [(0, { deferred := List.replicate 256 ⟨5, 4, 0, 1, 1, 1, 0⟩ })] }
         s.noc = [syncPkt 5 4] ∧ s.findJob (tagJob (syncPkt 5 4).tag) = some 0 ∧ 256 ≤ (s.stack (0 / 16384)).deferred.length
           ∧ later 20 (tagStep (syncPkt 5 4).tag) ((s.job 0).step.toNat % 2 ^ 20) = true
           ∧ (s.job 0).objectOf (bits (syncPkt 5 4).handle 0 16) = some 0))
    ∧ objects.findJob (tagJob (syncPkt 6 3).tag) = none := by decide +kernel

/-! ## Witnesses: channels -/

/-- Job 5 with endpoint 1 of tile 0, whose peer is channel 2 of package 7. -/
def chan (x : Endpoint) : State :=
  { ringed [] [] [] [(0, job5)] with tiles := [(0, { eps := [(1, { x with peer := 0x00070002 })] })] }

/-- A CHAN_CTL packet from that peer to channel 1. -/
def ctl (op reason value : Nat) : Packet := chanCtl 7 0 5 3 1 op reason 2 value 64 512

theorem ctl_takesCtl (op reason value : Nat) (x : Endpoint) (h : ((ctl op reason value).spec 32 1 = op ∧ x.valid = true)) :
    (arrived (ctl op reason value) (chan x)).takesCtl .noc op (ctl op reason value) (chan x) 0 0 1 := by
  refine ⟨arrived_takes _ _ rfl, rfl, h.1, ?_⟩
  have e : ((chan x).ep 0 1).valid = true := h.2
  have f : (chan x).findJob 5 = some 0 := (by decide +kernel : (ringed [] [] [] [(0, job5)]).findJob 5 = some 0)
  have g : tagJob (ctl op reason value).tag = 5 := (by decide +kernel : tagJob (mkTag 5 3 0 0 0 0 0 0 1 3) = 5)
  have i : bits (ctl op reason value).handle 0 12 = 1 := (by decide +kernel : bits (1 : Dword) 0 12 = 1)
  rw [g, i]
  unfold State.endpointOf
  rw [f]
  show (if 0 < 8 then (if ((chan x).ep 0 1).valid then some (0, 0, 1) else none) else none) = _
  rw [e]; rfl

theorem witness_takesCtl : ∀ op ∈ [1, 2, 3, 4, 5, 6, 7, 8], (ctl op 1 1).spec 32 1 = op
    ∧ ({ cfg := 0x80000008 } : Endpoint).valid = true ∧ ({ cfg := 0xC0000008 } : Endpoint).valid = true := by decide +kernel

theorem witness_ChannelControlCompletes_open :
    (chan { cfg := 0xC0000008 }).openRefusal 5 (bits (ctl 1 0 8).handle 0 12) ((ctl 1 0 8).spec 34 2 % 4096) ((ctl 1 0 8).spec 36 4) 7 = none
    ∧ (chan { cfg := 0xC0000008 }).openRefusal 5 (bits (ctl 1 0 9).handle 0 12) ((ctl 1 0 9).spec 34 2 % 4096) ((ctl 1 0 9).spec 36 4) 7 = some 6
    ∧ ((chan { cfg := 0x80000008, state := .opening }).ep 0 1).state = .opening
    ∧ (ctl 3 1 0).spec 33 1 % 8 = 1 ∧ (ctl 3 2 0).spec 33 1 % 8 = 2 ∧ ((ctl 3 3 0).spec 33 1 % 8 ≠ 1 ∧ (ctl 3 3 0).spec 33 1 % 8 ≠ 2)
    ∧ (let s := chan { cfg := 0x80000008, state := .opening, retry := true }
       s.slotOfTile (0 : Fin 128) = some 0 ∧ (s.ep (0 : Fin 128) (1 : Fin 32)).state = .opening ∧ (s.ep (0 : Fin 128) (1 : Fin 32)).retry = true) := by
  decide +kernel

theorem witness_ChannelControlCompletes_run :
    (let s := chan { cfg := 0xC0000008, state := .opened, tail := 1 }
     (s.ep 0 1).isRecv = true ∧ (s.ep 0 1).state = .opened ∧ (s.ep 0 1).head ≠ (s.ep 0 1).tail)
    ∧ (let s := chan { cfg := 0x80000008, state := .closing }
       (s.ep 0 1).isRecv = false ∧ (s.ep 0 1).state = .closing)
    ∧ (let s := chan { cfg := 0x80000008, state := .opened, head := 0xFFFFFFFF }
       (s.ep 0 1).isRecv = false ∧ later 32 ((ctl 5 0 0).spec 36 4) (s.ep 0 1).head.toNat = true
         ∧ later 32 ((ctl 5 0 0xFFFFFFFF).spec 36 4) (s.ep 0 1).head.toNat = false)
    ∧ (let s := chan { cfg := 0xC0000008, state := .opened, head := 1 }
       s.slotOfTile (0 : Fin 128) = some 0 ∧ (s.ep (0 : Fin 128) (1 : Fin 32)).valid = true ∧ (s.ep (0 : Fin 128) (1 : Fin 32)).isRecv = true
         ∧ (s.ep (0 : Fin 128) (1 : Fin 32)).isDealer = false ∧ (s.ep (0 : Fin 128) (1 : Fin 32)).peerPkg ≠ s.self
         ∧ (s.ep (0 : Fin 128) (1 : Fin 32)).head ≠ (s.ep (0 : Fin 128) (1 : Fin 32)).reported ∧ ∀ i < 32, (s.ep (0 : Fin 128) i).blocked = false)
    ∧ (let s := chan { cfg := 0x80000008, state := .opened, spillUnits := 512, blocked := true, deadlockTimer := true }
       s.slotOfTile (0 : Fin 128) = some 0 ∧ (s.ep (0 : Fin 128) (1 : Fin 32)).valid = true ∧ (s.ep (0 : Fin 128) (1 : Fin 32)).isRecv = false
         ∧ (s.ep (0 : Fin 128) (1 : Fin 32)).blocked = true ∧ (s.ep (0 : Fin 128) (1 : Fin 32)).spillUnits ≠ 0
         ∧ (s.ep (0 : Fin 128) (1 : Fin 32)).deadlockTimer = true) := by decide +kernel

/-- A SEND of a control pass to endpoint 1, waiting at the channel unit or started. -/
def sendOp (phase : OpPhase) : Op := { engine := .channel, word := 0x4001000021, tag := 0x3005, pc := 0, phase := phase }

def sending (phase : OpPhase) (x : Endpoint) : State :=
  { chan x with
    mem := inScratch [(0x1000, tensor1 [0, 0, 1, 0, 1])]
    tiles := [(0, { eps := [(1, { x with peer := 0x00070002 })], streams := [(0, { ops := [sendOp phase] })] })] }

theorem witness_MessagesComplete_send :
    (let x : Endpoint := { cfg := 0x80000008, state := .opened, ringUnits := 64, head := 0xFFFFFFFF, tail := 0x3E }
     let s := sending .queued x
     s.slotOfTile (0 : Fin 128) = some 0 ∧ (s.stream (0 : Fin 128) (0 : Fin 3)).channelHead 0x21 = some (sendOp .queued)
       ∧ s.engineHeld (0 : Fin 128) = false ∧ (sendOp .queued).faultAddr = none ∧ s.chanTakes 0 (0 : Fin 128) (0 : Fin 3) = true
       ∧ (s.stream (0 : Fin 128) (0 : Fin 3)).pendingSends = 0
       ∧ (s.ep (0 : Fin 128) (insEp (sendOp .queued).word.toNat)).isDealer = false
       ∧ (match s.sendPlan 0 (0 : Fin 128) (0 : Fin 3) (sendOp .queued) with
          | some p => decide (p.pad = some 0 ∧ p.spill = false ∧ tagPass p.tag = 3)
          | none => false) = true
       ∧ (let r := (s.chanTake 0 (0 : Fin 128) (0 : Fin 3)).scratchTouch (0 : Fin 128) (insDesc (sendOp .queued).word.toNat) 64
          r.2 = false ∧ (r.1.engineRead ⟨0, 0, 0, 0x3005, false⟩ dmaRegions false []).2.toOption = some []))
    ∧ (let x : Endpoint := { cfg := 0x80000008, state := .opened, ringUnits := 64, spill := true, spillUnits := 512, tail := 64 }
       (match (sending .queued x).sendPlan 0 (0 : Fin 128) (0 : Fin 3) (sendOp .queued) with
        | some p => decide (p.pad = some 0 ∧ p.spill = true)
        | none => false) = true)
    ∧ (let x : Endpoint := { cfg := 0x80000008, state := .opened, ringUnits := 64, head := 0xFFFFFFFF, tail := 0x3F }
       let s := sending .queued x
       s.keepsReady (sendOp .queued) = true ∧ (match s.sendPlan 0 (0 : Fin 128) (0 : Fin 3) (sendOp .queued) with
        | some p => decide (p.pad = none)
        | none => false) = true)
    ∧ (let s := (sending .queued { cfg := 0x80000008, state := .opened, ringUnits := 64, head := 0xFFFFFFFF, tail := 0x3F }).modStream 0 0
         (fun y => { y with pendingSends := 1 })
       s.chanTakes 0 (0 : Fin 128) (0 : Fin 3) = true ∧ 0 < (s.stream (0 : Fin 128) (0 : Fin 3)).pendingSends)
    ∧ (let s := sending .started { cfg := 0x80000008, state := .opened, ringUnits := 64 }
       (s.stream (0 : Fin 128) (0 : Fin 3)).findOp (isStarted 0x21) = some (sendOp .started) ∧ (sendOp .started).replayed = false
         ∧ ({ sendOp .started with replayed := true } : Op).replayed = true ∧ (s.ep (0 : Fin 128) 1).vrefOut = false)
    ∧ (let s := sending .started { cfg := 0x90000008, state := .opened, ringUnits := 64 }
       (s.ep (0 : Fin 128) (insEp (sendOp .started).word.toNat)).vrefOut = true
         ∧ tagPass (sendTag { sendOp .started with tag := 0x5 } (s.ep (0 : Fin 128) 1).peerChannel 0) ≠ 3) := by decide +kernel

/-- A forward DATA packet of one record of two units at ring offset 63. -/
def dataPkt : Packet :=
  { cls := 2, ptype := 1, src := 7, dst := 0, tag := mkTag 5 0 2 1 0 0 0 0 1 3, last := true, handle := 1,
    specific := mkSpec [(32, 4, 63), (36, 4, 2)], payload := List.replicate 64 7 }

/-- The header of a message record of 4 bytes of payload, of micro-batch 1. -/
def recordHeader : List Byte := [1, 0, 0, 0, 2, 0, 0, 0, 4, 0, 0, 0, 0, 0, 0, 0] ++
  (List.range 16).map (fun i => BitVec.ofNat 8 ((mkTag 5 0 0 1 0 0 0 0 1 3).toNat / 2 ^ (8 * i))) ++ List.replicate 32 0

def recvOp (phase : OpPhase) : Op := { engine := .channel, word := 0x4000000020, tag := 0x5, pc := 0, phase := phase, takenEp :=
  (if phase = .started then some 1 else none) }

/-- The record stands at address 0 of the job's stacked SRAM. -/
def receiving (phase : OpPhase) : State :=
  let x : Endpoint := { cfg := 0xC0000008, state := .opened, tail := 2, peer := 0x00070002 }
  { chan x with
    mem := ((List.range 64).zip recordHeader).filter (fun c => decide (c.2 ≠ 0)) ++ [(64, 9)] ++ inScratch [(0x1000, tensor1 [0, 0, 1, 0, 1])]
    tiles := [(0, { eps := [(1, x)], streams := [(0, { ops := [recvOp phase], issueHeld := true, sels := [(0, 0x0001000000000001)] })] })] }

theorem witness_MessagesComplete_receive :
    (let s := chan { cfg := 0xC0000008, state := .opened }
     dataPkt.ptype = 1 ∧ s.endpointOf (tagJob dataPkt.tag) (bits dataPkt.handle 0 12) = some (0, 0, 1) ∧ (s.ep 0 1).isRecv = true
       ∧ dataPkt.last = true ∧ dataPkt.spec 44 1 = 0)
    ∧ (let s := receiving .queued
       let v := s.chanTake 0 (0 : Fin 128) (0 : Fin 3)
       s.slotOfTile (0 : Fin 128) = some 0 ∧ (s.stream (0 : Fin 128) (0 : Fin 3)).channelHead 0x20 = some (recvOp .queued)
         ∧ s.engineHeld (0 : Fin 128) = false ∧ (recvOp .queued).faultAddr = none ∧ s.chanTakes 0 (0 : Fin 128) (0 : Fin 3) = true
         ∧ v.chooseMember 0 (0 : Fin 128) (tget 0 (s.stream (0 : Fin 128) (0 : Fin 3)).sels 0) = some (0, 1)
         ∧ v.nextRecord 0 (0 : Fin 128) 1 = some (false, 0, recordHeader) ∧ tagPass (BitVec.ofNat 128 (leAt recordHeader 16 16)) ≠ 3
         ∧ (let x := v.scratchTouch (0 : Fin 128) (insDesc (recvOp .queued).word.toNat) 64
            let y := touchReads (some 0) false (v.headerLines 0 (0 : Fin 128) 1) x.1
            x.2 = false ∧ y.2 = false
              ∧ (y.1.tensorOf 0 (BitVec.ofNat 128 (leAt recordHeader 16 16)) (y.1.descBytes (0 : Fin 128) (recvOp .queued).word.toNat)).map Tensor.payload
                = some (leAt recordHeader 8 4)))
    ∧ (let s := receiving .started
       (s.stream (0 : Fin 128) (0 : Fin 3)).findOp (isStarted 0x20) = some (recvOp .started) ∧ (recvOp .started).takenEp = some 1
         ∧ (recvOp .started).inSpill = false ∧ (recvOp .started).faultAddr = none
         ∧ s.host.attached = true ∧ (s.scratchTouch (0 : Fin 128) (insDesc (recvOp .started).word.toNat) 64).2 = false
         ∧ (match s.tensorOf 0 (recvOp .started).tag (s.descBytes (0 : Fin 128) (recvOp .started).word.toNat) with
            | none => false
            | some t =>
              match (s.scratchTouch (0 : Fin 128) (insDesc (recvOp .started).word.toNat) 64).1.engineRead
                  ⟨0, 0, 0, (recvOp .started).tag, false⟩ dmaRegions false (viewRange ((bits (s.ep (0 : Fin 128) 1).base 0 48 + 0 % (s.ep (0 : Fin 128) 1).ringOf * 64 + 64 : Nat) : Int) t.payload) with
              | (u, .ok bs) =>
                match u.engineWrite ⟨0, 0, 0, (recvOp .started).tag, false⟩ dmaRegions false t.direct (t.bytes.zip bs) with
                | (_, .ok) => true
                | _ => false
              | _ => false) = true) := by decide +kernel

theorem witness_RecordsStayInTheRing : 0 < 64 ∧ ((0x3E : Word) - (0xFFFFFFFF : Word)).toNat ≤ 64 ∧ placeIn 64 0x3E 0xFFFFFFFF 1 = some 0
    ∧ placeIn 64 0x3E 0x3E 3 = some 2 := by decide +kernel

/-! ## Witnesses: engines -/

/-- Tile 0 of job 5 with instructions in flight in stream 0. -/
def working (ps : List (Nat × List Byte)) (ops : List Op) (f : Tile → Tile) : State :=
  { ringed [] [] [] [(0, job5)] with mem := inScratch ps, tiles := [(0, f { streams := [(0, { ops := ops, state := .run })] })] }

def opOf (e : Engine) (b : List Byte) (phase : OpPhase) : Op :=
  { engine := e, word := BitVec.ofNat 128 (word b), tag := 5, pc := 0, phase := phase }

def mmaOp (init : Byte) (phase : OpPhase) : Op :=
  { engine := .array, word := BitVec.ofNat 128 (word [0x10, 0, 0, init, 0x40, 0, 0x41, 0, 0, 0, 0, 0, 0, 0, 1, 0]), tag := 5, pc := 0, phase := phase }

theorem witness_EnginesComplete_dma :
    (let o := opOf .dma [0x18, 0, 0, 0, 0x40] .queued
     let s := working [(0x1000, [0x41, 0, 0x42]), (0x1040, tensor1 [0, 0, 1, 0, 1]), (0x1080, tensor1 [0, 0, 2, 0, 1])] [o] id
     let r := (((s.applyAmb {}).modTile 0 (fun t => t.notePassed 2 [0] 0)).dmaTouch (0 : Fin 128) o.word.toNat).1
     s.slotOfTile (0 : Fin 128) = some 0 ∧ s.engineHeld (0 : Fin 128) = false ∧ (∀ m < 3, ((s.stream (0 : Fin 128) m).ops.any isDmaMoved) = false)
       ∧ (∀ m < 3, ((s.stream (0 : Fin 128) m).ops.any isDmaHeld) = false)
       ∧ (s.stream (0 : Fin 128) (0 : Fin 3)).dmaHead = some o ∧ (∀ m < 3, m ≠ 0 → (s.stream (0 : Fin 128) m).dmaHead = none)
       ∧ s.keepsReady o = true ∧ s.dmaHeld 0 (0 : Fin 128) o = false ∧ (s.tile (0 : Fin 128)).pick 2 [0] = some 0
       ∧ (((s.applyAmb {}).modTile 0 (fun t => t.notePassed 2 [0] 0)).dmaTouch (0 : Fin 128) o.word.toNat).2 = false
       ∧ (match r.tensorOf 0 o.tag (r.dmaDesc 0 o.word.toNat).src, r.tensorOf 0 o.tag (r.dmaDesc 0 o.word.toNat).dst with
          | some a, some b =>
            match r.dmaValues ⟨0, 0, 0, o.tag, o.inTrick⟩ (r.dmaDesc 0 o.word.toNat) ((r.dmaDesc 0 o.word.toNat).bypass || o.word.getLsbD 24) a b with
            | (v, .ok (bs, _)) =>
              match v.engineWrite ⟨0, 0, 0, o.tag, o.inTrick⟩ (r.dmaDesc 0 o.word.toNat).dstRegions
                  ((r.dmaDesc 0 o.word.toNat).bypass || o.word.getLsbD 24) b.direct (b.bytes.zip bs) with
              | (_, .ok) => true
              | _ => false
            | _ => false
          | _, _ => false) = true)
    ∧ (let o := opOf .dma [0x18, 0, 0, 0, 0x40] .started
       let s := working [(0x1000, [0x41, 0, 0x42])] [o] id
       s.slotOfTile (0 : Fin 128) = some 0 ∧ (∀ m < 3, ((s.stream (0 : Fin 128) m).ops.any isDmaMoved) = false)
         ∧ (s.stream (0 : Fin 128) (0 : Fin 3)).ops.find? isDmaHeld = some o ∧ o.faultAddr = none ∧ s.dmaHeld 0 (0 : Fin 128) o = false
         ∧ s.engineHeld (0 : Fin 128) = false ∧ ∀ m < 0, (s.stream (0 : Fin 128) m).ops.any isDmaHeld = false)
    ∧ (let o := opOf .dma [0x18] .moved
       let s := working [] [o] id
       s.slotOfTile (0 : Fin 128) = some 0 ∧ (s.stream (0 : Fin 128) (0 : Fin 3)).ops.find? isDmaMoved = some o ∧ o.faultAddr = none
         ∧ s.engineStopped (0 : Fin 128) = false ∧ s.host.attached = true ∧ o.statusAt < (hostBase : Int)
         ∧ (s.writeStatus ⟨0, 0, 0, o.tag, o.inTrick⟩ dmaRegions o.statusAt o.status).2 = .ok) := by decide +kernel

theorem witness_EnginesComplete_array :
    (let o := mmaOp 4 .queued
     let s := working [] [o] id
     s.engineHeld (0 : Fin 128) = false ∧ s.applyAmb {} = s
       ∧ s.offer (0 : Fin 128) (0 : Fin 3) = .block o ∧ (∀ m < 3, m ≠ 0 → s.offer (0 : Fin 128) m = .nothing)
       ∧ (((s.tile (0 : Fin 128)).endTurn [0]).arbitrate [0]).map (·.1) = some 0)
    ∧ (let s := working [] [] (fun t => { t with banks := [(2, { state := .accumulating, stream := 0, recompute := true, steps := [⟨(mmaOp 4 .queued).word, 5, 0⟩] })] })
       s.offer (0 : Fin 128) (0 : Fin 3) = .again 2 ∧ (∀ m < 3, m ≠ 0 → s.offer (0 : Fin 128) m = .nothing))
    ∧ (let o := mmaOp 0 .queued
       let s := working [] [o] id
       s.offer (0 : Fin 128) (0 : Fin 3) = .bad o 2 ∧ (∀ m < 3, m ≠ 0 → s.offer (0 : Fin 128) m = .nothing)) := by decide +kernel

/-- A check of a block of zeros that an accumulation skipped: its operands are zero (`v` = 0) or the west operand is not (`v` = 0x38, 1.0). -/
def skipping (v : Byte) : State :=
  let feed (b : Byte) : List Byte := [0, 0, b, 0, 1, 0, 0, 0, 3, 0, 0, 0, 1, 0, 0, 0, 1, 0, 0, 0, 1, 0, 0, 0] ++ List.replicate 40 0
  working [(0x1000, feed 1), (0x1040, feed 2), (0x10000, [v])] []
    (fun t => { t with banks := [(0, { state := .accumulating, steps := [⟨(mmaOp 4 .queued).word, 5, 0⟩], checks := [⟨0, 0, 0, false⟩] })] })

def checkGives (s : State) (good : Bool) : Bool :=
  match s.checkSkip 0 0 0 ((s.tile 0).bank 0) ⟨0, 0, 0, false⟩ with
  | (_, .ok (_, g)) => g == good
  | _ => false

theorem witness_EnginesComplete_checks :
    (∀ v ∈ ([0, 0x38] : List Byte), (skipping v).engineStopped (0 : Fin 128) = false
      ∧ ((skipping v).tile (0 : Fin 128)).bank (0 : Fin 4) = { state := .accumulating, steps := [⟨(mmaOp 4 .queued).word, 5, 0⟩],
                                                                  checks := [⟨0, 0, 0, false⟩] }
      ∧ (State.checkAll 0 (0 : Fin 128) 0 (((skipping v).tile (0 : Fin 128)).bank (0 : Fin 4)) [⟨0, 0, 0, false⟩] (skipping v)).2 = none)
    ∧ checkGives (skipping 0) true = true ∧ checkGives (skipping 0x38) false = true := by decide +kernel

theorem witness_EnginesComplete_banks :
    (let s := working [] [] (fun t => { t with banks := [(3, { state := .accumulating, fed := true })] })
     s.engineStopped (0 : Fin 128) = false ∧ ((s.tile (0 : Fin 128)).bank (3 : Fin 4)).fed = true
       ∧ ((s.tile (0 : Fin 128)).bank (3 : Fin 4)).checks = [] ∧ ((s.tile (0 : Fin 128)).bank (3 : Fin 4)).recompute = false
       ∧ ((s.tile (0 : Fin 128)).bank (3 : Fin 4)).state = .accumulating)
    ∧ (let s := working [] [] (fun t => { t with completeOrder := [3] })
       (s.tile (0 : Fin 128)).completeOrder = 3 :: [] ∧ (s.tile (0 : Fin 128)).draining = none ∧ (s.tile (0 : Fin 128)).finQueue.length < 2)
    ∧ (let s := working [] [] (fun t => { t with draining := some 3 })
       (s.tile (0 : Fin 128)).draining = some 3 ∧ s.engineStopped (0 : Fin 128) = false) := by decide +kernel

/-- A loop descriptor of one element for an opcode: sources immediate 2.0, destinations FP32 or INT32 in scratch. -/
def loop1 (vop : Nat) : List Byte :=
  let use := (vecUse vop).getD []
  let imm : List Byte := List.replicate 7 0 ++ [12] ++ List.replicate 16 0
  let dst (c : Byte) : List Byte := [0, 0x20, 0, 0, 1, 0, c, 4] ++ List.replicate 16 0
  let none : List Byte := List.replicate 24 0
  [1, 0, 1, 0, 1, 0, 1, 0, 1, 0, 0, if isReduction vop then 1 else 0] ++ List.replicate 12 0 ++ [0, 0, 0, 0x40, 0, 0, 0, 0]
  ++ (if use.getD 0 false then imm else none) ++ (if use.getD 1 false then imm else none)
  ++ (if use.getD 2 false then (if vop = 0x05 then imm else dst (if vop = 0x22 then 0 else 9)) else none) ++ dst 0

def vecOpOf (vop : Nat) : Op := opOf .vector [0x11, 0, 0, BitVec.ofNat 8 vop, 0x40] .queued

def vecAt (vop : Nat) : State := working [(0x1000, loop1 vop)] [vecOpOf vop] id

def vecReady (vop : Nat) : State := ((vecAt vop).applyAmb {}).modTile 0 (fun t => t.notePassed 1 [0] 0)

def vecX (vop : Nat) : VecRun := (vecAt vop).vecRunOf 0 0 0 (vecOpOf vop) (loopOf ((vecReady vop).scratchRead 0 0x1000 128))

/-- No check of R136 fails for any vector opcode. -/
theorem witness_VectorInstructionsComplete_good :
    ∀ vop ∈ [1, 2, 3, 4, 5, 6, 7, 8, 9, 10, 11, 12, 13, 14, 15, 16, 17, 0x20, 0x21, 0x22, 0x23, 0x24, 0x25, 0x26, 0x30, 0x31, 0x32, 0x33, 0x40],
      (vecReady vop).vecBad 0 0 0 (vecOpOf vop).word.toNat (loopOf ((vecReady vop).scratchRead 0 0x1000 128)) = none
        ∧ vecOp (vecOpOf vop).word.toNat = vop := by decide +kernel

/-- An instruction of each kind has the turn. -/
theorem witness_VectorInstructionsComplete_turn (vop : Nat) (h : vop ∈ [0x05, 0x11, 0x25, 0x33]) :
    (vecAt vop).vecTurn (0 : Fin 128) (0 : Fin 3) 0 (vecOpOf vop) (loopOf ((vecReady vop).scratchRead (0 : Fin 128) 0x1000 128)) vop {} (vecReady vop) := by
  obtain ⟨a, b, c, d, e⟩ := (by decide +kernel : ∀ vop ∈ [0x05, 0x11, 0x25, 0x33],
    insDesc (vecOpOf vop).word.toNat = 0x1000 ∧ (vecAt vop).slotOfTile 0 = some 0 ∧ (List.range 3).filter (fun m => ((vecAt vop).tile 0).vecReady m && (vecAt vop).vecKeeps 0 m) = [0]
      ∧ ((vecAt vop).tile 0).pick 1 [0] = some 0 ∧ (vecReady vop).scratchTouch 0 0x1000 128 = (vecReady vop, false)) vop h
  obtain ⟨f, g, i, j⟩ := (by decide +kernel : ∀ vop ∈ [0x05, 0x11, 0x25, 0x33],
    ((vecAt vop).stream 0 0).ops.find? isVecQueued = some (vecOpOf vop) ∧ vecOp (vecOpOf vop).word.toNat = vop
      ∧ (vecReady vop).vecBad 0 0 0 (vecOpOf vop).word.toNat (loopOf ((vecReady vop).scratchRead 0 0x1000 128)) = none
      ∧ ((vecAt vop).job 0).det = false) vop h
  exact ⟨b, c, d, f, rfl, rfl, g, by rw [a]; decide, a ▸ e, by rw [a]; rfl, i, fun h => by rw [j] at h; cases h⟩

def okay (r : State × Except VecErr NumStatus) : Bool :=
  match r.2 with
  | .ok _ => true
  | .error _ => false

theorem witness_VectorInstructionsComplete_results :
    okay ((vecReady 2).vecElements (vecX 2) true (fun a b _ => a.add b)) = true
    ∧ okay ((vecReady 17).vecElements (vecX 17) false (fun a b _ => if condHolds 0 a b then Machine.Num.one else Machine.Num.zero)) = true
    ∧ okay ((vecReady 0x20).vecReduce (vecX 0x20) false (fun xs => (sumTree id xs, none))) = true
    ∧ okay ((vecReady 0x25).vecReduce (vecX 0x25) true (fun xs => ((winner true xs).1, some (Machine.Num.ofInt (winner true xs).2)))) = true
    ∧ okay ((vecReady 0x31).vecScan (vecX 0x31) true false) = true := by decide +kernel

/-- VADD of the immediates 2.0 and 2.0 stores 4.0 (R128). -/
theorem test_vadd : (match exec (.vadd 0 {}) (vecAt 2) with
    | .next t => t.scratchRead 0 0x2000 4
    | _ => []) = [0, 0, 0x80, 0x40] := by decide +kernel

theorem witness_VectorInstructionsComplete_end :
    let s := working [] [{ vecOpOf 2 with phase := .moved }] (fun t => { t with vecStream := some 0 })
    (s.tile (0 : Fin 128)).vecStream = some (0 : Fin 3).val ∧ s.slotOfTile (0 : Fin 128) = some 0
      ∧ (s.stream (0 : Fin 128) (0 : Fin 3)).findOp isVecMoved = some { vecOpOf 2 with phase := .moved } ∧ s.engineStopped (0 : Fin 128) = false
      ∧ (s.writeStatus ⟨0, 0, 0, 5, false⟩ (nearRegions 0) 0 {}).2 = .ok := by decide +kernel

theorem witness_ExactSumsHaveNoOrder : [Machine.Num.one, Machine.Num.zero].Perm [Machine.Num.zero, Machine.Num.one] := List.Perm.swap ..

/-! ## Witnesses: tricks -/

def topenAt (ps : List (Nat × List Byte)) (locals : List (Nat × Trick)) : State :=
  let s := coded ps { trick := if locals = [] then none else some 1 }
  s.modTrk (fun u => { u with locals := locals })

def trick0 : Trick := { tile := 0, stream := 0, deferred := false, perMb := false, job := 5, step := 3, mb := 0, record := {} }

theorem witness_LocalTricksComplete_topen :
    let s := topenAt [(0, ins [0x30, 0, 0, 3])] []
    s.mayIssue (0 : Fin 128) (0 : Fin 3) 0 (word [0x30, 0, 0, 3]) ∧ insOp (word [0x30, 0, 0, 3]) = 0x30 ∧ s.trickOf (0 : Fin 128) (0 : Fin 3) = none
      ∧ (s.tile (0 : Fin 128)).carries (0 : Fin 3) = false ∧ trickOperandBad (word [0x30, 0, 0, 3]) = false
      ∧ s.freeSlots.length = 255 ∧ s.stackTricks 0 < 64 := by
  unfold State.mayIssue; decide +kernel

/-- The last hypothesis of the same clause, at the same state. -/
theorem witness_LocalTricksComplete_slot : ∃ i, (topenAt [(0, ins [0x30, 0, 0, 3])] []).freeSlot = some i := by
  have h : (topenAt [(0, ins [0x30, 0, 0, 3])] []).freeSlots ≠ [] := by decide +kernel
  obtain ⟨i, hi, -⟩ := freeSlot_mem _ h
  exact ⟨i, hi⟩

theorem witness_LocalTricksComplete_others :
    ∀ b ∈ ([[0x31], [0x32, 0, 0, 1], [0x32]] : List (List Byte)),
      let s := topenAt [(0, ins b)] [(1, trick0)]
      s.mayIssue (0 : Fin 128) (0 : Fin 3) 0 (word b) ∧ s.trickOf (0 : Fin 128) (0 : Fin 3) = some (1, trick0)
        ∧ trickOperandBad (word b) = false := by
  unfold State.mayIssue; decide +kernel

/-- A trick whose held copy is found beyond its code. -/
theorem witness_EnginesComplete_heldCopy :
    (topenAt [] [(1, trick0)]).trickOf (0 : Fin 128) (0 : Fin 3) = some (1, trick0) := by decide +kernel

theorem witness_LocalTricksComplete_end :
    (let s := topenAt [] [(1, { trick0 with committing := true })]
     s.slotOfTile (0 : Fin 128) = some 0 ∧ s.trickOf (0 : Fin 128) (0 : Fin 3) = some (1, { trick0 with committing := true })
       ∧ s.engineStopped (0 : Fin 128) = false)
    ∧ (let s := topenAt [] [(1, { trick0 with capWait := true })]
       s.trickAt (1 : Fin 256) = some { trick0 with capWait := true } ∧ bits s.trk.ctl 24 8 ≠ 0) := by decide +kernel

/-! Deck tricks: job 5 of packages 0 and 1, coordinated here. -/

def deckState (r : StepRun) (cs : List Coord) (xs : List Share) : State :=
  let s := ringed [] [] [] [(0, { job5 with run := some r, trkCtl := 0x100, deck := { packages := [0, 1] } })]
  s.modTrk (fun u => { u with coords := cs, shares := xs.map (fun x => (1, x)) })

def coord0 : Coord := { job := 5, step := 3, mb := 0, isPass := false, members := [0, 1] }

def share0 : Share := { job := 5, step := 3, mb := 0, isPass := false }

/-- A TRICK message of step 3 from package 1. -/
def trickMsg (msg cause : Nat) (attempt : BitVec 8) : Packet := trickPacket 1 0 5 3 0 false attempt msg cause 1

theorem trick_takesTrick (msg cause : Nat) (attempt : BitVec 8) (s : State) (h : s.noc = []) (h1 : (trickMsg msg cause attempt).spec 32 1 = msg)
    (h2 : s.findJob ((trickMsg msg cause attempt).spec 44 2) = some 0) :
    (arrived (trickMsg msg cause attempt) s).takesTrick .noc msg (trickMsg msg cause attempt) s 0 :=
  ⟨arrived_takes _ _ h, rfl, h1, h2, h2⟩

theorem witness_takesTrick : ∀ msg ∈ [1, 2, 3, 4, 5, 6], (trickMsg msg 1 0).spec 32 1 = msg
    ∧ (deckState startedRun [coord0] [share0]).findJob ((trickMsg msg 1 0).spec 44 2) = some 0
    ∧ trickKeyOf (trickMsg msg 1 0) = ⟨3, 0, false⟩ := by decide +kernel

theorem witness_DeckTricksComplete_ready :
    (let s := deckState startedRun [] []
     (s.job (0 : Fin 16)).run = some startedRun ∧ s.stepReady (0 : Fin 16) startedRun = true ∧ s.freeSlots.length = 255)
    ∧ (let p : PassRun := { desc := ⟨dPass, 0, 0, 0⟩, step := 3, mb := 6, drafts := 0, positions := 1, posBase := 0, stream := 0x100, injected := true }
       let s := (deckState startedRun [] []).modJob 0 (fun j => { j with trkCtl := 0, passes := [p] })
       s.shareOf (s.job (0 : Fin 16)).id.toNat true (s.job (0 : Fin 16)).step.toNat (6 : BitVec 20).toNat = none
         ∧ s.votelessPass (0 : Fin 16) 6 = some ⟨3, 6, true⟩ ∧ s.freeSlots.length = 255)
    ∧ (let x : Share := { share0 with isPass := true, mb := 0xFFFFF, votes := 1 }
       let s := deckState startedRun [] [x]
       s.shareOf (s.job (0 : Fin 16)).id.toNat true (s.job (0 : Fin 16)).step.toNat 0xFFFFF = some (1, x) ∧ x.phase = .opened
         ∧ 0 < bits (s.job (0 : Fin 16)).trkCtl 8 8 ∧ bits (s.job (0 : Fin 16)).trkCtl 8 8 ≤ x.votes ∧ 1 ≠ 0) := by decide +kernel

/-- A share fits where a trick slot is free. -/
theorem witness_DeckTricksComplete_fits (job : Nat) (k : TrickKey) : (deckState startedRun [] []).shareFits job k = true := by
  obtain ⟨i, hi, -⟩ := freeSlot_mem (deckState startedRun [] []) (by decide +kernel)
  simp [State.shareFits, hi]

theorem witness_DeckTricksComplete_lead :
    (let c := { coord0 with ready := [0] }
     let s := deckState startedRun [c] []
     let p := trickMsg 1 0 0
     s.coordTakes p 0 = true ∧ s.coordAt 5 ⟨3, 0, false⟩ = some c ∧ c.attempt = p.attempt ∧ c.phase = .collecting ∧ (s.job 0).restoring = false
       ∧ (∀ m ∈ c.members, m ∈ c.ready ∨ m = p.src) ∧ (trickMsg 2 1 0).cause ≠ 7)
    ∧ (let s := deckState startedRun [coord0] []
       s.coordAt 5 ⟨3, 0, false⟩ = some coord0 ∧ ∃ m ∈ coord0.members, m ∉ coord0.ready ∧ m ≠ (trickMsg 1 0 0).src)
    ∧ (let c := { coord0 with phase := .committed, done := [0] }
       let s := deckState startedRun [c] []
       s.coordAt 5 ⟨3, 0, false⟩ = some c ∧ c.attempt = (trickMsg 5 0 0).attempt ∧ ∀ m ∈ c.members, m ∈ c.done ∨ m = (trickMsg 5 0 0).src)
    ∧ (let c := { coord0 with timer := true }
       let s := deckState startedRun [c] []
       s.trk.coords[(0 : Fin 64).val]? = some c ∧ c.timer = true ∧ c.phase = .collecting) := by decide +kernel

theorem witness_DeckTricksComplete_share :
    (let x := { share0 with phase := .ready }
     let s := deckState startedRun [] [x]
     s.keyShare 5 ⟨3, 0, false⟩ = some x ∧ x.attempt = (trickMsg 3 0 0).attempt ∧ (s.job 0).run = some startedRun ∧ (s.job 0).cutReady = false)
    ∧ (let s := deckState startedRun [] [share0]
       s.keyShare 5 ⟨3, 0, false⟩ = some share0 ∧ share0.phase ≠ .ready ∧ (trickMsg 4 1 0).cause ≠ 6 ∧ (trickMsg 4 1 0).cause ≠ 7
         ∧ share0.attempt = (trickMsg 4 1 0).attempt ∧ share0.phase = .opened)
    ∧ (let x := { share0 with phase := .drained, attempt := 255 }
       let s := deckState startedRun [] [x]
       (s.job 0).restoring = false ∧ (s.job 0).restored = false ∧ s.keyShare 5 ⟨3, 0, false⟩ = some x ∧ x.phase ≠ .draining
         ∧ s.bankUp (s.job 0) = true ∧ x.attempt + 1 = (trickMsg 6 0 0).attempt)
    ∧ (let x := { share0 with phase := .publishing }
       (deckState startedRun [] [x]).findShare (0 : Fin 16) none .publishing = some x)
    ∧ (let x := { share0 with phase := .publishing, isPass := true, mb := 6 }
       let p : PassRun := { desc := ⟨dPass, 0, 0, 0⟩, step := 3, mb := 6, drafts := 0, positions := 1, posBase := 0, stream := 0x100, injected := true }
       let s := (deckState startedRun [] [x]).modJob 0 (fun j => { j with passes := [p] })
       s.findShare (0 : Fin 16) (some 6) .publishing = some x
         ∧ ((s.dropShare x.job.toNat ⟨x.step, x.mb, x.isPass⟩).job (0 : Fin 16)).passes.find? (fun q => q.mb = 6) = some p)
    ∧ (∀ c ∈ ([1, 2] : List Nat), let x := { share0 with phase := .draining, cause := c }
       let s := deckState startedRun [] [x]
       s.findShare (0 : Fin 16) none .draining = some x ∧ s.drainedPorts x.job.toNat x.drainSeq = true ∧ s.bankUp (s.job (0 : Fin 16)) = true
         ∧ { s with ports := [(15, { txq := [syncPkt 5 3] })] }.drainedPorts x.job.toNat x.drainSeq = false) := by decide +kernel

theorem witness_DeckTricksComplete_pass :
    let x : Share := { share0 with phase := .ready, isPass := true, mb := 6 }
    let p := trickPacket 1 0 5 3 6 true 0 3 0 1
    let s := deckState startedRun [] [x]
    p.ptype = 4 ∧ p.spec 32 1 = 3 ∧ s.findJob (p.spec 44 2) = some 0 ∧ trickKeyOf p = ⟨3, 6, true⟩ ∧ s.keyShare 5 ⟨3, 6, true⟩ = some x
      ∧ x.attempt = p.attempt := by decide +kernel

/-! ## Witnesses: Hethlink -/

/-- A package of train 9 with port 0 as given; port 2 is UP with credits for class 1. -/
def linked (q : Port) : State :=
  { live with
    host := { live.host with train := 9 }
    ports := [(0, q), (2, { state := .up, limit := [(1, 100)], txq := [syncPkt 5 3] })] }

def idBlock (train : Nat) : List Byte := List.replicate 8 0 ++ leBytes 8 train ++ List.replicate 48 0

def idPkt (train : Nat) : Packet := { hopLocal := true, cls := 0, ptype := 10, src := 1, dst := 0, tag := 0, last := true, payload := idBlock train }

theorem witness_LinkStatesComplete_up :
    ((linked {}).awake = true ∧ (linked {}).portExists (0 : Fin 16) = true ∧ ((linked {}).port (0 : Fin 16)).state = .disabled
      ∧ nbit ((linked {}).port (0 : Fin 16)).ctl.toNat 27 = false ∧ (linked {}).portExists (1 : Fin 16) = false)
    ∧ (let s := linked { state := .detect }
       s.pkg.thermtrip = false ∧ (s.port (0 : Fin 16)).state = .detect ∧ s.minLanes (0 : Fin 16) = popCount (0xF0 &&& s.laneMask (0 : Fin 16)))
    ∧ (let s := linked { state := .train }
       (s.port (0 : Fin 16)).state = .train ∧ s.minLanes (0 : Fin 16) ≤ popCount (0x0F &&& s.laneMask (0 : Fin 16))
         ∧ popCount (0x07 &&& s.laneMask (0 : Fin 16)) < s.minLanes (0 : Fin 16))
    ∧ (let s := linked { state := .discover }
       (s.port (0 : Fin 16)).nbr = none ∧ (s.port (0 : Fin 16)).state = .discover) := by decide +kernel

/-- The first identity block brings the port up with the same train, and holds it with another. -/
theorem witness_LinkStatesComplete_identity :
    ∀ train ∈ [9, 8], let s := linked { state := .discover, kitty := [{ pkt := idPkt train }] }
      (match s.freeKitty (0 : Fin 16) (fun x => x.pkt.ptype.toNat = ptIdentity) with
       | some (k, u) => k.payload = idBlock train ∧ (u.port (0 : Fin 16)).state = .discover
         ∧ (u.modPort (0 : Fin 16) (fun q => { q with nbr := some (Identity.ofBlock k.payload) })).mayCarry (0 : Fin 16) = decide (train = 9)
       | none => False) := by
  intro train h
  simp only [List.mem_cons, List.not_mem_nil, or_false] at h
  obtain rfl | rfl := h
  · exact ⟨rfl, rfl, by decide +kernel⟩
  · exact ⟨rfl, rfl, by decide +kernel⟩

theorem witness_LinkStatesComplete_locks :
    (let s := linked { state := .up, rxLocked := true, restoring := 0x80, failedLanes := 0x80 }
     (s.port (0 : Fin 16)).state = .up ∧ (s.port (0 : Fin 16)).rxLocked = true ∧ (s.port (0 : Fin 16)).aligned = true
       ∧ (s.port (0 : Fin 16)).restoring.getLsbD (7 : Fin 8) = true)
    ∧ (let s := linked { state := .up, regain := true }
       (s.port (0 : Fin 16)).state = .up ∧ (s.port (0 : Fin 16)).regain = true ∧ (s.port (0 : Fin 16)).rxRestripe = false)
    ∧ (let s := linked { state := .align, rxLanes := 0xFF }
       (s.port (0 : Fin 16)).state = .align ∧ (s.port (0 : Fin 16)).rxLanes.getLsbD (7 : Fin 8) = true)
    ∧ (let s := linked { state := .up, rxLanes := 0xFF, txLanes := 0xFF }
       let u := (s.modPort (0 : Fin 16) (fun q => { q with rxLanes := 0x7F })).raise 0x0703 0 0
       s.awake = true ∧ (s.port (0 : Fin 16)).aligned = true ∧ (s.port (0 : Fin 16)).rxLanes.getLsbD (7 : Fin 8) = true
         ∧ s.minLanes (0 : Fin 16) ≤ popCount (u.port (0 : Fin 16)).rxLanes ∧ s.minLanes (0 : Fin 16) ≤ popCount (u.port (0 : Fin 16)).txLanes)
    ∧ (let s := linked { state := .up, rxLanes := 0x80, txLanes := 0xFF }
       let u := (s.modPort (0 : Fin 16) (fun q => { q with rxLanes := 0 })).raise 0x0703 0 0
       (s.port (0 : Fin 16)).rxLanes.getLsbD (7 : Fin 8) = true ∧ (u.port (0 : Fin 16)).state = .up
         ∧ popCount (u.port (0 : Fin 16)).rxLanes < s.minLanes (0 : Fin 16))
    ∧ (let s := linked { state := .discover, rxRestripe := true }
       (s.port (0 : Fin 16)).aligned = true ∧ (s.port (0 : Fin 16)).rxRestripe = true)
    ∧ (let s := linked { state := .down }
       (s.port (0 : Fin 16)).state = .down ∧ nbit (s.port (0 : Fin 16)).ctl.toNat 29 = true ∧ nbit (s.port (0 : Fin 16)).ctl.toNat 27 = false)
    ∧ (let s := linked { state := .loopback }
       (s.port (0 : Fin 16)).state = .loopback ∧ (s.laneMask (0 : Fin 16)).getLsbD (7 : Fin 8) = true) := by decide +kernel

theorem witness_LinkStatesComplete_writes :
    ((linked {}).awake = true ∧ ((linked {}).port (2 : Fin 16)).state = .up ∧ bits (0xFE00FFFFFFFFFFFF : Dword) 61 2 = 3 ∧ bits (0x4800000001000000 : Dword) 61 2 = 2 ∧ bits (0x4800000001000000 : Dword) 59 2 = 1
      ∧ bits (0x2000000001000000 : Dword) 61 2 = 1 ∧ bits (0x2000000001000000 : Dword) 59 2 = 0)
    ∧ (codeOk 15 = true ∧ codeOk 0x1F = true ∧ codeOk 16 = false ∧ (linked {}).deckUses (4095 : Fin 4096) = false
      ∧ codeOk (bits (0x000F1F00 : Word) 24 5) = true ∧ codeOk (bits (0x000F1F00 : Word) 16 5) = true ∧ codeOk (bits (0x000F1F00 : Word) 8 5) = true)
    ∧ (let s := linked {}
       (s.port (0 : Fin 16)).state = .disabled ∧ 65 ≤ bits (0x1A001A00 : Word) 0 16 ∧ bits (0x1A001A00 : Word) 0 16 ≤ bits (0x1A001A00 : Word) 16 16
         ∧ (s.port (0 : Fin 16)).reserve 0 + (s.port (0 : Fin 16)).reserve 1 + (s.port (0 : Fin 16)).reserve 2 + (s.port (0 : Fin 16)).reserve 3
           - (s.port (0 : Fin 16)).reserve (3 : Fin 4) + bits (0x1A001A00 : Word) 0 16 ≤ s.kittySize (0 : Fin 16) / 2) := by decide +kernel

/-- A control block of R325: the CRC-32C over its first 56 bytes closes it. -/
def ctlBlock (first : List Byte) : List Byte :=
  let b := first ++ List.replicate (56 - first.length) 0
  b ++ leBytes 4 (crc32c b).toNat ++ [0, 0, 0, 0]

theorem witness_PacketsMoveOnLinks_blocks :
    (let s := linked { state := .align }
     s.pkg.thermtrip = false ∧ (s.port (0 : Fin 16)).state = .align ∧ tget 0 (s.port (0 : Fin 16)).fi 4 = 0 ∧ (s.port (0 : Fin 16)).hdrAt = none)
    ∧ (let s := linked { state := .up, hdrAt := some 4167, hdrNext := some 4167, markerDue := true }
       s.pkg.thermtrip = false ∧ tget 0 (s.port (0 : Fin 16)).fi 4 = 0 ∧ (s.port (0 : Fin 16)).aligned = true ∧ (s.port (0 : Fin 16)).resend = [] ∧ (s.port (0 : Fin 16)).hdrAt = some 4167)
    ∧ (let s := linked { state := .discover, txLanes := 0xFF }
       let b := ctlBlock [0, 0, 0, 15, 2, 0, 0x7F]
       (s.port (0 : Fin 16)).state = .discover ∧ leAt b 56 4 = (crc32c (b.take 56)).toNat ∧ nbits (leAt b 0 4) 24 4 = 15
         ∧ BitVec.ofNat 8 (leAt b 6 1) &&& s.laneMask (0 : Fin 16) ≠ (s.port (0 : Fin 16)).txLanes ∧ nbit (leAt b 4 1) 0 = false)
    ∧ ((linked { state := .up, searching := true }).port (0 : Fin 16)).searching = true
    ∧ (let s := linked { state := .up, txLanes := 0xFF, rxLocked := true, replay := [⟨syncPkt 5 3, 0, 0⟩] }
       let b := ctlBlock [0, 0, 0, 15, 2, 0, 0xFF]
       (s.port (0 : Fin 16)).aligned = true ∧ (s.port (0 : Fin 16)).rxLocked = true ∧ (s.port (0 : Fin 16)).searching = false ∧ (s.port (0 : Fin 16)).replay ≠ []
         ∧ leAt b 56 4 = (crc32c (b.take 56)).toNat ∧ nbits (leAt b 0 4) 24 4 = 15
         ∧ BitVec.ofNat 8 (leAt b 6 1) &&& s.laneMask (0 : Fin 16) = (s.port (0 : Fin 16)).txLanes ∧ nbit (leAt b 4 1) 0 = false
         ∧ nbits (leAt (ctlBlock [0, 0, 0, 14]) 0 4) 24 4 ≠ 15
         ∧ leAt (List.replicate 64 0) 56 4 ≠ (crc32c (((List.replicate 64 0 : List Byte)).take 56)).toNat) := by decide +kernel

/-- A kitty that holds a packet to package `dst` behind route code `code`. -/
def through (code : Nat) : State :=
  linked { state := .up, kitty := [{ pkt := { syncPkt 5 3 with dst := 4095 } }],
           routes := [(4095, BitVec.ofNat 32 (code * 0x01010100))] }

theorem witness_PacketsMoveOnLinks_packets :
    (let s := linked {}
     s.pkg.thermtrip = false ∧ (s.port (2 : Fin 16)).sending = true ∧ s.nextClass (2 : Fin 16) = some 1 ∧ (s.port (2 : Fin 16)).txq = syncPkt 5 3 :: []
       ∧ s.sendReady (2 : Fin 16) (syncPkt 5 3) = true)
    ∧ (let r : ReplayPkt := ⟨syncPkt 5 3, 0xFFFFFF, 0⟩
       let s := linked { reorder := some (r, true) }
       s.pkg.thermtrip = false ∧ (s.port (0 : Fin 16)).restriping = false ∧ (s.port (0 : Fin 16)).reorder = some (r, true))
    ∧ (through 1).passing (0 : Fin 16) (1 : Fin 4) = some ({ syncPkt 5 3 with dst := 4095 }, some 2)
    ∧ ((through 1).port 2).state = .up
    ∧ (through 0x1F).passing (0 : Fin 16) (1 : Fin 4) = some ({ syncPkt 5 3 with dst := 4095 }, none)
    ∧ (((through 1).freeKitty (0 : Fin 16) (fun x => x.pkt = { syncPkt 5 3 with dst := 4095 })).map (·.1)) = some { syncPkt 5 3 with dst := 4095 }
    ∧ (let k : KittyPkt := { pkt := { syncPkt 5 3 with dst := 4095 } }
       ((through 1).port (0 : Fin 16)).kitty = k :: [] ∧ k.freed = false ∧ k.stalled = false ∧ k.pkt.cls.toNat = 1) := by decide +kernel

theorem witness_PacketsArriveAsSent :
    let s := linked { state := .up, rxLocked := true }
    let k : Packet := { dataPkt with payload := List.replicate 4096 7 }
    (s.port (0 : Fin 16)).state = .up ∧ (s.port (0 : Fin 16)).rxLocked = true ∧ (s.port (0 : Fin 16)).searching = false ∧ k.payload.length % 64 = 0 ∧ k.payload.length ≤ 4096
      ∧ k.malformed (k.payload.length / 64) = false := by decide +kernel

/-! ## Witnesses: Meld -/

/-- Job 5 in its started step with context 7 of engine 0 in slot 0: one source of one FP32 element at address 0, and one shard. -/
def melding (kind : Nat) (sync : Dword) (shard : Word) (fs : List Firing) : State :=
  { ringed [] [] [] [(0, { job5 with run := some startedRun })] with
    objs := [(0, { job := 5, kind := 0 })]
    melds := [(0, {
      ctxs := [(0, { key := 0x8005007000000000 + BitVec.ofNat 64 (kind * 2 ^ 32), shape := 0x100000000, tables := 0x800000100000, sync := sync })]
      sources := [(0, (0, 1))], shards := [(0, shard)], firings := fs })] }

def meldPkt (ptype op num : Nat) (fs : List (Nat × Nat × Nat)) : Packet :=
  meldPacket 1 0 { key := 0x8005007000000000 } ptype 3 num 0 0 (mkSpec ((32, 1, op) :: fs)) [] false

theorem meld_takesMeld (want : Packet → Bool) (p : Packet) (s : State) (h : s.noc = []) (h1 : want p = true) (h2 : s.meldFate p = .use 0 0 0) :
    (arrived p s).takesMeld .noc want p s 0 0 0 :=
  ⟨arrived_takes _ _ h, h1, h2⟩

theorem witness_takesMeld :
    (∀ op ∈ [1, 2, 3, 4, 5], isMeldCtl op (meldPkt 6 op 0 []) = true ∧ (melding 0 0 0 []).meldFate (meldPkt 6 op 0 []) = .use 0 0 0)
    ∧ (meldPkt 5 0 0 []).ptype.toNat = ptMeldData ∧ (melding 0 0 0 []).meldFate (meldPkt 5 0 0 []) = .use 0 0 0 := by decide +kernel

theorem witness_MeldCompletes_trigger :
    let s := melding 3 0x10000 0xC0000000 []
    s.findJob (s.mctx (0 : Fin 2) (0 : Fin 512)).job = some 0 ∧ (s.mctx (0 : Fin 2) (0 : Fin 512)).valid = true
      ∧ (s.mctx (0 : Fin 2) (0 : Fin 512)).trigStep ≠ 0 ∧ (s.mctx (0 : Fin 2) (0 : Fin 512)).srcCount ≠ 0 ∧ s.meldLive 0 = true
      ∧ s.homeWaits 0 (s.mctx (0 : Fin 2) (0 : Fin 512)) = false ∧ (s.job 0).objectOf (s.mctx (0 : Fin 2) (0 : Fin 512)).trigObj = some 0
      ∧ reached (s.obj 0).value (BitVec.ofNat 32 ((s.mctx (0 : Fin 2) (0 : Fin 512)).trigBase
          + (s.mctx (0 : Fin 2) (0 : Fin 512)).started * (s.mctx (0 : Fin 2) (0 : Fin 512)).trigStep)) = true := by decide +kernel

theorem witness_MeldCompletes_control :
    (let f : Firing := { slot := 0, number := 2 }
     let v := (melding 0 0 0x41000000 [f]).meldCount 0 0 1
     bits (meldPkt 6 2 2 []).handle 12 12 = 0 ∧ tagMb (meldPkt 6 2 2 []).tag = 2 ∧ v.shardOk 0 (v.mctx 0 0) 0 = true ∧ v.firing 0 0 2 = some f
       ∧ (f.children.filter (fun h => h.shard = 0)).length < shardUp (v.shardWord 0 (v.mctx 0 0) 0) ∧ (v.mctx 0 0).spreads = false)
    ∧ (let v := ((melding 3 0 0x40000001 []).meldCount 0 0 1).applyAmb {}
       v.shardOk 0 (v.mctx 0 0) 0 = true ∧ shardRoot (v.shardWord 0 (v.mctx 0 0) 0) = false ∧ (v.mctx 0 0).trigStep = 0)
    ∧ (let p := meldPkt 6 3 0 []
       let s := (melding 3 0x10000 0x40000001 []).modMctx 0 0 (fun c => { c with tables := 0x100000 })
       let v := (s.meldCount 0 0 1).applyAmb {}
       let w := ((v.meldSend 0 { p with dst := shardParent (v.shardWord 0 (v.mctx 0 0) 0) }).haveFiring 0 0 (tagMb p.tag)).modFiring 0 0 (tagMb p.tag)
         (fun f => { f with demanded := true })
       s.meldFate p = .use 0 0 0 ∧ v.shardOk 0 (v.mctx 0 0) 0 = true ∧ shardRoot (v.shardWord 0 (v.mctx 0 0) 0) = false
         ∧ (v.mctx 0 0).trigStep ≠ 0 ∧ (v.mctx 0 0).srcCount = 0 ∧ w.meldLive 0 = true ∧ tagMb p.tag = (v.mctx 0 0).started
         ∧ w.homeWaits 0 (v.mctx 0 0) = false ∧ (w.meld 0).firings.length = 0 + 1)
    ∧ (let v := ((melding 3 0 0xC0000000 []).meldCount 0 0 1).applyAmb {}
       v.shardOk 0 (v.mctx 0 0) 0 = true ∧ shardRoot (v.shardWord 0 (v.mctx 0 0) 0) = true ∧ (v.mctx 0 0).trigStep = 0
         ∧ (answerDemand 0 0 0 0 0 1 (v.meldSources 0 (v.mctx 0 0)) 0 (List.range ((v.mctx 0 0).slabsIn 0)) v).2 = none) := by decide +kernel

theorem witness_MeldCompletes_data :
    (let p := meldPkt 5 0 0 [(36, 2, 1)]
     let x : Slab := { shard := 0, index := 0 }
     let f : Firing := { slot := 0, number := 0, started := true, slabs := [x] }
     let v := (melding 0 0 0xC1000000 [f]).meldCount 0 0 1
     v.shardOk 0 (v.mctx 0 0) 0 = true ∧ ((v.mctx 0 0).shardRange 0).1 ≤ p.spec 32 4 ∧ p.spec 32 4 + p.spec 36 2 ≤ ((v.mctx 0 0).shardRange 0).2
       ∧ v.firing 0 0 (tagMb p.tag) = some f ∧ f.slab 0 (0 / 1024) = some x ∧ p.poison = false ∧ p.spec 38 1 ≠ 3 ∧ (v.mctx 0 0).reduces = true
       ∧ x.got < shardUp (v.shardWord 0 (v.mctx 0 0) 0) ∧ x.dealt = false ∧ x.sent = false)
    ∧ (let f : Firing := { slot := 0, number := 0, started := true }
       let s := melding 3 0 0xC0000000 [f]
       s.findJob (s.mctx (0 : Fin 2) (0 : Fin 512)).job = some 0 ∧ (s.activeFirings (0 : Fin 2) (0 : Fin 512)).find? (fun f => s.firingOver (0 : Fin 2) (0 : Fin 512) f) = some f
         ∧ f.version = none ∧ (s.mctx (0 : Fin 2) (0 : Fin 512)).kind = 3)
    ∧ (melding 3 0 0 []).awake = true ∧ live.awake = true
    ∧ ((live.mctx (1 : Fin 2) (511 : Fin 512)).valid = false ∧ ((live.mctx (1 : Fin 2) (511 : Fin 512)).write 0 0x8000000000000000).valid = true
      ∧ ((live.mctx (1 : Fin 2) (511 : Fin 512)).write 0 0x8000000000000000).contribs = 0)
    ∧ (melding 3 0 0 []).sourceHeld (0 : Fin 2) ((melding 3 0 0 []).meld (0 : Fin 2)).srcIndex.toNat = true
    ∧ live.sourceHeld (1 : Fin 2) (live.meld (1 : Fin 2)).srcIndex.toNat = false
    ∧ (live.meld (1 : Fin 2)).ctxs.any (fun (x : Nat × MeldCtx) => x.2.valid) = false := by decide +kernel

/-- A keep entry of context 7 that a queued instruction of tile 0 pins at version 4. -/
def keeping : State :=
  let s := (melding 3 0 0xC0000000 []).modJob 0 (fun j => { j with jobSlots := 1, versions := [(0, { tag := 4, state := 2 })] })
  { s with
    dealer := { s.dealer with keeps := [(127, { valid := true, job := 5, recipe := 7, size := 1 })] }
    tiles := [(0, { streams := [(0, { ops := [{ sendOp .queued with pins := [127], tag := mkTag 5 0 0 0 4 0 0 0 0 3 }] })] })] }

theorem witness_MeldCompletes_keep :
    let s := keeping
    let x := tget {} s.dealer.keeps (127 : Fin 128)
    let m := s.mctx 0 0
    let order := ((s.partShards 0 m).map (fun sh => (List.range (m.slabsIn sh)).map (fun i => (sh, i)))).flatten
    let own := order.filter (fun y => shardRoot (s.shardWord 0 m y.1))
    let u := (s.applyAmb {}).gatherStart 0 (127 : Fin 128) 4
    let w := ((u.haveFiring 0 0 0).modFiring 0 0 0 (fun f => { f with
      started := true, version := none, recipe := some 127, home := some 127, slabs := order.map (fun y => { shard := y.1, index := y.2 }) })).modMctx 0 0
        (fun y => { y with started := y.started + 1 })
    s.findJob x.job.toNat = some 0 ∧ s.findCtx x.job.toNat x.recipe.toNat = some (0, 0) ∧ x.valid = true ∧ x.state = 0
      ∧ s.keepWanted (127 : Fin 128) 4 = true ∧ m.kind = 3 ∧ m.trigStep = 0 ∧ s.gatherWaits (127 : Fin 128) = false ∧ u.hasJob 0 = true
      ∧ (∀ y ∈ s.meldSources 0 m, y.versionRel = false) ∧ own = [(0, 0)]
      ∧ (readAll 0 0 0 0 4 ((s.meldSources 0 m).map (fun y => own.map (fun a => (y, a.1, a.2)))).flatten w).2 = none := by decide +kernel

/-! ## Witnesses: loads, cuts and recovery -/

def loading (l : Load) (mem : List Byte) : State := ringed [] [] mem [(0, { job5 with loads := [(1, l)] })]

/-- A load image segment header: 64 bytes for a package at address 0. -/
def segHeader (dest : Byte) : List Byte :=
  let h : List Byte := [0x47, 0x4C, 0, 0, dest, 0, 0, 0] ++ List.replicate 8 0 ++ [64] ++ List.replicate 39 0
  h ++ leBytes 4 (crc32c h).toNat ++ [0, 0, 0, 0]

theorem witness_LoadsAndCutsComplete_requests :
    (let p := bulkRequest 1 0 5 1 3 1
     let s := loading { active := true, background := true } []
     isLoadReq 1 p = true ∧ s.findJob (tagJob p.tag) = some 0 ∧ s.loadRuns 0 (bits p.handle 16 4) = true
       ∧ (s.load 0 (bits p.handle 16 4)).readyDown = false ∧ (loading {} []).loadRuns 0 (bits p.handle 16 4) = false)
    ∧ (let p := bulkRequest 1 0 5 1 3 2
       let s := loading { active := true, background := true, head := true } []
       isLoadReq 2 p = true ∧ s.findJob (tagJob p.tag) = some 0 ∧ (s.load 0 (bits p.handle 16 4)).active = true
         ∧ (s.load 0 (bits p.handle 16 4)).background = true ∧ (s.load 0 (bits p.handle 16 4)).head = true)
    ∧ (let p := bulkRequest 1 0 5 1 3 2
       let s := loading { active := true, background := true, up := 2 } []
       (s.load 0 (bits p.handle 16 4)).head = false ∧ p.src ≠ (s.load 0 (bits p.handle 16 4)).up) := by decide +kernel

/-- The head reads a segment for package 1, or for itself. -/
theorem witness_LoadsAndCutsComplete_head :
    let l : Load := { active := true, background := true, head := true, readyDown := true, image := 0x800000020000, imageBytes := 192 }
    ∀ dest ∈ ([0, 1] : List Byte), let h := segHeader dest
      let s := (loading l (h ++ List.replicate 64 9)).applyAmb {}
      s.load (0 : Fin 16) (1 : Fin 16) = l ∧ s.loadRuns (0 : Fin 16) (1 : Fin 16) = true ∧ s.host.attached = true ∧ l.readPos + 64 ≤ l.imageBytes
        ∧ leAt h 0 2 = 0x4C47 ∧ leAt h 56 4 = (crc32c (h.take 56)).toNat ∧ leAt h 2 2 = 0
        ∧ leAt h 4 2 = dest.toNat ∧ s.self.toNat = 0 ∧ leAt h 6 2 = 0 ∧ leAt h 8 8 < 2 ^ 48
        ∧ leAt h 28 28 = 0 ∧ leAt h 60 4 = 0 ∧ leAt h 24 4 = 0
        ∧ l.readPos + 64 + (leAt h 16 8 + 63) / 64 * 64 < l.imageBytes
        ∧ (match s.hubWindow (0 : Fin 16) (l.image.toNat + l.readPos) 64 with
           | (u, .ok b) => decide (b = h) && (match u.hubWindow (0 : Fin 16) (l.image.toNat + l.readPos + 64) 64 with
             | (v, .ok _) => (v.loadTarget (0 : Fin 16) l false 0 64).isSome
             | _ => false)
           | _ => false) = true := by decide +kernel

theorem witness_LoadsAndCutsComplete_keep :
    let p := loadPacket 1 0 5 1 3 0 7 0 1 (List.replicate 64 9) false
    let s := loading { active := true, background := true, tail := true } []
    let v := s.modLoad 0 1 (fun l => { l with
      segments := max l.segments (min (p.spec 40 4 + 1) (2 ^ 24 - 1)), total := max l.total (p.spec 40 4 + 1), segAt := some (p.spec 40 4, p.spec 32 8) })
    s.host.pcieOnly = false ∧ (s.load 0 1).segAt.map (·.1) ≠ some (p.spec 40 4) ∧ p.ptype = 7 ∧ bits p.handle 12 4 = 1
      ∧ s.findJob (tagJob p.tag) = some 0 ∧ bits p.handle 16 4 = 1 ∧ s.loadRuns 0 1 = true ∧ (s.load 0 1).head = false ∧ (s.load 0 1).tail = true ∧ p.spec 46 2 = 1
      ∧ v.loadTarget 0 (s.load 0 1) false (p.spec 32 8) (min (p.spec 48 2) p.payload.length) = some 0 := by decide +kernel

theorem witness_LoadsAndCutsComplete_forward :
    let p := loadPacket 1 0 5 1 3 0 7 9 0 (List.replicate 64 9) false
    let s := loading { active := true, background := true, down := 2 } []
    s.host.pcieOnly = false ∧ (s.load 0 1).segAt.map (·.1) ≠ some (p.spec 40 4) ∧ p.ptype = 7 ∧ bits p.handle 12 4 = 1
      ∧ s.findJob (tagJob p.tag) = some 0 ∧ bits p.handle 16 4 = 1 ∧ s.loadRuns 0 1 = true ∧ (s.load 0 1).head = false ∧ (s.load 0 1).tail = false ∧ p.spec 46 2 = 0 ∧ p.spec 44 2 % 4096 ≠ s.self.toNat := by decide +kernel

/-- A cut write that ends at the end of stack 3's cut region. -/
def cutPkt : Packet := cutPacket 7 0 5 3 2 3 (2 * 512 * mib - 64) (List.replicate 64 9)

def watched0 : Watched := { job := 5, partner := 7, cutOff := 0, cutMib := 1, half := true, cutStep := 3 }

theorem witness_LoadsAndCutsComplete_cuts :
    (let s := ringed [] [] [] [(0, { job5 with cutCopy := some 3 })]
     (s.job (0 : Fin 16)).cutCopy.isSome = true ∧ (s.job (0 : Fin 16)).cutReady = false ∧ (s.job (0 : Fin 16)).cutBad = false)
    ∧ (cutPkt.ptype = 7 ∧ bits cutPkt.handle 12 4 = 2 ∧ cutPkt.spec 40 4 % 4 = 3 ∧ min (cutPkt.spec 48 2) cutPkt.payload.length = 64
      ∧ cutPkt.spec 32 8 + 64 = (live.cutRegion 3).2 ∧ live.gddrFailed 3 = false)
    ∧ (let p := cutRequest 1 0 5 3 true 7 3 0 0
       p.ptype = 8 ∧ bits p.handle 12 4 = 3 ∧ p.spec 32 1 = 3
         ∧ readCut (fun k => live.wardBytes k (p.spec 33 1 % 2) (p.spec 40 2 * mib) (p.spec 42 2 * mib)) (tagJob p.tag) (p.spec 36 4) = .more)
    ∧ (let p := cutPacket 7 0 5 3 3 3 0 (List.replicate 32 9)
       let s := { live with recov := { takeover := some (1, [watched0]) } }
       p.ptype = 7 ∧ bits p.handle 12 4 = 3 ∧ s.recov.takeover = some (1, [watched0])
         ∧ [watched0].find? (fun w => w.job.toNat = tagJob p.tag) = some watched0 ∧ s.recov.restore = [] ∧ p.spec 40 4 % 4 = 3
         ∧ p.poison = false ∧ p.spec 32 8 = 0 ∧ readCut (fun i => if i = 3 then p.payload.take (p.spec 48 2) else []) (tagJob p.tag)
             watched0.cutStep.toNat = .more)
    ∧ (let p := cutRequest 7 0 6 4 true 7 3 0 0
       let s := ringed [] [] [] [(0, job5)]
       p.ptype = 8 ∧ bits p.handle 12 4 = 3 ∧ p.spec 32 1 = 4 ∧ s.findJob (tagJob p.tag) = none)
    ∧ (let p := cutRequest 7 0 5 4 true 7 3 0 0
       let s := ringed [] [] [] [(0, job5)]
       p.ptype = 8 ∧ bits p.handle 12 4 = 3 ∧ p.spec 32 1 = 4 ∧ s.findJob (tagJob p.tag) = some 0 ∧ s.leadOf (s.job 0) = s.self
         ∧ BitVec.ofNat 12 (p.spec 34 2) = p.src) := by decide +kernel

/-- The records of a cut without data: a Dealer record of step 3, and the trailer that counts it. -/
def cutBytes0 : List Byte :=
  CutRec.bytes ⟨3, 0, 5, 0, 3, 3 :: List.replicate 31 0⟩ 0 ++ CutRec.bytes ⟨0x0F, 0, 5, 0, 3, []⟩ 1

/-- Job 5, led by package 1, with its self copy at the start of its GDDR7 slice. -/
def restorable : State :=
  { ringed [] [] [] [(0, { job5 with
      restoring := true, gddrGroups := 1, cut := 0x40000800, cutSelf := BitVec.ofNat 64 gddrBase, cutSize := 1, cutStep := 3, trkCtl := 0x10000 })] with
    mem := (cellsAt gddrBase cutBytes0).filter (fun c => decide (c.2 ≠ 0)) }

theorem restorable_heads :
    leAt (cutBytes0.take 64) 0 2 = 0x4354 ∧ leAt (cutBytes0.take 64) 2 1 = 3 ∧ leAt (cutBytes0.take 64) 16 8 = 32
      ∧ leAt (cutBytes0.take 64) 3 1 = 0 ∧ leAt (cutBytes0.take 64) 4 2 = 5 ∧ leAt (cutBytes0.take 64) 8 8 = 0
      ∧ leAt (cutBytes0.take 64) 24 4 = 3 ∧ (cutBytes0.drop 64).take 32 = 3 :: List.replicate 31 0
      ∧ leAt (cutBytes0.drop 128) 0 2 = 0x4354 ∧ leAt (cutBytes0.drop 128) 2 1 = 0x0F
      ∧ leAt (cutBytes0.drop 128) 32 4 = 1 ∧ leAt (cutBytes0.drop 128) 4 2 = 5 ∧ leAt (cutBytes0.drop 128) 24 4 = 3 := by decide +kernel

theorem restorable_crcs :
    leAt (cutBytes0.take 64) 56 4 = (crc32c ((cutBytes0.take 64).take 56)).toNat
      ∧ leAt (cutBytes0.take 64) 28 4 = (crc32c (3 :: List.replicate 31 0)).toNat
      ∧ leAt (cutBytes0.drop 128) 56 4 = (crc32c ((cutBytes0.drop 128).take 56)).toNat := by decide +kernel

theorem restorable_length : cutBytes0.length = 192 := by decide +kernel

theorem restorable_half (k : Nat) (rest : List Byte) :
    parseCut (k + 2) (cutBytes0 ++ rest) [] = .done [⟨3, 0, 5, 0, 3, 3 :: List.replicate 31 0⟩] 5 3 := by
  obtain ⟨a1, a2, a3, a4, a5, a6, a7, a8, b1, b2, b3, b4, b5⟩ := restorable_heads
  obtain ⟨c1, c2, c3⟩ := restorable_crcs
  have h1 := restorable_length
  have h2 : (cutBytes0.drop 128).length = 64 := by simp [h1]
  generalize cutBytes0 = b at *
  have t1 : (b ++ rest).take 64 = b.take 64 := List.take_append_of_le_length (by omega)
  have t2 : ((b ++ rest).drop 64).take 32 = (b.drop 64).take 32 := by
    rw [List.drop_append_of_le_length (by omega)]; exact List.take_append_of_le_length (by simp [h1])
  have t3 : (b ++ rest).drop 128 = b.drop 128 ++ rest := List.drop_append_of_le_length (by omega)
  have t4 : (b.drop 128 ++ rest).take 64 = b.drop 128 := by
    rw [List.take_append_of_le_length (by omega)]; exact List.take_of_length_le (by omega)
  have n1 : ¬ (b ++ rest).length < 64 := by rw [List.length_append]; omega
  have n2 : ¬ (b ++ rest).length < 64 + 32 := by rw [List.length_append]; omega
  have n3 : ¬ (b.drop 128 ++ rest).length < 64 := by rw [List.length_append]; omega
  have e : (64 + (32 + 63) / 64 * 64 : Nat) = 128 := by decide
  rw [parseCut, if_neg n1]
  simp only [t1, t2, a1, a2, a3, a4, a5, a6, a7, a8, c1, c2, n2, e, t3]
  rw [parseCut]
  rw [if_neg n3]
  simp [t4, b1, b2, b3, b4, b5, c3]

theorem memRead_split (s : State) (a m k : Nat) : s.memRead a (m + k) = s.memRead a m ++ s.memRead (a + m) k := by
  simp [State.memRead, List.range_add, Function.comp_def, Nat.add_assoc]

theorem restorable_self : ∃ rest, restorable.selfBytes 0 0 0 = cutBytes0 ++ rest ∧ (cutBytes0 ++ rest).length = 1048576 := by
  have r : restorable.resolve 0 (8 * (restorable.job 0).first) ((restorable.job 0).selfHalf 0 0 : Nat) = some (.gddr 0, gddrBase) := by
    decide +kernel
  have c : (restorable.job 0).cutMib = 192 + 1048384 := by decide +kernel
  have p : restorable.memRead gddrBase 192 = cutBytes0 := by decide +kernel
  refine ⟨restorable.memRead (gddrBase + 192) 1048384, ?_, ?_⟩
  · rw [State.selfBytes, State.viewBytes, r, c]
    show restorable.memRead gddrBase (192 + 1048384) = _
    rw [memRead_split, p]
  · rw [← p, ← memRead_split, State.memRead, List.length_map, List.length_range]

theorem readCut_one (half : Nat → List Byte) (rs : List CutRec) (job step : Nat) (d : List Byte) (h : parseHalf (half 0) = .done rs job step)
    (hh : (CutParse.done rs job step).heads job step = true) (hd : dealerOf rs = some d) (hs : (cutStacks d).drop 1 = []) :
    readCut half job step = .done rs job step := by
  unfold readCut
  rw [show upFrom 0 4 = [0, 1, 2, 3] by decide]
  simp only [List.map_cons, List.find?_cons, h, hh, hd, hs, List.foldl_nil]

theorem readBack_of (s : State) (slot job : Nat) (rs : List CutRec) (d : List Byte) (h1 : nbit (s.job slot).cut.toNat 30 = true)
    (h2 : readCut (fun k => s.selfBytes slot k (bits (s.job slot).cut 29 1)) (s.job slot).id.toNat (s.job slot).cutStep.toNat
      = .done rs job (s.job slot).cutStep.toNat)
    (h3 : dealerOf rs = some d) (h4 : ∀ u, writeRecords slot rs u = (u, true))
    (h5 : (touchReads (some slot) true ((cutStacks d).map (fun k =>
      s.viewLines slot ((s.job slot).selfHalf k (bits (s.job slot).cut 29 1)) (halfLength rs k))).flatten s).2 = false) :
    ∃ v, s.readBack slot = (v, true) := by
  simp [State.readBack, h1, h2, h3, h4, h5]

theorem restorable_dealer (s : State) :
    dealerOf [⟨3, 0, 5, 0, 3, 3 :: List.replicate 31 0⟩] = some (3 :: List.replicate 31 0)
    ∧ writeRecords 0 [⟨3, 0, 5, 0, 3, 3 :: List.replicate 31 0⟩] s = (s, true) :=
  ⟨by decide +kernel, by simp [writeRecords]⟩

theorem restorable_cut : nbit (restorable.job 0).cut.toNat 30 = true ∧ bits (restorable.job 0).cut 29 1 = 0
    ∧ (restorable.job 0).id.toNat = 5 ∧ (restorable.job 0).cutStep.toNat = 3 := by decide +kernel

theorem restorable_readBack : ∃ v, restorable.readBack 0 = (v, true) := by
  obtain ⟨rest, h, l⟩ := restorable_self
  obtain ⟨g1, g2, g3, g4⟩ := restorable_cut
  obtain ⟨d, -⟩ := restorable_dealer restorable
  have e : parseHalf (restorable.selfBytes 0 0 0) = .done [⟨3, 0, 5, 0, 3, 3 :: List.replicate 31 0⟩] 5 3 := by
    rw [h, parseHalf, l, show 1048576 / 64 + 1 = 16383 + 2 by norm_num]
    exact restorable_half 16383 rest
  refine readBack_of restorable 0 5 _ _ g1 ?_ d (fun u => (restorable_dealer u).2) (by decide +kernel)
  rw [g2, g3, g4]
  exact readCut_one (fun k => restorable.selfBytes 0 k 0) _ 5 3 _ e (by decide +kernel) d (by decide +kernel)

theorem witness_LoadsAndCutsComplete_restored :
    (restorable.job (0 : Fin 16)).valid = true ∧ (restorable.job (0 : Fin 16)).endingLost = false ∧ (restorable.job (0 : Fin 16)).restoring = true
    ∧ (restorable.job (0 : Fin 16)).restored = false ∧ restorable.trk.shares = []
    ∧ restorable.leadOf (restorable.job (0 : Fin 16)) ≠ restorable.self ∧ restorable.recov.takeover = none
    ∧ (let s := { restorable with recov := { takeover := some (1, [watched0]) } }
       s.recov.takeover = some (1, [watched0]) ∧ (∃ x ∈ [watched0], x.job = (s.job (0 : Fin 16)).id) ∧ s.leadOf (s.job (0 : Fin 16)) ≠ s.self) := by
  decide +kernel

/-- The same cut in the cut region of stack 0. -/
def fetchable : State := { live with mem := (cellsAt (live.cutRegion 0).1 cutBytes0).filter (fun c => decide (c.2 ≠ 0)) }

/-- The partner finds the cut that a CUT_FETCH asks for. -/
theorem witness_LoadsAndCutsComplete_fetch :
    let p := cutRequest 1 0 5 3 false 7 3 0 1
    let rs : List CutRec := [⟨3, 0, 5, 0, 3, 3 :: List.replicate 31 0⟩]
    p.ptype = 8 ∧ bits p.handle 12 4 = 3 ∧ p.spec 32 1 = 3 ∧ p.spec 36 4 = 3 ∧ tagJob p.tag = 5
    ∧ readCut (fun k => fetchable.wardBytes k (p.spec 33 1 % 2) (p.spec 40 2 * mib) (p.spec 42 2 * mib)) 5 3 = .done rs 5 3
    ∧ dealerOf rs = some (3 :: List.replicate 31 0) ∧ (∀ k ∈ cutStacks (3 :: List.replicate 31 0), fetchable.gddrFailed k = false)
    ∧ (touchReads none true ((cutStacks (3 :: List.replicate 31 0)).map (fun k =>
        linesOf (upFrom ((fetchable.cutRegion k).1 + fetchable.wardHalf k (p.spec 33 1 % 2) (p.spec 40 2 * mib)) (halfLength rs k)))).flatten
        fetchable).2 = false := by
  have f : (cutRequest 1 0 5 3 false 7 3 0 1).spec 33 1 % 2 = 0 ∧ (cutRequest 1 0 5 3 false 7 3 0 1).spec 40 2 * mib = 0
      ∧ (cutRequest 1 0 5 3 false 7 3 0 1).spec 42 2 * mib = 192 + 1048384 := by decide +kernel
  have p : fetchable.memRead ((fetchable.cutRegion 0).1 + fetchable.wardHalf 0 0 0) 192 = cutBytes0 := by decide +kernel
  have w : fetchable.wardBytes 0 0 0 (192 + 1048384) = cutBytes0 ++ fetchable.memRead ((fetchable.cutRegion 0).1 + fetchable.wardHalf 0 0 0 + 192) 1048384 := by
    rw [State.wardBytes, memRead_split, p]
  have l : (fetchable.wardBytes 0 0 0 (192 + 1048384)).length = 1048576 := by simp [State.wardBytes, State.memRead]
  have e : parseHalf (fetchable.wardBytes 0 0 0 (192 + 1048384)) = .done [⟨3, 0, 5, 0, 3, 3 :: List.replicate 31 0⟩] 5 3 := by
    rw [parseHalf, l, w, show 1048576 / 64 + 1 = 16383 + 2 by norm_num]
    exact restorable_half 16383 _
  refine ⟨by decide +kernel, by decide +kernel, by decide +kernel, by decide +kernel, by decide +kernel, ?_, (restorable_dealer live).1,
    by decide +kernel, by decide +kernel⟩
  simp only [f.1, f.2.1, f.2.2]
  exact readCut_one (fun k => fetchable.wardBytes k 0 0 (192 + 1048384)) _ 5 3 _ e (by decide +kernel) (restorable_dealer live).1 (by decide +kernel)

/-- The Dealer record of a job in group 0, and the bytes of its cut with the image record. -/
def dealer0 : List Byte := 3 :: List.replicate 15 0 ++ [1] ++ List.replicate 15 0

def cut0 : List CutRec := [⟨4, 0, 5, 0, 3, []⟩, ⟨3, 0, 5, 0, 3, dealer0⟩]

def cutBytes1 : List Byte := (cut0.map (fun r => r.bytes 0)).flatten ++ CutRec.bytes ⟨0x0F, 0, 5, 0, 3, []⟩ 2

/-- The last packet of a fetched cut: its records are complete, and the job has a place (what a deck image decodes to is left open, log 10). -/
theorem witness_LoadsAndCutsComplete_placed (h : Config.decodeDeck [] = some {}) :
    (let p := cutPacket 7 0 5 3 3 0 0 cutBytes1
     p.ptype = 7 ∧ bits p.handle 12 4 = 3 ∧ p.spec 40 4 % 4 = 0 ∧ p.poison = false ∧ p.spec 32 8 = 0
       ∧ p.payload.take (p.spec 48 2) = cutBytes1 ∧ tagJob p.tag = 5)
    ∧ readCut (fun i => if i = 0 then cutBytes1 else []) 5 watched0.cutStep.toNat = .done cut0 5 watched0.cutStep.toNat
    ∧ (({ ringed [] [] [] [] with recov := { takeover := some (1, [watched0]) } } : State).placeCut watched0 cut0).2 = true := by
  refine ⟨by decide +kernel, by decide +kernel, ?_⟩
  have a : dealerOf cut0 = some dealer0 ∧ (cut0.find? (fun r => r.rkind = 4)).map (·.data) = some ([] : List Byte) := by decide +kernel
  have f : (({ ringed [] [] [] [] with recov := { takeover := some (1, [watched0]) } } : State).freeJobSlot) = some 0 := by decide +kernel
  unfold State.placeCut
  rw [a.1, a.2, f]
  simp only [h]
  decide +kernel

theorem witness_RecoveryCompletes_tiles :
    (∀ i < 34, ((1 : BitVec 34) <<< 33).getLsbD i = decide (i = (33 : Fin 34).val))
    ∧ live.pkg.inReset = false
    ∧ (live.logicalOf (3 : Fin 4) (31 : Fin 34) = some 127 ∧ live.tileStateOf (3 : Fin 4) (31 : Fin 34) = 0
      ∧ live.spares (3 : Fin 4) = 32 :: [33])
    ∧ (let s := { live with tiles := [(127, { fenced := true, exempt := true })] }
       (∃ L : Fin 128, (s.tile L).fenced = true ∧ (s.tile L).exempt = true ∧ s.slotOfTile L = none ∧ ∀ n < 3, s.trickOf L n = none))
    ∧ ((tget (0, 0) live.pkg.d2d (83 : Fin 84)).1 < 2 ∧ live.jobSlots = []) := by decide +kernel

theorem witness_RecoveryCompletes_packages :
    (let s := ringed [] [] [] [(0, { job5 with deck := { packages := [0, 4095] } })]
     s.tel.heartbeat = true ∧ s.tel.mcReset = false ∧ s.pkg.inReset = false ∧ (4095 : BitVec 12) ∉ s.recov.lost ∧ (4095 : BitVec 12) ≠ s.self
       ∧ s.jobSlots = [0] ∧ (4095 : BitVec 12) ∈ s.deckOf (s.job 0)
       ∧ ({ s with recov := { s.recov with lost := s.recov.lost ++ [4095] } } : State).leadOf (s.job 0) = s.self)
    ∧ (let s := { ringed [] [] [] [(0, { job5 with deck := { packages := [0, 4095] } })] with ports := [(15, { relink := some 4095 })] }
       (s.port (15 : Fin 16)).relink = some 4095 ∧ s.jobSlots = [0] ∧ (4095 : BitVec 12) ∈ s.deckOf (s.job 0) ∧ s.leadOf (s.job 0) = s.self
         ∧ s.self.toNat < (4095 : BitVec 12).toNat ∧ (4095 : BitVec 12) ∉ s.recov.lost ∧ s.self ∉ s.recov.lost ∧ s.tel.heartbeat = true)
    ∧ (let s := { ringed [] [] [] [(0, { job5 with deck := { packages := [0, 4095] }, trkCtl := 0x10000 })] with ports := [(15, { relink := some 4095 })] }
       (s.port (15 : Fin 16)).relink = some 4095 ∧ s.jobSlots = [0] ∧ (4095 : BitVec 12) ∈ s.deckOf (s.job 0) ∧ s.leadOf (s.job 0) ≠ s.self
         ∧ (4095 : BitVec 12) ∉ s.recov.lost ∧ s.tel.heartbeat = true)
    ∧ (({ live with ports := [(15, { relink := some 4095 })] }.port (15 : Fin 16)).relink = some 4095 ∧ live.jobSlots = []) := by decide +kernel

theorem witness_RecoveryCompletes_messages :
    (let p := mgmtPacket 1 0 1 1 0 watched0.bytes
     p.ptype = 9 ∧ p.mgmtKind = 1 ∧ p.mgmtJobs = [watched0])
    ∧ (let p := mgmtPacket 1 0 3 0 0 []
       p.ptype = 9 ∧ p.mgmtKind = 3 ∧ p.mgmtJobs = [])
    ∧ (let p := mgmtPacket 1 0 3 1 0 watched0.bytes
       p.ptype = 9 ∧ p.mgmtKind = 3 ∧ p.mgmtJobs = [watched0] ∧ (ringed [] [] [] [(0, job5)]).findJob watched0.job.toNat = some 0)
    ∧ (let p := mgmtPacket 1 0 5 0 9 []
       p.ptype = 9 ∧ p.mgmtKind = 5)
    ∧ (∀ q ∈ ([1, 9] : List (BitVec 12)), let p := mgmtPacket 1 0 6 1 q watched0.bytes
       p.ptype = 9 ∧ p.mgmtKind = 6 ∧ p.mgmtJobs = [watched0] ∧ p.mgmtPkg = q ∧ (ringed [] [] [] [(0, job5)]).findJob watched0.job.toNat = some 0)
    ∧ (let p := mgmtPacket 1 0 7 0 9 []
       p.ptype = 9 ∧ p.mgmtKind = 7)
    ∧ (let p := mgmtPacket 1 0 2 1 9 watched0.bytes
       p.ptype = 9 ∧ p.mgmtKind = 2 ∧ { live with host := { live.host with role := 1 } }.host.role = 1) := by decide +kernel

end Sys2Proof.Tests
end

section
/-! Numerics: Shuffle's result is read from its x and y after round 9 (R66), and the test vectors of R69. -/
namespace Sys2Proof.Machine

/-- The last line of R66: the draw is the upper half of x + y. -/
theorem shuffle_of_shuffleXY {seed : Dword} {step mb tensor index x y : Word}
    (h : shuffleXY seed step mb tensor index = (x, y)) :
    shuffle seed step mb tensor index = bits (x + y) 16 16 := by
  simp only [shuffle, h]

/-- Settles O50: the ten rounds give each row's x and y, and the result is read from their sum. -/
theorem shuffleReproducesItsVectors : Obligations.ShuffleReproducesItsVectors := by
  unfold Obligations.ShuffleReproducesItsVectors
  have zeros : shuffleXY 0 0 0 0 0 = (0xE6E02248, 0x9BF675B9) := by decide
  have index1 : shuffleXY 0 0 0 0 1 = (0x0590C464, 0xDE47C90F) := by decide
  have allKeys : shuffleXY 0x0000000300000005 2 1 0 0 = (0xE965DD95, 0x3FBFE725) := by decide
  refine ⟨zeros, ?_, index1, ?_, allKeys, ?_⟩
  · rw [shuffle_of_shuffleXY zeros]; decide
  · rw [shuffle_of_shuffleXY index1]; decide
  · rw [shuffle_of_shuffleXY allKeys]; decide

end Sys2Proof.Machine
end

section
/-! Streams and synchronisation: job-relative object numbers (R157), and the checks of the objects that an instruction names at issue (R158,
R174). -/
namespace Sys2Proof.Machine

/-! ### Object numbers (R157) -/

/-- A group has 4,096 objects, so L[15:12] is the quotient that `Job.objectOf` reads. -/
theorem bits_objectGroup (l : BitVec 16) : bits l 12 4 = l.toNat / 4096 := by
  have hl : l.toNat < 65536 := l.isLt
  simp only [bits, nbits, Nat.shiftRight_eq_div_pow]
  omega

theorem bits_objectIndex (l : BitVec 16) : bits l 0 12 = l.toNat % 4096 := rfl

theorem Job.objectOf_of_group_lt {j : Job} {l : BitVec 16} (h : bits l 12 4 < j.groups) :
    j.objectOf l.toNat = some ((j.first + bits l 12 4) * 4096 + bits l 0 12) := by
  rw [bits_objectGroup] at h
  rw [bits_objectGroup, bits_objectIndex, Job.objectOf, if_pos h]

theorem Job.objectOf_of_groups_le {j : Job} {l : BitVec 16} (h : j.groups ≤ bits l 12 4) : j.objectOf l.toNat = none := by
  rw [bits_objectGroup] at h
  rw [Job.objectOf, if_neg (Nat.not_lt.mpr h)]

/-! ### Operations on a number that no object of the job answers to -/

section Unresolved
variable {s : State} {slot object : Nat}

theorem State.signalObj_of_objectOf_none (h : (s.job slot).objectOf object = none) (op arg : Nat) :
    s.signalObj slot object op arg = none := by
  rw [State.signalObj, h]

/-- R160's discard of a remote signal whose object resolves outside the job: reason 2. -/
theorem State.applyRemote_of_objectOf_none (h : (s.job slot).objectOf object = none) (job op arg step : Nat) (src : BitVec 12) :
    s.applyRemote slot job object op arg src step = s.signalDiscarded job object op 2 src step := by
  rw [State.applyRemote, h]

theorem State.handleKind_of_objectOf_none {x : Handle} (h : (s.job slot).objectOf x.object = none) : s.handleKind slot x = none := by
  rw [State.handleKind, h]

end Unresolved

/-! ### The checks at issue (R158, R174) -/

/-- An instruction that passes the checks at issue waits on, and signals locally, only objects that resolve and are allocated: otherwise
code 4 of R174 stands, unless a lower code does. -/
theorem State.handleKind_ne_none_of_issueBad_eq_none {s : State} {slot L n w : Nat} (h : s.issueBad slot L n w = none) :
    (insWait w ≠ 0 → s.handleKind slot (s.handle L n (insWait w)) ≠ none)
    ∧ (insSig w ≠ 0 → (s.handle L n (insSig w)).remote = false → s.handleKind slot (s.handle L n (insSig w)) ≠ none) := by
  simp only [State.issueBad] at h
  split_ifs at h with _opcode _fetch _handle object _loop
  rw [Bool.or_eq_true, not_or] at object
  obtain ⟨wait, sig⟩ := object
  constructor
  · intro waits
    simpa [waits] using wait
  · intro sigs hlocal
    simpa [sigs, hlocal] using sig

/-- Settles O38: the number's fields are its quotient and remainder by 4,096, and where they resolve to no object each operation fails. -/
theorem objectNumbersResolve : Obligations.ObjectNumbersResolve := by
  unfold Obligations.ObjectNumbersResolve
  intro s slot l
  refine ⟨Job.objectOf_of_group_lt, fun outside => ?_⟩
  have unresolved : (s.job slot).objectOf l.toNat = none := Job.objectOf_of_groups_le outside
  refine ⟨unresolved, State.signalObj_of_objectOf_none unresolved, State.applyRemote_of_objectOf_none unresolved, ?_⟩
  intro L n w names issues
  have noKind : ∀ x : Handle, x.object = l.toNat → s.handleKind slot x = none := fun x hx =>
    State.handleKind_of_objectOf_none (hx ▸ unresolved)
  obtain ⟨waitKnown, sigKnown⟩ := State.handleKind_ne_none_of_issueBad_eq_none issues
  rcases names with ⟨waits, hobj⟩ | ⟨sigs, hobj, hlocal⟩
  · exact waitKnown waits (noKind _ hobj)
  · exact sigKnown sigs hlocal (noKind _ hobj)

end Sys2Proof.Machine
end

section
/-! Counters, ring places and limits: the order of protocol counters (R24), a record's place (R246), and the least watchdog limit (R172). -/
namespace Sys2Proof.Machine

/-- The distance that `later` reads. -/
theorem later_iff {w a b : Nat} (hb : b < 2 ^ w) :
    later w a b = true ↔ 1 ≤ (a + 2 ^ w - b) % 2 ^ w ∧ (a + 2 ^ w - b) % 2 ^ w ≤ 2 ^ (w - 1) - 1 := by
  simp [later, Nat.mod_eq_of_lt hb]

/-- The distance from b up to a, both below m, modulo m. -/
theorem add_sub_mod_eq_ite {m a b : Nat} (ha : a < m) (hb : b < m) : (a + m - b) % m = if b ≤ a then a - b else a + m - b := by
  split
  · rw [show a + m - b = a - b + m by omega, Nat.add_mod_right, Nat.mod_eq_of_lt (by omega)]
  · exact Nat.mod_eq_of_lt (by omega)

/-- Two values below m are d apart, modulo m, exactly when the first is the second moved on by d. -/
theorem sub_mod_eq_iff {m a b d : Nat} (ha : a < m) (hb : b < m) (hd : d < m) :
    (a + m - b) % m = d ↔ a = (b + d) % m := by
  have moved : (b + d) % m = if b + d < m then b + d else b + d - m := by
    split
    · exact Nat.mod_eq_of_lt ‹_›
    · rw [Nat.mod_eq_sub_mod (by omega), Nat.mod_eq_of_lt (by omega)]
  rw [add_sub_mod_eq_ite ha hb, moved]
  split <;> split <;> omega

/-- Moving both values on by the same amount keeps their distance. -/
theorem sub_mod_add_right {m a b c : Nat} (hm : 0 < m) (ha : a < m) (hb : b < m) :
    ((a + c) % m + m - (b + c) % m) % m = (a + m - b) % m := by
  have hlt : (a + m - b) % m < m := Nat.mod_lt _ hm
  have base : a = (b + (a + m - b) % m) % m := (sub_mod_eq_iff ha hb hlt).1 rfl
  refine (sub_mod_eq_iff (Nat.mod_lt _ hm) (Nat.mod_lt _ hm) hlt).2 ?_
  calc (a + c) % m = ((b + (a + m - b) % m) % m + c) % m := by rw [← base]
    _ = ((b + c) % m + (a + m - b) % m) % m := by simp only [Nat.mod_add_mod]; congr 1; omega

/-- Settles O39: the distances from a to b and from b to a add up to the modulus, and both are below its half only when both are 0. -/
theorem laterIsAsymmetric : Obligations.LaterIsAsymmetric := by
  unfold Obligations.LaterIsAsymmetric
  intro w a b c hw ha hb
  have half : 2 ^ w = 2 * 2 ^ (w - 1) := by rw [← Nat.pow_succ']; congr 1; omega
  refine ⟨?_, fun hab => ?_, ?_, ?_⟩
  · rw [← Bool.not_eq_true, later_iff ha, Nat.add_sub_cancel_left, Nat.mod_self]
    omega
  · rw [later_iff hb] at hab
    rw [← Bool.not_eq_true, later_iff ha]
    rw [add_sub_mod_eq_ite ha hb] at hab
    rw [add_sub_mod_eq_ite hb ha]
    split at hab <;> split <;> omega
  · rw [later_iff hb]
    constructor
    · rintro ⟨low, high⟩
      exact ⟨_, low, high, (sub_mod_eq_iff ha hb (Nat.mod_lt _ (by omega))).1 rfl⟩
    · rintro ⟨d, low, high, rfl⟩
      rw [(sub_mod_eq_iff ha hb (by omega)).2 rfl]
      exact ⟨low, high⟩
  · have pos : 0 < 2 ^ w := by omega
    rw [Bool.eq_iff_iff, later_iff (Nat.mod_lt _ pos), later_iff hb, sub_mod_add_right pos ha hb]

/-- Settles O47: the pad is the run to the ring's end when the record would pass it and 0 otherwise, and the free space holds pad and record. -/
theorem recordsStayInTheRing : Obligations.RecordsStayInTheRing := by
  unfold Obligations.RecordsStayInTheRing
  intro size len pad tail head hsize hused hplace
  have inside : tail.toNat % size < size := Nat.mod_lt _ hsize
  have fits : ringPad size tail.toNat len = pad ∧ pad + len ≤ size - (tail - head).toNat := by
    simp only [placeIn] at hplace
    split at hplace
    · cases hplace
    · exact ⟨Option.some.inj hplace, by rw [← Option.some.inj hplace]; omega⟩
  obtain ⟨hpad, hfree⟩ := fits
  rw [ringPad] at hpad
  split at hpad <;> omega

/-- Settles O35: a division rounded up is the least count that covers its dividend. -/
theorem watchdogLimitIsLeast : Obligations.WatchdogLimitIsLeast := by
  unfold Obligations.WatchdogLimitIsLeast
  intro tTile tFixed f margin hf
  have roundsUp : wdogLimitOf tTile tFixed f margin = ((tTile * 800 + tFixed * f) * (64 + margin)) ⌈/⌉ (640 * f) := rfl
  have pos : 0 < 640 * f := by omega
  rw [roundsUp]
  constructor
  · rw [mul_comm _ (640 * f)]
    exact le_smul_ceilDiv pos
  · intro w hw
    rw [ceilDiv_le_iff_le_smul pos, smul_eq_mul, mul_comm _ w]
    exact hw

end Sys2Proof.Machine
end

section
/-! Jobs and descriptors: the header's rules (R409, R415), first fit (R168), and what a signal operation does to its object (R153, R154). -/
namespace Sys2Proof.Machine

/-- Settles O30: each broken rule is one of the disjuncts of `Desc.invalid`. -/
theorem badDescriptorsAreInvalid : Obligations.BadDescriptorsAreInvalid := by
  unfold Obligations.BadDescriptorsAreInvalid
  intro s d broken
  have invalid : d.invalid = true := by
    simp only [Desc.invalid, Bool.or_eq_true, Bool.and_eq_true, decide_eq_true_eq]
    rcases broken with version | jobField | noJob | type0 | typeAbove
    · exact .inl (.inl (.inl version))
    · exact .inl (.inl (.inr jobField))
    · exact .inl (.inr noJob)
    · rw [type0]; exact .inr rfl
    · right
      split
      case h_8 => rfl
      all_goals omega
  rw [State.fetchStatus, if_pos invalid]

/-! ### First fit -/

section Placement
variable {s : State} {n align g : Nat} {gddr : BitVec 16}

/-- What `groupFits` asks of a group and its stack. -/
theorem State.groupFits_iff {taken : Bool} : s.groupFits g taken = true ↔
    s.slotOfGroup g = none ∧ g % 4 ∉ (s.stack (g / 4)).borrowedGroups ∧ s.gddrReady (g / 4) = true ∧ (s.stack (g / 4)).memBusy = none
      ∧ (s.stack (g / 4)).gddrBusy = none ∧ ¬ (taken = true ∧ s.gddrFailed (g / 4) = true) := by
  cases taken <;> simp [State.groupFits, and_assoc]

theorem State.firstFit_eq_some_iff : s.firstFit n align gddr = some g ↔
    g < 17 - n ∧ (g % align = 0 ∧ ∀ i < n, s.groupFits (g + i) (gddr.getLsbD i) = true)
      ∧ ∀ h < g, h % align = 0 → ∃ i < n, s.groupFits (h + i) (gddr.getLsbD i) = false := by
  simp only [State.firstFit, List.find?_range_eq_some, List.mem_range, Bool.and_eq_true, decide_eq_true_eq, List.all_eq_true,
    Bool.not_eq_true', Bool.and_eq_false_iff, decide_eq_false_iff_not, List.all_eq_false, Bool.not_eq_true]
  grind

end Placement

/-- Settles O31: the groups of the run that `firstFit` finds fit, and on a package where nothing else is in the way a lower run that does not
qualify has a group that a job holds. -/
theorem placementIsFirstFit : Obligations.PlacementIsFirstFit := by
  unfold Obligations.PlacementIsFirstFit
  intro s n align g gddr low high found
  obtain ⟨inside, ⟨aligned, fits⟩, least⟩ := State.firstFit_eq_some_iff.1 found
  refine ⟨aligned, by omega, fun i hi => ?_, fun idle none ready h hlt hal => ?_⟩
  · obtain ⟨free, -, ready, -⟩ := State.groupFits_iff.1 (fits i hi)
    exact ⟨free, ready⟩
  · obtain ⟨i, hi, misfit⟩ := least h hlt hal
    refine ⟨i, hi, fun free => ?_⟩
    obtain ⟨notLent, memIdle, gddrIdle⟩ := idle ((h + i) / 4)
    have fit : s.groupFits (h + i) (gddr.getLsbD i) = true :=
      State.groupFits_iff.2 ⟨free, by simp [notLent], ready _, memIdle, gddrIdle, by simp [none]⟩
    exact absurd fit (by simp [misfit])

/-! ### Signal operations -/

/-- The values of `SyncObj.apply` on a barrier, whose members number at most 4,096. -/
theorem SyncObj.apply_arrive_last {o : SyncObj} {arg : Nat} (last : bits o.value 0 12 = o.membersM1.toNat) :
    bits (o.apply 2 arg).value 0 12 = 0 ∧ bits (o.apply 2 arg).value 24 8 = (bits o.value 24 8 + 1) % 256 := by
  simp only [SyncObj.apply, last, if_pos]
  simp only [bits, nbits, BitVec.toNat_ofNat, Nat.shiftRight_eq_div_pow]
  omega

theorem SyncObj.apply_arrive {o : SyncObj} {arg : Nat} (notLast : bits o.value 0 12 < o.membersM1.toNat) :
    bits (o.apply 2 arg).value 0 12 = bits o.value 0 12 + 1 ∧ bits (o.apply 2 arg).value 24 8 = bits o.value 24 8 := by
  have members : o.membersM1.toNat < 4096 := o.membersM1.isLt
  have value : (o.apply 2 arg).value = BitVec.ofNat 32 (bits o.value 24 8 * 2 ^ 24 + (bits o.value 0 12 + 1)) := by
    simp only [SyncObj.apply]
    rw [if_neg (by omega)]
  have gen : bits o.value 24 8 < 256 := Nat.mod_lt _ (by decide)
  rw [value]
  generalize bits o.value 24 8 = a at *
  generalize bits o.value 0 12 = b at *
  simp only [bits, nbits, BitVec.toNat_ofNat, Nat.shiftRight_eq_div_pow]
  omega

/-- An operation moves the value alone. -/
theorem SyncObj.apply_frame (o : SyncObj) (op arg : Nat) :
    (o.apply op arg).kind = o.kind ∧ (o.apply op arg).membersM1 = o.membersM1 ∧ (o.apply op arg).job = o.job := by
  simp only [SyncObj.apply]
  split
  case h_2 => split <;> exact ⟨rfl, rfl, rfl⟩
  all_goals exact ⟨rfl, rfl, rfl⟩

/-- A signal that succeeds: its object resolves and is of the operation's kind, and the state is the one with the object moved and the job's
phase counter checked. -/
theorem State.signalObj_eq_some {s t : State} {slot l op arg : Nat} (h : s.signalObj slot l op arg = some t) :
    ∃ o, (s.job slot).objectOf l = some o ∧ sigKind op = some (s.obj o).kind.toNat
      ∧ t = (s.setObj o ((s.obj o).apply op arg)).modJob slot (fun j => j.phaseCheck o ((s.obj o).apply op arg).value) := by
  rw [State.signalObj] at h
  split at h
  · cases h
  next o resolves =>
    dsimp only at h
    split at h
    · next kind => exact ⟨o, resolves, kind, (Option.some.inj h).symm⟩
    · cases h

theorem State.signalObj_of_sigKind_ne {s : State} {slot l op o : Nat} (arg : Nat) (resolves : (s.job slot).objectOf l = some o)
    (kind : sigKind op ≠ some (s.obj o).kind.toNat) : s.signalObj slot l op arg = none := by
  rw [State.signalObj, resolves]
  exact if_neg kind

/-- No operation other than ADD, ARRIVE, SET and CLEAR acts on an object, and none on a kind above 2. -/
theorem sigKind_eq_none {op : Nat} (h : op = 0 ∨ 4 < op) : sigKind op = none := by
  unfold sigKind
  split
  case h_5 => rfl
  all_goals omega

theorem sigKind_ne_some_three (op : Nat) : sigKind op ≠ some 3 := by
  unfold sigKind
  split <;> decide

/-- Settles O40: `signalObj` moves the object by `SyncObj.apply`, when the kinds match. -/
theorem signalsAct : Obligations.SignalsAct := by
  unfold Obligations.SignalsAct
  intro s t slot l op arg
  refine ⟨fun signalled => ?_, fun noOp => ?_, fun o resolves kind => ?_⟩
  · obtain ⟨o, resolves, kind, rfl⟩ := State.signalObj_eq_some signalled
    have moved : (s.setObj o ((s.obj o).apply op arg)).obj o = (s.obj o).apply op arg := tget_tput_same _ _ _ _
    have others : ∀ p, p ≠ o → (s.setObj o ((s.obj o).apply op arg)).obj p = s.obj p := fun p hp => tget_tput_ne _ _ _ hp
    have keeps : ∀ p f, ((s.setObj o ((s.obj o).apply op arg)).modJob slot f).obj p = (s.setObj o ((s.obj o).apply op arg)).obj p :=
      fun _ _ => rfl
    have kindIs : ∀ k : BitVec 2, sigKind op = some k.toNat → (s.obj o).kind = k := fun k hk =>
      BitVec.eq_of_toNat_eq (Option.some.inj (kind.symm.trans hk))
    obtain ⟨kindKept, membersKept, jobKept⟩ := SyncObj.apply_frame (s.obj o) op arg
    refine ⟨o, resolves, others, ?_⟩
    simp only [keeps, moved]
    refine ⟨kindKept, membersKept, jobKept, ?_, ?_, ?_, ?_, rfl, rfl, rfl, rfl⟩
    · rintro rfl; exact ⟨kindIs 0 rfl, rfl⟩
    · rintro rfl; exact ⟨kindIs 1 rfl, SyncObj.apply_arrive_last, SyncObj.apply_arrive⟩
    · rintro rfl; exact ⟨kindIs 2 rfl, rfl⟩
    · rintro rfl; exact ⟨kindIs 2 rfl, rfl⟩
  · cases resolves : (s.job slot).objectOf l with
    | none => exact State.signalObj_of_objectOf_none resolves op arg
    | some o => exact State.signalObj_of_sigKind_ne arg resolves (by simp [sigKind_eq_none noOp])
  · exact State.signalObj_of_sigKind_ne arg resolves (by rw [kind]; exact sigKind_ne_some_three op)

end Sys2Proof.Machine
end

section
/-! W320 sums (R58, R59) and their partials on the wire (R371, R372). -/
namespace Sys2Proof.Machine

/-! ### Order of additions -/

/-- Two contributions may change places: finite values add in a commutative group, and flags only ever become set. -/
theorem W320.addNum_comm (w : W320) (x y : Num) : (w.addNum x).addNum y = (w.addNum y).addNum x := by
  cases x <;> cases y
  case fin.fin => simp only [W320.addNum, add_right_comm]
  all_goals simp only [W320.addNum]
  all_goals grind

/-- Settles O51: contributions commute, so a fold over a permuted list gives the same sum. -/
theorem exactSumsHaveNoOrder : Obligations.ExactSumsHaveNoOrder := by
  unfold Obligations.ExactSumsHaveNoOrder
  intro w xs ys perm
  have : RightCommutative W320.addNum := ⟨W320.addNum_comm⟩
  exact perm.foldl_eq w

/-! ### Fields of a byte string -/

@[simp] theorem length_leBytes (n v : Nat) : (leBytes n v).length = n := by
  induction n generalizing v with
  | zero => rfl
  | succ n ih => simp [leBytes, ih]

theorem leNat_leBytes (n v : Nat) : leNat (leBytes n v) = v % 256 ^ n := by
  induction n generalizing v with
  | zero => simp [leBytes, leNat, Nat.mod_one]
  | succ n ih =>
    have byte : (BitVec.ofNat 8 v).toNat = v % 256 := rfl
    rw [leBytes, leNat, ih, byte, Nat.pow_succ', Nat.mod_mul]

/-- A field past a prefix is read from what follows the prefix. -/
theorem leAt_append_add (xs ys : List Byte) (o n : Nat) : leAt (xs ++ ys) (xs.length + o) n = leAt ys o n := by
  rw [leAt, leAt, ← List.drop_drop, List.drop_left]

theorem leAt_leBytes_append {n v : Nat} (bs : List Byte) (h : v < 256 ^ n) : leAt (leBytes n v ++ bs) 0 n = v := by
  simp [leAt, leNat_leBytes, Nat.mod_eq_of_lt h]

/-- The fields of k bytes of a string that begins with the bytes of `vs`. -/
theorem map_leAt_range {k : Nat} {vs : List Nat} (small : ∀ v ∈ vs, v < 256 ^ k) (rest : List Byte) :
    (List.range vs.length).map (fun i => leAt ((vs.map (leBytes k)).flatten ++ rest) (k * i) k) = vs := by
  induction vs with
  | nil => rfl
  | cons v vs ih =>
    have tail : ∀ i, leAt (leBytes k v ++ ((vs.map (leBytes k)).flatten ++ rest)) (k * (i + 1)) k
        = leAt ((vs.map (leBytes k)).flatten ++ rest) (k * i) k := fun i => by
      have := leAt_append_add (leBytes k v) ((vs.map (leBytes k)).flatten ++ rest) (k * i) k
      rwa [length_leBytes, Nat.add_comm, ← Nat.mul_succ] at this
    simp only [List.length_cons, List.range_succ_eq_map, List.map_cons, List.map_map, List.flatten_cons, List.append_assoc, Function.comp_def,
      Nat.mul_zero, leAt_leBytes_append _ (small v List.mem_cons_self), Nat.succ_eq_add_one, tail,
      ih fun v hv => small v (List.mem_cons_of_mem _ hv)]

theorem length_flatten_leBytes (k : Nat) (vs : List Nat) : (vs.map (leBytes k)).flatten.length = k * vs.length := by
  simp [List.length_flatten, Function.comp_def, Nat.mul_comm]

theorem padTo_of_le {n : Nat} {bs : List Byte} (h : bs.length ≤ n) : padTo n bs = bs ++ List.replicate (n - bs.length) 0 := by
  rw [padTo, List.take_of_length_le]
  simp; omega

@[simp] theorem length_padTo (n : Nat) (bs : List Byte) : (padTo n bs).length = n := by
  simp [padTo]; omega

/-! ### Limbs of an accumulator -/

/-- Limbs that are 0 below `f` and repeat one value above `t` are given back by those between. -/
theorem restored_limbs {ls : List Nat} {f t ext : Nat} (hlen : ls.length = 5) (hft : f ≤ t) (ht : t < 5)
    (low : ∀ i < f, ls.getD i 0 = 0) (high : ∀ i, t < i → i < 5 → ls.getD i 0 = ext) :
    (List.replicate f 0 ++ (ls.take (t + 1)).drop f ++ List.replicate 5 ext).take 5 = ls := by
  refine List.ext_getElem (by simp; omega) fun i h1 h2 => ?_
  have lowAt : i < f → ls[i] = 0 := fun h => by simpa [h2] using low i h
  have highAt : t < i → ls[i] = ext := fun h => by simpa [h2] using high i h (by omega)
  have len : ((ls.take (t + 1)).drop f).length = t + 1 - f := by simp; omega
  simp only [List.getElem_take, List.getElem_append, List.getElem_replicate, List.getElem_drop, List.length_append, List.length_replicate, len]
  split
  · split
    · exact (lowAt ‹_›).symm
    · congr 1; omega
  · exact (highAt (by omega)).symm

/-- The lowest n limbs of a number add up to it modulo 2^(64 n). -/
theorem sum_limbs (x n : Nat) :
    (((List.range n).map (fun k => nbits x (64 * k) 64)).zip (List.range n)).foldl (fun a x => a + x.1 * 2 ^ (64 * x.2)) 0 = x % 2 ^ (64 * n) := by
  induction n with
  | zero => simp [Nat.mod_one]
  | succ n ih =>
    rw [List.range_succ, List.map_append, List.zip_append (by simp), List.foldl_append, ih, Nat.mul_succ, Nat.pow_add, Nat.mod_mul]
    simp [nbits, Nat.shiftRight_eq_div_pow, Nat.mul_comm]

/-- The value field is the sum of its five limbs. -/
theorem sum_limbsOf (v : BitVec 301) :
    BitVec.ofNat 301 (((limbsOf v).zip (List.range 5)).foldl (fun a x => a + x.1 * 2 ^ (64 * x.2)) 0) = v := by
  rw [limbsOf, sum_limbs, Nat.mod_eq_of_lt (v.signExtend 320).isLt, BitVec.ofNat_toNat]
  ext i hi
  simp only [BitVec.getElem_setWidth, BitVec.getLsbD_signExtend, hi, if_pos, BitVec.getLsbD_eq_getElem]
  have : i < 320 := by omega
  simp [this]

theorem length_limbsOf (v : BitVec 301) : (limbsOf v).length = 5 := by simp [limbsOf]

theorem limbsOf_lt {v : BitVec 301} {x : Nat} (h : x ∈ limbsOf v) : x < 256 ^ 8 := by
  obtain ⟨k, -, rfl⟩ := List.mem_map.1 h
  exact Nat.mod_lt _ (by decide)

theorem topLimb_lt (ls : List Nat) : topLimb ls < 5 := by
  unfold topLimb
  cases found : (List.range 5).find? (fun k => (ls.drop (k + 1)).all (fun x => x == limbSign (ls.getD k 0))) with
  | none => decide
  | some k => exact List.mem_range.1 (List.mem_of_find?_eq_some found)

/-- Above the top limb every limb repeats its sign. -/
theorem getD_of_topLimb_lt {ls : List Nat} (hlen : ls.length = 5) {i : Nat} (above : topLimb ls < i) (hi : i < 5) :
    ls.getD i 0 = limbSign (ls.getD (topLimb ls) 0) := by
  unfold topLimb at above ⊢
  cases found : (List.range 5).find? (fun k => (ls.drop (k + 1)).all (fun x => x == limbSign (ls.getD k 0))) with
  | none =>
    rw [found, Option.getD_none] at above
    omega
  | some k =>
    rw [found, Option.getD_some] at above
    have repeats := List.all_eq_true.1 (List.find?_range_eq_some.1 found).1
    have isDropped : ls.getD i 0 ∈ ls.drop (k + 1) := by
      rw [List.getD_eq_getElem _ _ (by omega)]
      exact List.mem_drop_iff_getElem.2 ⟨i - (k + 1), by omega, by congr 1; omega⟩
    simpa using repeats _ isDropped

/-- The lowest limb that is not 0. -/
def firstLimb (ls : List Nat) : Nat := ((List.range 5).find? (fun k => ls.getD k 0 != 0)).getD 0

theorem getD_of_lt_firstLimb {ls : List Nat} {i : Nat} (below : i < firstLimb ls) : ls.getD i 0 = 0 := by
  unfold firstLimb at below
  cases found : (List.range 5).find? (fun k => ls.getD k 0 != 0) with
  | none =>
    rw [found, Option.getD_none] at below
    omega
  | some k =>
    rw [found, Option.getD_some] at below
    simpa using (List.find?_range_eq_some.1 found).2.2 i below

/-- A top limb of 0 below the first one would make all limbs 0. -/
theorem firstLimb_le_topLimb {ls : List Nat} (hlen : ls.length = 5) : firstLimb ls ≤ topLimb ls := by
  by_contra above
  have topZero := getD_of_lt_firstLimb (Nat.lt_of_not_le above)
  unfold firstLimb at above
  cases found : (List.range 5).find? (fun k => ls.getD k 0 != 0) with
  | none =>
    rw [found, Option.getD_none] at above
    omega
  | some k =>
    rw [found, Option.getD_some] at above
    have notZero : ls.getD k 0 ≠ 0 := by simpa using List.find?_some found
    have small := List.mem_range.1 (List.mem_of_find?_eq_some found)
    exact notZero (by rw [getD_of_topLimb_lt hlen (Nat.lt_of_not_le above) small, topZero]; rfl)

/-! ### Descriptors -/

/-- The fields of an accumulator's descriptor (R371). -/
theorem descriptor_fields (nan pinf ninf : Bool) {len first : Nat} (hlen : len < 8) (hfirst : first < 8) :
    let d := b2n nan * 2 ^ 8 + b2n pinf * 2 ^ 7 + b2n ninf * 2 ^ 6 + len * 2 ^ 3 + first
    nbits d 0 3 = first ∧ nbits d 3 3 = len ∧ nbit d 8 = nan ∧ nbit d 7 = pinf ∧ nbit d 6 = ninf ∧ d < 256 ^ 2 := by
  simp only [nbits, nbit, Nat.shiftRight_eq_div_pow, Nat.testBit_eq_decide_div_mod_eq]
  cases nan <;> cases pinf <;> cases ninf <;> simp [b2n] <;> omega

/-- The descriptor and the kept limbs of an accumulator: the first and the number of the limbs kept, which give the accumulator back. -/
theorem trimmed_spec (w : W320) : (trimmed w).1 < 256 ^ 2 ∧ nbits (trimmed w).1 3 3 = (trimmed w).2.length
    ∧ (∀ x ∈ (trimmed w).2, x < 256 ^ 8) ∧ untrim (trimmed w).1 (trimmed w).2 = w := by
  obtain ⟨nan, pinf, ninf, v⟩ := w
  by_cases zero : v = 0
  · obtain ⟨first, len, hnan, hpinf, hninf, small⟩ := descriptor_fields nan pinf ninf (len := 0) (first := 0) (by decide) (by decide)
    simp only [Nat.zero_mul, Nat.add_zero] at first len hnan hpinf hninf small
    simp only [trimmed, if_pos zero, untrim, first, len, hnan, hpinf, hninf]
    exact ⟨small, rfl, by simp, by simp [zero, List.range_succ]⟩
  · have shape : trimmed ⟨nan, pinf, ninf, v⟩ = (b2n nan * 2 ^ 8 + b2n pinf * 2 ^ 7 + b2n ninf * 2 ^ 6
        + ((limbsOf v).take (topLimb (limbsOf v) + 1) |>.drop (firstLimb (limbsOf v))).length * 2 ^ 3 + firstLimb (limbsOf v),
        ((limbsOf v).take (topLimb (limbsOf v) + 1)).drop (firstLimb (limbsOf v))) := by
      simp only [trimmed, if_neg zero, firstLimb]
    have hlen := length_limbsOf v
    have hft := firstLimb_le_topLimb hlen
    have ht := topLimb_lt (limbsOf v)
    have back := restored_limbs hlen hft ht (fun _ => getD_of_lt_firstLimb) (fun _ => getD_of_topLimb_lt hlen)
    have keptLen : ((limbsOf v).take (topLimb (limbsOf v) + 1) |>.drop (firstLimb (limbsOf v))).length
        = topLimb (limbsOf v) + 1 - firstLimb (limbsOf v) := by simp [hlen]; omega
    have last : ((limbsOf v).take (topLimb (limbsOf v) + 1) |>.drop (firstLimb (limbsOf v))).getLast?
        = some ((limbsOf v).getD (topLimb (limbsOf v)) 0) := by
      rw [List.getLast?_eq_getElem?, keptLen, List.getElem?_drop, List.getElem?_take_of_lt (by omega),
        show firstLimb (limbsOf v) + (topLimb (limbsOf v) + 1 - firstLimb (limbsOf v) - 1) = topLimb (limbsOf v) by omega,
        List.getElem?_eq_getElem (by omega), List.getD_eq_getElem _ _ (by omega)]
    rw [shape]
    obtain ⟨first, len, hnan, hpinf, hninf, small⟩ := descriptor_fields nan pinf ninf
      (len := ((limbsOf v).take (topLimb (limbsOf v) + 1) |>.drop (firstLimb (limbsOf v))).length)
      (first := firstLimb (limbsOf v)) (by omega) (by omega)
    dsimp only
    refine ⟨small, len, fun x hx => limbsOf_lt (List.mem_of_mem_take (List.mem_of_mem_drop hx)), ?_⟩
    rw [untrim, last, first, hnan, hpinf, hninf]
    simp only [back]
    rw [sum_limbsOf]

theorem unpackLimbs_trimmed (ws : List W320) (rest : List Byte) :
    unpackLimbs (ws.map (fun w => (trimmed w).1)) (((ws.map (fun w => (trimmed w).2)).flatten.map (leBytes 8)).flatten ++ rest) = ws := by
  induction ws with
  | nil => rfl
  | cons w ws ih =>
    obtain ⟨-, len, small, back⟩ := trimmed_spec w
    simp only [List.map_cons, List.flatten_cons, List.map_append, List.flatten_append, List.append_assoc, unpackLimbs, len,
      map_leAt_range small, back, List.cons.injEq, true_and]
    rw [← length_flatten_leBytes, List.drop_left, ih]

/-- Settles O52: the descriptors come back from the payload's first part, and each takes its limbs from the second. -/
theorem partialsSurviveTransport : Obligations.PartialsSurviveTransport := by
  unfold Obligations.PartialsSurviveTransport
  intro ws
  have descriptors : ∀ d ∈ ws.map (fun w => (trimmed w).1), d < 256 ^ 2 := by
    intro d hd
    obtain ⟨w, -, rfl⟩ := List.mem_map.1 hd
    exact (trimmed_spec w).1
  have payload : packSum ws = padTo ((2 * ws.length + 7) / 8 * 8) ((ws.map (fun w => (trimmed w).1)).map (leBytes 2)).flatten
      ++ ((ws.map (fun w => (trimmed w).2)).flatten.map (leBytes 8)).flatten := by
    simp [packSum, Function.comp_def]
  have limbs : (packSum ws).drop ((2 * ws.length + 7) / 8 * 8) = ((ws.map (fun w => (trimmed w).2)).flatten.map (leBytes 8)).flatten := by
    rw [payload]
    exact List.drop_left' (length_padTo _ _)
  have read : (List.range ws.length).map (fun i => leAt (packSum ws) (2 * i) 2) = ws.map (fun w => (trimmed w).1) := by
    rw [payload, padTo_of_le (by rw [length_flatten_leBytes, List.length_map]; omega), List.append_assoc]
    simpa using map_leAt_range descriptors _
  have back := unpackLimbs_trimmed ws []
  rw [List.append_nil] at back
  rw [unpackSum, read, limbs, back]

end Sys2Proof.Machine
end

section
/-! Reads of the state's indexed parts after a write of one of them. -/
namespace Sys2Proof.Machine

section Reads
variable (s : State) (i j L n : Nat)

theorem State.stack_modStack (f : Stack → Stack) : (s.modStack i f).stack j = if j = i then f (s.stack i) else s.stack j :=
  tget_tmod _ _ _ _ _

theorem State.tileAt_modTileAt (f : Tile → Tile) : (s.modTileAt i f).tileAt j = if j = i then f (s.tileAt i) else s.tileAt j :=
  tget_tmod _ _ _ _ _

theorem State.job_modJob (f : Job → Job) : (s.modJob i f).job j = if j = i then f (s.job i) else s.job j := tget_tmod _ _ _ _ _

theorem State.gd_modGd (f : Gd → Gd) : (s.modGd i f).gd j = if j = i then f (s.gd i) else s.gd j := tget_tmod _ _ _ _ _

theorem State.port_modPort (f : Port → Port) : (s.modPort i f).port j = if j = i then f (s.port i) else s.port j := tget_tmod _ _ _ _ _

theorem State.meld_modMeld (f : Meld → Meld) : (s.modMeld i f).meld j = if j = i then f (s.meld i) else s.meld j := tget_tmod _ _ _ _ _

theorem State.sq_modSq (f : Sq → Sq) : (s.modSq i f).sq j = if j = i then f (s.sq i) else s.sq j := tget_tmod _ _ _ _ _

theorem State.cq_modCq (f : Cq → Cq) : (s.modCq i f).cq j = if j = i then f (s.cq i) else s.cq j := tget_tmod _ _ _ _ _

theorem Tile.stream_modStream (t : Tile) (f : Stream → Stream) :
    (t.modStream i f).stream j = if j = i then f (t.stream i) else t.stream j := tget_tmod _ _ _ _ _

theorem Tile.ep_modEp (t : Tile) (f : Endpoint → Endpoint) : (t.modEp i f).ep j = if j = i then f (t.ep i) else t.ep j :=
  tget_tmod _ _ _ _ _

theorem Tile.bank_modBank (t : Tile) (f : Bank → Bank) : (t.modBank i f).bank j = if j = i then f (t.bank i) else t.bank j :=
  tget_tmod _ _ _ _ _

@[simp] theorem State.stack_modStack_same (f : Stack → Stack) : (s.modStack i f).stack i = f (s.stack i) := by simp [State.stack_modStack]

@[simp] theorem State.tileAt_modTileAt_same (f : Tile → Tile) : (s.modTileAt i f).tileAt i = f (s.tileAt i) := by
  simp [State.tileAt_modTileAt]

@[simp] theorem State.job_modJob_same (f : Job → Job) : (s.modJob i f).job i = f (s.job i) := by simp [State.job_modJob]

@[simp] theorem State.gd_modGd_same (f : Gd → Gd) : (s.modGd i f).gd i = f (s.gd i) := by simp [State.gd_modGd]

@[simp] theorem State.port_modPort_same (f : Port → Port) : (s.modPort i f).port i = f (s.port i) := by simp [State.port_modPort]

@[simp] theorem State.meld_modMeld_same (f : Meld → Meld) : (s.modMeld i f).meld i = f (s.meld i) := by simp [State.meld_modMeld]

@[simp] theorem State.sq_modSq_same (f : Sq → Sq) : (s.modSq i f).sq i = f (s.sq i) := by simp [State.sq_modSq]

@[simp] theorem State.cq_modCq_same (f : Cq → Cq) : (s.modCq i f).cq i = f (s.cq i) := by simp [State.cq_modCq]

@[simp] theorem Tile.stream_modStream_same (t : Tile) (f : Stream → Stream) : (t.modStream i f).stream i = f (t.stream i) := by
  simp [Tile.stream_modStream]

@[simp] theorem Tile.ep_modEp_same (t : Tile) (f : Endpoint → Endpoint) : (t.modEp i f).ep i = f (t.ep i) := by simp [Tile.ep_modEp]

/-- The physical tile behind a logical one depends on the stack's map and the fuses alone. -/
theorem State.tileIx_congr {s t : State} (hmap : ∀ k, (t.stack k).tileMap = (s.stack k).tileMap) (hfuses : t.fuses = s.fuses) (L : Nat) :
    t.tileIx L = s.tileIx L := by
  unfold State.tileIx State.physOf State.fuseMap State.fuseTile
  rw [hmap, hfuses]

@[simp] theorem State.tile_modTile_same (f : Tile → Tile) : (s.modTile L f).tile L = f (s.tile L) := State.tileAt_modTileAt_same s _ f

@[simp] theorem State.stream_modStream_same (f : Stream → Stream) : (s.modStream L n f).stream L n = f (s.stream L n) := by
  rw [State.stream, State.modStream, State.tile_modTile_same, Tile.stream_modStream_same]
  rfl

@[simp] theorem State.ep_modEp_same (f : Endpoint → Endpoint) : (s.modEp L n f).ep L n = f (s.ep L n) := by
  rw [State.ep, State.modEp, State.tile_modTile_same, Tile.ep_modEp_same]
  rfl

end Reads

end Sys2Proof.Machine
end

section
/-! What the package's records and its own packets change: SameButTraffic, which every event, every completion record and every packet
that the package originates keeps. -/
namespace Sys2Proof.Machine

/-- From `s` to `t` only what records and the package's own packets leave changes: telemetry, the host's records of events and completions, the
packets and the counters of the ports and of the package's network, and the loads and statistics of jobs. -/
structure SameButTraffic (s t : State) : Prop where
  state : t = { s with
      hostMem := t.hostMem, dealer := t.dealer, host := t.host, ports := t.ports, tel := t.tel, noc := t.noc, out := t.out,
      free := t.free }
  host : t.host = { s.host with
      cqs := t.host.cqs, eq := t.host.eq, buffer := t.host.buffer, owed := t.host.owed,
      heldEvents := t.host.heldEvents, msixDue := t.host.msixDue, msixPending := t.host.msixPending, evSeq := t.host.evSeq }
  dealer : t.dealer = { s.dealer with jobs := t.dealer.jobs }
  job : ∀ n, t.job n = { s.job n with loads := (t.job n).loads, statistics := (t.job n).statistics, satRaised := (t.job n).satRaised }
  port : ∀ p, t.port p = { s.port p with txq := (t.port p).txq, counters := (t.port p).counters, revokedJobs := (t.port p).revokedJobs }

namespace SameButTraffic

variable {s t u : State}

theorem refl (s : State) : SameButTraffic s s := by constructor <;> intros <;> rfl

theorem trans (h : SameButTraffic s t) (k : SameButTraffic t u) : SameButTraffic s u where
  state := by rw [k.state, h.state]
  host := by rw [k.host, h.host]
  dealer := by rw [k.dealer, h.dealer]
  job n := by rw [k.job n, h.job n]
  port p := by rw [k.port p, h.port p]

theorem foldl {α : Type} {f : State → α → State} (h : SameButTraffic s u) (hf : ∀ v a, SameButTraffic v (f v a)) (l : List α) :
    SameButTraffic s (l.foldl f u) := by
  induction l generalizing u with
  | nil => exact h
  | cons a l ih => exact ih (h.trans (hf u a))

end SameButTraffic

section Leaves
variable {s u : State} (h : SameButTraffic s u)
include h

/-- Telemetry, host memory, the package's network, what leaves the package and the count of open values are traffic. -/
theorem traffic_with {hostMem tel noc out free} : SameButTraffic s { u with hostMem, tel, noc, out, free } :=
  h.trans (by constructor <;> intros <;> rfl)

theorem traffic_modHost {f : HostIf → HostIf}
    (hf : f u.host = { u.host with
      cqs := (f u.host).cqs, eq := (f u.host).eq, buffer := (f u.host).buffer, owed := (f u.host).owed,
      heldEvents := (f u.host).heldEvents, msixDue := (f u.host).msixDue, msixPending := (f u.host).msixPending,
      evSeq := (f u.host).evSeq }) : SameButTraffic s (u.modHost f) := by
  refine h.trans ?_
  constructor
  case host => exact hf
  all_goals intros; rfl

theorem traffic_modJob {n : Nat} {f : Job → Job}
    (hf : ∀ j, f j = { j with loads := (f j).loads, statistics := (f j).statistics, satRaised := (f j).satRaised }) :
    SameButTraffic s (u.modJob n f) := by
  refine h.trans ?_
  constructor
  case job =>
    intro m
    rw [State.job_modJob]
    split
    · next e => rw [e]; exact hf _
    · rfl
  all_goals intros; rfl

theorem traffic_modPort {p : Nat} {f : Port → Port}
    (hf : ∀ q, f q = { q with txq := (f q).txq, counters := (f q).counters, revokedJobs := (f q).revokedJobs }) :
    SameButTraffic s (u.modPort p f) := by
  refine h.trans ?_
  constructor
  case port =>
    intro q
    rw [State.port_modPort]
    split
    · next e => rw [e]; exact hf _
    · rfl
  all_goals intros; rfl

theorem traffic_modTel (f : Telemetry → Telemetry) : SameButTraffic s (u.modTel f) := traffic_with h

theorem traffic_emit (o : Out) : SameButTraffic s (u.emit o) := traffic_with h

theorem traffic_hostWrite (a : Nat) (bs : List Byte) : SameButTraffic s (u.hostWrite a bs) := traffic_with h

theorem traffic_nextOpen : SameButTraffic s u.nextOpen := traffic_with h

theorem traffic_modCq (c : Nat) (f : Cq → Cq) : SameButTraffic s (u.modCq c f) := traffic_modHost h rfl

end Leaves

/-! ### Records of events and completions -/

section Records
variable {s u v : State} (h : SameButTraffic s u)
include h

theorem traffic_raiseVector (cfg : Word) : SameButTraffic s (u.raiseVector cfg) := by
  unfold State.raiseVector State.sendMsix
  dsimp only
  split
  · split
    · exact traffic_modHost h rfl
    · exact traffic_emit h _
  · exact traffic_modHost h rfl

theorem traffic_placeRecord {r q : Cq} {len : Nat} {mk : Nat → List Byte} (e : placeRecord u r len mk = some (v, q)) :
    SameButTraffic s v := by
  unfold placeRecord at e
  dsimp only at e
  split at e
  · cases e
  · cases e
    refine traffic_hostWrite ?_ _ _
    split
    · exact h
    · exact traffic_hostWrite h _ _

theorem traffic_putEvent {r : EventRec} (e : u.putEvent r = some v) : SameButTraffic s v := by
  unfold State.putEvent at e
  split at e
  · split at e
    · cases e
    · next placed =>
      have taken {x : Cq} := traffic_modHost (f := fun h => { h with eq := { x with arm := false } }) (traffic_placeRecord h placed) rfl
      cases e
      split
      · exact traffic_raiseVector taken _
      · exact taken
  · cases e

theorem traffic_deliverEvent (r : EventRec) : SameButTraffic s (u.deliverEvent r) := by
  have ring : SameButTraffic s (u.toEventRing r) := by
    unfold State.toEventRing
    split
    · split
      · next placed => exact traffic_putEvent h placed
      · exact traffic_modHost h rfl
    · split
      · exact traffic_modHost h rfl
      · exact h
  unfold State.deliverEvent State.tellBmc
  split
  · exact traffic_emit ring _
  · exact ring

theorem traffic_raise (code job detail : Nat) : SameButTraffic s (u.raise code job detail) := by
  have token : SameButTraffic s (u.takeToken code job detail).1 := by
    unfold State.takeToken
    dsimp only
    split
    · exact traffic_with h
    · refine traffic_modHost (f := fun h => { h with evSeq := h.evSeq + 1 }) (traffic_modTel h _) ?_
      rfl
  unfold State.raise
  split
  · next e => rwa [e] at token
  · next e =>
    rw [e] at token
    exact traffic_deliverEvent (traffic_modTel token _) _

theorem traffic_putCompletion {c : Completion} (e : u.putCompletion c = some v) : SameButTraffic s v := by
  unfold State.putCompletion at e
  dsimp only at e
  split at e
  · split at e
    · cases e
    · next placed =>
      cases e
      split
      · exact traffic_raiseVector (traffic_modCq (traffic_placeRecord h placed) _ _) _
      · exact traffic_modCq (traffic_placeRecord h placed) _ _
  · cases e

theorem traffic_complete (c : Completion) : SameButTraffic s (u.complete c) := by
  have hold : SameButTraffic s (u.modHost (fun h =>
      let c' := { c with held := !h.attached }
      if h.reserved + h.buffer.length < 1024 then { h with buffer := h.buffer ++ [c'] } else { h with owed := h.owed ++ [c'] })) := by
    refine traffic_modHost h ?_
    dsimp only
    split <;> rfl
  unfold State.complete
  dsimp only
  split
  · exact hold
  · split
    · next put => exact traffic_putCompletion h put
    · exact hold

theorem traffic_completeDesc (d : Desc) (status step ref value : Nat) (tokens : List Word) :
    SameButTraffic s (u.completeDesc d status step ref value tokens) := traffic_complete h _

end Records

/-! ### Statistics and packets -/

section Packets
variable {s u : State} (h : SameButTraffic s u)
include h

theorem traffic_stat (slot idx n : Nat) : SameButTraffic s (u.stat slot idx n) := by
  have counted : SameButTraffic s (u.statQ slot idx n).1 := by
    have field : SameButTraffic s (u.modJob slot (fun j => { j with
        statistics := tput j.statistics idx ⟨satAdd (tget {} (u.job slot).statistics idx).count n,
          (tget {} (u.job slot).statistics idx).sat || satAdd (tget {} (u.job slot).statistics idx).count n = BitVec.allOnes 48⟩ })) :=
      traffic_modJob h fun _ => rfl
    unfold State.statQ State.satEvents
    dsimp only
    split
    · split
      · exact field
      · exact traffic_modJob field fun _ => rfl
    · exact field
  exact counted.foldl (fun v e => traffic_raise (.refl v) _ _ _) _

theorem traffic_statJob (id idx n : Nat) : SameButTraffic s (u.statJob id idx n) := by
  unfold State.statJob
  split
  · exact traffic_stat h _ _ _
  · exact h

theorem traffic_dropPacket (port : Nat) (p : Packet) : SameButTraffic s (u.dropPacket port p) :=
  traffic_statJob (traffic_modPort (traffic_raise h _ _ _) fun _ => rfl) _ _ _

theorem traffic_route (p : Packet) : SameButTraffic s (u.route p).1 := by
  unfold State.route
  split
  · exact traffic_with h
  · split
    · exact traffic_nextOpen h
    · split
      · exact traffic_statJob (traffic_modPort h fun _ => rfl) _ _ _
      · exact h

theorem traffic_sendQuiet (p : Packet) : SameButTraffic s (u.sendQuiet p) := by
  have routed := traffic_route h { p with bank := u.bankOf (tagJob p.tag) }
  unfold State.sendQuiet
  dsimp only
  split
  · next e => rwa [e] at routed
  · next e =>
    rw [e] at routed
    exact traffic_dropPacket routed _ _

theorem traffic_revokeForDiscard (port job : Nat) : SameButTraffic s (u.revokeForDiscard port job) := by
  unfold State.revokeForDiscard
  split
  · exact h
  · split
    · exact h
    · dsimp only
      split
      · exact h
      · exact (traffic_modPort h fun _ => rfl).foldl (fun v _ => traffic_sendQuiet (.refl v) _) _

theorem traffic_sendRequest (p : Packet) : SameButTraffic s (u.sendRequest p).1 := by
  have routed := traffic_route h { p with bank := u.bankOf (tagJob p.tag) }
  unfold State.sendRequest
  dsimp only
  split
  · next e => rwa [e] at routed
  · next e =>
    rw [e] at routed
    dsimp only
    split
    · exact traffic_revokeForDiscard (traffic_dropPacket routed _ _) _ _
    · exact traffic_dropPacket routed _ _

theorem traffic_loadRequest (slot i : Nat) (up : Bool) (op : Nat) : SameButTraffic s (u.loadRequest slot i up op) := by
  have sent {p v b} (e : u.sendRequest p = (v, b)) : SameButTraffic s v := by
    have := traffic_sendRequest h p
    rwa [e] at this
  unfold State.loadRequest
  dsimp only
  split
  · next e => exact sent e
  · next e =>
    split
    · exact traffic_modJob (sent e) fun _ => rfl
    · exact sent e

theorem traffic_restartLoad (slot i : Nat) : SameButTraffic s (u.restartLoad slot i) := by
  have rewound : SameButTraffic s (u.modJob slot (fun j => { j with
      loads := tput j.loads i { (tget {} (u.job slot).loads i).rewind with
        readySent := (tget {} (u.job slot).loads i).tail && !(tget {} (u.job slot).loads i).head } })) := traffic_modJob h fun _ => rfl
  unfold State.restartLoad
  dsimp only
  split
  · split
    · exact rewound
    · exact traffic_loadRequest rewound _ _ _ _
  · exact traffic_loadRequest rewound _ _ _ _

theorem traffic_breakLoad (slot i reason : Nat) : SameButTraffic s (u.breakLoad slot i reason) := by
  unfold State.breakLoad
  dsimp only
  split
  · split
    · exact traffic_restartLoad (traffic_raise h _ _ _) _ _
    · exact traffic_loadRequest (traffic_raise h _ _ _) _ _ _ _
  · exact h

theorem traffic_discardUnroutable (port : Nat) (down : Bool) (p : Packet) : SameButTraffic s (u.discardUnroutable port down p) := by
  have lost : SameButTraffic s ((u.dropPacket port p).loadPacketLost p) := by
    unfold State.loadPacketLost
    split
    · split
      · exact traffic_breakLoad (traffic_dropPacket h _ _) _ _ _
      · exact traffic_dropPacket h _ _
    · exact traffic_dropPacket h _ _
  unfold State.discardUnroutable
  dsimp only
  split
  · exact traffic_revokeForDiscard lost _ _
  · exact lost

theorem traffic_sendCopy (p : Packet) : SameButTraffic s (u.sendCopy p) := by
  have routed := traffic_route h p
  unfold State.sendCopy
  split
  · next e => rwa [e] at routed
  · next e =>
    rw [e] at routed
    exact traffic_discardUnroutable routed _ _ _

theorem traffic_originate (p : Packet) : SameButTraffic s (u.originate p) := traffic_sendCopy h _

theorem traffic_refuseTricks (slot cause : Nat) : SameButTraffic s (u.refuseTricks slot cause) :=
  h.foldl (fun v _ => traffic_originate (.refl v) _) _

end Packets

end Sys2Proof.Machine
end

section
/-! Island clocks and stack voltages: what `State.retime` changes (R555, R563, R564). -/
namespace Sys2Proof.Machine

/-- From `s` to `t` only the clocks of tiles, the voltages asked for and the limits of running steps change, and the voltage bus is used. -/
structure SameButClocks (s t : State) : Prop where
  state : t = { s with tiles := t.tiles, stks := t.stks, dealer := t.dealer, out := t.out }
  dealer : t.dealer = { s.dealer with jobs := t.dealer.jobs }
  tile : ∀ ix, t.tileAt ix = { s.tileAt ix with clock := (t.tileAt ix).clock }
  stack : ∀ k, t.stack k = { s.stack k with pendingMv := (t.stack k).pendingMv, avsRetried := (t.stack k).avsRetried }
  job : ∀ n, t.job n = { s.job n with
      stepFmin := (t.job n).stepFmin, passes := (t.job n).passes, wdogFmin := (t.job n).wdogFmin, wdogLimit := (t.job n).wdogLimit }

namespace SameButClocks

variable {s t u : State}

theorem refl (s : State) : SameButClocks s s := by constructor <;> intros <;> rfl

theorem trans (h : SameButClocks s t) (k : SameButClocks t u) : SameButClocks s u where
  state := by rw [k.state, h.state]
  dealer := by rw [k.dealer, h.dealer]
  tile ix := by rw [k.tile ix, h.tile ix]
  stack n := by rw [k.stack n, h.stack n]
  job n := by rw [k.job n, h.job n]

theorem foldl {α : Type} {f : State → α → State} (h : SameButClocks s u) (hf : ∀ v a, SameButClocks v (f v a)) (l : List α) :
    SameButClocks s (l.foldl f u) := by
  induction l generalizing u with
  | nil => exact h
  | cons a l ih => exact ih (h.trans (hf u a))

end SameButClocks

section Clocks
variable (s : State)

theorem State.emit_stack (o : Out) (k : Nat) : (s.emit o).stack k = s.stack k := rfl

theorem clocks_modTileAt (ix : Nat) (c : Nat) : SameButClocks s (s.modTileAt ix (fun x => { x with clock := c })) := by
  constructor
  case tile =>
    intro i
    rw [State.tileAt_modTileAt]
    split
    · next e => rw [e]
    · rfl
  all_goals intros; rfl

theorem clocks_reclock (k : Nat) : SameButClocks s (s.reclock k) := by
  unfold State.reclock
  refine SameButClocks.foldl (SameButClocks.foldl (.refl s) (fun v t => ?_) _) (fun v L => ?_) _
  · split
    · exact clocks_modTileAt v _ _
    · exact .refl v
  · split
    · exact .refl v
    · exact clocks_modTileAt v _ _

theorem clocks_setVoltage (k : Nat) : SameButClocks s (s.setVoltage k) := by
  unfold State.setVoltage
  dsimp only
  split
  · exact .refl s
  · constructor
    case stack =>
      intro n
      rw [State.emit_stack, State.stack_modStack]
      split
      · next e => rw [e]
      · rfl
    all_goals intros; rfl

theorem clocks_modJob {n : Nat} {f : Job → Job}
    (hf : ∀ j, f j = { j with stepFmin := (f j).stepFmin, passes := (f j).passes, wdogFmin := (f j).wdogFmin, wdogLimit := (f j).wdogLimit }) :
    SameButClocks s (s.modJob n f) := by
  constructor
  case job =>
    intro m
    rw [State.job_modJob]
    split
    · next e => rw [e]; exact hf _
    · rfl
  all_goals intros; rfl

theorem clocks_relimit : SameButClocks s s.relimit := by
  unfold State.relimit
  refine SameButClocks.foldl (.refl s) (fun v n => ?_) _
  dsimp only
  split
  · next r _ =>
    have fmin : SameButClocks v (if (r.reserved && decide (v.minClock (v.job n) < (v.job n).stepFmin)) = true then
        v.modJob n (fun j => { j with stepFmin := v.minClock (v.job n) }) else v) := by
      split
      · exact clocks_modJob v fun _ => rfl
      · exact .refl v
    split
    · exact fmin.trans (clocks_modJob _ fun _ => rfl)
    · exact fmin
  · exact .refl v

theorem clocks_retime : SameButClocks s s.retime := by
  unfold State.retime
  exact (SameButClocks.foldl (.refl s) (fun v k => (clocks_reclock v k).trans (clocks_setVoltage _ k)) _).trans (clocks_relimit _)

end Clocks

end Sys2Proof.Machine
end

section
/-! The reset of the compute complex (R475, R476): what it leaves of the jobs, of their objects, channels and tricks, and of device memory. -/
namespace Sys2Proof.Machine

theorem State.mem_jobSlots {s : State} {n : Nat} :
    n ∈ s.jobSlots ↔ n < 16 ∧ (s.job n).valid = true ∧ (s.job n).endingLost = false := by
  simp [State.jobSlots]

/-! ### Before the reset: jobs are lost, but keep their places -/

/-- From `s` to `t` device memory and what no job owns stays, and the jobs keep their groups. -/
structure SamePlaces (s t : State) : Prop where
  pending : t.pending = s.pending
  mem : t.mem = s.mem
  flash : t.flash = s.flash
  fuses : t.fuses = s.fuses
  sec : t.sec = s.sec
  slices : ∀ k, t.gsliceBytes k = s.gsliceBytes k
  valid : ∀ n, (s.job n).valid = true → (t.job n).valid = true
  first : ∀ n, (t.job n).first = (s.job n).first
  groups : ∀ n, (t.job n).groups = (s.job n).groups

namespace SamePlaces

variable {s t u : State}

theorem refl (s : State) : SamePlaces s s := ⟨rfl, rfl, rfl, rfl, rfl, fun _ => rfl, fun _ => id, fun _ => rfl, fun _ => rfl⟩

theorem trans (h : SamePlaces s t) (k : SamePlaces t u) : SamePlaces s u :=
  ⟨k.pending.trans h.pending, k.mem.trans h.mem, k.flash.trans h.flash, k.fuses.trans h.fuses, k.sec.trans h.sec, fun n => (k.slices n).trans (h.slices n), fun n => k.valid n ∘ h.valid n, fun n => (k.first n).trans (h.first n),
    fun n => (k.groups n).trans (h.groups n)⟩

theorem foldl {α : Type} {f : State → α → State} (h : SamePlaces s u) (hf : ∀ v a, SamePlaces v (f v a)) (l : List α) :
    SamePlaces s (l.foldl f u) := by
  induction l generalizing u with
  | nil => exact h
  | cons a l ih => exact ih (h.trans (hf u a))

theorem of_traffic (h : SameButTraffic s t) : SamePlaces s t where
  pending := by rw [h.state]
  mem := by rw [h.state]
  flash := by rw [h.state]
  fuses := by rw [h.state]
  sec := by rw [h.state]
  slices k := by rw [h.state]; rfl
  valid n hv := by rw [h.job n]; exact hv
  first n := by rw [h.job n]
  groups n := by rw [h.job n]

theorem gddrSlices (h : SamePlaces s t) (n : Nat) : t.gddrSlices (t.job n) = s.gddrSlices (s.job n) := by
  simp only [State.gddrSlices, State.gddrSlice, h.first, h.groups, h.slices]

/-- An update of another part of the state. -/
theorem of_eq (pending : t.pending = s.pending) (mem : t.mem = s.mem) (flash : t.flash = s.flash) (fuses : t.fuses = s.fuses)
    (sec : t.sec = s.sec) (stks : t.stks = s.stks) (jobs : t.dealer.jobs = s.dealer.jobs) : SamePlaces s t where
  pending := pending
  mem := mem
  flash := flash
  fuses := fuses
  sec := sec
  slices k := by rw [State.gsliceBytes, State.stack, stks]; rfl
  valid n hv := by rw [State.job, jobs]; exact hv
  first n := by rw [State.job, jobs]; rfl
  groups n := by rw [State.job, jobs]; rfl

end SamePlaces

section Lose
variable (s : State)

theorem places_failDescs (slot status value : Nat) : SamePlaces s (s.failDescs slot status value) := by
  unfold State.failDescs
  refine SamePlaces.trans (SamePlaces.foldl (SamePlaces.foldl (.refl s) (fun v d => ?_) _)
    (fun v d => .of_traffic (traffic_completeDesc (.refl v) _ _ _ _ _ _)) _) (.of_eq rfl rfl rfl rfl rfl rfl rfl)
  refine SamePlaces.trans ?_ (.of_traffic (traffic_completeDesc (.refl _) _ _ _ _ _ _))
  split
  · exact .of_eq rfl rfl rfl rfl rfl rfl rfl
  · exact .refl v

theorem places_tellLost (slot : Nat) : SamePlaces s (s.tellLost slot) := by
  unfold State.tellLost
  dsimp only
  split
  · exact (SamePlaces.refl s).foldl (fun v _ => (SamePlaces.refl v).foldl (fun w _ => .of_traffic (traffic_originate (.refl w) _)) _) _
  · exact .of_traffic (traffic_refuseTricks (.refl s) _ _)

theorem places_modStack (k : Nat) {f : Stack → Stack} (hf : ∀ x, (f x).cut512 = x.cut512) : SamePlaces s (s.modStack k f) where
  pending := rfl
  mem := rfl
  flash := rfl
  fuses := rfl
  sec := rfl
  slices n := by
    rw [State.gsliceBytes, State.gsliceBytes, State.stack_modStack]
    split
    · next e => rw [hf, e]
    · rfl
  valid _ := id
  first _ := rfl
  groups _ := rfl

theorem places_modJob (n : Nat) {f : Job → Job} (hvalid : ∀ j, j.valid = true → (f j).valid = true) (hfirst : ∀ j, (f j).first = j.first)
    (hgroups : ∀ j, (f j).groups = j.groups) : SamePlaces s (s.modJob n f) where
  pending := rfl
  mem := rfl
  flash := rfl
  fuses := rfl
  sec := rfl
  slices _ := rfl
  valid m hv := by
    rw [State.job_modJob]
    split
    · next e => exact hvalid _ (e ▸ hv)
    · exact hv
  first m := by
    rw [State.job_modJob]
    split
    · next e => rw [hfirst, e]
    · rfl
  groups m := by
    rw [State.job_modJob]
    split
    · next e => rw [hgroups, e]
    · rfl

theorem places_dropJobUnits (slot : Nat) : SamePlaces s (s.dropJobUnits slot) := by
  unfold State.dropJobUnits
  extract_lets j job tiles s1 s2 s3 s4 s5
  have units : SamePlaces s s4 := .of_eq rfl rfl rfl rfl rfl rfl rfl
  have deferred : SamePlaces s s5 := by
    refine units.foldl (fun v k => ?_) _
    exact places_modStack v k fun _ => rfl
  refine deferred.foldl (fun v L => ?_) _
  exact .of_eq rfl rfl rfl rfl rfl rfl rfl

theorem places_loseJob (slot code : Nat) (origin : BitVec 12) (tell : Bool) : SamePlaces s (s.loseJob slot code origin tell) := by
  unfold State.loseJob
  extract_lets s1 s2 s3
  have failed : SamePlaces s s1 := places_failDescs s _ _ _
  have told : SamePlaces s s2 := by
    unfold s2
    split
    · exact failed.trans (places_tellLost _ _)
    · exact failed
  exact (told.trans (places_dropJobUnits _ _)).trans (places_modJob _ _ (fun _ _ => rfl) (fun _ => rfl) fun _ => rfl)

theorem places_loseFetched (code : Nat) : SamePlaces s (s.loseFetched code) := by
  unfold State.loseFetched
  refine (SamePlaces.refl s).foldl (fun v q => ?_) _
  dsimp only
  exact ((SamePlaces.refl v).foldl (fun w d => .of_traffic (traffic_completeDesc (.refl w) _ _ _ _ _ _)) _).trans (.of_eq rfl rfl rfl rfl rfl rfl rfl)

end Lose

/-! ### Windows -/

/-- Records of completions leave the submission rings as they are. -/
theorem SameButTraffic.sq {s t : State} (h : SameButTraffic s t) (q : Nat) : t.sq q = s.sq q := by
  rw [State.sq, h.host]; rfl

/-- A window whose jobs are all lost holds no JOB descriptor. -/
def State.noJobFetched (s : State) (q : Nat) : Prop := ∀ d ∈ (s.sq q).window, leAt d.bytes 0 1 ≠ 1

theorem noJobFetched_modSq {s : State} {q : Nat} {f : Sq → Sq} (hf : ∀ d ∈ (f (s.sq q)).window, leAt d.bytes 0 1 ≠ 1) :
    (s.modSq q f).noJobFetched q := by
  rw [State.noJobFetched, State.sq_modSq_same]
  exact hf

theorem State.loseFetched_noJobFetched (s : State) (code : Nat) : ∀ q < 64, (s.loseFetched code).noJobFetched q := by
  unfold State.loseFetched
  generalize hf : (fun (s : State) (q : Nat) => _) = f
  have one : ∀ v q, (f v q).noJobFetched q ∧ ∀ p, p ≠ q → (f v q).sq p = v.sq p := by
    subst hf
    intro v q
    have told := (SameButTraffic.refl v).foldl (fun w (d : Desc) => traffic_completeDesc (.refl w) d 0x21 (descStep {} d) (descRef d)
      (lostValue code 7 w.self) []) ((v.sq q).window.filter (fun d => (v.sq q).window.any (fun e => e.dtype = 1 && e.job = d.job)))
    refine ⟨noJobFetched_modSq fun d hd => ?_, fun p hp => ?_⟩
    · obtain ⟨inWindow, kept⟩ := List.mem_filter.1 hd
      intro isJob
      have gone : (v.sq q).window.any (fun e => decide (e.dtype = 1) && decide (e.job = d.job)) = true :=
        List.any_eq_true.2 ⟨d, inWindow, by simp [Desc.dtype, isJob]⟩
      simp [gone] at kept
    · rw [State.sq_modSq, if_neg hp]
      exact told.sq p
  have all : ∀ n, ∀ q < n, ((List.range n).foldl f s).noJobFetched q := by
    intro n
    induction n with
    | zero => intro q hq; omega
    | succ n ih =>
      intro q hq
      rw [List.range_succ, List.foldl_append]
      obtain ⟨here, others⟩ := one ((List.range n).foldl f s) n
      by_cases e : q = n
      · subst e; exact here
      · have := ih q (by omega)
        rw [State.noJobFetched] at this ⊢
        rwa [List.foldl_cons, List.foldl_nil, others q e]
  exact all 64

/-! ### Zeroing -/

/-- A back-invalidate snoop changes the host's held lines and what leaves the package. -/
theorem State.snoopHost_eq (s : State) (lines : List Nat) :
    s.snoopHost lines = { s with host := { s.host with hostHeld := (s.snoopHost lines).host.hostHeld }, out := (s.snoopHost lines).out } := by
  have fold : ∀ (ls : List Nat) (u : State),
      ls.foldl (fun s l => s.emit (.backInvalidate l)) u = { u with out := (ls.foldl (fun s l => s.emit (.backInvalidate l)) u).out } := by
    intro ls
    induction ls with
    | nil => exact fun _ => rfl
    | cons l r ih => intro u; rw [List.foldl_cons, ih]; rfl
  unfold State.snoopHost
  dsimp only
  rw [fold]
  split <;> rfl

/-- Zeroed ranges change device memory, with its poison and its flaws, and what the host is told to give up. -/
structure Zeroed (s t : State) : Prop where
  state : t = { s with mem := t.mem, poison := t.poison, flaws := t.flaws, host := t.host, out := t.out }
  host : t.host = { s.host with hostHeld := t.host.hostHeld }
  zero : ∀ a, s.memByte a = 0 → t.memByte a = 0

namespace Zeroed

variable {s t u : State}

theorem refl (s : State) : Zeroed s s := ⟨rfl, rfl, fun _ => id⟩

theorem trans (h : Zeroed s t) (k : Zeroed t u) : Zeroed s u where
  state := by rw [k.state, h.state]
  host := by rw [k.host, h.host]
  zero a := k.zero a ∘ h.zero a

theorem foldl {α : Type} {f : State → α → State} (h : Zeroed s u) (hf : ∀ v a, Zeroed v (f v a)) (l : List α) :
    Zeroed s (l.foldl f u) := by
  induction l generalizing u with
  | nil => exact h
  | cons a l ih => exact ih (h.trans (hf u a))

theorem slices (h : Zeroed s t) (j : Job) : t.gddrSlices j = s.gddrSlices j := by rw [h.state]; rfl

theorem job (h : Zeroed s t) (n : Nat) : t.job n = s.job n := by rw [h.state]; rfl

end Zeroed

/-- One range zeroed. -/
def State.zeroRange (s : State) (r : Nat × Nat) : State :=
  { s with
    mem := Mem.clear s.mem r.1 r.2
    poison := s.poison.filter (fun e => decide (e.1 * 64 < r.1) || decide (r.2 ≤ e.1 * 64))
    flaws := s.flaws.filter (fun e => decide (e.1 * 64 < r.1) || decide (r.2 ≤ e.1 * 64)) }

theorem State.memByte_zeroRange (s : State) (r : Nat × Nat) (a : Nat) :
    (s.zeroRange r).memByte a = if r.1 ≤ a ∧ a < r.2 then 0 else s.memByte a := Mem.byte_clear _ _ _ _

theorem zeroed_zeroRange (s : State) (r : Nat × Nat) : Zeroed s (s.zeroRange r) := by
  refine ⟨rfl, rfl, fun a zero => ?_⟩
  rw [State.memByte_zeroRange, zero, ite_self]

theorem zeroed_zeroRanges (s : State) (rs : List (Nat × Nat)) : Zeroed s (s.zeroRanges rs) := by
  refine Zeroed.foldl (f := State.zeroRange) ?_ zeroed_zeroRange rs
  exact ⟨by rw [State.snoopHost_eq], by rw [State.snoopHost_eq], fun a zero => by rw [State.snoopHost_eq]; exact zero⟩

/-- A byte of a zeroed range is zero. -/
theorem State.memByte_zeroRanges_of_mem {s : State} {rs : List (Nat × Nat)} {r : Nat × Nat} (hr : r ∈ rs) {a : Nat} (low : r.1 ≤ a)
    (high : a < r.2) : (s.zeroRanges rs).memByte a = 0 := by
  have fold : ∀ u : State, (rs.foldl State.zeroRange u).memByte a = 0 := by
    induction rs with
    | nil => cases hr
    | cons q rs ih =>
      intro u
      rcases List.mem_cons.1 hr with rfl | rest
      · refine (Zeroed.foldl (.refl _) zeroed_zeroRange rs).zero a ?_
        rw [State.memByte_zeroRange, if_pos ⟨low, high⟩]
      · exact ih rest _
  exact fold _

/-- The slices of every slot of a list are zeroed. -/
theorem zeroed_slices (s : State) (l : List Nat) : Zeroed s (l.foldl (fun s n => s.zeroRanges (s.gddrSlices (s.job n))) s) :=
  (Zeroed.refl s).foldl (fun v _ => zeroed_zeroRanges v _) l

theorem State.memByte_zeroed_slices {s : State} {l : List Nat} {n : Nat} (hn : n ∈ l) {r : Nat × Nat} (hr : r ∈ s.gddrSlices (s.job n))
    {a : Nat} (low : r.1 ≤ a) (high : a < r.2) : (l.foldl (fun s n => s.zeroRanges (s.gddrSlices (s.job n))) s).memByte a = 0 := by
  induction l generalizing s with
  | nil => cases hn
  | cons m l ih =>
    have now := zeroed_zeroRanges s (s.gddrSlices (s.job m))
    rcases List.mem_cons.1 hn with rfl | rest
    · exact (zeroed_slices _ l).zero a (State.memByte_zeroRanges_of_mem hr low high)
    · refine ih rest ?_
      rwa [now.slices, now.job]

/-! ### The reset -/

theorem tget_map {α β : Type} (f : α → β) (d : α) (t : Tbl α) (i : Nat) : tget (f d) (t.map (fun e => (e.1, f e.2))) i = f (tget d t i) := by
  induction t with
  | nil => rfl
  | cons e t ih =>
    obtain ⟨k, v⟩ := e
    simp only [List.map_cons, tget]
    split
    · rfl
    · exact ih

/-- The state of the compute complex in reset. -/
structure ComplexReset (t : State) : Prop where
  jobs : ∀ n, (t.job n).valid = false
  windows : ∀ q < 64, t.noJobFetched q
  objs : t.objs = []
  trk : t.trk.locals = [] ∧ t.trk.shares = [] ∧ t.trk.coords = []
  tiles : ∀ ix, ∃ clock fenced, t.tileAt ix = { clock, fenced }
  ccBusy : t.host.ccBusy = true

theorem ComplexReset.anyJob {t : State} (h : ComplexReset t) : t.anyJob = false := by
  have noSlot : t.jobSlots = [] := by simp [State.jobSlots, h.jobs]
  have noneFetched : ∀ q < 64, ∀ d ∈ (tget ({} : Sq) t.host.sqs q).window, leAt d.bytes 0 1 ≠ 1 := h.windows
  simp only [State.anyJob, noSlot, List.isEmpty_nil, Bool.not_true, Bool.false_or, List.any_eq_false, List.mem_range]
  intro q hq any
  obtain ⟨d, hd, isJob⟩ := List.any_eq_true.1 any
  exact noneFetched q hq d hd (by simpa using isJob)

/-- Clocks and voltages that follow leave the complex in reset. -/
theorem ComplexReset.of_clocks {s t : State} (h : ComplexReset s) (k : SameButClocks s t) : ComplexReset t where
  jobs n := by rw [k.job n]; exact h.jobs n
  windows q hq := by
    have := h.windows q hq
    rw [State.noJobFetched, State.sq] at this ⊢
    rwa [k.state]
  objs := by rw [k.state]; exact h.objs
  trk := by rw [k.state]; exact h.trk
  tiles ix := by
    obtain ⟨clock, fenced, tile⟩ := h.tiles ix
    exact ⟨_, fenced, by rw [k.tile ix, tile]⟩
  ccBusy := by rw [k.state]; exact h.ccBusy

/-- Records and packets leave the complex in reset. -/
theorem ComplexReset.of_traffic {s t : State} (h : ComplexReset s) (k : SameButTraffic s t) : ComplexReset t where
  jobs n := by rw [k.job n]; exact h.jobs n
  windows q hq := by
    have := h.windows q hq
    rw [State.noJobFetched] at this ⊢
    rwa [k.sq]
  objs := by rw [k.state]; exact h.objs
  trk := by rw [k.state]; exact h.trk
  tiles ix := by rw [k.state]; exact h.tiles ix
  ccBusy := by rw [k.host]; exact h.ccBusy

/-- What the compute complex is after its reset, and what the reset has left of device memory. -/
theorem State.ccReset_spec (s : State) (code : Nat) : ComplexReset (s.ccReset code)
    ∧ (∀ n ∈ s.jobSlots, ∀ r ∈ s.gddrSlices (s.job n), ∀ a, r.1 ≤ a → a < r.2 → (s.ccReset code).memByte a = 0)
    ∧ (∀ a, s.memByte a = 0 → (s.ccReset code).memByte a = 0)
    ∧ (s.ccReset code).pending = s.pending ∧ (s.ccReset code).flash = s.flash ∧ (s.ccReset code).fuses = s.fuses
    ∧ (s.ccReset code).sec = s.sec := by
  unfold State.ccReset
  extract_lets lost s1 all s2 s3 s4 s5 s6
  have places : SamePlaces s s1 := ((SamePlaces.refl s).foldl (fun v n => places_loseJob v n code v.self true) lost).trans (places_loseFetched _ _)
  have windows : ∀ q < 64, s1.noJobFetched q := State.loseFetched_noJobFetched _ _
  have zeroed : Zeroed s1 s2 := zeroed_slices s1 all
  have slices : ∀ n ∈ s.jobSlots, ∀ r ∈ s.gddrSlices (s.job n), ∀ a, r.1 ≤ a → a < r.2 → s2.memByte a = 0 := by
    intro n hn r hr a low high
    obtain ⟨small, isJob, -⟩ := State.mem_jobSlots.1 hn
    have valid : (s1.job n).valid = true := places.valid n isJob
    have among : n ∈ all := List.mem_filter.2 ⟨List.mem_range.2 small, valid⟩
    refine State.memByte_zeroed_slices among ?_ low high
    rwa [places.gddrSlices]
  clear_value s2 s1
  have reset : ComplexReset { s6 with recov := { s6.recov with takeover := none, restore := [] } } := by
    refine ⟨fun _ => rfl, fun q hq => ?_, rfl, ⟨rfl, rfl, rfl⟩, fun ix => ?_, rfl⟩
    · have sqs : s2.host.sqs = s1.host.sqs := by rw [zeroed.host]
      have before := windows q hq
      rw [State.noJobFetched, State.sq, ← sqs] at before
      exact before
    · exact ⟨_, _, tget_map Tile.reset {} s2.tiles ix⟩
  have clocks := clocks_retime { s6 with recov := { s6.recov with takeover := none, restore := [] } }
  have mem : ∀ a, ({ s6 with recov := { s6.recov with takeover := none, restore := [] } } : State).retime.memByte a = s2.memByte a := by
    intro a
    rw [State.memByte, clocks.state]
    rfl
  refine ⟨reset.of_clocks clocks, fun n hn r hr a low high => ?_, fun a zero => ?_, ?_⟩
  · rw [mem]
    exact slices n hn r hr a low high
  · rw [mem]
    exact zeroed.zero a (by rw [State.memByte, places.mem]; exact zero)
  · rw [clocks.state]
    have still : s2.pending = s1.pending ∧ s2.flash = s1.flash ∧ s2.fuses = s1.fuses ∧ s2.sec = s1.sec := by
      rw [zeroed.state]
      exact ⟨rfl, rfl, rfl, rfl⟩
    obtain ⟨pending, flash, fuses, sec⟩ := still
    exact ⟨pending.trans places.pending, flash.trans places.flash, fuses.trans places.fuses, sec.trans places.sec⟩

end Sys2Proof.Machine
end

section
/-! A job fault (R475, R476). -/
namespace Sys2Proof.Machine

/-- A tile in reset has no channel, no work and no running stream. -/
theorem ComplexReset.tile {t : State} (h : ComplexReset t) (L : Nat) : (t.tile L).eps = [] ∧ (t.tile L).streams = []
    ∧ (t.tile L).banks = [] ∧ (t.tile L).finQueue = [] := by
  obtain ⟨clock, fenced, tile⟩ := h.tiles (t.tileIx L)
  rw [State.tile, tile]
  exact ⟨rfl, rfl, rfl, rfl⟩

theorem ComplexReset.stream {t : State} (h : ComplexReset t) (L i : Nat) : t.stream L i = {} := by
  rw [State.stream, Tile.stream, (h.tile L).2.1]
  rfl

/-- Settles O37: the state after the fault is the compute complex in reset, and the slices of the lost jobs are zeroed with it. -/
theorem jobFaultLosesEverything : Obligations.JobFaultLosesEverything := by
  unfold Obligations.JobFaultLosesEverything
  intro s code
  rw [State.jobFault]
  obtain ⟨reset, zeroed, zero, -⟩ := s.ccReset_spec code
  obtain ⟨locals, shares, -⟩ := reset.trk
  refine ⟨reset.anyJob, reset.objs, locals, shares, reset.ccBusy, fun L _ => (reset.tile L).1, fun L _ i _ => ?_, zeroed, zero⟩
  rw [reset.stream]
  exact ⟨rfl, rfl⟩

end Sys2Proof.Machine
end

section
/-! Events: the token of a code's bucket (R534), and what an event leaves on a package without a host (R421). -/
namespace Sys2Proof.Machine

section Event
variable {s : State} {code job detail : Nat}

/-- The record of an event that has a token. -/
def State.eventOf (s : State) (code job detail : Nat) : EventRec :=
  { code := BitVec.ofNat 16 code, job := BitVec.ofNat 12 job, detail := BitVec.ofNat 64 detail,
    suppressed := BitVec.ofNat 32 (tget {} s.tel.buckets code).pending, seq := s.host.evSeq, stamp := s.stamp }

/-- A bucket that has given a token, and whose count of suppressed events is taken. -/
def State.bucketTaken (s : State) (code : Nat) : Bucket :=
  { tokens := min (tget {} s.tel.buckets code).tokens (s.rateOf code).1 - 1, pending := 0, burst := (s.rateOf code).1 }

/-- The state after a token and the next sequence number are taken. -/
def State.tokenTaken (s : State) (code : Nat) : State :=
  (s.modTel (fun t => { t with buckets := tput t.buckets code (s.bucketTaken code) })).modHost (fun h => { h with evSeq := h.evSeq + 1 })

theorem State.raise_of_token (token : 0 < min (tget {} s.tel.buckets code).tokens (s.rateOf code).1) :
    s.raise code job detail
      = ((s.tokenTaken code).queueEvent (s.eventOf code job detail)).deliverEvent (s.eventOf code job detail) := by
  have some : ¬ min (tget {} s.tel.buckets code).tokens (s.rateOf code).1 = 0 := by omega
  simp only [State.raise, State.takeToken, if_neg some]
  rfl

theorem State.raise_of_no_token (none : (tget {} s.tel.buckets code).tokens = 0) :
    s.raise code job detail = s.modTel (fun t => { t with
      buckets := tput t.buckets code { tokens := 0, pending := satNat 32 (tget {} s.tel.buckets code).pending 1, burst := (s.rateOf code).1 } }) := by
  simp [State.raise, State.takeToken, none]

/-- Without a host the event ring takes nothing, and the first event is held. -/
theorem State.toEventRing_detached {r : EventRec} (detached : s.host.attached = false) (empty : s.host.heldEvents = []) :
    s.toEventRing r = s.modHost (fun h => { h with heldEvents := [r] }) := by
  simp [State.toEventRing, State.putEvent, detached, empty]

theorem State.queueEvent_of_room {r : EventRec} (notFull : s.tel.full = false) (room : s.tel.queue.length < 1024) :
    s.queueEvent r = s.modTel (fun t => { t with queue := t.queue ++ [r] }) := by
  have : ¬ 1024 ≤ s.tel.queue.length := by omega
  simp [State.queueEvent, State.modTel, notFull, this]

@[simp] theorem State.tellBmc_tel (s : State) (r : EventRec) : (s.tellBmc r).tel = s.tel := by
  unfold State.tellBmc; split <;> rfl

@[simp] theorem State.tellBmc_host (s : State) (r : EventRec) : (s.tellBmc r).host = s.host := by
  unfold State.tellBmc; split <;> rfl

end Event

/-- Settles O12: the record joins the queue and the held events of the state whose bucket has given the token. -/
theorem eventsFollowTheRateLimit : Obligations.EventsFollowTheRateLimit := by
  unfold Obligations.EventsFollowTheRateLimit
  refine ⟨fun s code job detail hcode token detached empty notFull room => ?_, fun s code job detail none => State.raise_of_no_token none⟩
  have raised : s.raise code job detail = ((((s.tokenTaken code).modTel (fun t => { t with
      queue := t.queue ++ [s.eventOf code job detail] })).modHost (fun h => { h with
      heldEvents := [s.eventOf code job detail] })).tellBmc (s.eventOf code job detail)) := by
    rw [State.raise_of_token token, State.queueEvent_of_room (s := s.tokenTaken code) notFull room, State.deliverEvent,
      State.toEventRing_detached (s := (s.tokenTaken code).modTel _) detached empty]
  rw [raised]
  simp only [State.tellBmc_tel, State.tellBmc_host]
  exact ⟨s.eventOf code job detail, Nat.mod_eq_of_lt hcode, rfl, rfl, rfl, rfl, rfl, tget_tput_same _ _ _ _⟩

end Sys2Proof.Machine
end

section
/-! Signed blocks (R508): the checks of a block, and the nonce that it consumes. -/
namespace Sys2Proof.Machine

section Block
variable {s : State} {p : SecPath} {cmd : Nat} {b : List Byte} {key : Nat → List Byte → Bool}

/-- The state of a block's checks once the nonce that the block names is consumed. -/
def State.nonceTaken (s : State) (p : SecPath) (b : List Byte) : State :=
  if 48 ≤ b.length ∧ s.nonceOf p = some (BitVec.ofNat 256 (leAt b 16 32)) then s.setNonce p none else s

theorem State.nonceTaken_of_named (long : 48 ≤ b.length) (named : s.nonceOf p = some (BitVec.ofNat 256 (leAt b 16 32))) :
    s.nonceTaken p b = s.setNonce p none := if_pos ⟨long, named⟩

theorem State.nonceTaken_of_not_named (other : s.nonceOf p ≠ some (BitVec.ofNat 256 (leAt b 16 32))) : s.nonceTaken p b = s :=
  if_neg fun h => other h.2

@[simp] theorem State.nonceOf_setNonce_none (s : State) (p : SecPath) : (s.setNonce p none).nonceOf p = none := by
  simp [State.nonceOf, State.setNonce, State.modSec, tget_tdel]

theorem State.nonceTaken_frame (s : State) (p : SecPath) (b : List Byte) :
    (s.nonceTaken p b).fuses = s.fuses ∧ (s.nonceTaken p b).mem = s.mem ∧ (s.nonceTaken p b).sec.level = s.sec.level := by
  unfold State.nonceTaken
  split <;> exact ⟨rfl, rfl, rfl⟩

/-- A failed authentication is an event and nothing else. -/
theorem records_authFail (s : State) (p : SecPath) (cmd : Nat) : SameButRecords s (s.authFail p cmd).1 := records_raise _ _ _ _

theorem State.checkBlock_of_short (short : b.length < blockBytes) : s.checkBlock p cmd b key = (s.nonceTaken p b, some 2) := by
  simp [State.checkBlock, State.nonceTaken, short]

theorem State.checkBlock_of_shorter (short : b.length < 48) : s.checkBlock p cmd b key = (s, some 2) := by
  rw [State.checkBlock_of_short (by rw [blockBytes]; omega), State.nonceTaken, if_neg (by omega)]

/-- Whatever its result, a block's checks change nothing but the nonce and the records of an event. -/
theorem State.checkBlock_fst : SameButRecords (s.nonceTaken p b) (s.checkBlock p cmd b key).1 := by
  unfold State.checkBlock
  extract_lets fresh s1 key'
  have taken : s1 = s.nonceTaken p b := by simp [s1, fresh, State.nonceTaken]
  rw [taken]
  split
  · exact SameButRecords.refl _
  · split
    · exact records_authFail _ p cmd
    · split <;> exact SameButRecords.refl _

/-- Result 0 is no result of a failed check. -/
theorem State.checkBlock_ne_zero : (s.checkBlock p cmd b key).2 ≠ some 0 := by
  unfold State.checkBlock
  extract_lets fresh s1 key'
  split
  · exact fun h => nomatch h
  · split
    · exact fun h => nomatch h
    · split <;> exact fun h => nomatch h

/-- What a block that passes has: a live nonce, the package's serial number, an accepted key, and a good signature. -/
theorem State.checkBlock_passed (passed : (s.checkBlock p cmd b key).2 = none) :
    s.nonceOf p = some (BitVec.ofNat 256 (leAt b 16 32)) ∧ leAt b 8 8 = s.fuses.serial.toNat
      ∧ key (leAt b 1 1) ((b.drop 48).take 32) = true
      ∧ slh128s.verify ((b.drop 48).take 32) ((b.drop 128).take 7856) (b.take 128) = true := by
  simp only [State.checkBlock] at passed
  split at passed
  · cases passed
  · split at passed
    · cases passed
    · next checks =>
      split at passed
      · next fresh =>
        simp only [Bool.or_eq_true, decide_eq_true_eq, Bool.not_eq_true', not_or, Decidable.not_not, Bool.not_eq_false] at checks
        simp only [Bool.and_eq_true, decide_eq_true_eq] at fresh
        obtain ⟨⟨serial, accepted⟩, signature⟩ := checks
        exact ⟨fresh.2, serial, accepted, signature⟩
      · cases passed

end Block

/-- Settles O18: the nonce is consumed before the checks, and the last check is that it was live. -/
theorem nonceServesOnce : Obligations.NonceServesOnce := by
  unfold Obligations.NonceServesOnce
  intro s p cmd b key u r checked
  have records : SameButRecords (s.nonceTaken p b) u := by
    have := State.checkBlock_fst (s := s) (p := p) (cmd := cmd) (b := b) (key := key)
    rwa [checked] at this
  obtain ⟨fuses, mem, level⟩ := s.nonceTaken_frame p b
  have nonce : u.nonceOf p = (s.nonceTaken p b).nonceOf p := by rw [State.nonceOf, records.sec]; rfl
  refine ⟨fun short => ?_, fun shorter => ?_, fun long named => ?_, fun other => ?_, ?_, records.fuses.trans fuses, records.mem.trans mem, ?_⟩
  · rw [State.checkBlock_of_short short] at checked
    exact (congrArg Prod.snd checked).symm
  · rw [State.checkBlock_of_shorter shorter] at checked
    exact (congrArg Prod.fst checked).symm
  · rw [nonce, State.nonceTaken_of_named long named, State.nonceOf_setNonce_none]
  · rw [nonce, State.nonceTaken_of_not_named other]
  · rintro rfl
    exact State.checkBlock_passed (congrArg Prod.snd checked)
  · rw [records.sec, level]

end Sys2Proof.Machine
end

section
/-! The debug level (R518, R519). -/
namespace Sys2Proof.Machine

/-! ### Cuts held for a lost partner are dropped -/

/-- One stack's held cut dropped, and event 0x0630. -/
def State.dropCut (s : State) (k : Nat) : State :=
  if (s.stack k).cutHeld then
    (s.modStack k (fun x => { x with cutHeld := false })).raise 0x0630 0 (k + (s.stack k).cutHeldStep.toNat * 2 ^ 32)
  else s

/-- From `s` to `t` the complex stays in reset, no cut is taken up, and neither security nor the fuses change. -/
structure CutsDropped (s t : State) : Prop where
  reset : ComplexReset s → ComplexReset t
  sec : t.sec = s.sec
  fuses : t.fuses = s.fuses
  cuts : ∀ k, (s.stack k).cutHeld = false → (t.stack k).cutHeld = false

theorem CutsDropped.refl (s : State) : CutsDropped s s := ⟨id, rfl, rfl, fun _ => id⟩

theorem CutsDropped.trans {s t u : State} (h : CutsDropped s t) (k : CutsDropped t u) : CutsDropped s u :=
  ⟨k.reset ∘ h.reset, k.sec.trans h.sec, k.fuses.trans h.fuses, fun n => k.cuts n ∘ h.cuts n⟩

theorem CutsDropped.of_traffic {s t : State} (h : SameButTraffic s t) : CutsDropped s t where
  reset r := r.of_traffic h
  sec := by rw [h.state]
  fuses := by rw [h.state]
  cuts k held := by rw [h.state]; exact held

theorem State.dropCut_spec (s : State) (k : Nat) : CutsDropped s (s.dropCut k) ∧ ((s.dropCut k).stack k).cutHeld = false := by
  unfold State.dropCut
  split
  · have dropped : CutsDropped s (s.modStack k (fun x => { x with cutHeld := false })) := by
      refine ⟨fun r => ⟨r.jobs, r.windows, r.objs, r.trk, r.tiles, r.ccBusy⟩, rfl, rfl, fun n held => ?_⟩
      rw [State.stack_modStack]
      split
      · rfl
      · exact held
    have told := CutsDropped.of_traffic (traffic_raise (.refl (s.modStack k (fun x => { x with cutHeld := false }))) 0x0630 0
      (k + (s.stack k).cutHeldStep.toNat * 2 ^ 32))
    exact ⟨dropped.trans told, told.cuts k (by rw [State.stack_modStack_same])⟩
  · next held => exact ⟨.refl s, by simpa using held⟩

theorem State.dropCuts_spec (s : State) : CutsDropped s s.dropCuts ∧ ∀ k < 4, (s.dropCuts.stack k).cutHeld = false := by
  have fold : ∀ (l : List Nat) (u : State), CutsDropped u (l.foldl State.dropCut u)
      ∧ ∀ k ∈ l, ((l.foldl State.dropCut u).stack k).cutHeld = false := by
    intro l
    induction l with
    | nil => exact fun u => ⟨.refl u, fun _ h => nomatch h⟩
    | cons k l ih =>
      intro u
      obtain ⟨first, dropped⟩ := u.dropCut_spec k
      obtain ⟨rest, others⟩ := ih (u.dropCut k)
      refine ⟨first.trans rest, fun n hn => ?_⟩
      rcases List.mem_cons.1 hn with rfl | later
      · exact rest.cuts _ dropped
      · exact others n later
  obtain ⟨dropped, cuts⟩ := fold (upFrom 0 4) s
  exact ⟨dropped, fun k hk => cuts k (by simp [upFrom, hk])⟩

/-! ### Raising the level -/

/-- The complex stays in reset when only device memory and the security unit change. -/
theorem ComplexReset.of_mem_sec {s : State} (h : ComplexReset s) (mem poison flaws) (sec : Security) :
    ComplexReset { s with mem, poison, flaws, sec } := ⟨h.jobs, h.windows, h.objs, h.trk, h.tiles, h.ccBusy⟩

/-- Device memory erased for levels 2 and 3, once the jobs and the held cuts are gone. -/
def State.erasedForDebug (s : State) : State :=
  { ((s.modSec (fun x => { x with aliasReady := false })).ccResetOpen).dropCuts with mem := [], poison := [], flaws := [] }

theorem State.ccResetOpen_spec (s : State) : ComplexReset s.ccResetOpen ∧ s.ccResetOpen.sec = s.sec ∧ s.ccResetOpen.fuses = s.fuses := by
  rw [State.ccResetOpen]
  obtain ⟨reset, -, -, -, -, fuses, sec⟩ := s.nextOpen.ccReset_spec (s.openBelow (2 ^ 16))
  exact ⟨reset, sec.trans rfl, fuses.trans rfl⟩

theorem State.erasedForDebug_spec (s : State) :
    ∃ a, s.erasedForDebug = { a with mem := [], poison := [], flaws := [] } ∧ ComplexReset a ∧ a.sec = { s.sec with aliasReady := false }
      ∧ a.fuses = s.fuses ∧ ∀ k < 4, (a.stack k).cutHeld = false := by
  obtain ⟨reset, sec, fuses⟩ := (s.modSec (fun x => { x with aliasReady := false })).ccResetOpen_spec
  obtain ⟨dropped, cuts⟩ := State.dropCuts_spec ((s.modSec (fun x => { x with aliasReady := false })).ccResetOpen)
  exact ⟨_, by rw [State.erasedForDebug], dropped.reset reset, dropped.sec.trans sec, dropped.fuses.trans fuses, cuts⟩

theorem State.unlock_eq (s : State) (level : Nat) : s.unlock level
    = ((if level = 1 then s else s.erasedForDebug).modSec (fun x => { x with level := level })).raise 0x0A06 0 level := by
  rw [State.unlock, State.erasedForDebug]

theorem State.unlock_level (s : State) (level : Nat) : (s.unlock level).sec.level = level := by
  rw [State.unlock_eq, (records_raise _ _ _ _).sec, State.modSec_sec]

theorem State.unlock_fuses (s : State) (level : Nat) : (s.unlock level).fuses = s.fuses := by
  rw [State.unlock_eq, (records_raise _ _ _ _).fuses, State.modSec_fuses]
  split
  · rfl
  · obtain ⟨a, erased, -, -, fuses, -⟩ := s.erasedForDebug_spec
    rw [erased, fuses]

/-- For levels 2 and 3 device memory is erased, and there is no Alias key, no job and no held cut. -/
theorem State.unlock_erases (s : State) {level : Nat} (high : level ≠ 1) : (s.unlock level).mem = [] ∧ (s.unlock level).poison = []
    ∧ (s.unlock level).sec.aliasReady = false ∧ (s.unlock level).anyJob = false ∧ ∀ k < 4, ((s.unlock level).stack k).cutHeld = false := by
  obtain ⟨a, erased, reset, sec, -, cuts⟩ := s.erasedForDebug_spec
  rw [State.unlock_eq, if_neg high, erased]
  generalize hb : ({ a with mem := [], poison := [], flaws := [] } : State).modSec (fun x => { x with level := level }) = b
  have records := records_raise b 0x0A06 0 level
  have told := traffic_raise (.refl b) 0x0A06 0 level
  have still : ComplexReset b := hb ▸ reset.of_mem_sec [] [] [] _
  have cutsStill : ∀ k < 4, (b.stack k).cutHeld = false := hb ▸ cuts
  refine ⟨?_, ?_, ?_, (still.of_traffic told).anyJob, fun k hk => (CutsDropped.of_traffic told).cuts k (cutsStill k hk)⟩
  · rw [records.mem, ← hb]; rfl
  · rw [records.poison, ← hb]; rfl
  · rw [records.sec, ← hb, State.modSec_sec, sec]

/-- A debug block that is accepted: its checks pass, and the level that it names is one above the present one that the fuses allow. -/
theorem State.debugBlock_accepted {s : State} {p : SecPath} {b : List Byte} {u : State} (h : s.debugBlock p b = (u, 0)) :
    ∃ v, SameButRecords (s.nonceTaken p b) v ∧ u = v.unlock (leAt b 80 1) ∧ leAt b 80 1 ≤ 3 ∧ s.sec.level < leAt b 80 1
      ∧ (leAt b 80 1 = 3 → s.fuses.debugDisable = false ∧ s.vendorKey (leAt b 1 1) ((b.drop 48).take 32) = true) := by
  simp only [State.debugBlock] at h
  split at h
  · next v r checked =>
    exact absurd ((congrArg Prod.snd checked).trans (congrArg some (congrArg Prod.snd h))) State.checkBlock_ne_zero
  · next v checked =>
    have records := State.checkBlock_fst (s := s) (p := p) (cmd := 0x31) (b := b)
      (key := fun signer key => s.vendorKey signer key || (leAt b 80 1 ≠ 3 && s.ownerKey signer key))
    obtain ⟨-, -, vendor, -⟩ := State.checkBlock_passed (congrArg Prod.snd checked)
    obtain ⟨fuses, -, level⟩ := s.nonceTaken_frame p b
    rw [checked] at records
    have fusesStill : v.fuses = s.fuses := records.fuses.trans fuses
    have levelStill : v.sec.level = s.sec.level := by rw [records.sec, level]
    split at h
    · cases h
    · next range =>
      split at h
      · cases h
      · next allowed =>
        simp only [Bool.or_eq_true, decide_eq_true_eq, not_or, levelStill, fusesStill] at range allowed
        refine ⟨v, records, (congrArg Prod.fst h).symm, by omega, by omega, fun three => ⟨?_, ?_⟩⟩
        · simpa [three] using allowed.2
        · simpa [three] using vendor

/-- Settles O19: the level rises by `State.unlock`, whose first step erases the package. -/
theorem debugUnlockErasesFirst : Obligations.DebugUnlockErasesFirst := by
  unfold Obligations.DebugUnlockErasesFirst
  intro s p b u accepted
  obtain ⟨v, -, rfl, high, rises, level3⟩ := State.debugBlock_accepted accepted
  rw [State.unlock_level]
  refine ⟨rises, rfl, high, level3, fun atLeast2 => State.unlock_erases v (by omega)⟩

end Sys2Proof.Machine
end

section
/-! The passing of time and the state after power-on reset (O1, O2, O4, O6). -/
namespace Sys2Proof.Machine

/-! ### One microsecond -/

/-- What a microsecond leaves of a tile beside its counts of stalled cycles: the cycles of its step and its clock. -/
structure SameStepCycle (t u : Tile) : Prop where
  cycle : u.stepCycle = t.stepCycle
  clock : u.clock = t.clock

theorem SameStepCycle.refl (t : Tile) : SameStepCycle t t := ⟨rfl, rfl⟩

theorem SameStepCycle.trans {t u v : Tile} (h : SameStepCycle t u) (k : SameStepCycle u v) : SameStepCycle t v :=
  ⟨k.cycle.trans h.cycle, k.clock.trans h.clock⟩

theorem SameStepCycle.foldl {α : Type} {f : Tile → α → Tile} (hf : ∀ t a, SameStepCycle t (f t a)) (l : List α) (t : Tile) :
    SameStepCycle t (l.foldl f t) := by
  induction l generalizing t with
  | nil => exact .refl t
  | cons a l ih => exact (hf t a).trans (ih (f t a))

theorem SameStepCycle.stall (t : Tile) (engine cause n : Nat) : SameStepCycle t (t.stall engine cause n) := ⟨rfl, rfl⟩

theorem SameStepCycle.stallUnder (t : Tile) (engine : Nat) (cause : Option Nat) (n : Nat) :
    SameStepCycle t (t.stallUnder engine cause n) := by
  cases cause <;> exact ⟨rfl, rfl⟩

theorem SameStepCycle.modStream (t : Tile) (n : Nat) (f : Stream → Stream) : SameStepCycle t (t.modStream n f) := ⟨rfl, rfl⟩

theorem SameStepCycle.stallTile (s : State) (slot L : Nat) (t : Tile) : SameStepCycle t (s.stallTile slot L t) := by
  unfold State.stallTile
  extract_lets c held t1 t2 t3
  have h1 : SameStepCycle t t1 := by
    refine .foldl (fun t n => ?_) _ _
    dsimp only
    split
    · exact .stallUnder t n _ _
    · exact (SameStepCycle.stall t n 11 held).trans (.stallUnder _ n _ _)
  have h2 : SameStepCycle t1 t2 := 
    SameStepCycle.foldl (f := fun t (e : Nat × Engine) => t.stallUnder e.1 (s.engineStall slot L e.2) c) (fun t e => .stallUnder t e.1 _ c) _ t1
  have h3 : SameStepCycle t2 t3 := ⟨rfl, rfl⟩
  clear_value t1 t2 t3
  refine ((h1.trans h2).trans h3).trans (.foldl (fun t n => ?_) _ _)
  split
  · split
    · exact .refl t
    · exact .modStream t n _
  · exact .refl t

theorem State.tickTile_stepCycle (s : State) (ix : Nat) (t : Tile) : (s.tickTile ix t).stepCycle = satNat 32 t.stepCycle t.clock := by
  unfold State.tickTile
  split
  · rfl
  · next L _ =>
    split
    · rfl
    · next slot _ =>
      obtain ⟨hcycle, hclock⟩ := SameStepCycle.stallTile s slot L t
      rw [Tile.tick, hcycle, hclock]

theorem State.passTime_job (s : State) (n : Nat) : s.passTime.job n = s.tickJob (s.job n) := tget_map s.tickJob {} s.dealer.jobs n

theorem Job.tick_of_started (lost : Bool) {j : Job} {r : StepRun} (run : j.run = some r) (started : r.started = true) :
    (j.tick lost).wdogElapsed = satNat 32 j.wdogElapsed 1 ∧ (j.tick lost).stepUs = j.stepUs + 1 := by
  simp [Job.tick, Job.interrupt, run, started]

theorem Telemetry.tick_within {t : Telemetry} (h : t.micros + 1 < 1000000) : t.tick = { t with micros := t.micros + 1 } := by
  simp [Telemetry.tick, h]

theorem Telemetry.tick_second {t : Telemetry} (h : t.micros = 999999) (below : t.seconds ≠ BitVec.allOnes 40) :
    t.tick = { t with micros := 0, seconds := t.seconds + 1 } := by
  rw [Telemetry.tick, if_neg (by omega), if_neg below]

/-- The stall entries that a microsecond saturates are told, and nothing else changes. -/
theorem State.traffic_stallEvents (s before : State) : SameButTraffic s (s.stallEvents before) := by
  refine .foldl (.refl s) (fun s n => .foldl (.refl s) (fun s i => ?_) _) _
  refine .foldl ?_ (fun s (e : Ev) => traffic_raise (.refl s) e.1 e.2.1 e.2.2) _
  unfold State.satEvents
  split
  · exact .refl s
  · exact traffic_modJob (.refl s) (fun _ => rfl)

theorem State.loopTick_eq (s : State) : s.loopTick = { s with ports := s.loopTick.ports, free := s.loopTick.free } := by
  unfold State.loopTick
  split <;> rfl

theorem State.burnBit_of_none {s : State} (h : s.sec.burn = none) : s.burnBit = s := by simp [State.burnBit, h]

/-- With no burn under way a microsecond outside reset leaves these as passTime has them. -/
theorem State.microsecond_of_no_burn (s : State) (h : s.sec.burn = none) :
    ∃ ports free, ((s.passTime.stallEvents s).loopTick).burnBit = { s.passTime.stallEvents s with ports, free } := by
  have same := State.loopTick_eq (s.passTime.stallEvents s)
  have burn : (s.passTime.stallEvents s).loopTick.sec.burn = none := by
    rw [same, (State.traffic_stallEvents s.passTime s).state]
    exact h
  exact ⟨_, _, (State.burnBit_of_none burn).trans same⟩

end Sys2Proof.Machine

namespace Sys2Proof
open Machine

/-- Settles O1: it is the equation of step on a queue with a front. -/
theorem frontOfQueueRuns : Obligations.FrontOfQueueRuns := fun _ _ _ => rfl

/-- Settles O4: the memory after reset lists nothing. -/
theorem resetMemoryIsCanonical : Obligations.ResetMemoryIsCanonical := Memory.wf_reset

/-- Settles O2: the step on an empty queue is tick, read off passTime's own lemmas. -/
theorem emptyQueueLetsTimePass : Obligations.EmptyQueueLetsTimePass := by
  intro s empty
  have stepped : step s = .next (tick s) := by rw [step, empty]
  refine ⟨tick s, stepped, fun h => by simp [tick, h], fun h => by simp [tick, h], rfl, fun h => Telemetry.tick_within h,
    fun h below => Telemetry.tick_second h below, fun n r run started => ?_, fun e he => ?_, fun burn => ?_⟩
  · rw [State.passTime_job]
    exact Job.tick_of_started _ run started
  · exact ⟨s.tickTile e.1 e.2, List.mem_map.mpr ⟨e, he, rfl⟩, State.tickTile_stepCycle s e.1 e.2⟩
  · unfold tick
    split
    · exact ⟨rfl, empty, rfl, rfl, rfl, rfl, rfl, rfl, rfl, rfl⟩
    · obtain ⟨ports, free, same⟩ := State.microsecond_of_no_burn s burn
      obtain ⟨told, -, dealer, -, -⟩ := State.traffic_stallEvents s.passTime s
      rw [same, told]
      exact ⟨rfl, empty, rfl, rfl, rfl, rfl, rfl, rfl, rfl, rfl⟩

/-- Settles O6: the fields of the state that every other field's default gives; a scan of 32 bits shifts the IDCODE out. -/
theorem resetState : Obligations.ResetState := by
  refine ⟨rfl, rfl, rfl, rfl, rfl, rfl, rfl, rfl, rfl, rfl, rfl, rfl, rfl, fun _ => rfl, fun _ => ⟨rfl, rfl⟩, fun _ => ⟨rfl, rfl⟩, rfl, rfl,
    fun balls => ?_⟩
  rfl

end Sys2Proof
end

section
/-! Board flash (R496, R536) and the boot record in it (R497): O16. -/
namespace Sys2Proof.Machine

/-! ### Bytes of flash -/

theorem tget_filter {α : Type} (d : α) (p : Nat → Bool) (t : Tbl α) (i : Nat) :
    tget d (t.filter (fun e => p e.1)) i = if p i then tget d t i else d := by
  induction t with
  | nil => simp [tget]
  | cons e t ih =>
    obtain ⟨k, v⟩ := e
    rw [List.filter_cons]
    by_cases hik : i = k
    · subst hik
      split <;> simp_all [tget]
    · split <;> simp [tget, hik, ih]

theorem flashByte_erase (m : Mem) (lo hi a : Nat) :
    flashByte (flashErase m lo hi) a = if lo ≤ a ∧ a < hi then 0xFF else flashByte m a := by
  unfold flashErase flashByte
  rw [tget_filter 0xFF (fun k => decide (k < lo) || decide (hi ≤ k)), ← ite_not]
  congr 1
  simp only [Bool.or_eq_true, decide_eq_true_eq, eq_iff_iff]
  omega

theorem flashByte_set (m : Mem) (a b : Nat) (x : Byte) : flashByte (flashSet m a x) b = if b = a then x else flashByte m b := by
  unfold flashByte flashSet
  split
  · next h => rw [tget_tdel, h]
  · rw [tget_tput]

theorem flashByte_write_other {a b : Nat} {bs : List Byte} (h : b < a ∨ a + bs.length ≤ b) (m : Mem) :
    flashByte (flashWrite m a bs) b = flashByte m b := by
  induction bs generalizing m a with
  | nil => rfl
  | cons x bs ih =>
    rw [List.length_cons] at h
    rw [flashWrite, ih (by omega), flashByte_set, if_neg (by omega)]

theorem flashByte_write_add (m : Mem) (a i : Nat) {bs : List Byte} (h : i < bs.length) :
    flashByte (flashWrite m a bs) (a + i) = bs[i] := by
  induction bs generalizing m a i with
  | nil => exact absurd h (Nat.not_lt_zero i)
  | cons x bs ih =>
    cases i with
    | zero => rw [flashWrite, flashByte_write_other (by omega), flashByte_set, if_pos (Nat.add_zero a), List.getElem_cons_zero]
    | succ i =>
      rw [flashWrite, show a + (i + 1) = a + 1 + i by omega, ih _ _ i (by simpa using h), List.getElem_cons_succ]

@[simp] theorem length_flashRead (m : Mem) (a n : Nat) : (flashRead m a n).length = n := by simp [flashRead]

theorem flashRead_write_same (m : Mem) (a : Nat) (bs : List Byte) : flashRead (flashWrite m a bs) a bs.length = bs := by
  refine List.ext_getElem (by simp) fun i hi hi' => ?_
  simp [flashRead, flashByte_write_add m a i hi']

theorem flashRead_congr {m m' : Mem} {a n : Nat} (h : ∀ i, a ≤ i → i < a + n → flashByte m i = flashByte m' i) :
    flashRead m a n = flashRead m' a n := by
  refine List.map_congr_left fun i hi => h _ (by omega) ?_
  have := List.mem_range.1 hi
  omega

/-! ### Copies of the boot record -/

theorem BootResult.ofCode_code (r : BootResult) : BootResult.ofCode r.code = r := by cases r <;> rfl

theorem BootRecord.length_bytes (r : BootRecord) : r.bytes.length = 12 := by simp [BootRecord.bytes, BootRecord.fields]

theorem BootRecord.ofBytes_bytes (r : BootRecord) : BootRecord.ofBytes r.bytes = some r := by
  have fields : r.fields.length = 8 := by simp [BootRecord.fields]
  have crc : leAt r.bytes 8 4 = (crc32c (r.bytes.take 8)).toNat := by
    rw [BootRecord.bytes, List.take_left' fields]
    have := leAt_append_add r.fields (leBytes 4 (crc32c r.fields).toNat) 0 4
    rw [fields, Nat.add_zero] at this
    rw [this, ← List.append_nil (leBytes 4 _), leAt_leBytes_append [] (crc32c r.fields).isLt]
  have seq : leAt r.bytes 0 4 = r.seq.toNat := by
    rw [BootRecord.bytes, BootRecord.fields, List.append_assoc, leAt_leBytes_append _ r.seq.isLt]
  have byte4 : r.bytes.getD 4 0 = BitVec.ofNat 8 (b2n r.prefer) := rfl
  have byte5 : r.bytes.getD 5 0 = BitVec.ofNat 8 (b2n r.trial) := rfl
  have byte6 : r.bytes.getD 6 0 = r.result0.code := rfl
  have byte7 : r.bytes.getD 7 0 = r.result1.code := rfl
  have flag : ∀ b : Bool, decide (BitVec.ofNat 8 (b2n b) ≠ 0) = b := by decide
  rw [BootRecord.ofBytes, if_pos crc, seq, byte4, byte5, byte6, byte7, flag, flag, BootResult.ofCode_code, BootResult.ofCode_code,
    BitVec.ofNat_toNat, BitVec.setWidth_eq]

theorem bootBase_apart (c : Bool) : bootBase (!c) + 12 ≤ bootBase c ∨ bootBase c + bootCopyBytes ≤ bootBase (!c) := by
  cases c <;> simp [bootBase, bootCopyBytes]

theorem State.writeBoot_flash_other (s : State) (r : BootRecord) {a : Nat}
    (h : a < bootBase s.bootTarget ∨ bootBase s.bootTarget + bootCopyBytes ≤ a) :
    flashByte (s.writeBoot r).flash a = flashByte s.flash a := by
  have wide : bootCopyBytes = 32768 := rfl
  simp only [State.writeBoot]
  rw [flashByte_write_other (by rw [BootRecord.length_bytes]; omega), flashByte_erase, if_neg (by omega)]

theorem State.writeBoot_copy_other (s : State) (r : BootRecord) :
    (s.writeBoot r).bootCopy (!s.bootTarget) = s.bootCopy (!s.bootTarget) := by
  have apart := bootBase_apart s.bootTarget
  unfold State.bootCopy
  rw [flashRead_congr fun a lo hi => State.writeBoot_flash_other s r (by omega)]

theorem State.writeBoot_copy_target (s : State) (r : BootRecord) :
    (s.writeBoot r).bootCopy s.bootTarget = some { r with seq := s.bootRecord.seq + 1 } := by
  simp only [State.bootCopy, State.writeBoot]
  have := flashRead_write_same (flashErase s.flash (bootBase s.bootTarget) (bootBase s.bootTarget + bootCopyBytes)) (bootBase s.bootTarget)
    ({ r with seq := s.bootRecord.seq + 1 } : BootRecord).bytes
  rw [BootRecord.length_bytes] at this
  rw [this, BootRecord.ofBytes_bytes]

/-- The copy that a write leaves is the one in force, or neither is valid. -/
theorem State.bootCopy_kept (s : State) :
    s.bootCopy (!s.bootTarget) = some s.bootRecord ∨ (s.bootCopy false = none ∧ s.bootCopy true = none) := by
  unfold State.bootTarget State.bootRecord
  split
  · next a b ha hb => cases h : later 32 b.seq.toNat a.seq.toNat <;> simp [h, ha, hb]
  · next a ha hb => simp [ha, hb]
  · cases ha : s.bootCopy false <;> cases hb : s.bootCopy true <;> simp_all

theorem later_add_one (x : BitVec 32) : later 32 (x + 1).toNat x.toNat = true := by
  rw [later_iff x.isLt, BitVec.toNat_add, show (1 : BitVec 32).toNat = 1 from rfl]
  have := x.isLt
  omega

theorem not_later_add_one (x : BitVec 32) : later 32 x.toNat (x + 1).toNat = false := by
  rw [← Bool.not_eq_true, later_iff (x + 1).isLt, BitVec.toNat_add, show (1 : BitVec 32).toNat = 1 from rfl]
  have := x.isLt
  omega

/-- The record in force is the copy with the later number, whichever copy that is. -/
theorem State.bootRecord_of_copies {s : State} {c : Bool} {r q : BootRecord} (new : s.bootCopy c = some r)
    (old : s.bootCopy (!c) = some q ∧ r.seq = q.seq + 1 ∨ s.bootCopy (!c) = none) : s.bootRecord = r := by
  cases c <;> obtain ⟨old, seq⟩ | old := old <;> simp only [Bool.not_false, Bool.not_true] at old
  · simp only [State.bootRecord, new, old, seq, not_later_add_one, Bool.false_eq_true, if_false]
  · simp only [State.bootRecord, new, old]
  · simp only [State.bootRecord, new, old, seq, later_add_one, if_true]
  · simp only [State.bootRecord, new, old]

theorem State.writeBoot_bootRecord (s : State) (r : BootRecord) :
    (s.writeBoot r).bootRecord = { r with seq := s.bootRecord.seq + 1 } := by
  refine State.bootRecord_of_copies (q := s.bootRecord) (State.writeBoot_copy_target s r) ?_
  rw [State.writeBoot_copy_other]
  rcases State.bootCopy_kept s with kept | ⟨a, b⟩
  · exact .inl ⟨kept, rfl⟩
  · right
    cases s.bootTarget <;> assumption

end Sys2Proof.Machine

namespace Sys2Proof
open Machine

/-- Settles O16: the copy written is not the one in force, and its number is the next. -/
theorem bootRecordWriteTakesEffect : Obligations.BootRecordWriteTakesEffect := fun s r =>
  ⟨State.writeBoot_bootRecord s r, State.writeBoot_copy_other s r, State.bootCopy_kept s, fun _ h => State.writeBoot_flash_other s r h⟩

end Sys2Proof
end

section
/-! Power-on reset, the start of the firmware and the end of boot (R500 to R502, R557, R560, R561, R571): O7. -/
namespace Sys2Proof.Machine

@[simp] theorem State.fromHost_of_awake {s : State} (h : s.awake = true) (t : State) : s.fromHost t = t := by simp [State.fromHost, h]

theorem State.fromHost_of_not_awake {s : State} (h : s.awake = false) (t : State) : s.fromHost t = s := by simp [State.fromHost, h]

/-! ### The start of the firmware -/

/-- Device memory, the fuses, the queue and the security block are the same. -/
structure SameCore (s t : State) : Prop where
  mem : t.mem = s.mem
  fuses : t.fuses = s.fuses
  pending : t.pending = s.pending
  sec : t.sec = s.sec

namespace SameCore

variable {s t u : State}

theorem refl (s : State) : SameCore s s := ⟨rfl, rfl, rfl, rfl⟩

theorem trans (h : SameCore s t) (k : SameCore t u) : SameCore s u :=
  ⟨k.mem.trans h.mem, k.fuses.trans h.fuses, k.pending.trans h.pending, k.sec.trans h.sec⟩

theorem of_records (h : SameButRecords s t) : SameCore s t := ⟨h.mem, h.fuses, h.pending, h.sec⟩

theorem of_clocks (h : SameButClocks s t) : SameCore s t := by
  constructor <;> rw [h.state]

theorem foldl {α : Type} {f : State → α → State} (hf : ∀ s a, SameCore s (f s a)) (l : List α) (s : State) : SameCore s (l.foldl f s) := by
  induction l generalizing s with
  | nil => exact .refl s
  | cons a l ih => exact (hf s a).trans (ih (f s a))

/-- Flash and telemetry are not of the core. -/
theorem boards (s : State) (flash : Mem) (tel : Telemetry) : SameCore s { s with flash, tel } := ⟨rfl, rfl, rfl, rfl⟩

theorem writeBoot (s : State) (r : BootRecord) : SameCore s (s.writeBoot r) := boards s _ s.tel

theorem putRecord (s : State) (r : EventRec) : SameCore s (s.putRecord r) := boards s _ _

theorem enterJournal (s : State) : SameCore s s.enterJournal := boards s _ _

theorem lastSlot (s : State) : SameCore s s.lastSlot := by
  unfold State.lastSlot
  split
  · exact .refl s
  · refine SameCore.trans ?_ (of_records (records_modTel _ _))
    have token := of_records (records_takeToken s 0x0C04 0 0)
    generalize s.takeToken 0x0C04 0 0 = x at token ⊢
    obtain ⟨s1, r⟩ := x
    cases r with
    | none => exact token.trans (putRecord _ _)
    | some e => exact (token.trans (of_records (records_deliverEvent s1 e))).trans (putRecord _ _)

end SameCore

/-- What the firmware's start makes of the security block; the rest of the start is flash, telemetry and clocks. -/
theorem State.startFirmware_core (s : State) (slot fallback trial : Bool) :
    (s.startFirmware slot fallback trial).mem = s.mem ∧ (s.startFirmware slot fallback trial).fuses = s.fuses
      ∧ (s.startFirmware slot fallback trial).pending = s.pending ∧ (s.startFirmware slot fallback trial).sec.running = true
      ∧ (s.startFirmware slot fallback trial).sec.slot = slot ∧ (s.startFirmware slot fallback trial).sec.fallback = fallback
      ∧ (s.startFirmware slot fallback trial).sec.svnRun = s.slotSvn slot := by
  unfold State.startFirmware
  extract_lets b body used s1 s2 failed s3 s4 s5
  have h2 : SameCore s1 s2 := (SameCore.of_records (records_modTel s1 _)).trans (.lastSlot _)
  have h3 : SameCore s2 s3 := .foldl (fun s k => .of_records (records_raise s _ _ _)) _ _
  have h4 : SameCore s3 s4 := by
    unfold s4
    split
    · exact .refl s3
    · exact .writeBoot s3 _
  have h5 : SameCore s4 s5 := by
    refine SameCore.trans ?_ (.enterJournal _)
    split
    · exact .of_records (records_raise s4 _ _ _)
    · exact .refl s4
  have h6 : SameCore s5 (if (List.range 4).any (fun k => (s5.spares k).isEmpty) then s5.degrade 1 else s5).retime := by
    refine SameCore.trans ?_ (.of_clocks (clocks_retime _))
    split
    · exact .of_records (records_degrade s5 1)
    · exact .refl s5
  obtain ⟨mem, fuses, pending, sec⟩ := (((h2.trans h3).trans h4).trans h5).trans h6
  rw [mem, fuses, pending, sec]
  exact ⟨rfl, rfl, rfl, rfl, rfl, rfl, rfl⟩

/-- The boot record's copies lie below the slots. -/
theorem State.trySlot_slotSvn (s : State) (slot other : Bool) : (s.trySlot slot).1.slotSvn other = s.slotSvn other := by
  have below : bootBase s.bootTarget + bootCopyBytes ≤ slotBase other := by
    cases s.bootTarget <;> cases other <;> simp [bootBase, bootCopyBytes, slotBase]
  unfold State.slotSvn State.trySlot
  dsimp only
  rw [flashRead_congr fun a lo hi => State.writeBoot_flash_other s _ (by omega)]

theorem SameCore.trySlot (s : State) (slot : Bool) : SameCore s (s.trySlot slot).1 := .writeBoot s _

/-- The start of the firmware: memory, fuses and the queue stay; a preferred slot that is valid, of a record not on trial, is the one that runs. -/
theorem execFirmwareStart_core {s : State} (reset : s.pkg.inReset = false) (mode : s.pkg.testMode = 0) (running : s.sec.running = false)
    (recovery : s.sec.recovery = false) (trial : s.bootRecord.trial = false) :
    ∃ t, execFirmwareStart s = .next t ∧ t.mem = s.mem ∧ t.fuses = s.fuses ∧ t.pending = s.pending
      ∧ (s.slotValid s.bootRecord.prefer = true →
        t.sec.running = true ∧ t.sec.slot = s.bootRecord.prefer ∧ t.sec.fallback = false ∧ t.sec.svnRun = s.slotSvn s.bootRecord.prefer) := by
  have first := SameCore.trySlot s s.bootRecord.prefer
  have second := first.trans (SameCore.trySlot (s.trySlot s.bootRecord.prefer).1 (!s.bootRecord.prefer))
  have svn := State.trySlot_slotSvn s s.bootRecord.prefer s.bootRecord.prefer
  have valid : (s.trySlot s.bootRecord.prefer).2 = s.slotValid s.bootRecord.prefer := rfl
  simp only [execFirmwareStart, reset, mode, running, recovery, trial, ne_eq, not_true_eq_false, decide_false, Bool.or_false, Bool.false_and,
    Bool.false_eq_true, if_false]
  generalize s.trySlot s.bootRecord.prefer = x at first second svn valid ⊢
  generalize x.1.trySlot (!s.bootRecord.prefer) = y at second ⊢
  split
  · obtain ⟨mem, fuses, pending, run, slot, fallback, ran⟩ := State.startFirmware_core x.1 s.bootRecord.prefer false false
    exact ⟨_, rfl, mem.trans first.mem, fuses.trans first.fuses, pending.trans first.pending, fun _ => ⟨run, slot, fallback, ran.trans svn⟩⟩
  · next invalid =>
    rw [valid] at invalid
    split
    · obtain ⟨mem, fuses, pending, -⟩ := State.startFirmware_core y.1 (!s.bootRecord.prefer) true false
      exact ⟨_, rfl, mem.trans second.mem, fuses.trans second.fuses, pending.trans second.pending, fun h => absurd h invalid⟩
    · exact ⟨_, rfl, second.mem, second.fuses, second.pending, fun h => absurd h invalid⟩

/-! ### Release, end of boot, and the host's commands to a package that does not answer -/

/-- Which test modes run the compute die that releases the GDDR7 devices. -/
theorem Package.dieRuns_zero (p : Package) {m : BitVec 3} (mode : m.toNat < 5) :
    ({ p with inReset := false, testMode := m } : Package).dieRuns 0 = decide (m = 0 ∨ m = 2 ∨ m = 4) := by
  simp only [Package.dieRuns]
  revert m
  decide

theorem execPowerOnResetRelease_of_reset {s : State} {m : BitVec 3} (reset : s.pkg.inReset = true) (mode : m.toNat < 5) :
    execPowerOnResetRelease m s
      = .next (if m = 0 then s.modPkg (fun p => { p with inReset := false, testMode := m, gddrResetN := true })
        else (s.modPkg (fun p => { p with inReset := false, testMode := m, gddrResetN := decide (m = 2 ∨ m = 4) })).runSelfTest).retime := by
  have released : (s.modPkg (fun p => { p with inReset := false, testMode := m })).modPkg (fun p => { p with gddrResetN := p.dieRuns 0 })
      = s.modPkg (fun p => { p with inReset := false, testMode := m, gddrResetN := decide (m = 0 ∨ m = 2 ∨ m = 4) }) := by
    simp only [State.modPkg, Package.dieRuns_zero _ mode]
  rw [execPowerOnResetRelease, if_neg (by simp [reset]; omega)]
  dsimp only
  rw [released]
  by_cases h : m = 0
  · subst h
    rfl
  · rw [if_neg h, if_neg h]
    simp only [h, false_or]

theorem execBootReady_of_running {s : State} (running : s.sec.running = true) (ready : s.host.ready = false) (mc : s.tel.mcReset = false)
    (gds : ∀ n < 20, (s.gd n).trained = true ∨ (s.gd n).trainFail = true) :
    execBootReady s = .next ((s.signAlias.modHost (fun h => { h with ready := true })).modSec
      (fun x => { x with aliasReady := decide (x.level < 2), responder := true })) := by
  have settled : (List.range 20).all (fun n => (s.gd n).trained || (s.gd n).trainFail) = true := by
    simpa [List.all_eq_true] using gds
  rw [execBootReady, if_pos (by simp [running, ready, mc, settled])]

/-- A package in power-on reset or after a trip leaves the host's commands undone. -/
theorem exec_of_not_awake {s : State} (asleep : s.awake = false) (v w : Word) (x : Dword) (hw : List Host.Cell) (r : RingRef) (k : Fin 4) (d : Fin 34)
    (p : Fin 16) (n : Fin 4096) (cls : Fin 4) (g : Fin 20) (e : Fin 2) (o : BitVec 48) (i : BitVec 16) (a : BitVec 25) (amb : Ambient)
    (bs : List Byte) :
    ∀ c ∈ [Instr.resume v hw, .hostCapWrite v, .ccReset, .registerWrite false a 4 x, .registerWrite true a 8 x, .glbIdentityWrite .train x,
      .glbIdentityWrite .package x, .ringEnable r v hw, .ringDisable r, .hostMemRead o 64 amb, .hostMemWrite o bs, .hwtEntryWrite x,
      .arrCtlWrite k d v, .portEnable p, .portDisable p, .portFence p, .portUnfence p, .hlCntClr p, .hlFiWrite p 0 x, .rtEntryWrite none n v,
      .rtEntryWrite (some p) n v, .kittyClassWrite p cls v, .laneRestore p, .mldCntClr e, .mldEntryWrite e i x false, .errClr g, .gdThrWrite g v,
      .marginingStart g, .stkGddrCfgWrite k v, .stkMemCfgWrite k w], exec c s = .next s := by
  have host := State.fromHost_of_not_awake asleep
  have reset : execCcReset s = .next s := by simp [execCcReset, asleep]
  have write : ∀ bar2 bytes, execRegisterWrite bar2 a bytes x s = .next s := fun bar2 bytes => by simp [execRegisterWrite, asleep]
  have disable : execRingDisable r s = .next s := by simp [execRingDisable, asleep]
  have read : execHostMemRead o 64 amb s = .next s := by simp [execHostMemRead, asleep]
  have store : execHostMemWrite o bs s = .next s := by simp [execHostMemWrite, asleep]
  simp only [List.forall_mem_cons, exec_resume, exec_hostCapWrite, exec_ccReset, exec_registerWrite, exec_glbIdentityWrite, exec_ringEnable,
    exec_ringDisable, exec_hostMemRead, exec_hostMemWrite, exec_hwtEntryWrite, exec_arrCtlWrite, exec_portEnable, exec_portDisable,
    exec_portFence, exec_portUnfence, exec_hlCntClr, exec_hlFiWrite, exec_rtEntryWrite, exec_kittyClassWrite, exec_laneRestore, exec_mldCntClr,
    exec_mldEntryWrite, exec_errClr, exec_gdThrWrite, exec_marginingStart, exec_stkGddrCfgWrite, exec_stkMemCfgWrite]
  simp only [execResume, execHostCapWrite, execGlbIdentityWrite, execRingEnable, execHwtEntryWrite, execArrCtlWrite, execPortEnable,
    execPortDisable, execPortFence, execPortUnfence, execHlCntClr, execHlFiWrite, execRtEntryWrite, execKittyClassWrite, execLaneRestore,
    execMldCntClr, execMldEntryWrite, execErrClr, execGdThrWrite, execMarginingStart, execStkGddrCfgWrite, execStkMemCfgWrite, host, reset,
    write, disable, read, store, List.not_mem_nil, false_implies, implies_true, and_self]

end Sys2Proof.Machine

namespace Sys2Proof
open Machine

/-- Settles O7: reset and release by their equations, the firmware's start by what it leaves of memory, fuses and the security block. -/
theorem resetAndBootComplete : Obligations.ResetAndBootComplete := by
  refine ⟨fun s => ⟨_, rfl, rfl, rfl, rfl, rfl, rfl, rfl, rfl, rfl, rfl, rfl, rfl, rfl, rfl, rfl, rfl, rfl, rfl, rfl, rfl, rfl, rfl, rfl⟩,
    fun s m => execPowerOnResetRelease_of_reset, fun s => execFirmwareStart_core, fun s => execBootReady_of_running,
    fun s c v w x hw r k d p n cls g e o i a amb bs asleep hc => ?_⟩
  have awake : s.awake = false := by
    obtain h | h := asleep <;> simp [State.awake, h]
  exact exec_of_not_awake awake v w x hw r k d p n cls g e o i a amb bs c hc

end Sys2Proof
end

section
/-! Power capping, the voltage bus and the rails (O8), and telemetry and the recorder (O10, O11). -/
namespace Sys2Proof.Machine

/-! ### Power and rails -/

theorem State.writePcap_of_within {v : Word} (low : 300 ≤ bits v 0 10) (high : bits v 0 10 ≤ 750) (s : State) :
    s.writePcap v = s.modPkg (fun p => { p with hostCap := bits v 0 10, capReject := p.capReject && !v.getLsbD 31 }) := by
  simp [State.writePcap, Nat.not_lt.2 low, Nat.not_lt.2 high]

theorem State.writePcap_of_outside {v : Word} (out : bits v 0 10 < 300 ∨ 750 < bits v 0 10) (s : State) :
    s.writePcap v = s.modPkg (fun p => { p with capReject := true }) := by
  simp [State.writePcap, out]

theorem execHostCapWrite_of_awake {s : State} (awake : s.awake = true) (v : Word) : execHostCapWrite v s = .next (s.writePcap v) := by
  rw [execHostCapWrite, State.fromHost_of_awake awake]

section Bmc
variable {s : State} (answers : s.mctpAnswers = true)
include answers

theorem execBmcCapWrite_cap {w : BitVec 16} (low : 300 ≤ w.toNat) (high : w.toNat ≤ 750) :
    execBmcCapWrite (.cap w) s = .next ((s.modPkg (fun p => { p with bmcCap := w.toNat })).emit (.response [0])) := by
  simp [execBmcCapWrite, answers, Nat.not_lt.2 low, Nat.not_lt.2 high]

theorem execBmcCapWrite_cap_outside {w : BitVec 16} (out : w.toNat < 300 ∨ 750 < w.toNat) :
    execBmcCapWrite (.cap w) s = .next (s.emit (.response [2])) := by
  simp [execBmcCapWrite, answers, out]

theorem execBmcCapWrite_events (on : Bool) :
    execBmcCapWrite (.events on) s = .next ((s.modTel (fun t => { t with bmcEvents := on })).emit (.response [0])) := by
  simp [execBmcCapWrite, answers]

theorem execBmcCapWrite_unit {w : BitVec 16} (low : 64 ≤ w.toNat) (high : w.toNat ≤ 256) :
    execBmcCapWrite (.unit w) s = .next ((s.modTel (fun t => { t with mctpUnit := w.toNat })).emit (.response [0])) := by
  simp [execBmcCapWrite, answers, Nat.not_lt.2 low, Nat.not_lt.2 high]

end Bmc

/-- Over the cap by more than a tenth of it, with f_set already below its top: the next step down, and nothing to tell. -/
theorem execPowerCapEvaluation_step_down {s : State} {w : BitVec 16} (reset : s.pkg.inReset = false) (mc : s.tel.mcReset = false)
    (running : s.sec.running = true) (prochot : s.pkg.prochot = false) (above : 10 * s.pkg.cap < w.toNat) (low : s.pkg.fSet ≤ 775) :
    execPowerCapEvaluation w s = .next (s.modPkg (fun p => { p with fSet := max 400 (p.fSet - 25), lowCount := 0 })).retime := by
  have down : s.pkg.evaluate w.toNat = { s.pkg with fSet := max 400 (s.pkg.fSet - 25), lowCount := 0 } := by
    have high : ¬ w.toNat * 100 < 950 * s.pkg.cap := by omega
    simp only [Package.evaluate, prochot, high, above, Bool.false_eq_true, if_false, if_true]
  have stays : ∀ t : State, t.retime.pkg = t.pkg := fun t => by rw [(clocks_retime t).state]
  simp only [execPowerCapEvaluation, reset, mc, running, Bool.not_true, Bool.or_false, Bool.false_eq_true, if_false, stays]
  rw [if_neg (by simp; omega), if_neg (by simp [down]; omega)]
  simp only [State.modPkg, down]

section Avs
variable {s : State} {k : Fin 4} {mv : Nat} (pending : (s.stack k).pendingMv = some mv)
include pending

theorem execAvsAcknowledge_of_pending :
    execAvsAcknowledge k s
      = .next ((s.modStack k (fun x => { x with ackedMv := mv, pendingMv := none, avsRetried := false })).modPkg
          (fun p => { p with avsLate := p.avsLate.filter (· ≠ k.val) })).retime := by
  simp [execAvsAcknowledge, pending]

theorem execAvsAckTimeout_first (mc : s.tel.mcReset = false) (first : (s.stack k).avsRetried = false) :
    execAvsAckTimeout k s = .next ((s.modStack k (fun x => { x with avsRetried := true })).emit (.avs k mv)) := by
  simp [execAvsAckTimeout, pending, mc, first]

theorem execAvsAckTimeout_second (mc : s.tel.mcReset = false) (second : (s.stack k).avsRetried = true) :
    execAvsAckTimeout k s
      = .next (((s.modStack k (fun x => { x with pendingMv := none, avsRetried := false })).modPkg
          (fun p => { p with avsLate := addOnce p.avsLate k.val })).raise 0x0B04 0 (k.val + mv * 2 ^ 16)) := by
  simp [execAvsAckTimeout, pending, mc, second, State.railEvent]

end Avs

theorem execRailOutOfRange_out {s : State} {r : Fin 15} (reset : s.pkg.inReset = false) (mc : s.tel.mcReset = false)
    (good : r.val ∉ s.pkg.badRails) (mv : BitVec 16) :
    execRailOutOfRange r mv false s
      = .next ((s.modPkg (fun p => { p with badRails := addOnce p.badRails r.val })).raise 0x0B04 0 (r.val + mv.toNat * 2 ^ 16)) := by
  simp [execRailOutOfRange, reset, mc, good, State.railEvent]

theorem execRailOutOfRange_back {s : State} {r : Fin 15} (reset : s.pkg.inReset = false) (mc : s.tel.mcReset = false)
    (bad : r.val ∈ s.pkg.badRails) (mv : BitVec 16) :
    execRailOutOfRange r mv true s
      = .next ((s.modPkg (fun p => { p with badRails := p.badRails.filter (· ≠ r.val) })).raise 0x0B04 0 (r.val + mv.toNat * 2 ^ 16)) := by
  simp [execRailOutOfRange, reset, mc, bad, State.railEvent]

/-! ### Energy, sensors and journal -/

/-- A list of values numbered from n is read by its numbers. -/
theorem tget_zipIdx {α : Type} (d : α) (xs : List α) (n i : Nat) (rest : Tbl α) (h : i < xs.length) :
    tget d ((xs.zipIdx n).map (fun e => (e.2, e.1)) ++ rest) (n + i) = xs[i] := by
  induction xs generalizing n i with
  | nil => exact absurd h (Nat.not_lt_zero i)
  | cons x xs ih =>
    cases i with
    | zero => simp [tget]
    | succ i =>
      simp only [List.zipIdx_cons, List.map_cons, List.cons_append, tget]
      rw [if_neg (by omega), show n + (i + 1) = n + 1 + i by omega, ih _ _ (by simpa using h), List.getElem_cons_succ]

/-- Numbered amounts added to the entries that they name: an entry that one of them names gains it, any other stays. -/
theorem tget_foldl_add (es : List Word) (n : Nat) (m : Tbl (BitVec 64)) (i : Nat) :
    tget 0 ((es.zipIdx n).foldl (fun m e => tput m e.2 (tget 0 m e.2 + e.1.setWidth 64)) m) i
      = if n ≤ i then tget 0 m i + (es.getD (i - n) 0).setWidth 64 else tget 0 m i := by
  induction es generalizing n m with
  | nil => simp
  | cons e es ih =>
    rw [List.zipIdx_cons, List.foldl_cons, ih, tget_tput]
    by_cases h : n = i
    · subst h
      simp
    · by_cases low : n + 1 ≤ i
      · rw [if_pos low, if_neg (by omega), if_pos (by omega), show i - n = i - (n + 1) + 1 by omega, List.getD_cons_succ]
      · rw [if_neg low, if_neg (by omega), if_neg (by omega)]

theorem execPowerMonitorSample_adds {s : State} {es : List Word} (full : es.length = 15) (reset : s.pkg.inReset = false) :
    ∃ t, execPowerMonitorSample es s = .next t
      ∧ (∀ i < 15, tget 0 t.tel.railEnergy i = tget 0 s.tel.railEnergy i + (es.getD i 0).setWidth 64)
      ∧ t.tel.energy = es.foldl (fun a e => a + e.setWidth 64) s.tel.energy
      ∧ t = s.modTel (fun x => { x with railEnergy := t.tel.railEnergy, energy := t.tel.energy }) := by
  have all : es.take 15 = es := List.take_of_length_le (by omega)
  rw [execPowerMonitorSample, if_neg (by simp [reset]), all]
  refine ⟨_, rfl, fun i _ => ?_, rfl, rfl⟩
  exact (tget_foldl_add es 0 s.tel.railEnergy i).trans (by rw [if_pos (Nat.zero_le i), Nat.sub_zero])

theorem execPldmSensorUpdate_reads {s : State} (reset : s.pkg.inReset = false) (mc : s.tel.mcReset = false) :
    ∃ t, execPldmSensorUpdate s = .next t ∧ t.tel.railAt = s.tel.railEnergy
      ∧ (∀ d < 11, tget 0 t.tel.sensors (1 + d) = (tget 0 s.pkg.temps d).toNat)
      ∧ (∀ n < 20, tget 0 t.tel.sensors (12 + n) = (s.gd n).tempC.toNat)
      ∧ t = s.modTel (fun x => { x with sensors := t.tel.sensors, powerDw := t.tel.powerDw, railAt := t.tel.railAt }) := by
  rw [execPldmSensorUpdate, if_neg (by simp [reset]), if_neg (by simp [mc])]
  refine ⟨_, rfl, rfl, fun d hd => ?_, fun n hn => ?_, rfl⟩
  · have := tget_zipIdx 0 ((List.range 11).map (fun d => (tget 0 s.pkg.temps d).toNat) ++ (List.range 20).map (fun n => (s.gd n).tempC.toNat)
      ++ ((List.range 15).map s.tel.railMs).map (· / 1000)) 1 d
    simp only [State.modTel_tel, List.map_append] at this ⊢
    rw [this _ (by simp; omega)]
    simp [hd]
  · have := tget_zipIdx 0 ((List.range 11).map (fun d => (tget 0 s.pkg.temps d).toNat) ++ (List.range 20).map (fun n => (s.gd n).tempC.toNat)
      ++ ((List.range 15).map s.tel.railMs).map (· / 1000)) 1 (11 + n)
    simp only [State.modTel_tel, List.map_append] at this ⊢
    rw [show 12 + n = 1 + (11 + n) by omega, this _ (by simp; omega)]
    simp [hn]

theorem execJournalWrite_done {s : State} (mc : s.tel.mcReset = false) (running : s.sec.running = true) (inside : s.tel.journalNext % 2048 ≠ 0) :
    execJournalWrite false s = .next { s with
      flash := flashWrite s.flash (0x3500000 + s.tel.journalNext * 32) (journalBytes s.stamp (s.tel.journalCount + 1)),
      tel := { s.tel with journalCount := s.tel.journalCount + 1, journalNext := (s.tel.journalNext + 1) % 32768 } } := by
  simp [execJournalWrite, mc, running, State.enterJournal, inside, journalBase, journalEntries]

theorem execJournalWrite_failed {s : State} (mc : s.tel.mcReset = false) (running : s.sec.running = true) :
    execJournalWrite true s = .next ((s.raise 0x0C06 0 (s.tel.journalNext / 2048)).modTel
      (fun x => { x with journalNext := (s.tel.journalNext / 2048 + 1) * 2048 % 32768 })) := by
  simp [execJournalWrite, mc, running, journalEntries]

theorem execMcWatchdogExpiry_first {s : State} (mc : s.tel.mcReset = false) (running : s.sec.running = true) (first : s.tel.wdogTimes = []) :
    execMcWatchdogExpiry s = .next ((s.modTel (fun x => { x with
      wdogResets := satNat 16 x.wdogResets 1, wdogTimes := [s.now], mcReset := true, mcHeld := false })).modSec (fun x => { x with
      sessions := [], versionDone := false, capsDone := false, algsDone := false, chunkIn := [], chunkOut := [], chunkSeq := 0,
      busy := false, waiting := [], burn := none })) := by
  have few : decide (3 ≤ ([s.now].filter (fun t => decide (s.now ≤ t + 600000000))).length) = false := by
    have : ([s.now].filter (fun t => decide (s.now ≤ t + 600000000))).length ≤ 1 := List.length_filter_le _ _
    exact decide_eq_false (by omega)
  simp only [execMcWatchdogExpiry, mc, running, first, List.nil_append, few, Bool.not_true, Bool.or_self, Bool.false_eq_true, if_false]

theorem execMcRestart_of_reset {s : State} (mc : s.tel.mcReset = true) (free : s.tel.mcHeld = false) :
    execMcRestart s
      = .next ((s.modTel (fun x => { x with mcReset := false, railAt := x.railEnergy })).raise 0x0C01 0 s.tel.wdogResets).retime := by
  rw [execMcRestart, if_pos (by simp [mc, free])]

/-! ### The recorder -/

theorem State.lastSlot_of_room {s : State} (room : s.tel.next + 1 ≠ 131072) : s.lastSlot = s := by
  rw [State.lastSlot, if_pos (by simp [recorderSlots, room])]

theorem execRecorderProgram_front {s : State} {r : EventRec} {q : List EventRec} (queue : s.tel.queue = r :: q) (full : s.tel.full = false)
    (clearing : s.tel.clearing = false) (mc : s.tel.mcReset = false) (reset : s.pkg.inReset = false) (running : s.sec.running = true)
    (room : s.tel.next + 2 < 131072) :
    execRecorderProgram s = .next { s with
      flash := flashWrite s.flash (0x3100000 + s.tel.next * 32) (recordBytes r),
      tel := { s.tel with queue := q, next := s.tel.next + 1 } } := by
  have placed : ¬ (((s.modTel (fun t => { t with queue := q })).tel.full || (s.modTel (fun t => { t with queue := q })).tel.clearing
      || decide (recorderSlots ≤ (s.modTel (fun t => { t with queue := q })).tel.next + 1)) = true) := by
    simp [full, clearing, recorderSlots]
    omega
  simp only [execRecorderProgram, queue]
  rw [if_neg (by simp [full, clearing, mc, reset, running]), State.programRecord, if_neg placed, State.lastSlot_of_room]
  · rfl
  · simp only [State.putRecord, State.modTel]
    omega

theorem execRecRead_answers {s : State} (answers : s.mctpAnswers = true) (i : BitVec 32) (u : BitVec 16) :
    ∃ bs, execRecRead i u s = .next (s.emit (.response bs)) ∧ bs = flashRead s.flash (0x3100000 + i.toNat * 32) bs.length
      ∧ bs.length = 32 * min ((min u.toNat s.tel.mctpUnit - 16) / 32) (131072 - i.toNat) := by
  rw [execRecRead, if_pos answers]
  refine ⟨_, rfl, ?_, ?_⟩
  · rw [length_flashRead, recorderBase]
  · rw [length_flashRead, recorderSlots, Nat.mul_comm]

theorem execRecStatus_answers {s : State} (answers : s.mctpAnswers = true) :
    execRecStatus s = .next (s.emit (.response (leBytes 4 (s.read32 .evr 0) ++ leBytes 4 (s.read32 .evr 4)))) := by
  rw [execRecStatus, if_pos answers]
  rfl

theorem execRateLimitRefill_below {s : State} {c : BitVec 16}
    (below : (tget {} s.tel.buckets c.toNat).tokens < (tget {} s.tel.buckets c.toNat).burst) :
    ∃ t, execRateLimitRefill c s = .next t ∧ (tget {} t.tel.buckets c.toNat).tokens = (tget {} s.tel.buckets c.toNat).tokens + 1
      ∧ (∀ d : BitVec 16, d ≠ c → tget {} t.tel.buckets d.toNat = tget {} s.tel.buckets d.toNat)
      ∧ t = s.modTel (fun x => { x with buckets := t.tel.buckets }) := by
  simp only [execRateLimitRefill, if_pos below]
  refine ⟨_, rfl, ?_, fun d other => ?_, rfl⟩
  · simp only [State.modTel, tget_tput_same]
  · exact tget_tput_ne _ _ _ fun same => other (BitVec.eq_of_toNat_eq same)

theorem execRecorderClearDone_clearing {s : State} (clearing : s.tel.clearing = true) :
    execRecorderClearDone s = .next { s with
      flash := flashErase s.flash 0x3100000 0x3500000, tel := { s.tel with next := 0, full := false, clearing := false } } := by
  rw [execRecorderClearDone, if_pos clearing]
  rfl

end Sys2Proof.Machine

namespace Sys2Proof
open Machine

/-- Settles O8: each command by the equation of its case. -/
theorem powerAndRailsComplete : Obligations.PowerAndRailsComplete :=
  ⟨fun _ => rfl, fun _ => rfl,
    fun s v awake low high => (execHostCapWrite_of_awake awake v).trans (congrArg _ (State.writePcap_of_within low high s)),
    fun s v awake out => (execHostCapWrite_of_awake awake v).trans (congrArg _ (State.writePcap_of_outside out s)),
    fun _ _ answers => execBmcCapWrite_cap answers, fun _ _ answers => execBmcCapWrite_cap_outside answers,
    fun _ on answers => execBmcCapWrite_events answers on, fun _ _ answers => execBmcCapWrite_unit answers,
    fun _ _ => execPowerCapEvaluation_step_down, fun _ _ _ => execAvsAcknowledge_of_pending, fun _ _ _ => execAvsAckTimeout_first,
    fun _ _ _ => execAvsAckTimeout_second, fun _ _ mv reset mc good => execRailOutOfRange_out reset mc good mv,
    fun _ _ mv reset mc bad => execRailOutOfRange_back reset mc bad mv⟩

/-- Settles O10: the tables of energies and sensors by the numbers of their entries, the rest by the equation of each case. -/
theorem telemetryCompletes : Obligations.TelemetryCompletes :=
  ⟨fun _ _ => execPowerMonitorSample_adds, fun _ => execPldmSensorUpdate_reads, fun _ => execJournalWrite_done, fun _ => execJournalWrite_failed,
    fun _ => execMcWatchdogExpiry_first, fun _ => execMcRestart_of_reset⟩

/-- Settles O11: the recorder's program leaves the last slot alone, and each other command is the equation of its case. -/
theorem recorderCompletes : Obligations.RecorderCompletes :=
  ⟨fun _ _ _ => execRecorderProgram_front, fun _ i u answers => execRecRead_answers answers i u, fun _ => execRecStatus_answers,
    fun _ _ => execRateLimitRefill_below, fun _ => execRecorderClearDone_clearing⟩

end Sys2Proof
end

section
/-! Temperatures, throttling and the trip (R566 to R568): O9. -/
namespace Sys2Proof.Machine

/-! ### What leaves the package stays sent -/

/-- `o` has left the package. -/
def State.told (o : Out) (s : State) : Prop := o ∈ s.out

section Told
variable {o : Out} {s t : State} (h : s.told o)
include h

theorem told_emit (p : Out) : (s.emit p).told o := List.mem_cons_of_mem p h

theorem told_boards (flash : Mem) (tel : Telemetry) : ({ s with flash, tel } : State).told o := h

theorem told_modHost (f : HostIf → HostIf) : (s.modHost f).told o := h

theorem told_modTel (f : Telemetry → Telemetry) : (s.modTel f).told o := h

theorem told_modJob (n : Nat) (f : Job → Job) : (s.modJob n f).told o := h

theorem told_hostWrite (a : Nat) (bs : List Byte) : (s.hostWrite a bs).told o := h

theorem told_raiseVector (cfg : Word) : (s.raiseVector cfg).told o := by
  unfold State.raiseVector State.sendMsix
  dsimp only
  split
  · split
    · exact told_modHost h _
    · exact told_emit h _
  · exact told_modHost h _

theorem told_placeRecord {r q : Cq} {len : Nat} {mk : Nat → List Byte} (e : placeRecord s r len mk = some (t, q)) : t.told o := by
  unfold placeRecord at e
  dsimp only at e
  split at e
  · cases e
  · cases e
    refine told_hostWrite ?_ _ _
    split
    · exact h
    · exact told_hostWrite h _ _

theorem told_putEvent {r : EventRec} (e : s.putEvent r = some t) : t.told o := by
  unfold State.putEvent at e
  split at e
  · split at e
    · cases e
    · next placed =>
      cases e
      split
      · exact told_raiseVector (told_modHost (told_placeRecord h placed) _) _
      · exact told_modHost (told_placeRecord h placed) _
  · cases e

theorem told_deliverEvent (r : EventRec) : (s.deliverEvent r).told o := by
  have ring : (s.toEventRing r).told o := by
    unfold State.toEventRing
    split
    · split
      · next placed => exact told_putEvent h placed
      · exact told_modHost h _
    · split
      · exact told_modHost h _
      · exact h
  unfold State.deliverEvent State.tellBmc
  split
  · exact told_emit ring _
  · exact ring

theorem told_takeToken (code job detail : Nat) : (s.takeToken code job detail).1.told o := by
  unfold State.takeToken
  dsimp only
  split
  · exact told_modTel h _
  · exact told_modHost (told_modTel h _) _

theorem told_raise (code job detail : Nat) : (s.raise code job detail).told o := by
  have token := told_takeToken h code job detail
  unfold State.raise
  split
  · next e => rwa [e] at token
  · next e =>
    rw [e] at token
    exact told_deliverEvent (told_modTel token _) _

theorem told_putCompletion {c : Completion} (e : s.putCompletion c = some t) : t.told o := by
  unfold State.putCompletion at e
  dsimp only at e
  split at e
  · split at e
    · cases e
    · next placed =>
      cases e
      split
      · exact told_raiseVector (told_modHost (told_placeRecord h placed) _) _
      · exact told_modHost (told_placeRecord h placed) _
  · cases e

theorem told_complete (c : Completion) : (s.complete c).told o := by
  unfold State.complete
  dsimp only
  split
  · exact told_modHost h _
  · split
    · next put => exact told_putCompletion h put
    · exact told_modHost h _

theorem told_completeStep (slot : Nat) : (s.completeStep slot).told o := by
  unfold State.completeStep
  dsimp only
  split
  · exact h
  · split
    · exact h
    · exact told_modJob (told_complete (told_modHost h _) _) _ _

theorem told_foldl {α : Type} {f : State → α → State} (hf : ∀ s a, s.told o → (f s a).told o) (l : List α) : (l.foldl f s).told o := by
  induction l generalizing s with
  | nil => exact h
  | cons a l ih => exact ih (hf s a h)

theorem told_dropSecure : s.dropSecure.told o := h

theorem told_hostLinkLost : s.hostLinkLost.told o := by
  unfold State.hostLinkLost
  split
  · exact h
  · refine told_foldl (told_modHost (told_raise (told_dropSecure (told_modHost h _)) _ _ _) _) (fun v n hv => ?_) _
    split
    · exact told_completeStep (told_modJob hv _ _) _
    · exact hv

theorem told_putRecord (r : EventRec) : (s.putRecord r).told o := told_boards h _ _

theorem told_lastSlot : s.lastSlot.told o := by
  unfold State.lastSlot
  split
  · exact h
  · refine told_modTel ?_ _
    have token := told_takeToken h 0x0C04 0 0
    generalize s.takeToken 0x0C04 0 0 = x at token ⊢
    obtain ⟨s1, r⟩ := x
    cases r with
    | none => exact told_putRecord token _
    | some e => exact told_putRecord (told_deliverEvent token e) _

theorem told_programRecord (r : EventRec) : (s.programRecord r).told o := by
  unfold State.programRecord
  split
  · exact told_lastSlot (told_modTel h _)
  · exact told_lastSlot (told_putRecord h r)

end Told

/-! ### What the trip's records leave alone -/

/-- Power and rails, device memory, the queue, the tiles and what maps them are the same. -/
structure SamePower (s t : State) : Prop where
  pkg : t.pkg = s.pkg
  mem : t.mem = s.mem
  pending : t.pending = s.pending
  tiles : t.tiles = s.tiles
  stks : t.stks = s.stks
  fuses : t.fuses = s.fuses

namespace SamePower

variable {s t u : State}

theorem refl (s : State) : SamePower s s := ⟨rfl, rfl, rfl, rfl, rfl, rfl⟩

theorem trans (h : SamePower s t) (k : SamePower t u) : SamePower s u :=
  ⟨k.pkg.trans h.pkg, k.mem.trans h.mem, k.pending.trans h.pending, k.tiles.trans h.tiles, k.stks.trans h.stks, k.fuses.trans h.fuses⟩

theorem of_records (h : SameButRecords s t) : SamePower s t := ⟨h.pkg, h.mem, h.pending, h.tiles, h.stks, h.fuses⟩

theorem boards (s : State) (flash : Mem) (tel : Telemetry) : SamePower s { s with flash, tel } := ⟨rfl, rfl, rfl, rfl, rfl, rfl⟩

theorem dropSecure (s : State) : SamePower s s.dropSecure := ⟨rfl, rfl, rfl, rfl, rfl, rfl⟩

theorem modJob (s : State) (n : Nat) (f : Job → Job) : SamePower s (s.modJob n f) := ⟨rfl, rfl, rfl, rfl, rfl, rfl⟩

theorem foldl {α : Type} {f : State → α → State} (hf : ∀ s a, SamePower s (f s a)) (l : List α) (s : State) : SamePower s (l.foldl f s) := by
  induction l generalizing s with
  | nil => exact .refl s
  | cons a l ih => exact (hf s a).trans (ih (f s a))

theorem tile (h : SamePower s t) (L : Nat) : t.tile L = s.tile L := by
  unfold State.tile State.tileAt
  rw [h.tiles, State.tileIx_congr (s := s) (t := t) (fun k => by unfold State.stack; rw [h.stks]) h.fuses]

theorem completeStep (s : State) (slot : Nat) : SamePower s (s.completeStep slot) := by
  unfold State.completeStep
  dsimp only
  split
  · exact .refl s
  · split
    · exact .refl s
    · exact ((of_records (records_modHost s _)).trans (of_records (records_complete _ _))).trans (modJob _ _ _)

theorem hostLinkLost (s : State) : SamePower s s.hostLinkLost := by
  unfold State.hostLinkLost
  split
  · exact .refl s
  · refine SamePower.trans ?_ (foldl (fun v n => ?_) _ _)
    · exact (((of_records (records_modHost s _)).trans (dropSecure _)).trans (of_records (records_raise _ _ _ _))).trans
        (of_records (records_modHost _ _))
    · split
      · exact (modJob v n _).trans (completeStep _ n)
      · exact .refl v

theorem lastSlot (s : State) : SamePower s s.lastSlot := by
  unfold State.lastSlot
  split
  · exact .refl s
  · refine SamePower.trans ?_ (of_records (records_modTel _ _))
    have token := of_records (records_takeToken s 0x0C04 0 0)
    generalize s.takeToken 0x0C04 0 0 = x at token ⊢
    obtain ⟨s1, r⟩ := x
    cases r with
    | none => exact token.trans (boards _ _ _)
    | some e => exact (token.trans (of_records (records_deliverEvent s1 e))).trans (boards _ _ _)

theorem programRecord (s : State) (r : EventRec) : SamePower s (s.programRecord r) := by
  unfold State.programRecord
  split
  · exact (of_records (records_modTel s _)).trans (lastSlot _)
  · exact (boards s _ _).trans (lastSlot _)

end SamePower

/-! ### A tripped package's islands stand still -/

/-- A fold in which each element's step reaches its own goal, and no other step undoes it. -/
theorem foldl_reaches {α β : Type} {f : β → α → β} {inv : β → Prop} {goal : α → β → Prop}
    (step : ∀ b a, inv b → inv (f b a) ∧ goal a (f b a)) (keep : ∀ b a c, inv b → goal c b → goal c (f b a)) (l : List α) :
    ∀ b, inv b → inv (l.foldl f b) ∧ ∀ c, c ∈ l ∨ goal c b → goal c (l.foldl f b) := by
  induction l with
  | nil =>
    intro b hb
    exact ⟨hb, fun c hc => hc.resolve_left List.not_mem_nil⟩
  | cons a l ih =>
    intro b hb
    obtain ⟨next, reached⟩ := step b a hb
    obtain ⟨last, goals⟩ := ih (f b a) next
    refine ⟨last, fun c hc => goals c ?_⟩
    rcases hc with hc | hc
    · rcases List.mem_cons.1 hc with rfl | hc
      · exact .inr reached
      · exact .inl hc
    · exact .inr (keep b a c hb hc)

/-- The island of physical tile `ix` stands still. -/
def State.stopped (s : State) (ix : Nat) : Prop := (s.tileAt ix).clock = 0

theorem State.stopped_modTileAt {s : State} {ix : Nat} (jx : Nat) (h : s.stopped ix) :
    (s.modTileAt jx (fun x => { x with clock := 0 })).stopped ix := by
  unfold State.stopped at h ⊢
  rw [State.tileAt_modTileAt]
  split
  · rfl
  · exact h

theorem State.stopped_of_tiles {s t : State} {ix : Nat} (same : t.tiles = s.tiles) (h : s.stopped ix) : t.stopped ix := by
  unfold State.stopped State.tileAt at h ⊢
  rwa [same]

theorem SameButClocks.thermtrip {s t : State} (h : SameButClocks s t) (trip : s.pkg.thermtrip = true) : t.pkg.thermtrip = true := by
  rw [h.state]
  exact trip

theorem SameButClocks.tileIx {s t : State} (h : SameButClocks s t) (L : Nat) : t.tileIx L = s.tileIx L :=
  State.tileIx_congr (fun k => by rw [h.stack k]) (by rw [h.state]) L

theorem mem_upFrom {n k i : Nat} : i ∈ upFrom n k ↔ n ≤ i ∧ i < n + k := by
  simp only [upFrom, List.mem_map, List.mem_range]
  exact ⟨fun ⟨a, ha, e⟩ => by omega, fun h => ⟨i - n, by omega, by omega⟩⟩

/-- The clock that a tripped package gives a logical tile is 0. -/
theorem State.clock_step_tripped {s : State} (trip : s.pkg.thermtrip = true) (top L : Nat) :
    (if s.clockHeld L then s else s.modTile L (fun x => { x with clock := min top (s.targetMhz L) }))
      = s.modTileAt (s.tileIx L) (fun x => { x with clock := 0 }) := by
  simp [State.clockHeld, State.targetMhz, trip, State.modTile]

/-- Reclocking a tripped package leaves what stands still, and stops the logical tiles of the stack. -/
theorem State.reclock_stops {s : State} (trip : s.pkg.thermtrip = true) (k : Nat) :
    (∀ ix, s.stopped ix → (s.reclock k).stopped ix) ∧ ∀ L, 32 * k ≤ L → L < 32 * k + 32 → (s.reclock k).stopped (s.tileIx L) := by
  unfold State.reclock
  extract_lets top s1
  have spare : SameButClocks s s1 ∧ ∀ ix, s.stopped ix → s1.stopped ix := by
    refine List.foldlRecOn (motive := fun v => SameButClocks s v ∧ ∀ ix, s.stopped ix → v.stopped ix) _ _ ⟨.refl s, fun _ h => h⟩
      fun v ⟨same, kept⟩ t _ => ?_
    split
    · rw [same.thermtrip trip]
      exact ⟨same.trans (clocks_modTileAt v _ 0), fun ix h => State.stopped_modTileAt _ (kept ix h)⟩
    · exact ⟨same, kept⟩
  obtain ⟨same, kept⟩ := spare
  clear_value s1
  have step : ∀ v L, SameButClocks s1 v → (if v.clockHeld L then v else v.modTile L (fun x => { x with clock := min top (v.targetMhz L) }))
      = v.modTileAt (s.tileIx L) (fun x => { x with clock := 0 }) := fun v L hv => by
    rw [State.clock_step_tripped ((same.trans hv).thermtrip trip), (same.trans hv).tileIx]
  constructor
  · intro ix hix
    refine (List.foldlRecOn (motive := fun v => SameButClocks s1 v ∧ v.stopped ix) _ _ ⟨.refl s1, kept ix hix⟩ fun v ⟨hv, still⟩ L _ => ?_).2
    rw [step v L hv]
    exact ⟨hv.trans (clocks_modTileAt v _ 0), State.stopped_modTileAt _ still⟩
  · intro L low high
    refine (foldl_reaches (inv := SameButClocks s1) (goal := fun L v => v.stopped (s.tileIx L)) (fun v L hv => ?_) (fun v L M hv still => ?_) _ s1
      (.refl s1)).2 L (.inl (mem_upFrom.2 ⟨low, high⟩))
    · rw [step v L hv]
      refine ⟨hv.trans (clocks_modTileAt v _ 0), ?_⟩
      unfold State.stopped
      rw [State.tileAt_modTileAt_same]
    · rw [step v L hv]
      exact State.stopped_modTileAt _ still

theorem State.tiles_setVoltage (s : State) (k : Nat) : (s.setVoltage k).tiles = s.tiles := by
  unfold State.setVoltage
  dsimp only
  split <;> rfl

theorem State.tiles_relimit (s : State) : s.relimit.tiles = s.tiles := by
  refine List.foldlRecOn (motive := fun v : State => v.tiles = s.tiles) _ _ rfl fun v same n _ => ?_
  rw [← same]
  dsimp only
  split
  · split <;> split <;> rfl
  · rfl

/-- The islands of a tripped package stand still. -/
theorem State.retime_stops {s : State} (trip : s.pkg.thermtrip = true) {L : Nat} (hL : L < 128) : (s.retime.tile L).clock = 0 := by
  have still : s.retime.stopped (s.tileIx L) := by
    unfold State.retime
    refine State.stopped_of_tiles (State.tiles_relimit _) ?_
    refine (foldl_reaches (inv := SameButClocks s) (goal := fun k v => L / 32 = k → v.stopped (s.tileIx L)) (fun v k hv => ?_)
      (fun v k j hv still hj => ?_) _ s (.refl s)).2 (L / 32) (.inl (mem_upFrom.2 (by omega))) rfl
    · refine ⟨hv.trans ((clocks_reclock v k).trans (clocks_setVoltage _ k)), fun hk => ?_⟩
      rw [← hv.tileIx]
      exact State.stopped_of_tiles (State.tiles_setVoltage _ k) ((State.reclock_stops (hv.thermtrip trip) k).2 L (by omega) (by omega))
    · exact State.stopped_of_tiles (State.tiles_setVoltage _ k) ((State.reclock_stops (hv.thermtrip trip) k).1 _ (still hj))
  rwa [State.stopped, ← (clocks_retime s).tileIx L] at still

/-! ### The trip -/

/-- A trip shuts the package down: THERMTRIP_N, its islands, its transmitters; memory and the queue stay. -/
theorem State.trip_spec (s : State) (d : Nat) :
    (s.trip d).pkg.thermtrip = true ∧ (s.trip d).mem = s.mem ∧ (s.trip d).pending = s.pending ∧ (s.trip d).told .idleTransmitters
      ∧ ∀ L < 128, ((s.trip d).tile L).clock = 0 := by
  suffices h : ∃ t : State, t.pkg.thermtrip = true ∧ t.mem = s.mem ∧ t.pending = s.pending ∧ t.told .idleTransmitters
      ∧ (∀ L < 128, (t.tile L).clock = 0) ∧ SamePower t (s.trip d) ∧ (t.told .idleTransmitters → (s.trip d).told .idleTransmitters) by
    obtain ⟨t, trip, mem, pending, told, clocks, same, keeps⟩ := h
    exact ⟨by rw [same.pkg, trip], same.mem.trans mem, same.pending.trans pending, keeps told, fun L hL => by rw [same.tile, clocks L hL]⟩
  refine ⟨((s.modPkg (fun p => { p with thermtrip := true })).retime).emit .idleTransmitters, ?_, ?_, ?_, ?_, ?_, ?_, ?_⟩
  · rw [State.emit_pkg, (clocks_retime _).state, State.modPkg_pkg]
  · rw [State.emit_mem, (clocks_retime _).state, State.modPkg_mem]
  · rw [State.emit_pending, (clocks_retime _).state, State.modPkg_pending]
  · exact List.mem_cons_self
  · intro L hL
    rw [(SamePower.of_records (records_emit _ _)).tile]
    exact State.retime_stops (by rw [State.modPkg_pkg]) hL
  all_goals
    unfold State.trip
    generalize ((s.modPkg (fun p => { p with thermtrip := true })).retime).emit .idleTransmitters = t
    dsimp only
  · have token := (SamePower.hostLinkLost t).trans (.of_records (records_takeToken t.hostLinkLost 0x0B03 0 (d + s.dieTemp d * 2 ^ 8)))
    generalize t.hostLinkLost.takeToken 0x0B03 0 (d + s.dieTemp d * 2 ^ 8) = x at token ⊢
    obtain ⟨u, r⟩ := x
    cases r with
    | none => exact token
    | some r =>
      dsimp only at token ⊢
      refine token.trans ?_
      split
      · refine SamePower.trans ?_ (.of_records (records_deliverEvent _ r))
        refine SamePower.trans ?_ (.of_records (records_modTel _ _))
        split
        · exact .of_records (records_modTel u _)
        · exact .refl u
      · exact (SamePower.programRecord u r).trans (.of_records (records_deliverEvent _ r))
  · intro told
    have token := told_takeToken (told_hostLinkLost told) 0x0B03 0 (d + s.dieTemp d * 2 ^ 8)
    generalize t.hostLinkLost.takeToken 0x0B03 0 (d + s.dieTemp d * 2 ^ 8) = x at token ⊢
    obtain ⟨u, r⟩ := x
    cases r with
    | none => exact token
    | some r =>
      dsimp only at token ⊢
      split
      · refine told_deliverEvent (told_modTel ?_ _) r
        split
        · exact told_modTel token _
        · exact token
      · exact told_deliverEvent (told_programRecord token r) r

/-! ### Reading the sensors -/

theorem tget_numbered {α : Type} (d : α) (xs : List α) (n i : Nat) :
    tget d ((xs.zipIdx n).map (fun e => (e.2, e.1))) i = if n ≤ i then xs.getD (i - n) d else d := by
  induction xs generalizing n with
  | nil => simp
  | cons x xs ih =>
    simp only [List.zipIdx_cons, List.map_cons, tget, ih]
    by_cases same : i = n
    · subst same
      simp
    · by_cases above : n + 1 ≤ i
      · rw [if_neg same, if_pos above, if_pos (by omega), show i - n = i - (n + 1) + 1 by omega, List.getD_cons_succ]
      · rw [if_neg same, if_neg above, if_neg (by omega)]

/-- The readings of the eleven dies taken in. -/
def State.withTemps (s : State) (ts : List Byte) : State := s.modPkg (fun p => { p with temps := ts.zipIdx.map (fun e => (e.2, e.1)) })

theorem State.dieTemp_withTemps (s : State) (ts : List Byte) (d : Nat) : (s.withTemps ts).dieTemp d = (ts.getD d 0).toNat := by
  unfold State.dieTemp State.withTemps
  rw [State.modPkg_pkg, tget_numbered, if_pos (Nat.zero_le d), Nat.sub_zero]

theorem State.throttleStack_cool {s : State} {k : Nat} (free : (s.stack k).throttle = 0) (cool : s.stackTemp k < 100) : s.throttleStack k = s := by
  rw [State.throttleStack, if_pos free, if_neg (by omega)]

theorem State.throttleStack_frame (s : State) (k : Nat) :
    (s.throttleStack k).pkg = s.pkg ∧ (s.throttleStack k).mem = s.mem ∧ (s.throttleStack k).pending = s.pending := by
  have event : ∀ (f : Stack → Stack) (n : Nat), ((s.modStack k f).throttleEvent k n).pkg = s.pkg
      ∧ ((s.modStack k f).throttleEvent k n).mem = s.mem ∧ ((s.modStack k f).throttleEvent k n).pending = s.pending := fun f n => by
    have told := records_raise (s.modStack k f) 0x0B02 0 (k + (s.modStack k f).stackTemp k * 2 ^ 8 + n * 2 ^ 16)
    exact ⟨told.pkg, told.mem, told.pending⟩
  unfold State.throttleStack
  split
  · split
    · exact event _ 1
    · exact ⟨rfl, rfl, rfl⟩
  · split
    · exact event _ 0
    · exact ⟨rfl, rfl, rfl⟩

/-- Cool dies under no throttle are only read. -/
theorem execThermalSensorRead_cool {s : State} {ts : List Byte} (dies : ts.length = 11) (reset : s.pkg.inReset = false)
    (free : ∀ k, (s.stack k).throttle = 0) (cool : ∀ b ∈ ts, b.toNat < 100) : execThermalSensorRead ts s = .next (s.withTemps ts) := by
  have all : ts.take 11 = ts := List.take_of_length_le (by omega)
  have temp : ∀ d, (s.withTemps ts).dieTemp d < 100 := fun d => by
    rw [State.dieTemp_withTemps]
    by_cases h : d < ts.length
    · rw [List.getD_eq_getElem _ _ h]
      exact cool _ (List.getElem_mem h)
    · rw [List.getD_eq_default _ _ (by omega)]
      decide
  have unthrottled : (upFrom 0 4).foldl (fun s k => s.throttleStack k) (s.withTemps ts) = s.withTemps ts :=
    List.foldlRecOn (motive := fun v => v = s.withTemps ts) _ _ rfl fun v same k _ => by
      rw [same]
      exact State.throttleStack_cool (free k) (by have := temp k; have := temp (4 + k); unfold State.stackTemp; omega)
  have below : (List.range 11).find? (fun d => decide (tripOf d ≤ (s.withTemps ts).dieTemp d)) = none := by
    rw [List.find?_eq_none]
    intro d _
    have := temp d
    rw [decide_eq_true_eq, tripOf]
    split <;> omega
  rw [execThermalSensorRead, if_neg (by simp [reset]), all]
  dsimp only
  rw [← State.withTemps, unthrottled, below]

/-- A die at its trip trips the package. -/
theorem execThermalSensorRead_trip {s : State} {ts : List Byte} (dies : ts.length = 11) (reset : s.pkg.inReset = false)
    (untripped : s.pkg.thermtrip = false) (hot : 115 ≤ (ts.getD 0 0).toNat) :
    ∃ t, execThermalSensorRead ts s = .next t ∧ t.pkg.thermtrip = true ∧ t.mem = s.mem ∧ t.pending = s.pending
      ∧ Out.idleTransmitters ∈ t.out ∧ (∀ L < 128, (t.tile L).clock = 0) := by
  have all : ts.take 11 = ts := List.take_of_length_le (by omega)
  have frame : ((upFrom 0 4).foldl (fun s k => s.throttleStack k) (s.withTemps ts)).pkg = (s.withTemps ts).pkg
      ∧ ((upFrom 0 4).foldl (fun s k => s.throttleStack k) (s.withTemps ts)).mem = s.mem
      ∧ ((upFrom 0 4).foldl (fun s k => s.throttleStack k) (s.withTemps ts)).pending = s.pending :=
    List.foldlRecOn (motive := fun v : State => v.pkg = (s.withTemps ts).pkg ∧ v.mem = s.mem ∧ v.pending = s.pending) _ _ ⟨rfl, rfl, rfl⟩
      fun v ⟨pkg, mem, pending⟩ k _ => by
        obtain ⟨pkg', mem', pending'⟩ := v.throttleStack_frame k
        exact ⟨pkg'.trans pkg, mem'.trans mem, pending'.trans pending⟩
  rw [execThermalSensorRead, if_neg (by simp [reset]), all]
  dsimp only
  rw [← State.withTemps]
  generalize (upFrom 0 4).foldl (fun s k => s.throttleStack k) (s.withTemps ts) = u at frame ⊢
  obtain ⟨pkg, mem, pending⟩ := frame
  have first : (List.range 11).find? (fun d => decide (tripOf d ≤ u.dieTemp d)) = some 0 := by
    have reading : u.dieTemp 0 = (s.withTemps ts).dieTemp 0 := by rw [State.dieTemp, State.dieTemp, pkg]
    rw [List.range_succ_eq_map, List.find?_cons_of_pos]
    rw [reading, State.dieTemp_withTemps, decide_eq_true_eq]
    exact hot
  have quiet : u.pkg.thermtrip = false := by
    rw [pkg, State.withTemps, State.modPkg_pkg]
    exact untripped
  rw [first]
  dsimp only
  rw [if_neg (by rw [quiet]; exact Bool.false_ne_true)]
  obtain ⟨tripped, mem', pending', told, clocks⟩ := u.trip_spec 0
  exact ⟨_, rfl, tripped, mem'.trans mem, pending'.trans pending, told, clocks⟩

theorem execThrottleLevelCheck_hot {s : State} {k : Fin 4} (throttled : (s.stack k).throttle = 1) (hot : 100 ≤ s.stackTemp k) :
    execThrottleLevelCheck k s = .next (s.modStack k (fun x => { x with throttle := 2 })) := by
  rw [execThrottleLevelCheck, if_pos (by simp [throttled, hot])]

end Sys2Proof.Machine

namespace Sys2Proof
open Machine

/-- Settles O9: cool dies are only read, a hot one trips the package, whose islands then stand still. -/
theorem thermalLimitsComplete : Obligations.ThermalLimitsComplete :=
  ⟨fun _ _ => execThermalSensorRead_cool, fun _ _ => execThermalSensorRead_trip, fun _ _ => execThrottleLevelCheck_hot⟩

end Sys2Proof
end

section
/-! Fields of words, and the configuration words of rings. -/
namespace Sys2Proof.Machine

theorem testBit_nbits (x lo len i : Nat) : (nbits x lo len).testBit i = (decide (i < len) && x.testBit (lo + i)) := by
  rw [nbits, Nat.testBit_mod_two_pow, Nat.testBit_shiftRight]

theorem testBit_bits {w : Nat} (x : BitVec w) (lo len i : Nat) : (bits x lo len).testBit i = (decide (i < len) && x.getLsbD (lo + i)) :=
  testBit_nbits x.toNat lo len i

theorem getLsbD_putBits {w : Nat} (x : BitVec w) (lo len v i : Nat) (hi : i < w) :
    (putBits x lo len v).getLsbD i = if lo ≤ i ∧ i < lo + len then v.testBit (i - lo) else x.getLsbD i := by
  simp only [putBits, BitVec.getLsbD_or, BitVec.getLsbD_and, BitVec.getLsbD_not, BitVec.getLsbD_ofNat, Nat.testBit_shiftLeft,
    Nat.testBit_two_pow_sub_one, Nat.testBit_mod_two_pow, hi, decide_true, Bool.true_and, ge_iff_le]
  by_cases low : lo ≤ i
  · by_cases high : i < lo + len
    · simp [low, high, show i - lo < len by omega]
    · simp [low, high, show ¬ i - lo < len by omega]
  · simp [low]

theorem bits_putBits_other {w : Nat} (x : BitVec w) {lo len lo' len' : Nat} (v : Nat) (h : lo + len ≤ lo' ∨ lo' + len' ≤ lo)
    (hw : lo + len ≤ w) : bits (putBits x lo' len' v) lo len = bits x lo len := by
  refine Nat.eq_of_testBit_eq fun i => ?_
  rw [testBit_bits, testBit_bits]
  by_cases hi : i < len
  · rw [getLsbD_putBits _ _ _ _ _ (by omega), if_neg (by omega)]
  · simp [hi]

theorem bits_lt {w : Nat} (x : BitVec w) (lo len : Nat) : bits x lo len < 2 ^ len := Nat.mod_lt _ (Nat.two_pow_pos len)

theorem ringEnabled_iff (cfg : Word) : ringEnabled cfg = true ↔ bits cfg 31 1 = 1 := by
  have small := bits_lt cfg 31 1
  have bit : (bits cfg 31 1).testBit 0 = ringEnabled cfg := by
    rw [testBit_bits, ringEnabled, nbit]
    rfl
  rw [← bit, Nat.testBit_zero, decide_eq_true_eq]
  omega

theorem ringEnabled_eq_false_iff (cfg : Word) : ringEnabled cfg = false ↔ bits cfg 31 1 = 0 := by
  have small := bits_lt cfg 31 1
  rw [← Bool.not_eq_true, ringEnabled_iff]
  omega

theorem ringEnabled_putBits_one (cfg : Word) : (putBits cfg 31 1 1).getLsbD 31 = true := by
  rw [getLsbD_putBits _ _ _ _ _ (by omega), if_pos (by omega)]
  rfl

theorem ringEnabled_putBits_zero (cfg : Word) : (putBits cfg 31 1 0).getLsbD 31 = false := by
  rw [getLsbD_putBits _ _ _ _ _ (by omega), if_pos (by omega)]
  rfl

end Sys2Proof.Machine
end

section
/-! The host link's loss and return, the doorbell monitor, MSI-X, the completion buffer and the host window's translations (O13). -/
namespace Sys2Proof.Machine

/-! ### A list of addresses translated, one by one -/

theorem translateAll_cons_fail {s s1 : State} {job v why : Nat} {write : Bool} (e : s.translate job v write = (s1, .fail why)) (r : List Nat) :
   translateAll job write (v :: r) s = (s1, [], some (v, why)) := by
  obtain ⟨l, hl⟩ : ∃ l, l = v :: r := ⟨_, rfl⟩
  rw [← hl]
  delta translateAll translateAll._f
  obtain ⟨T, hT⟩ : ∃ T, T = State.translate := ⟨_, rfl⟩
  rw [← hT] at e ⊢
  subst hl
  dsimp only [List.brecOn, List.brecOn.go]
  rw [e]

theorem translateAll_cons_ok {s s1 : State} {job v a : Nat} {write : Bool} (e : s.translate job v write = (s1, .ok a)) (r : List Nat) :
   translateAll job write (v :: r) s = ((translateAll job write r s1).1, a :: (translateAll job write r s1).2.1, (translateAll job write r s1).2.2) := by
  obtain ⟨l, hl⟩ : ∃ l, l = v :: r := ⟨_, rfl⟩
  rw [← hl]
  delta translateAll translateAll._f
  obtain ⟨T, hT⟩ : ∃ T, T = State.translate := ⟨_, rfl⟩
  rw [← hT] at e ⊢
  subst hl
  dsimp only [List.brecOn, List.brecOn.go]
  rw [e]

/-! ### What the hub's own work leaves alone -/

/-- What the hub's work on its rings, records and pages leaves: device memory, the queue, the tiles and the state of the host link; the submission
rings and the ports when `rings` holds; the translations and the jobs' pages when `pages` holds. -/
structure SameHold (rings pages : Prop) (s t : State) : Prop where
  mem : t.mem = s.mem
  pending : t.pending = s.pending
  tiles : t.tiles = s.tiles
  sec : t.sec = s.sec
  attached : t.host.attached = s.host.attached
  resumeWait : t.host.resumeWait = s.host.resumeWait
  monitoring : t.host.monitoring = s.host.monitoring
  linkUp : t.host.linkUp = s.host.linkUp
  stale : t.host.stale = s.host.stale
  pageRequests : t.host.pageRequests = s.host.pageRequests
  sqs : rings → t.host.sqs = s.host.sqs
  ports : rings → t.ports = s.ports
  ats : pages → t.host.ats = s.host.ats
  page : pages → ∀ n, (t.job n).page = (s.job n).page

namespace SameHold

variable {rings pages : Prop} {s t u : State}

theorem refl (s : State) : SameHold rings pages s s := by constructor <;> intros <;> rfl

theorem trans (h : SameHold rings pages s t) (k : SameHold rings pages t u) : SameHold rings pages s u where
  mem := k.mem.trans h.mem
  pending := k.pending.trans h.pending
  tiles := k.tiles.trans h.tiles
  sec := k.sec.trans h.sec
  attached := k.attached.trans h.attached
  resumeWait := k.resumeWait.trans h.resumeWait
  monitoring := k.monitoring.trans h.monitoring
  linkUp := k.linkUp.trans h.linkUp
  stale := k.stale.trans h.stale
  pageRequests := k.pageRequests.trans h.pageRequests
  sqs r := (k.sqs r).trans (h.sqs r)
  ports r := (k.ports r).trans (h.ports r)
  ats p := (k.ats p).trans (h.ats p)
  page p n := (k.page p n).trans (h.page p n)

theorem foldl {α : Type} {f : State → α → State} (l : List α) (hf : ∀ s, ∀ a ∈ l, SameHold rings pages s (f s a)) (s : State) :
    SameHold rings pages s (l.foldl f s) :=
  List.foldlRecOn (motive := fun v => SameHold rings pages s v) _ _ (.refl s) fun v hv a ha => hv.trans (hf v a ha)

theorem weaken {rings' pages' : Prop} (h : SameHold rings pages s t) (hr : rings' → rings) (hp : pages' → pages) :
    SameHold rings' pages' s t :=
  { h with sqs := fun r => h.sqs (hr r), ports := fun r => h.ports (hr r), ats := fun p => h.ats (hp p), page := fun p => h.page (hp p) }

theorem of_traffic (h : SameButTraffic s t) (ports : rings → t.ports = s.ports) : SameHold rings pages s t where
  mem := by rw [h.state]
  pending := by rw [h.state]
  tiles := by rw [h.state]
  sec := by rw [h.state]
  attached := by rw [h.host]
  resumeWait := by rw [h.host]
  monitoring := by rw [h.host]
  linkUp := by rw [h.host]
  stale := by rw [h.host]
  pageRequests := by rw [h.host]
  sqs _ := by rw [h.host]
  ports := ports
  ats _ := by rw [h.host]
  page _ n := by rw [h.job n]

theorem raise (s : State) (code job detail : Nat) : SameHold rings pages s (s.raise code job detail) :=
  of_traffic (traffic_raise (.refl s) code job detail) fun _ => (records_raise s code job detail).ports

theorem completeDesc (s : State) (d : Desc) (status step ref value : Nat) (tokens : List Word) :
    SameHold rings pages s (s.completeDesc d status step ref value tokens) :=
  of_traffic (traffic_completeDesc (.refl s) d status step ref value tokens) fun _ => (records_complete s _).ports

theorem raiseVector (s : State) (cfg : Word) : SameHold rings pages s (s.raiseVector cfg) :=
  of_traffic (traffic_raiseVector (.refl s) cfg) fun _ => (records_raiseVector s cfg).ports

theorem modJob (s : State) (n : Nat) (f : Job → Job) (hf : pages → ∀ j, (f j).page = j.page) : SameHold rings pages s (s.modJob n f) := by
  constructor
  case page =>
    intro p m
    rw [State.job_modJob]
    split
    · next e => rw [e, hf p]
    · rfl
  all_goals intros; rfl

theorem modHost (s : State) (f : HostIf → HostIf)
    (hf : ∀ h, (f h).attached = h.attached ∧ (f h).resumeWait = h.resumeWait ∧ (f h).monitoring = h.monitoring ∧ (f h).linkUp = h.linkUp
      ∧ (f h).stale = h.stale ∧ (f h).pageRequests = h.pageRequests ∧ (rings → (f h).sqs = h.sqs) ∧ (pages → (f h).ats = h.ats)) :
    SameHold rings pages s (s.modHost f) := by
  obtain ⟨attached, resumeWait, monitoring, linkUp, stale, pageRequests, sqs, ats⟩ := hf s.host
  exact ⟨rfl, rfl, rfl, rfl, attached, resumeWait, monitoring, linkUp, stale, pageRequests, sqs, fun _ => rfl, ats, fun _ _ => rfl⟩

theorem modSq (s : State) (q : Nat) (f : Sq → Sq) : SameHold False pages s (s.modSq q f) :=
  modHost s _ fun _ => ⟨rfl, rfl, rfl, rfl, rfl, rfl, False.elim, fun _ => rfl⟩

theorem modCq (s : State) (c : Nat) (f : Cq → Cq) : SameHold rings pages s (s.modCq c f) :=
  modHost s _ fun _ => ⟨rfl, rfl, rfl, rfl, rfl, rfl, fun _ => rfl, fun _ => rfl⟩

/-- A change of the hub's records and counts of records. -/
theorem modRecords (s : State) (f : HostIf → HostIf)
    (hf : ∀ h, f h = { h with
      eq := (f h).eq, buffer := (f h).buffer, owed := (f h).owed, heldEvents := (f h).heldEvents, reserved := (f h).reserved,
      fullRaised := (f h).fullRaised }) : SameHold rings pages s (s.modHost f) :=
  modHost s f fun h => by
    rw [hf h]
    exact ⟨rfl, rfl, rfl, rfl, rfl, rfl, fun _ => rfl, fun _ => rfl⟩

theorem putCompletion {c : Completion} (e : s.putCompletion c = some t) : SameHold rings pages s t :=
  of_traffic (traffic_putCompletion (.refl s) e) fun _ => (records_putCompletion e).ports

theorem putEvent {r : EventRec} (e : s.putEvent r = some t) : SameHold rings pages s t :=
  of_traffic (traffic_putEvent (.refl s) e) fun _ => (records_putEvent e).ports

theorem completeStep (s : State) (slot : Nat) : SameHold rings pages s (s.completeStep slot) := by
  unfold State.completeStep
  dsimp only
  split
  · exact .refl s
  · split
    · exact .refl s
    · exact ((modRecords s _ (by intro; rfl)).trans (completeDesc _ _ _ _ _ _ _)).trans (modJob _ _ _ fun _ _ => rfl)

theorem flushHeld (rs : List EventRec) : ∀ s, SameHold rings pages s (Machine.flushHeld rs s) := by
  induction rs with
  | nil => exact fun s => modRecords s _ fun _ => rfl
  | cons r rs ih =>
    intro s
    unfold Machine.flushHeld
    split
    · exact modRecords s _ fun _ => rfl
    · next put => exact (putEvent put).trans (ih _)

theorem drainBuffer (cs : List Completion) : ∀ blocked s, SameHold rings pages s (Machine.drainBuffer cs blocked s) := by
  induction cs with
  | nil => exact fun _ s => .refl s
  | cons c cs ih =>
    intro blocked s
    unfold Machine.drainBuffer
    split
    · exact (modRecords s _ (by intro; rfl)).trans (ih _ _)
    · split
      · next put => exact (putCompletion put).trans (ih _ _)
      · exact (modRecords s _ (by intro; rfl)).trans (ih _ _)

theorem takeOwed (s : State) : SameHold rings pages s s.takeOwed := modRecords s _ fun _ => rfl

theorem drain (s : State) : SameHold rings pages s s.drain := by
  unfold State.drain
  extract_lets s1
  have h1 : SameHold rings pages s s1 := SameHold.trans (modRecords s _ fun _ => rfl) (drainBuffer s.host.buffer [] _)
  clear_value s1
  refine (h1.trans ?_).trans (takeOwed _)
  split
  · exact modRecords s1 _ fun _ => rfl
  · exact .refl s1

theorem setCfg (s : State) (r : RingRef) (v : Word) : SameHold False pages s (s.setCfg r v) := by
  cases r with
  | sq q => exact modSq s q _
  | cq c => exact modCq s c _
  | eq =>
    unfold State.setCfg
    exact modRecords s _ fun _ => rfl

theorem ringError (s : State) (r : RingRef) (code extra : Nat) : SameHold False pages s (s.ringError r code extra) :=
  (setCfg s r _).trans (raise _ _ _ _)

theorem evalWord (s : State) (r : RingRef) : SameHold False pages s (s.evalWord r) := by
  unfold State.evalWord
  split
  · exact .refl s
  · split
    · dsimp only
      split
      · exact .refl s
      · split
        · exact ringError s _ _ _
        · exact modSq s _ _
    · split
      · exact ringError s _ _ _
      · dsimp only
        split
        · exact (modCq s _ _).trans (raiseVector _ _)
        · exact modCq s _ _
    · split
      · exact ringError s _ _ _
      · dsimp only
        refine SameHold.trans ?_ (flushHeld _ _)
        split
        · exact (modRecords s _ (by intro; rfl)).trans (raiseVector _ _)
        · exact modRecords s _ fun _ => rfl

theorem translate (s : State) (job v : Nat) (write : Bool) : SameHold False False s (s.translate job v write).1 := by
  have hub : ∃ ats atsCount, (s.translate job v write).1 = s.modHost (fun h => { h with ats, atsCount }) := by
    unfold State.translate
    extract_lets p e a s1
    have counted : s1 = s.modHost (fun h => { h with ats := h.ats, atsCount := h.atsCount + 1 }) := rfl
    clear_value p e a s1
    subst counted
    repeat' split
    all_goals exact ⟨_, _, rfl⟩
  obtain ⟨ats, atsCount, same⟩ := hub
  rw [same]
  exact modHost s _ fun h => ⟨rfl, rfl, rfl, rfl, rfl, rfl, False.elim, False.elim⟩

theorem translateAll (job : Nat) (write : Bool) (vs : List Nat) : ∀ s, SameHold False False s (Machine.translateAll job write vs s).1 := by
  induction vs with
  | nil => exact fun s => .refl s
  | cons v vs ih =>
    intro s
    have one := translate s job v write
    rcases e : s.translate job v write with ⟨s1, a | why⟩
    · rw [translateAll_cons_ok e]
      rw [e] at one
      exact one.trans (ih s1)
    · rw [translateAll_cons_fail e]
      rwa [e] at one

theorem windowWrite (s : State) (slot v : Nat) (bs : List Byte) : SameHold False False s (s.windowWrite slot v bs).1 := by
  unfold State.windowWrite
  have all := translateAll (s.job slot).id.toNat true (upFrom v bs.length) s
  generalize Machine.translateAll (s.job slot).id.toNat true (upFrom v bs.length) s = x at all ⊢
  obtain ⟨s1, as, _ | e⟩ := x
  · exact all.trans (of_traffic (traffic_stat (traffic_with (.refl _)) _ _ _) False.elim)
  · exact all

/-- A job without a page to write is left alone. -/
theorem writePage (s : State) (n : Nat) : SameHold False ((s.job n).page = none) s (s.writePage n) := by
  unfold State.writePage
  dsimp only
  split
  · exact .refl s
  · next page some =>
    have none : ¬ (s.job n).page = none := by rw [some]; exact Option.some_ne_none page
    refine SameHold.weaken (rings := False) (pages := False) ?_ id fun h => none h
    have stored := windowWrite s n ((s.job n).pageAddr (BitVec.ofNat 32 (leAt page 4 4)))
      (if (s.job n).pageHeld then overwrite page 2 [BitVec.ofNat 8 (leAt page 2 1 + 4)] else page)
    generalize s.windowWrite n ((s.job n).pageAddr (BitVec.ofNat 32 (leAt page 4 4)))
      (if (s.job n).pageHeld then overwrite page 2 [BitVec.ofNat 8 (leAt page 2 1 + 4)] else page) = x at stored ⊢
    obtain ⟨s1, _ | why⟩ := x
    · exact (stored.trans (modJob _ _ _ False.elim)).trans (completeStep _ _)
    · exact ((stored.trans (modJob _ _ _ False.elim)).trans (raise _ _ _ _)).trans (completeStep _ _)

theorem hostLinkLost (s : State) (up : s.host.linkUp = true) :
    SameHold True True ((s.modHost (fun h => { h with
      attached := false, monitoring := false, resumeWait := false, pcieOnly := false, linkUp := false, speed := 0, width := 0,
      stale := [] })).dropSecure) s.hostLinkLost := by
  unfold State.hostLinkLost
  rw [if_neg (by simp [up])]
  dsimp only
  generalize (s.modHost _).dropSecure = u
  refine SameHold.trans (.trans (raise u _ _ _) (modRecords _ _ fun _ => rfl)) (foldl _ (fun v n _ => ?_) _)
  split
  · exact SameHold.trans (modJob v n _ (by intros; rfl)) (completeStep _ n)
  · exact .refl v

end SameHold

/-! ### RESUME -/

theorem State.retryAccess_eq (s : State) (L v : Nat) : s.retryAccess L v = { s with tiles := (s.retryAccess L v).tiles } := by
  unfold State.retryAccess
  exact List.foldlRecOn (motive := fun u : State => u = { s with tiles := u.tiles }) _ _ rfl fun u same n _ => by
    rw [same]
    rfl

/-- The accesses that waited for a page go on; the requests are forgotten. -/
theorem State.retryAll_eq (s : State) : ∃ tiles hubRequests,
    s.retryAll = { s with tiles, host := { s.host with pageRequests := [], hubRequests } } ∧ (s.host.pageRequests = [] → tiles = s.tiles) := by
  have retried : ∀ l : List (Nat × Nat), ∃ tiles, l.foldl (fun s r => s.retryAccess r.1 r.2) s = { s with tiles } ∧ (l = [] → tiles = s.tiles) := by
    intro l
    refine ⟨(l.foldl (fun s r => s.retryAccess r.1 r.2) s).tiles, ?_, fun none => by rw [none]; rfl⟩
    refine List.foldlRecOn (motive := fun u : State => u = { s with tiles := u.tiles }) _ _ rfl fun u same r _ => ?_
    rw [State.retryAccess_eq, same]
  obtain ⟨tiles, same, none⟩ := retried s.host.pageRequests
  refine ⟨tiles, s.host.hubRequests.filter (fun r => r.2.2 ≠ 0), ?_, none⟩
  rw [State.retryAll, same]
  rfl

/-- A job that is let go on is not paused. -/
theorem State.unpause_spec (s : State) :
    (∀ n < 16, (((List.range 16).foldl (fun s n => s.modJob n (fun j => { j with paused := false })) s).job n).paused = false)
      ∧ SameHold True True s ((List.range 16).foldl (fun s n => s.modJob n (fun j => { j with paused := false })) s) := by
  constructor
  · intro n hn
    refine (foldl_reaches (inv := fun _ => True) (goal := fun n v => (v.job n).paused = false) (fun v n _ => ⟨trivial, ?_⟩)
      (fun v m n _ free => ?_) _ s trivial).2 n (.inl (List.mem_range.2 hn))
    · rw [State.job_modJob_same]
    · rw [State.job_modJob]
      split
      · rfl
      · exact free
  · refine SameHold.foldl (f := fun (s : State) n => s.modJob n (fun j => { j with paused := false })) (List.range 16) (fun v n _ => ?_) s
    exact SameHold.modJob v n _ fun _ _ => rfl

theorem State.resumeRings_spec (s : State) :
    s.resumeRings.host.attached = true ∧ s.resumeRings.host.resumeWait = false ∧ s.resumeRings.host.monitoring = true
      ∧ ((∀ n < 16, (s.job n).page = none) → s.resumeRings.host.ats = []) ∧ (∀ n < 16, (s.resumeRings.job n).paused = false)
      ∧ s.resumeRings.mem = s.mem ∧ s.resumeRings.host.pageRequests = []
      ∧ (s.host.pageRequests = [] → s.resumeRings.tiles = s.tiles) ∧ s.resumeRings.pending = s.pending := by
  unfold State.resumeRings
  extract_lets s1 s2 s3 s4 s5
  have h2 : SameHold False True s1 s2 := .foldl _ (fun v r _ => .evalWord v r) _
  have h3 : SameHold False True s2 s3 := by
    unfold s3
    split
    · refine SameHold.trans (.modRecords s2 _ ?_) (.foldl _ (fun v c _ => .modCq v c _) _)
      exact fun _ => rfl
    · exact .foldl _ (fun v r _ => .evalWord v r) _
  have h13 := h2.trans h3
  have opened : s4.host.attached = true ∧ s4.host.resumeWait = false ∧ s4.host.monitoring = true ∧ s4.host.ats = []
      ∧ (∀ n, (s4.job n).page = (s.job n).page) ∧ s4.mem = s.mem ∧ s4.host.pageRequests = s.host.pageRequests ∧ s4.tiles = s.tiles
      ∧ s4.pending = s.pending :=
    ⟨rfl, rfl, h13.monitoring, h13.ats trivial, h13.page trivial, h13.mem, h13.pageRequests, h13.tiles, h13.pending⟩
  have h5 : SameHold False (∀ n < 16, (s4.job n).page = none) s4 s5 :=
    List.foldlRecOn (motive := fun v => SameHold False (∀ n < 16, (s4.job n).page = none) s4 v) _ _ (.refl s4) fun v hv n hn =>
      hv.trans ((SameHold.writePage v n).weaken id fun none => (hv.page none n).trans (none n (List.mem_range.1 hn)))
  have h6 := (h5.trans (.drain s5)).trans (.flushHeld s5.drain.host.heldEvents _)
  obtain ⟨tiles, hubRequests, retried, still⟩ := State.retryAll_eq s5.drain.flushEvents
  rw [← State.flushEvents] at h6
  clear_value s1 s2 s3 s4 s5
  rw [retried]
  generalize s5.drain.flushEvents = u at h6 still ⊢
  obtain ⟨unpaused, last⟩ := State.unpause_spec { u with tiles, host := { u.host with pageRequests := [], hubRequests } }
  obtain ⟨attached, resumeWait, monitoring, ats, pages, mem, requests, same, pending⟩ := opened
  refine ⟨?_, ?_, ?_, fun none => ?_, unpaused, ?_, ?_, fun none => ?_, ?_⟩
  · exact (last.attached.trans h6.attached).trans attached
  · exact (last.resumeWait.trans h6.resumeWait).trans resumeWait
  · exact (last.monitoring.trans h6.monitoring).trans monitoring
  · exact ((last.ats trivial).trans (h6.ats fun n hn => (pages n).trans (none n hn))).trans ats
  · exact (last.mem.trans h6.mem).trans mem
  · exact last.pageRequests
  · exact (last.tiles.trans (still ((h6.pageRequests.trans requests).trans none))).trans (h6.tiles.trans same)
  · exact (last.pending.trans h6.pending).trans pending

theorem execResume_waiting {s : State} (awake : s.awake = true) (waits : s.host.resumeWait = true) (v : Word) (hw : List Host.Cell) :
    ∃ t, execResume v hw s = .next t ∧ t.host.attached = true ∧ t.host.resumeWait = false ∧ t.host.monitoring = true
      ∧ ((∀ n < 16, (s.job n).page = none) → t.host.ats = []) ∧ (∀ n < 16, (t.job n).paused = false) ∧ t.mem = s.mem
      ∧ t.host.pageRequests = [] ∧ (s.host.pageRequests = [] → t.tiles = s.tiles) ∧ t.pending = s.pending := by
  refine ⟨_, by rw [execResume, State.fromHost_of_awake awake], ?_⟩
  have waits' : (s.applyHw hw).host.resumeWait = true := waits
  rw [State.writeHrcCtl, ringEnabled_putBits_one, waits']
  simp only [Bool.not_true, Bool.and_false, Bool.false_eq_true, if_false, if_true]
  exact State.resumeRings_spec _

/-! ### The link's loss and return -/

theorem execHostLinkDown_up {s : State} (up : s.host.linkUp = true) :
    ∃ t, execHostLinkDown s = .next t ∧ execHostLinkLossTimeout s = .next t ∧ t.host.linkUp = false ∧ t.host.attached = false
      ∧ t.host.monitoring = false ∧ t.host.stale = [] ∧ t.sec.ide = [] ∧ t.sec.sessions = [] ∧ t.mem = s.mem ∧ t.ports = s.ports
      ∧ t.tiles = s.tiles ∧ t.pending = s.pending ∧ t.host.sqs = s.host.sqs := by
  have lost := SameHold.hostLinkLost s up
  have ide : s.hostLinkLost.sec.ide = [] := by rw [lost.sec]; rfl
  have sessions : s.hostLinkLost.sec.sessions = [] := by rw [lost.sec]; rfl
  exact ⟨_, rfl, rfl, lost.linkUp, lost.attached, lost.monitoring, lost.stale, ide, sessions, lost.mem, lost.ports trivial, lost.tiles,
    lost.pending, lost.sqs trivial⟩

theorem execPerstNAssert_spec (s : State) :
    ∃ t, execPerstNAssert s = .next t ∧ t.host.perstHigh = false ∧ t.host.configSpace = configReset ∧ t.host.linkUp = false
      ∧ t.sec.ide = [] ∧ t.mem = s.mem ∧ t.pending = s.pending := by
  have lost : s.hostLinkLost.host.linkUp = false ∧ s.hostLinkLost.mem = s.mem ∧ s.hostLinkLost.pending = s.pending := by
    cases up : s.host.linkUp with
    | true =>
      have lost := SameHold.hostLinkLost s up
      exact ⟨lost.linkUp, lost.mem, lost.pending⟩
    | false => 
      rw [State.hostLinkLost, if_pos (by simp [up])]
      exact ⟨up, rfl, rfl⟩
  obtain ⟨linkUp, mem, pending⟩ := lost
  unfold execPerstNAssert
  generalize s.hostLinkLost = u at linkUp mem pending ⊢
  exact ⟨_, rfl, rfl, rfl, linkUp, rfl, mem, pending⟩

theorem State.linkMayTrain_of {s : State} (awake : s.awake = true) (perst : s.host.perstHigh = true) (attached : s.host.attached = false) :
    s.linkMayTrain = true := by simp [State.linkMayTrain, awake, perst, attached]

/-! ### The doorbell monitor -/

theorem mem_foldl_addOnce {α : Type} [DecidableEq α] (xs : List α) (ys : List α) (x : α) : x ∈ xs.foldl addOnce ys ↔ x ∈ ys ∨ x ∈ xs := by
  induction xs generalizing ys with
  | nil => simp
  | cons a xs ih =>
    rw [List.foldl_cons, ih, addOnce]
    split
    · next h => exact ⟨fun h => by aesop, fun h => by aesop⟩
    · simp [or_assoc]

theorem execMonitorSnoop_monitored {s : State} {l : BitVec 58} (monitoring : s.host.monitoring = true) (line : l.toNat ∈ s.monitored) :
    execMonitorSnoop l s = .next (s.modHost (fun h => { h with stale := addOnce h.stale l.toNat })) := by
  rw [execMonitorSnoop, if_pos (by simp [monitoring, line])]

theorem execMonitorPoll_on {s : State} (monitoring : s.host.monitoring = true) (on : bits s.host.ctl 0 16 ≠ 0) :
    ∃ t, execMonitorPoll s = .next t ∧ (∀ l, l ∈ t.host.stale ↔ l ∈ s.host.stale ∨ l ∈ s.monitored)
      ∧ t = s.modHost (fun h => { h with stale := t.host.stale }) := by
  rw [execMonitorPoll, if_pos (by simp [monitoring, on])]
  exact ⟨_, rfl, mem_foldl_addOnce s.monitored s.host.stale, rfl⟩

theorem nodup_rings : (allSqs ++ allCqs).Nodup := by
  have sqs : allSqs.Nodup := (List.nodup_finRange 64).map fun a b h => RingRef.sq.inj h
  have cqs : ((List.finRange 64).map RingRef.cq).Nodup := (List.nodup_finRange 64).map fun a b h => RingRef.cq.inj h
  rw [allCqs, List.nodup_append, List.nodup_append]
  refine ⟨sqs, ⟨cqs, List.nodup_singleton _, ?_⟩, ?_⟩
  · simp
  · rintro r hr r' hr' rfl
    obtain ⟨q, -, rfl⟩ := List.mem_map.1 hr
    simp at hr'

theorem mem_rings (r : RingRef) : r ∈ allSqs ++ allCqs := by
  cases r <;> simp [allSqs, allCqs]

/-- In a list without repetition the elements that a test passes are one, when it passes that one alone. -/
theorem filter_eq_singleton {α : Type} [DecidableEq α] {l : List α} (h : l.Nodup) {p : α → Bool} {a : α} (mem : a ∈ l) (pass : p a = true)
    (alone : ∀ b, b ≠ a → p b = false) : l.filter p = [a] := by
  have same : p = (· == a) := by
    funext b
    by_cases e : b = a
    · simp [e, pass]
    · simp [e, alone b e]
  rw [same, List.filter_beq, List.count_eq_one_of_mem h mem, List.replicate_one]

/-- A submission ring's line read while no other ring's word stands in it: the doorbell is the ring's new tail. -/
theorem execMonitorLineRead_doorbell {s : State} {l : BitVec 58} {q : Fin 64} (monitoring : s.host.monitoring = true)
    (stale : l.toNat ∈ s.host.stale) (line : l.toNat = (s.sq q).db.toNat / 64) (enabled : bits (s.sq q).cfg 31 1 = 1)
    (alone : ∀ r : RingRef, r ≠ .sq q → bits (s.ringCfg r) 31 1 = 1 → s.ringLine r ≠ l.toNat) (hw : List Host.Cell) {d : Word}
    (read : d = BitVec.ofNat 32 (leNat ((s.applyHw hw).hostRead (s.sq q).db.toNat 4))) (new : d ≠ (s.sq q).tail)
    (fits : (d - (s.sq q).head).toNat ≤ 2 ^ bits (s.sq q).cfg 0 5) :
    execMonitorLineRead l hw [] s
      = .next (((s.applyHw hw).modHost (fun h => { h with stale := h.stale.filter (· ≠ l.toNat) })).modSq q (fun x => { x with tail := d })) := by
  have on : ringEnabled (s.sq q).cfg = true := (ringEnabled_iff _).2 enabled
  have mine : (allSqs ++ allCqs).filter (fun r => ringEnabled (s.ringCfg r) && decide (s.ringLine r = l.toNat)) = [.sq q] := by
    refine filter_eq_singleton nodup_rings (mem_rings _) ?_ fun r other => ?_
    · simp [State.ringCfg, State.ringLine, on, line]
    · rw [Bool.and_eq_false_iff, decide_eq_false_iff_not, ← Bool.not_eq_true, ringEnabled_iff]
      by_cases e : bits (s.ringCfg r) 31 1 = 1
      · exact .inr (alone r other e)
      · exact .inl e
  have unfailed : s.recordErrors [] = s := by
    have none : allCqs.filter (fun r => ([] : List HostErr).contains (.records r) && ringEnabled (s.ringCfg r)) = [] := by
      rw [List.filter_eq_nil_iff]
      intro r _
      simp
    rw [State.recordErrors, none, List.foldl_nil]
  rw [execMonitorLineRead, if_neg (by simp [monitoring]), unfailed]
  dsimp only
  rw [if_neg (by simp [stale]), mine]
  simp only [List.foldl_cons, List.foldl_nil, List.contains_nil, Bool.false_eq_true, if_false]
  generalize hu : (s.applyHw hw).modHost (fun h => { h with stale := h.stale.filter (· ≠ l.toNat) }) = u
  have ring : u.sq q = s.sq q := by
    rw [← hu]
    rfl
  have host : u.hostRead (s.sq q).db.toNat 4 = (s.applyHw hw).hostRead (s.sq q).db.toNat 4 := by
    rw [← hu]
    rfl
  rw [State.evalWord, State.ringCfg, ring, on]
  simp only [Bool.not_true, Bool.false_eq_true, if_false]
  rw [host, ← read, if_neg new, if_neg (Nat.not_lt.2 (by simpa [ringSize] using fits))]

theorem execMonitorLineRead_record_error {s : State} {l : BitVec 58} {r : RingRef} (monitoring : s.host.monitoring = true)
    (fresh : l.toNat ∉ s.host.stale) (enabled : bits (s.ringCfg r) 31 1 = 1) (notSq : ∀ q, r ≠ .sq q) :
    execMonitorLineRead l [] [.records r] s = .next (s.ringError r 0x0104 0) := by
  have mine : allCqs.filter (fun x => [HostErr.records r].contains (.records x) && ringEnabled (s.ringCfg x)) = [r] := by
    refine filter_eq_singleton (List.Nodup.of_append_right nodup_rings) ?_ ?_ fun x other => ?_
    · cases r with
      | sq q => exact absurd rfl (notSq q)
      | cq c => simp [allCqs]
      | eq => simp [allCqs]
    · simp [(ringEnabled_iff _).2 enabled]
    · simp [other]
  have stale : (s.ringError r 0x0104 0).host.stale = s.host.stale := (SameHold.ringError (pages := True) s r 0x0104 0).stale
  rw [execMonitorLineRead, if_neg (by simp [monitoring]), State.recordErrors, mine]
  simp only [List.foldl_cons, List.foldl_nil]
  exact if_pos (by simp [stale, fresh])

/-! ### MSI-X, the completion buffer and the host window -/

theorem execMsixMessage_due {s : State} {v : Fin 64} (due : v.val ∈ s.host.msixDue) :
    execMsixMessage v s = .next ((s.modHost (fun h => { h with msixDue := h.msixDue.filter (· ≠ v.val) })).sendMsix v) := by
  rw [execMsixMessage, if_pos (by simp [due])]

theorem execCompletionBufferDrain_front {s t : State} {c : Completion} {r : List Completion} (front : s.host.buffer = c :: r)
    (put : s.putCompletion c = some t) :
    execCompletionBufferDrain s = .next (t.modHost (fun h => { h with buffer := r, fullRaised := false })).takeOwed := by
  rw [execCompletionBufferDrain, front, drainOne, if_neg (by simp), put]
  rfl

theorem execAtsInvalidation_awake {s : State} (awake : s.awake = true) (a b : BitVec 52) : ∃ t, execAtsInvalidation a b s = .next t
    ∧ (∀ e, e ∈ t.host.ats ↔ e ∈ s.host.ats ∧ ¬ (a.toNat ≤ e.1 ∧ e.1 ≤ b.toNat))
    ∧ t = (s.modHost (fun h => { h with ats := t.host.ats })).emit .atsInvalidated := by
  rw [execAtsInvalidation, State.fromHost_of_awake awake]
  refine ⟨_, rfl, fun e => ?_, rfl⟩
  simp only [State.emit_host, State.modHost_host, List.mem_filter, Bool.or_eq_true, decide_eq_true_eq]
  refine and_congr_right fun _ => ?_
  omega

theorem execHwtEntryWrite_awake {s : State} (awake : s.awake = true) (v : Dword) :
    execHwtEntryWrite v s = .next (s.modHost (fun h => { h with hwt := tput h.hwt h.hwtIndex.toNat (v &&& 0xFFFFFFFFFFFFFE0F) })) := by
  rw [execHwtEntryWrite, State.fromHost_of_awake awake]
  rfl

end Sys2Proof.Machine

namespace Sys2Proof
open Machine

/-- Settles O13: the link's loss and RESUME by what the hub's work on its rings and pages leaves alone, the rest by the equation of each case. -/
theorem hostLinkAndHubComplete : Obligations.HostLinkAndHubComplete :=
  ⟨fun _ => execHostLinkDown_up, execPerstNAssert_spec, fun _ => rfl,
    fun s v w awake perst attached => by
      rw [exec_hostLinkBack, execHostLinkBack, if_neg (by simp [State.linkMayTrain_of awake perst attached])],
    fun s v w awake perst attached => by
      rw [exec_pcieOnly, execPcieOnly, if_neg (by simp [State.linkMayTrain_of awake perst attached])],
    fun _ v hw awake waits => execResume_waiting awake waits v hw, fun _ _ => execMonitorSnoop_monitored, fun _ => execMonitorPoll_on,
    fun _ _ _ monitoring stale line enabled alone hw _ => execMonitorLineRead_doorbell monitoring stale line enabled alone hw,
    fun _ _ => execMsixMessage_due, fun _ _ _ _ => execCompletionBufferDrain_front, fun _ _ _ => execMonitorLineRead_record_error,
    fun _ a b awake => execAtsInvalidation_awake awake a b, fun _ v awake => execHwtEntryWrite_awake awake v⟩

end Sys2Proof
end

section
/-! Enabling and disabling rings (R408): O14. -/
namespace Sys2Proof.Machine

theorem ringEnabled_eq_getLsbD (v : Word) : v.getLsbD 31 = ringEnabled v := rfl

/-- A ring enabled with a good configuration while it is not enabled: it takes the configuration and starts. -/
theorem State.writeCfg_start {s : State} {r : RingRef} (v : Word) (off : bits (s.ringCfg r) 31 1 = 0)
    (good : s.enableBad r (putBits v 31 1 1) = false) : s.writeCfg r (putBits v 31 1 1) = (s.setCfg r (putBits v 31 1 1)).startRing r := by
  have was := (ringEnabled_eq_false_iff _).2 off
  simp [State.writeCfg, ringEnabled_putBits_one, State.ringOpen, was, good]

theorem State.writeCfg_refused {s : State} {r : RingRef} (v : Word)
    (bad : s.ringOpen r = false ∨ s.enableBad r (putBits v 31 1 1) = true) : s.writeCfg r (putBits v 31 1 1) = s.hrcReject := by
  obtain bad | bad := bad <;> simp [State.writeCfg, ringEnabled_putBits_one, bad]

theorem bits_size_putBits (v : Word) : bits (putBits v 31 1 1) 0 5 = bits v 0 5 := bits_putBits_other v 1 (by omega) (by omega)

theorem bits_cq_putBits (v : Word) : bits (putBits v 31 1 1) 24 6 = bits v 24 6 := bits_putBits_other v 1 (by omega) (by omega)

/-- A size from 6 to 16, with room for another monitored line, and for a submission ring an enabled completion ring, is good. -/
theorem State.enableBad_of_good {s : State} {r : RingRef} {v : Word} (low : 6 ≤ bits v 0 5) (high : bits v 0 5 ≤ 16)
    (room : s.monitored.length < 128) (cq : ∀ q, r = .sq q → bits (s.cq (bits v 24 6)).cfg 31 1 = 1) :
    s.enableBad r (putBits v 31 1 1) = false := by
  have size : ¬ bits v 0 5 < 6 ∧ ¬ 16 < bits v 0 5 ∧ ¬ 128 ≤ s.monitored.length := by omega
  cases r with
  | sq q => simp [State.enableBad, bits_size_putBits, bits_cq_putBits, size, (ringEnabled_iff _).2 (cq q rfl)]
  | cq c => simp [State.enableBad, bits_size_putBits, size]
  | eq => simp [State.enableBad, bits_size_putBits, size]

/-- The registers and the rings are as they were before host memory was read anew. -/
theorem State.ringCfg_applyHw (s : State) (hw : List Host.Cell) (r : RingRef) : (s.applyHw hw).ringCfg r = s.ringCfg r := by cases r <;> rfl

theorem State.monitored_applyHw (s : State) (hw : List Host.Cell) : (s.applyHw hw).monitored = s.monitored := rfl

theorem State.ringLine_applyHw (s : State) (hw : List Host.Cell) (r : RingRef) : (s.applyHw hw).ringLine r = s.ringLine r := by cases r <;> rfl

section Enable
variable {s : State} (awake : s.awake = true) {v : Word} (hw : List Host.Cell)
include awake

theorem execRingEnable_good {r : RingRef} (off : bits (s.ringCfg r) 31 1 = 0) (low : 6 ≤ bits v 0 5) (high : bits v 0 5 ≤ 16)
    (room : s.monitored.length < 128) (cq : ∀ q, r = .sq q → bits (s.cq (bits v 24 6)).cfg 31 1 = 1) :
    execRingEnable r v hw s = .next (((s.applyHw hw).setCfg r (putBits v 31 1 1)).startRing r) := by
  have good : (s.applyHw hw).enableBad r (putBits v 31 1 1) = false := State.enableBad_of_good low high room cq
  rw [execRingEnable, State.fromHost_of_awake awake, State.writeCfg_start v (by rwa [State.ringCfg_applyHw]) good]

theorem execRingEnable_refused {r : RingRef}
    (bad : (s.applyHw hw).ringOpen r = false ∨ (s.applyHw hw).enableBad r (putBits v 31 1 1) = true) :
    execRingEnable r v hw s = .next ((s.applyHw hw).modHost (fun h => { h with reject := true })) := by
  rw [execRingEnable, State.fromHost_of_awake awake, State.writeCfg_refused v bad]
  rfl

theorem execRingEnable_cq {c : Fin 64} (off : bits (s.cq c).cfg 31 1 = 0) (low : 6 ≤ bits v 0 5) (high : bits v 0 5 ≤ 16)
    (room : s.monitored.length < 128) :
    ∃ t, execRingEnable (.cq c) v hw s = .next t
      ∧ t.cq c = { s.cq c with cfg := putBits v 31 1 1 &&& 0xBFFF001F, head := 0, tail := 0, seen := 0, arm := false }
      ∧ (∀ d : Fin 64, d ≠ c → t.cq d = s.cq d) ∧ t.host.sqs = s.host.sqs ∧ t.host.eq = s.host.eq ∧ t.mem = s.mem ∧ t.pending = s.pending := by
  refine ⟨_, execRingEnable_good awake hw off low high room nofun, ?_, fun d other => ?_, rfl, rfl, rfl, rfl⟩
  · rw [State.startRing, State.setCfg, State.cq_modCq_same, State.cq_modCq_same]
    rfl
  · have apart : d.val ≠ c.val := fun e => other (Fin.ext e)
    rw [State.startRing, State.setCfg, State.cq_modCq, if_neg apart, State.cq_modCq, if_neg apart]
    rfl

theorem execRingEnable_sq {q : Fin 64} (off : bits (s.sq q).cfg 31 1 = 0) (low : 6 ≤ bits v 0 5) (high : bits v 0 5 ≤ 16)
    (room : s.monitored.length < 128) (cq : bits (s.cq (bits v 24 6)).cfg 31 1 = 1) :
    ∃ t d, execRingEnable (.sq q) v hw s = .next t
      ∧ d = BitVec.ofNat 32 (leNat ((s.applyHw hw).hostRead (s.sq q).db.toNat 4))
      ∧ t.sq q = { s.sq q with cfg := putBits v 31 1 1 &&& 0xBF00001F, head := d, tail := d }
      ∧ (∀ r : Fin 64, r ≠ q → t.sq r = s.sq r) ∧ t.host.cqs = s.host.cqs ∧ t.host.eq = s.host.eq ∧ t.mem = s.mem ∧ t.pending = s.pending := by
  refine ⟨_, _, execRingEnable_good awake hw off low high room fun _ _ => cq, rfl, ?_, fun r other => ?_, rfl, rfl, rfl, rfl⟩
  · rw [State.startRing, State.setCfg]
    dsimp only
    rw [State.sq_modSq_same, State.sq_modSq_same]
    rfl
  · have apart : r.val ≠ q.val := fun e => other (Fin.ext e)
    rw [State.startRing, State.setCfg]
    rw [State.sq_modSq, if_neg apart, State.sq_modSq, if_neg apart]
    rfl

theorem execRingEnable_sq_refused {q : Fin 64} (bad : bits v 0 5 < 6 ∨ 16 < bits v 0 5 ∨ bits (s.cq (bits v 24 6)).cfg 31 1 = 0) :
    execRingEnable (.sq q) v hw s = .next ((s.applyHw hw).modHost (fun h => { h with reject := true })) := by
  refine execRingEnable_refused awake hw (.inr ?_)
  have cq : (s.applyHw hw).cq (bits v 24 6) = s.cq (bits v 24 6) := rfl
  rw [← ringEnabled_eq_false_iff] at bad
  simp only [State.enableBad, bits_size_putBits, bits_cq_putBits, cq, Bool.or_eq_true, decide_eq_true_eq, Bool.not_eq_true']
  tauto

theorem execRingEnable_any_refused {r : RingRef} (bad : bits v 0 5 < 6 ∨ 16 < bits v 0 5 ∨ (s.ringLine r ∉ s.monitored ∧ 128 ≤ s.monitored.length)
      ∨ (bits (s.ringCfg r) 31 1 = 1 ∧ s.host.attached = true)) :
    execRingEnable r v hw s = .next ((s.applyHw hw).modHost (fun h => { h with reject := true })) := by
  refine execRingEnable_refused awake hw ?_
  obtain small | large | ⟨line, many⟩ | ⟨enabled, attached⟩ := bad
  · exact .inr (by simp [State.enableBad, bits_size_putBits, small])
  · exact .inr (by simp [State.enableBad, bits_size_putBits, large])
  · exact .inr (by simp [State.enableBad, State.monitored_applyHw, State.ringLine_applyHw, line, many])
  · have on : ringEnabled ((s.applyHw hw).ringCfg r) = true := by rw [State.ringCfg_applyHw, ringEnabled_iff, enabled]
    have host : (s.applyHw hw).host.attached = true := attached
    exact .inl (by simp [State.ringOpen, on, host])

omit hw in
theorem execRingDisable_on {r : RingRef} (on : bits (s.ringCfg r) 31 1 = 1) :
    execRingDisable r s = .next (s.writeCfg r (putBits (s.ringCfg r) 31 1 0)) := by
  rw [execRingDisable, if_pos (by simp [awake, (ringEnabled_iff _).2 on])]

/-- A ring that no enabled submission ring names is disabled. -/
theorem execRingDisable_unnamed {r : RingRef} (on : bits (s.ringCfg r) 31 1 = 1)
    (unnamed : ∀ c, r = .cq c → ∀ q < 64, bits (s.sq q).cfg 31 1 = 1 → bits (s.sq q).cfg 24 6 ≠ c.val) :
    execRingDisable r s = .next (s.setCfg r (putBits (s.ringCfg r) 31 1 0)) := by
  rw [execRingDisable_on awake on]
  unfold State.writeCfg
  rw [ringEnabled_putBits_zero]
  cases r with
  | sq q => simp
  | eq => simp
  | cq c =>
    have none : (List.range 64).any (fun q => ringEnabled (s.sq q).cfg && decide (bits (s.sq q).cfg 24 6 = c.val)) = false := by
      rw [List.any_eq_false]
      intro q hq
      have := unnamed c rfl q (List.mem_range.1 hq)
      rw [← ringEnabled_iff] at this
      simpa using this
    simp [none]

theorem execRingDisable_named {c : Fin 64} {q : Nat} (on : bits (s.cq c).cfg 31 1 = 1) (hq : q < 64) (enabled : bits (s.sq q).cfg 31 1 = 1)
    (names : bits (s.sq q).cfg 24 6 = c.val) : execRingDisable (.cq c) s = .next (s.modHost (fun h => { h with reject := true })) := by
  have named : (List.range 64).any (fun q => ringEnabled (s.sq q).cfg && decide (bits (s.sq q).cfg 24 6 = c.val)) = true := by
    have among : q ∈ List.range 64 := List.mem_range.2 hq
    have names' : (ringEnabled (s.sq q).cfg && decide (bits (s.sq q).cfg 24 6 = c.val)) = true := by
      rw [(ringEnabled_iff _).2 enabled, decide_eq_true names, Bool.and_self]
    rw [List.any_eq_true]
    exact ⟨q, among, names'⟩
  have was : ringEnabled (s.ringCfg (.cq c)) = true := (ringEnabled_iff _).2 on
  rw [execRingDisable_on (r := .cq c) awake on]
  unfold State.writeCfg
  rw [ringEnabled_putBits_zero]
  simp only [Bool.false_eq_true, if_false, was, named, Bool.and_self, if_true]
  rfl

end Enable

end Sys2Proof.Machine

namespace Sys2Proof
open Machine

/-- Settles O14: what is refused is what `enableBad` and `ringOpen` find, and the enabled ring takes the word and starts. -/
theorem ringEnableCompletes : Obligations.RingEnableCompletes :=
  ⟨fun _ _ _ hw awake => execRingEnable_cq awake hw, fun _ _ _ hw awake => execRingEnable_sq awake hw,
    fun s v hw awake off low high room => execRingEnable_good (r := .eq) awake hw off low high room nofun,
    fun s q awake on => execRingDisable_unnamed (r := .sq q) awake on nofun,
    fun s c awake on unnamed => execRingDisable_unnamed (r := .cq c) awake on fun d e => by
      cases e
      exact unnamed,
    fun s awake on => execRingDisable_unnamed (r := .eq) awake on nofun,
    fun _ _ _ hw awake => execRingEnable_sq_refused awake hw, fun _ _ _ hw awake => execRingEnable_any_refused awake hw,
    fun _ _ _ awake => execRingDisable_named awake⟩

end Sys2Proof
end

section
/-! The SEC commands (R504 to R509, R518 to R521): what a command that is served does, firmware update and svn (O15), and the commands of a signed
block (O17). -/
namespace Sys2Proof.Machine

/-! ### A command that is served -/

/-- The request that a served command works on: the mailbox's registers, or what MCTP carries. -/
def State.secReq (s : State) (p : SecPath) (q : SecReq) : SecReq := if p = .mailbox then s.mailReq q.drawn else q

theorem State.secReq_spec {s : State} {p : SecPath} {q : SecReq} (ready : s.secReady p q.cmd.toNat) :
    (s.secReq p q).cmd = q.cmd ∧ (s.secReq p q).arg.toNat = s.secArg p q.arg.toNat ∧ (s.secReq p q).data = s.secBuffer p q.data
      ∧ (s.secReq p q).drawn = q.drawn := by
  obtain ⟨-, -, -, -, -, -, -, mailbox, -⟩ := ready
  unfold State.secReq State.secArg State.secBuffer
  split
  · next h => exact ⟨BitVec.eq_of_toNat_eq (mailbox h).2, rfl, rfl, rfl⟩
  · exact ⟨rfl, rfl, rfl, rfl⟩

theorem State.secEnd_eq {p : SecPath} (path : p ≠ .instrument) (s : State) (r : Nat) (sent : List Byte) : s.secEnd p r sent = s.secAnswer p r sent := by
  cases p with
  | mailbox => rfl
  | mctp => rfl
  | instrument => exact absurd rfl path

theorem State.secAnswer_sec (s : State) (p : SecPath) (r : Nat) (sent : List Byte) :
    (s.secAnswer p r sent).sec.waiting = s.sec.waiting ∧ (s.secAnswer p r sent).sec.burn = s.sec.burn
      ∧ (s.secAnswer p r sent).sec.recovery = s.sec.recovery ∧ (s.secAnswer p r sent).sec.session = s.sec.session := by
  unfold State.secAnswer
  split <;> exact ⟨rfl, rfl, rfl, rfl⟩

theorem State.secAnswer_frame (s : State) (p : SecPath) (r : Nat) (sent : List Byte) :
    (s.secAnswer p r sent).flash = s.flash ∧ (s.secAnswer p r sent).fuses = s.fuses ∧ (s.secAnswer p r sent).mem = s.mem := by
  unfold State.secAnswer
  split <;> exact ⟨rfl, rfl, rfl⟩

/-- With nothing waiting the firmware is done. -/
theorem State.secRunAll_nil {s : State} (waiting : s.sec.waiting = []) : State.secRunAll s.sec.waiting s = s := by
  have same : ({ s.sec with waiting := [] } : Security) = s.sec := by rw [← waiting]
  rw [waiting, State.secRunAll, State.modSec, same]

section Serve
variable {s : State} {p : SecPath} {q : SecReq} (ready : s.secReady p q.cmd.toNat)
include ready

theorem State.runSec_ready : s.runSec p q = if p = .mailbox
    then State.secRunAll (s.secRun p (s.secReq p q)).sec.waiting (s.secRun p (s.secReq p q)) else s.secRun p (s.secReq p q) := by
  obtain ⟨reset, mc, running, -, path, burn, -, mailbox, mctp⟩ := ready
  have served : s.secServed = true := by simp [State.secServed, reset, mc, running]
  cases p with
  | mailbox =>
    obtain ⟨busy, cmd⟩ := mailbox rfl
    have named : s.sec.cmd = q.cmd := BitVec.eq_of_toNat_eq cmd
    simp [State.runSec, State.secReq, served, busy, named, burn]
  | mctp => simp [State.runSec, State.secReq, served, mctp rfl, burn]
  | instrument => exact absurd rfl path

/-- A command whose result leaves no burn under way and nothing waiting ends with its answer. -/
theorem State.runSec_answers {t : State} {r : Nat} {sent : List Byte} (result : s.secCommand p (s.secReq p q) = (t, r, sent))
    (burn : t.sec.burn = none) (waiting : t.sec.waiting = []) : s.runSec p q = t.secAnswer p r sent := by
  obtain ⟨-, -, -, recovery, path, -, -, -, -⟩ := id ready
  have ran : s.secRun p (s.secReq p q) = t.secAnswer p r sent := by
    simp [State.secRun, recovery, result, burn, State.secEnd_eq path]
  rw [State.runSec_ready ready, ran]
  split
  · exact State.secRunAll_nil ((t.secAnswer_sec p r sent).1.trans waiting)
  · rfl

/-- What serving leaves of a state that differs in neither the burn nor the waiting commands. -/
theorem State.runSec_answers_of_sec {t : State} {r : Nat} {sent : List Byte} (result : s.secCommand p (s.secReq p q) = (t, r, sent))
    (burn : t.sec.burn = s.sec.burn) (waiting : t.sec.waiting = s.sec.waiting) : s.runSec p q = t.secAnswer p r sent := by
  obtain ⟨-, -, -, -, -, idle, none, -, -⟩ := id ready
  exact State.runSec_answers ready result (burn.trans idle) (waiting.trans none)

end Serve

/-! ### Firmware update and svn -/

section Firmware
variable {s : State} {p : SecPath}

theorem State.eraseSlot_sec (s : State) (slot : Bool) : (s.eraseSlot slot).sec = s.sec := rfl

theorem execFwBegin_ready (ready : s.secReady p 0x10) (free : s.sec.session = none) :
    execFwBegin p s
      = .next (((s.eraseSlot (!s.sec.slot)).modSec (fun x => { x with session := some p, checked := false })).secAnswer p 0 []) := by
  obtain ⟨cmd, -⟩ := State.secReq_spec (q := { cmd := 0x10 }) ready
  have result : s.secCommand p (s.secReq p { cmd := 0x10 })
      = ((s.eraseSlot (!s.sec.slot)).modSec (fun x => { x with session := some p, checked := false }), 0, []) := by
    rw [State.secCommand, cmd]
    simp [State.fwBegin, free]
  rw [execFwBegin, State.runSec_answers_of_sec ready result rfl rfl]

theorem execFwWrite_ready {arg : BitVec 32} {buffer : List Byte} (ready : s.secReady p 0x11) (session : s.sec.session = some p)
    (aligned : s.secArg p arg.toNat % 64 = 0) (short : (s.secBuffer p buffer).length ≤ 32768)
    (inside : s.secArg p arg.toNat + (s.secBuffer p buffer).length ≤ slotBytes) :
    execFwWrite p arg buffer s
      = .next (({ s with flash := flashWrite s.flash (slotBase (!s.sec.slot) + s.secArg p arg.toNat) (s.secBuffer p buffer) } : State).secAnswer
        p 0 []) := by
  obtain ⟨cmd, offset, data, -⟩ := State.secReq_spec (q := { cmd := 0x11, arg := arg, data := buffer }) ready
  have result : s.secCommand p (s.secReq p { cmd := 0x11, arg := arg, data := buffer })
      = ({ s with flash := flashWrite s.flash (slotBase (!s.sec.slot) + s.secArg p arg.toNat) (s.secBuffer p buffer) }, 0, []) := by
    rw [State.secCommand, cmd]
    dsimp only
    rw [offset, data]
    simp [State.fwWrite, session, aligned, Nat.not_lt.2 short, Nat.not_lt.2 inside]
  rw [execFwWrite, State.runSec_answers_of_sec ready result rfl rfl]

/-- FW_FINISH answers what `fwFinish` answers. -/
theorem execFwFinish_eq (ready : s.secReady p 0x12) {t : State} {r : Nat} (finish : s.fwFinish p = (t, r, []))
    (burn : t.sec.burn = s.sec.burn) (waiting : t.sec.waiting = s.sec.waiting) : execFwFinish p s = .next (t.secAnswer p r []) := by
  obtain ⟨cmd, -⟩ := State.secReq_spec (q := { cmd := 0x12 }) ready
  have result : s.secCommand p (s.secReq p { cmd := 0x12 }) = (t, r, []) := by
    rw [State.secCommand, cmd]
    exact finish
  rw [execFwFinish, State.runSec_answers_of_sec ready result burn waiting]

theorem execFwFinish_ready (ready : s.secReady p 0x12) (session : s.sec.session = some p) :
    ∃ t, execFwFinish p s = .next t ∧ t.sec.session = none ∧ t.flash = s.flash ∧ t.fuses = s.fuses ∧ t.mem = s.mem
      ∧ (s.slotSound (!s.sec.slot) = true → s.fuses.svn ≤ s.slotSvn (!s.sec.slot) →
        t = ((s.modSec (fun x => { x with session := none, checked := true })).raise 0x0A03 0 (b2n (!s.sec.slot))).secAnswer p 0 [])
      ∧ (s.slotSound (!s.sec.slot) = true → s.slotSvn (!s.sec.slot) < s.fuses.svn →
        t = (s.modSec (fun x => { x with session := none })).secAnswer p 6 [])
      ∧ (s.slotSound (!s.sec.slot) = false → t = (s.modSec (fun x => { x with session := none })).secAnswer p 5 []) := by
  have closed : ∀ r, ((s.modSec (fun x => { x with session := none })).secAnswer p r []).sec.session = none ∧
      ((s.modSec (fun x => { x with session := none })).secAnswer p r []).flash = s.flash ∧
      ((s.modSec (fun x => { x with session := none })).secAnswer p r []).fuses = s.fuses ∧
      ((s.modSec (fun x => { x with session := none })).secAnswer p r []).mem = s.mem := fun r => by
    obtain ⟨-, -, -, same⟩ := (s.modSec (fun x => { x with session := none })).secAnswer_sec p r []
    obtain ⟨flash, fuses, mem⟩ := (s.modSec (fun x => { x with session := none })).secAnswer_frame p r []
    exact ⟨same, flash, fuses, mem⟩
  cases sound : s.slotSound (!s.sec.slot) with
  | false =>
    have finish : s.fwFinish p = (s.modSec (fun x => { x with session := none }), 5, []) := by simp [State.fwFinish, session, sound]
    obtain ⟨free, flash, fuses, mem⟩ := closed 5
    exact ⟨_, execFwFinish_eq ready finish rfl rfl, free, flash, fuses, mem, nofun, nofun, fun _ => rfl⟩
  | true =>
    obtain ⟨-, -, -, recovery, -⟩ := id ready
    by_cases old : s.slotSvn (!s.sec.slot) < s.fuses.svn
    · have finish : s.fwFinish p = (s.modSec (fun x => { x with session := none }), 6, []) := by simp [State.fwFinish, session, sound, old]
      obtain ⟨free, flash, fuses, mem⟩ := closed 6
      exact ⟨_, execFwFinish_eq ready finish rfl rfl, free, flash, fuses, mem, fun _ new => absurd old (Nat.not_lt.2 new), fun _ _ => rfl, nofun⟩
    · have finish : s.fwFinish p
          = ((s.modSec (fun x => { x with session := none, checked := true })).raise 0x0A03 0 (b2n (!s.sec.slot)), 0, []) := by
        simp [State.fwFinish, session, sound, old, recovery, State.modSec]
      have told := records_raise (s.modSec (fun x => { x with session := none, checked := true })) 0x0A03 0 (b2n (!s.sec.slot))
      have sec := told.sec
      refine ⟨_, execFwFinish_eq ready finish (by rw [sec]; rfl) (by rw [sec]; rfl), ?_, ?_, ?_, ?_, fun _ _ => rfl, fun _ new => absurd new old, nofun⟩
      · rw [(State.secAnswer_sec _ p 0 []).2.2.2, sec]
        rfl
      · rw [(State.secAnswer_frame _ p 0 []).1, told.flash, State.modSec_flash]
      · rw [(State.secAnswer_frame _ p 0 []).2.1, told.fuses, State.modSec_fuses]
      · rw [(State.secAnswer_frame _ p 0 []).2.2, told.mem, State.modSec_mem]

theorem execFwActivate_ready (ready : s.secReady p 0x13) (session : s.sec.session = none ∨ s.sec.session = some p) (checked : s.sec.checked = true) :
    execFwActivate p s
      = .next ((s.writeBoot ({ s.bootRecord with prefer := !s.sec.slot, trial := true }.setResult (!s.sec.slot) .untried)).secAnswer p 0 []) := by
  obtain ⟨cmd, -⟩ := State.secReq_spec (q := { cmd := 0x13 }) ready
  have result : s.secCommand p (s.secReq p { cmd := 0x13 })
      = (s.writeBoot ({ s.bootRecord with prefer := !s.sec.slot, trial := true }.setResult (!s.sec.slot) .untried), 0, []) := by
    rw [State.secCommand, cmd]
    obtain none | some := session
    · simp [State.fwActivate, checked, none]
    · simp [State.fwActivate, checked, some]
  rw [execFwActivate, State.runSec_answers_of_sec ready result rfl rfl]

theorem execBootConfirm_ready (ready : s.secReady p 0x14) (prefer : s.bootRecord.prefer = s.sec.slot) :
    execBootConfirm p s = .next ((s.writeBoot { s.bootRecord with trial := false }).secAnswer p 0 []) := by
  obtain ⟨cmd, -⟩ := State.secReq_spec (q := { cmd := 0x14 }) ready
  have result : s.secCommand p (s.secReq p { cmd := 0x14 }) = (s.writeBoot { s.bootRecord with trial := false }, 0, []) := by
    rw [State.secCommand, cmd]
    exact if_pos prefer
  rw [execBootConfirm, State.runSec_answers_of_sec ready result rfl rfl]

theorem execSvnCommit_ready (ready : s.secReady p 0x15) (trial : s.bootRecord.trial = false) (behind : s.fuses.svn < s.sec.svnRun) :
    execSvnCommit p s = .next (s.modSec (fun x => { x with burn := some p })) := by
  obtain ⟨cmd, -⟩ := State.secReq_spec (q := { cmd := 0x15 }) ready
  have result : s.secCommand p (s.secReq p { cmd := 0x15 }) = (s.modSec (fun x => { x with burn := some p }), 0, []) := by
    rw [State.secCommand, cmd]
    simp [State.svnCommit, trial, behind]
  obtain ⟨-, -, -, recovery, path, -, waiting, -, -⟩ := id ready
  have ran : s.secRun p (s.secReq p { cmd := 0x15 }) = s.modSec (fun x => { x with burn := some p }) := by
    simp only [State.secRun, recovery, Bool.false_and, Bool.false_eq_true, if_false, result]
    rfl
  have none : State.secRunAll (s.modSec (fun x => { x with burn := some p })).sec.waiting (s.modSec (fun x => { x with burn := some p }))
      = s.modSec (fun x => { x with burn := some p }) := State.secRunAll_nil waiting
  rw [execSvnCommit, State.runSec_ready ready, ran, none, ite_self]

theorem execUpdateSessionTimeout_open (session : s.sec.session.isSome = true) :
    execUpdateSessionTimeout s = .next ((s.eraseSlot (!s.sec.slot)).modSec (fun x => { x with session := none, checked := false })) := by
  rw [execUpdateSessionTimeout, if_pos session]

theorem State.burnBit_more (burn : s.sec.burn = some p) (more : s.fuses.svn + 1 < s.sec.svnRun) :
    s.burnBit = { s with fuses := { s.fuses with svn := s.fuses.svn + 1 } } := by
  simp [State.burnBit, burn, more]

theorem State.burnBit_last (path : p ≠ .instrument) (burn : s.sec.burn = some p) (last : s.fuses.svn + 1 = s.sec.svnRun)
    (waiting : s.sec.waiting = []) :
    s.burnBit = ((({ s with fuses := { s.fuses with svn := s.sec.svnRun } } : State).modSec (fun x => { x with burn := none })).raise
      0x0A04 0 s.sec.svnRun).secAnswer p 0 [] := by
  simp only [State.burnBit, burn, last, Nat.lt_irrefl, if_false, State.secEnd_eq path]
  refine State.secRunAll_nil ?_
  rw [(State.secAnswer_sec _ p 0 []).1, (records_raise _ _ _ _).sec]
  exact waiting

theorem execFwBegin_waits (served : s.secServed = true) (busy : s.sec.busy = true) :
    execFwBegin .mctp s = .next (s.modSec (fun x => { x with waiting := x.waiting ++ [{ cmd := 0x10 }] })) := by
  simp [execFwBegin, State.runSec, served, busy]

end Firmware

/-! ### Nonces and signed blocks -/

section Signed
variable {s : State} {p : SecPath}

theorem execNonce_ready {drawn : BitVec 256} (ready : s.secReady p 0x01) :
    execNonce p drawn s = .next ((s.setNonce p (some drawn)).secAnswer p 0 (leBytes 32 drawn.toNat)) := by
  obtain ⟨cmd, -, -, draw⟩ := State.secReq_spec (q := { cmd := 0x01, drawn := drawn }) ready
  have result : s.secCommand p (s.secReq p { cmd := 0x01, drawn := drawn }) = (s.setNonce p (some drawn), 0, leBytes 32 drawn.toNat) := by
    rw [State.secCommand, cmd]
    dsimp only
    rw [draw]
    rfl
  rw [execNonce, State.runSec_answers_of_sec ready result rfl rfl]

/-- The commands of a signed block change no burn and nothing that waits before they answer. -/
theorem State.checkBlock_sec {cmd : Nat} {b : List Byte} {key : Nat → List Byte → Bool} {u : State} {r : Option Nat}
    (checked : s.checkBlock p cmd b key = (u, r)) : u.sec.burn = s.sec.burn ∧ u.sec.waiting = s.sec.waiting := by
  have same : u.sec = (s.nonceTaken p b).sec := by
    have := (State.checkBlock_fst (s := s) (p := p) (cmd := cmd) (b := b) (key := key)).sec
    rwa [checked] at this
  rw [same]
  unfold State.nonceTaken
  split <;> exact ⟨rfl, rfl⟩

/-- A signed command that is served answers its result. -/
theorem State.runSec_block {q : SecReq} (ready : s.secReady p q.cmd.toNat) {t u : State} {c : Nat} {b : List Byte} {key : Nat → List Byte → Bool}
    {x : Option Nat} {r : Nat} (checked : s.checkBlock p c b key = (u, x)) (result : s.secCommand p (s.secReq p q) = (t, r, []))
    (burn : t.sec.burn = u.sec.burn) (waiting : t.sec.waiting = u.sec.waiting) : s.runSec p q = t.secAnswer p r [] := by
  obtain ⟨burn', waiting'⟩ := State.checkBlock_sec checked
  exact State.runSec_answers_of_sec ready result (burn.trans burn') (waiting.trans waiting')

/-- Two commands of MCTP and the mailbox: the waiting one is served after the mailbox's. -/
theorem execNonce_then_waiting {d e : BitVec 256} (served : s.secServed = true) (busy : s.sec.busy = true) (cmd : s.sec.cmd = 0x01)
    (burn : s.sec.burn = none) (waiting : s.sec.waiting = [{ cmd := 0x01, drawn := e }]) :
    execNonce .mailbox d s = .next ((((((s.setNonce .mailbox (some d)).secAnswer .mailbox 0 (leBytes 32 d.toNat)).setNonce .mctp (some e)).secAnswer
      .mctp 0 (leBytes 32 e.toNat)).modSec (fun x => { x with waiting := [] }))) := by
  have allowed : recoveryCmd 1 = true := rfl
  have own : s.secRun .mailbox (s.mailReq d) = (s.setNonce .mailbox (some d)).secAnswer .mailbox 0 (leBytes 32 d.toNat) := by
    have result : s.secCommand .mailbox (s.mailReq d) = (s.setNonce .mailbox (some d), 0, leBytes 32 d.toNat) := by
      rw [State.secCommand, State.mailReq, cmd]
      rfl
    have same : (s.mailReq d).cmd.toNat = 1 := by rw [State.mailReq, cmd]; rfl
    have idle : (s.setNonce .mailbox (some d)).sec.burn.isSome = false := by rw [show (s.setNonce .mailbox (some d)).sec.burn = s.sec.burn from rfl, burn]; rfl
    simp only [State.secRun, same, allowed, Bool.not_true, Bool.and_false, Bool.false_eq_true, if_false, result, idle]
    rfl
  rw [execNonce]
  simp only [State.runSec, served, Bool.not_true, Bool.false_eq_true, if_false, busy, cmd, decide_true, burn, Option.isNone_none, Bool.and_self,
    if_true, own]
  generalize ht : (s.setNonce .mailbox (some d)).secAnswer .mailbox 0 (leBytes 32 d.toNat) = t
  have waits : t.sec.waiting = [{ cmd := 0x01, drawn := e }] := by
    rw [← ht, (State.secAnswer_sec _ _ _ _).1]
    exact waiting
  have free : t.sec.burn = none := by
    rw [← ht, (State.secAnswer_sec _ _ _ _).2.1]
    exact burn
  have idle : (t.setNonce .mctp (some e)).sec.burn.isSome = false := by rw [show (t.setNonce .mctp (some e)).sec.burn = t.sec.burn from rfl, free]; rfl
  have other : t.secRun .mctp { cmd := 0x01, drawn := e } = (t.setNonce .mctp (some e)).secAnswer .mctp 0 (leBytes 32 e.toNat) := by
    have result : t.secCommand .mctp { cmd := 0x01, drawn := e } = (t.setNonce .mctp (some e), 0, leBytes 32 e.toNat) := rfl
    have same : ({ cmd := 0x01, drawn := e } : SecReq).cmd.toNat = 1 := rfl
    simp only [State.secRun, same, allowed, Bool.not_true, Bool.and_false, Bool.false_eq_true, if_false, result, idle]
    rfl
  rw [waits, State.secRunAll, free]
  simp only [Option.isSome_none, Bool.false_eq_true, if_false]
  rw [other, State.secRunAll]

theorem execDebugNonceDraw_awake (reset : s.pkg.inReset = false) (d : BitVec 256) :
    execDebugNonceDraw d s
      = .next ((s.throughTap.setNonce .instrument (some d)).modSec (fun x => { x with instrDraw := true, instrNonce := d })) := by
  rw [execDebugNonceDraw, if_neg (by simp [reset])]

theorem State.raise_sec (s : State) (code job detail : Nat) : (s.raise code job detail).sec = s.sec := (records_raise s code job detail).sec

theorem execOwnerClaim_ready {buffer : List Byte} (ready : s.secReady .mctp 0x20) :
    ∃ t, execOwnerClaim .mctp buffer s = .next t
      ∧ (∀ u r, s.checkBlock .mctp 0x20 buffer (fun signer _ => signer = 1) = (u, some r) → t = u.secAnswer .mctp r [])
      ∧ (∀ u i, s.checkBlock .mctp 0x20 buffer (fun signer _ => signer = 1) = (u, none) → u.ownerSlot = none → i < 4 →
        (u.owner i).2.1 = false → (∀ j < i, (u.owner j).2.1 = true) →
        t = ((u.setOwner i (digest ((buffer.drop 48).take 32), true, false)).raise 0x0A05 0 (i + 256)).secAnswer .mctp 0 []) := by
  refine ⟨_, rfl, fun u r checked => ?_, fun u i checked unowned small free taken => ?_⟩
  · exact State.runSec_block (q := { cmd := 0x20, data := buffer }) (u := u) ready checked
      (by rw [State.secCommand, State.secReq, if_neg (by decide)]; simp [State.ownerClaim, checked]) rfl rfl
  · have first : [0, 1, 2, 3].find? (fun i => !(u.owner i).2.1) = some i := by
      have : i = 0 ∨ i = 1 ∨ i = 2 ∨ i = 3 := by omega
      rcases this with rfl | rfl | rfl | rfl <;> simp [free, taken]
    refine State.runSec_block (q := { cmd := 0x20, data := buffer }) (u := u) ready checked
      (by rw [State.secCommand, State.secReq, if_neg (by decide)]; simp [State.ownerClaim, checked, unowned, first]) ?_ ?_
    · rw [State.raise_sec]
      rfl
    · rw [State.raise_sec]
      rfl

theorem execOwnerRelease_ready {buffer : List Byte} (ready : s.secReady p 0x21) :
    ∃ t, execOwnerRelease p buffer s = .next t
      ∧ (∀ u r, s.checkBlock p 0x21 (s.secBuffer p buffer) s.ownerKey = (u, some r) → t = u.secAnswer p r [])
      ∧ (∀ u i, s.checkBlock p 0x21 (s.secBuffer p buffer) s.ownerKey = (u, none) → u.ownerSlot = some i →
        t = ((u.setOwner i ((u.owner i).1, true, true)).raise 0x0A05 0 i).secAnswer p 0 []) := by
  obtain ⟨cmd, -, data, -⟩ := State.secReq_spec (q := { cmd := 0x21, data := buffer }) ready
  have serves : s.secCommand p (s.secReq p { cmd := 0x21, data := buffer }) = s.ownerRelease p (s.secBuffer p buffer) := by
    rw [State.secCommand, cmd, data]
    rfl
  refine ⟨_, rfl, fun u r checked => ?_, fun u i checked owned => ?_⟩
  · exact State.runSec_block (u := u) ready checked (serves.trans (by simp [State.ownerRelease, checked])) rfl rfl
  · refine State.runSec_block (u := u) ready checked (serves.trans (by simp [State.ownerRelease, checked, owned])) ?_ ?_
    · rw [State.raise_sec]
      rfl
    · rw [State.raise_sec]
      rfl

/-- Raising the debug level leaves the security unit but for the level and the Alias key. -/
theorem State.unlock_sec (s : State) (level : Nat) : (s.unlock level).sec.burn = s.sec.burn ∧ (s.unlock level).sec.waiting = s.sec.waiting := by
  rw [State.unlock_eq, State.raise_sec, State.modSec_sec]
  split
  · exact ⟨rfl, rfl⟩
  · obtain ⟨a, erased, -, sec, -, -⟩ := s.erasedForDebug_spec
    rw [erased]
    dsimp only
    rw [sec]
    exact ⟨rfl, rfl⟩

theorem State.debugBlock_sec (s : State) (p : SecPath) (b : List Byte) :
    (s.debugBlock p b).1.sec.burn = s.sec.burn ∧ (s.debugBlock p b).1.sec.waiting = s.sec.waiting := by
  unfold State.debugBlock
  extract_lets level
  generalize e : s.checkBlock p 0x31 b (fun signer key => s.vendorKey signer key || (level ≠ 3 && s.ownerKey signer key)) = x
  obtain ⟨u, _ | r⟩ := x
  · have same := State.checkBlock_sec e
    dsimp only
    split
    · exact same
    · split
      · exact same
      · obtain ⟨burn, waiting⟩ := u.unlock_sec level
        exact ⟨burn.trans same.1, waiting.trans same.2⟩
  · exact State.checkBlock_sec e

theorem execDebugUnlock_ready {buffer : List Byte} (ready : s.secReady p 0x31) :
    ∃ u r, s.debugBlock p (s.secBuffer p buffer) = (u, r) ∧ execDebugUnlock p buffer s = .next (u.secAnswer p r []) := by
  obtain ⟨cmd, -, data, -⟩ := State.secReq_spec (q := { cmd := 0x31, data := buffer }) ready
  have serves : s.secCommand p (s.secReq p { cmd := 0x31, data := buffer })
      = ((s.debugBlock p (s.secBuffer p buffer)).1, (s.debugBlock p (s.secBuffer p buffer)).2, []) := by
    rw [State.secCommand, cmd, data]
    rfl
  obtain ⟨burn, waiting⟩ := s.debugBlock_sec p (s.secBuffer p buffer)
  refine ⟨(s.debugBlock p (s.secBuffer p buffer)).1, (s.debugBlock p (s.secBuffer p buffer)).2, rfl, ?_⟩
  rw [execDebugUnlock, State.runSec_answers_of_sec ready serves burn waiting]

theorem execDebugBlockCheck_awake (reset : s.pkg.inReset = false) (block : List Byte) :
    ∃ u r, s.throughTap.debugBlock .instrument block = (u, r)
      ∧ execDebugBlockCheck block s
        = .next (u.modSec (fun x => { x with instrBlock := block.take blockBytes, instrResult := BitVec.ofNat 8 r })) := by
  rw [execDebugBlockCheck, if_neg (by simp [reset])]
  exact ⟨_, _, rfl, rfl⟩

theorem records_recorderCleared (s : State) : SameButRecords s s.recorderCleared := by
  unfold State.recorderCleared
  have token := records_takeToken s 0x0C05 0 s.tel.next
  generalize s.takeToken 0x0C05 0 s.tel.next = x at token ⊢
  obtain ⟨u, _ | r⟩ := x
  · exact token
  · exact (token.trans (records_modTel u _)).trans (records_deliverEvent _ r)

theorem execRecorderClear_ready {buffer : List Byte} (ready : s.secReady p 0x40) :
    ∃ t, execRecorderClear p buffer s = .next t
      ∧ (∀ u r, s.checkBlock p 0x40 (s.secBuffer p buffer) s.ownerKey = (u, some r) → t = u.secAnswer p r [])
      ∧ (∀ u, s.checkBlock p 0x40 (s.secBuffer p buffer) s.ownerKey = (u, none) → u.tel.clearing = true → t = u.secAnswer p 7 [])
      ∧ (∀ u, s.checkBlock p 0x40 (s.secBuffer p buffer) s.ownerKey = (u, none) → u.tel.clearing = false →
        t = (u.recorderCleared.modTel (fun x => { x with clearing := true })).secAnswer p 0 []) := by
  obtain ⟨cmd, -, data, -⟩ := State.secReq_spec (q := { cmd := 0x40, data := buffer }) ready
  have serves : s.secCommand p (s.secReq p { cmd := 0x40, data := buffer }) = s.recorderClear p (s.secBuffer p buffer) := by
    rw [State.secCommand, cmd, data]
    rfl
  refine ⟨_, rfl, fun u r checked => ?_, fun u checked clearing => ?_, fun u checked clear => ?_⟩
  · exact State.runSec_block (u := u) ready checked (serves.trans (by simp [State.recorderClear, checked])) rfl rfl
  · exact State.runSec_block (u := u) ready checked (serves.trans (by simp [State.recorderClear, checked, clearing])) rfl rfl
  · have sec := (records_recorderCleared u).sec
    refine State.runSec_block (u := u) ready checked (serves.trans (by simp [State.recorderClear, checked, clear])) ?_ ?_
    · rw [State.modTel_sec, sec]
    · rw [State.modTel_sec, sec]

end Signed
end Sys2Proof.Machine

namespace Sys2Proof
open Machine

/-- Settles O15: a served command whose result leaves no burn ends with its answer, and the burn's last microsecond ends SVN_COMMIT. -/
theorem firmwareUpdateCompletes : Obligations.FirmwareUpdateCompletes :=
  ⟨fun _ _ => execFwBegin_ready,
    fun s p arg buffer b a ready session ha hb aligned short inside => by
      subst ha hb
      exact execFwWrite_ready ready session aligned short inside,
    fun _ _ => execFwFinish_ready, fun _ _ => execFwActivate_ready, fun _ => execUpdateSessionTimeout_open, fun _ _ => execBootConfirm_ready,
    fun _ _ => execSvnCommit_ready, fun _ _ => State.burnBit_more, fun _ _ => State.burnBit_last, fun _ => execFwBegin_waits⟩

/-- Settles O17: a block that fails its checks has its result code for an answer, one that passes the effect of its command. -/
theorem signedCommandsComplete : Obligations.SignedCommandsComplete :=
  ⟨fun _ _ _ => execNonce_ready, fun _ _ => rfl, fun _ _ _ => execNonce_then_waiting, fun _ d reset => execDebugNonceDraw_awake reset d,
    fun _ _ => execOwnerClaim_ready, fun _ _ _ => execOwnerRelease_ready, fun _ _ _ => execDebugUnlock_ready,
    fun _ block reset => execDebugBlockCheck_awake reset block, fun _ _ _ => execRecorderClear_ready⟩

end Sys2Proof
end

section
/-! The SPDM responder (R511 to R517): the answers that need no session (O21), and sessions, chunks and IDE keys (O22). -/
namespace Sys2Proof.Machine

/-! ### Requests served -/

theorem spdmMsg_eq (code p1 p2 : Nat) (rest : List Byte) :
    spdmMsg code p1 p2 rest = [0x13, BitVec.ofNat 8 code, BitVec.ofNat 8 p1, BitVec.ofNat 8 p2] ++ rest := rfl

theorem State.spdm_of_runs {s : State} (runs : s.spdmRuns) (f : State → State) : s.spdm f = f s := by
  obtain ⟨reset, mode, mc, responder⟩ := runs
  simp [State.spdm, State.spdmUp, reset, mode, mc, responder]

theorem State.spdmAfter_of_connected {s : State} (connected : s.spdmConnected) (f : State → State) : s.spdmAfter f = f s := by
  obtain ⟨runs, version, caps, algs⟩ := connected
  rw [State.spdmAfter, State.spdm_of_runs runs]
  simp [version, caps, algs]

theorem State.inSession_of_session {s : State} {i : Nat} (session : s.spdmSession i) (f : State → State) : s.inSession i f = f s := by
  obtain ⟨connected, inUse, finished⟩ := session
  rw [State.inSession, State.spdmAfter_of_connected connected]
  simp [State.sessionServes, inUse, finished]

theorem State.respond_of_short {m : List Byte} (short : m.length ≤ 4096) (s : State) : s.respond m = s.emit (.response m) := if_pos short

theorem State.spdmSigned_of_free {s : State} (aliased : s.sec.aliasReady = true) (free : s.hashBusy = false) (request : Nat) (f : State → State) :
    s.spdmSigned request f = f s := by
  simp [State.spdmSigned, aliased, free]

theorem State.freeBytes_sec (s : State) (n : Nat) : (s.freeBytes n).1.sec = s.sec := rfl

theorem State.freeBytes_fst (s : State) (n : Nat) : (s.freeBytes n).1 = { s with free := s.free + n } := rfl

/-- A response signed with the Alias key, what follows the signature with it. -/
theorem State.respondSigned_of_ready {u v : State} {m g : List Byte} (aliased : u.sec.aliasReady = true)
    (signed : u.slhSign slh128f u.aliasKey (Config.toSign m) = (v, g)) (rest : List Byte) : u.respondSigned m rest = v.respond (m ++ g ++ rest) := by
  rw [State.respondSigned, if_pos aliased, signed]

theorem State.aliasKey_congr {s u : State} (fuses : u.fuses = s.fuses) (body : u.sec.bodyDigest = s.sec.bodyDigest) (svn : u.sec.svnRun = s.sec.svnRun) :
    u.aliasKey = s.aliasKey := by
  rw [State.aliasKey, State.aliasKey, fuses, body, svn]

/-! ### Answers without a session -/

theorem execGetVersion_runs {s : State} (runs : s.spdmRuns) :
    execGetVersion s = .next ((s.modSec (fun x => { x with
      versionDone := true, capsDone := false, algsDone := false, chunkIn := [], chunkOut := [] })).emit
        (.response [0x10, 0x04, 0, 0, 0, 1, 0, 0x13])) := by
  rw [execGetVersion, State.spdm_of_runs runs, State.spdmVersion, State.respond_of_short (by decide)]

/-- What GET_CAPABILITIES answers. -/
def capabilitiesMsg : List Byte := spdmMsg 0x61 0 0 ([0, 16, 0, 0] ++ leBytes 4 0x262F6 ++ leBytes 4 4096 ++ leBytes 4 65536)

theorem execGetCapabilities_runs {s : State} (runs : s.spdmRuns) (version : s.sec.versionDone = true) :
    execGetCapabilities s = .next ((s.modSec (fun x => { x with capsDone := true })).emit (.response capabilitiesMsg)) := by
  rw [execGetCapabilities, State.spdm_of_runs runs, State.spdmCapabilities, if_pos version, ← capabilitiesMsg, State.respond_of_short (by decide)]

theorem execNegotiateAlgorithms_runs {s : State} (runs : s.spdmRuns) (version : s.sec.versionDone = true) (caps : s.sec.capsDone = true) :
    execNegotiateAlgorithms s = .next ((s.modSec (fun x => { x with algsDone := true })).emit (.response spdmAlgorithmsMsg)) := by
  rw [execNegotiateAlgorithms, State.spdm_of_runs runs, State.spdmAlgorithms, if_pos (by simp [version, caps]), State.respond_of_short (by decide)]

section Connected
variable {s : State} (connected : s.spdmConnected)
include connected

theorem execGetDigests_connected : execGetDigests s = .next (s.respond ([0x13, 0x01, 0, 1] ++ sha256 s.certChain)) := by
  rw [execGetDigests, State.spdmAfter_of_connected connected, State.spdmDigests, spdmMsg_eq]
  rfl

theorem execGetCertificate_past {off len : BitVec 16} (past : s.certChain.length ≤ off.toNat) :
    execGetCertificate 0 off len s = .next (s.emit (.response [0x13, 0x7F, 1, 0])) := by
  rw [execGetCertificate, State.spdmAfter_of_connected connected, State.spdmCertificate, if_pos (by simp [past])]
  rfl

theorem execGetCertificate_inside {off len : BitVec 16} (inside : off.toNat < s.certChain.length) :
    execGetCertificate 0 off len s = .next (s.respond ([0x13, 0x02, 0, 0] ++ leBytes 2 (min len.toNat (s.certChain.length - off.toNat))
      ++ leBytes 2 (s.certChain.length - off.toNat - min len.toNat (s.certChain.length - off.toNat))
      ++ (s.certChain.drop off.toNat).take len.toNat)) := by
  have short : ((s.certChain.drop off.toNat).take len.toNat).length = min len.toNat (s.certChain.length - off.toNat) := by
    rw [List.length_take, List.length_drop]
  rw [execGetCertificate, State.spdmAfter_of_connected connected, State.spdmCertificate, if_neg (by simp [inside])]
  dsimp only
  rw [short, spdmMsg_eq, List.append_assoc, List.append_assoc, List.append_assoc]
  rfl

theorem execChallenge_signed {u v : State} {q : SpdmAsk} {n m g : List Byte} (aliased : s.sec.aliasReady = true) (free : s.hashBusy = false)
    (nonce : s.freeBytes 32 = (u, n))
    (hm : m = [0x13, 0x03, 0, 1] ++ sha256 s.certChain ++ n ++ s.measureSummary q.summary.toNat ++ [0, 0] ++ leBytes 8 q.context.toNat)
    (signed : u.slhSign slh128f s.aliasKey (Config.toSign m) = (v, g)) : execChallenge 0 q s = .next (v.respond (m ++ g)) := by
  have hu : u = { s with free := s.free + 32 } := by rw [← State.freeBytes_fst, nonce]
  have key : u.aliasKey = s.aliasKey := State.aliasKey_congr (by rw [hu]) (by rw [hu]) (by rw [hu])
  have ready : u.sec.aliasReady = true := by rw [hu]; exact aliased
  have message : spdmMsg 0x03 0 1 (sha256 s.certChain ++ n ++ s.measureSummary q.summary.toNat ++ [0, 0] ++ leBytes 8 q.context.toNat) = m := by
    rw [hm, spdmMsg_eq]
    simp only [List.append_assoc]
    rfl
  rw [← key] at signed
  rw [execChallenge, State.spdmAfter_of_connected connected, State.spdmChallenge, if_neg (by simp), State.spdmSigned_of_free aliased free, nonce]
  dsimp only
  rw [message, State.respondSigned_of_ready ready signed, List.append_nil]

theorem execChallenge_busy {q : SpdmAsk} (aliased : s.sec.aliasReady = true) (busy : s.hashBusy = true) :
    ∃ t bs, bs.length = 2 ∧ execChallenge 0 q s = .next t ∧ t = ({ s with free := s.free + 2 } : State).emit
      (.response ([0x13, 0x7F, 0x42, 0, 19, 0x83] ++ bs)) := by
  refine ⟨_, (s.freeBytes 2).2, by simp [State.freeBytes], ?_, rfl⟩
  rw [execChallenge, State.spdmAfter_of_connected connected, State.spdmChallenge, if_neg (by simp), State.spdmSigned, if_neg (by simp [aliased]),
    if_pos busy]
  rfl

theorem execGetMeasurements_one {u : State} {i : BitVec 8} {q : SpdmAsk} {n : List Byte} (low : 1 ≤ i.toNat) (high : i.toNat ≤ 7)
    (nonce : s.freeBytes 32 = (u, n)) :
    execGetMeasurements i false q s
      = .next (u.respond ([0x13, 0x60, 0, 0, 1] ++ leBytes 3 (s.measurement i.toNat).length ++ s.measurement i.toNat ++ n ++ [0, 0]
        ++ leBytes 8 q.context.toNat)) := by
  rw [execGetMeasurements, State.spdmAfter_of_connected connected, State.spdmMeasurements, if_neg (by simp; omega)]
  simp only [show i.toNat ≠ 0 by omega, show i.toNat ≠ 255 by omega, if_false, Bool.false_eq_true, nonce, List.map_cons, List.map_nil,
    List.flatten_cons, List.flatten_nil, List.append_nil, List.length_cons, List.length_nil, spdmMsg_eq, List.append_assoc]
  rfl

theorem execGetMeasurements_all {u v : State} {q : SpdmAsk} {n m g : List Byte} (aliased : s.sec.aliasReady = true) (free : s.hashBusy = false)
    (nonce : s.freeBytes 32 = (u, n))
    (hm : m = [0x13, 0x60, 0, 0, 7] ++ leBytes 3 (([1, 2, 3, 4, 5, 6, 7].map s.measurement).flatten).length
      ++ ([1, 2, 3, 4, 5, 6, 7].map s.measurement).flatten ++ n ++ [0, 0] ++ leBytes 8 q.context.toNat)
    (signed : u.slhSign slh128f s.aliasKey (Config.toSign m) = (v, g)) : execGetMeasurements 255 true q s = .next (v.respond (m ++ g)) := by
  have hu : u = { s with free := s.free + 32 } := by rw [← State.freeBytes_fst, nonce]
  have key : u.aliasKey = s.aliasKey := State.aliasKey_congr (by rw [hu]) (by rw [hu]) (by rw [hu])
  have ready : u.sec.aliasReady = true := by rw [hu]; exact aliased
  rw [← key] at signed
  have index : (255 : BitVec 8).toNat = 255 := rfl
  generalize hb : ([1, 2, 3, 4, 5, 6, 7].map s.measurement).flatten = b at hm
  have message : spdmMsg 0x60 0 0 ([BitVec.ofNat 8 7] ++ leBytes 3 b.length ++ b ++ n ++ [0, 0] ++ leBytes 8 q.context.toNat) = m := by
    rw [hm, spdmMsg_eq]
    simp only [List.append_assoc]
    rfl
  rw [execGetMeasurements, State.spdmAfter_of_connected connected, index, State.spdmMeasurements, if_neg (by decide)]
  simp only [show (255 : Nat) ≠ 0 by decide, if_false, if_true, hb, List.length_cons, List.length_nil]
  rw [State.spdmSigned_of_free aliased free, nonce]
  dsimp only
  rw [message, State.respondSigned_of_ready ready signed, List.append_nil]

end Connected

theorem execSpdmUnsupported_runs {s : State} (runs : s.spdmRuns) (code : BitVec 8) :
    execSpdmUnsupported code s = .next (s.emit (.response [0x13, 0x7F, 7, code])) := by
  rw [execSpdmUnsupported, State.spdm_of_runs runs, State.spdmError, spdmMsg_eq, BitVec.ofNat_toNat, BitVec.setWidth_eq]
  rfl

/-! ### Sessions and chunks -/

theorem execKeyExchange_free {s u v : State} {req x : List Byte} {i : Fin 2} {n m g : List Byte} (connected : s.spdmConnected)
    (aliased : s.sec.aliasReady = true) (free : s.hashBusy = false) (unused : (s.session i).inUse = false)
    (used : ∀ j : Fin 2, j < i → (s.session j).inUse = true) (hx : x = Config.exchange s.sec.drawn req)
    (nonce : (s.modSec (fun y => { y with sessions := tput y.sessions i { inUse := true, secret := x }, drawn := y.drawn + 1 })).freeBytes 32
      = (u, n))
    (hm : m = [0x13, 0x64, 60, 0] ++ leBytes 2 i.val ++ [0, 0] ++ n ++ Config.exchangeKey s.sec.drawn ++ [12, 0] ++ Config.opaqueData)
    (signed : u.slhSign slh128f s.aliasKey (Config.toSign m) = (v, g)) :
    execKeyExchange req s = .next (v.respond (m ++ g ++ Config.verifyData x)) := by
  have first : [0, 1].find? (fun i => !(s.session i).inUse) = some i.val := by
    obtain rfl | rfl : i = 0 ∨ i = 1 := by omega
    · exact List.find?_cons_of_pos (by simpa using unused)
    · have zero : (s.session 0).inUse = true := used 0 (by decide)
      have one : (s.session 1).inUse = false := unused
      simp [zero, one]
  have hu := State.freeBytes_fst (s.modSec (fun y => { y with sessions := tput y.sessions i { inUse := true, secret := x }, drawn := y.drawn + 1 })) 32
  rw [nonce] at hu
  dsimp only at hu
  have key : u.aliasKey = s.aliasKey := State.aliasKey_congr (by rw [hu]; rfl) (by rw [hu]; rfl) (by rw [hu]; rfl)
  have ready : u.sec.aliasReady = true := by rw [hu]; exact aliased
  have message : spdmMsg 0x64 60 0 (leBytes 2 i.val ++ [0, 0] ++ n ++ Config.exchangeKey s.sec.drawn ++ leBytes 2 12 ++ Config.opaqueData) = m := by
    rw [hm, spdmMsg_eq]
    simp only [List.append_assoc]
    rfl
  have begun : (s.setSession i { inUse := true, secret := x }).modSec (fun x => { x with drawn := x.drawn + 1 })
      = s.modSec (fun y => { y with sessions := tput y.sessions i { inUse := true, secret := x }, drawn := y.drawn + 1 }) := rfl
  rw [← key] at signed
  rw [execKeyExchange, State.spdmAfter_of_connected connected, State.spdmExchange, first]
  dsimp only
  rw [State.spdmSigned_of_free aliased free, ← hx, begun, nonce]
  dsimp only
  rw [message, State.respondSigned_of_ready ready signed]

theorem execFinish_begun {s : State} {i : Fin 2} {req : List Byte} (connected : s.spdmConnected) (inUse : (s.session i).inUse = true)
    (begun : (s.session i).finished = false) :
    ∃ t, execFinish i req s = .next t
      ∧ (Config.finishOk (s.session i).secret req = true →
        t = (s.setSession i { s.session i with finished := true }).emit (.response [0x13, 0x65, 0, 0]))
      ∧ (Config.finishOk (s.session i).secret req = false → t = (s.setSession i {}).emit (.response [0x13, 0x7F, 6, 0])) := by
  rw [execFinish, State.spdmAfter_of_connected connected, State.spdmFinish]
  dsimp only
  rw [if_neg (by simp [inUse, begun])]
  cases Config.finishOk (s.session i).secret req with
  | true => exact ⟨_, rfl, fun _ => by rw [if_pos rfl, State.respond_of_short (by decide)]; rfl, nofun⟩
  | false => exact ⟨_, rfl, nofun, fun _ => rfl⟩

theorem State.ideAnswer_of_short {m : List Byte} (short : m.length ≤ 4092) (s : State) :
    s.ideAnswer m = s.emit (.response ([0x13, 0x7E, 0, 0] ++ m)) := by
  rw [State.ideAnswer, State.respond_of_short (by simp [spdmMsg]; omega)]
  rfl

section Session
variable {s : State} {i : Fin 2} (session : s.spdmSession i)
include session

theorem execSpdmHeartbeat_session : execSpdmHeartbeat i s = .next (s.emit (.response [0x13, 0x68, 0, 0])) := by
  rw [execSpdmHeartbeat, State.inSession_of_session session, State.respond_of_short (by decide)]
  rfl

theorem execKeyUpdate_session :
    execKeyUpdate i 1 s = .next ((s.setSession i { s.session i with keyGen := ((s.session i).keyGen + 1) % 256 }).emit
      (.response [0x13, 0x69, 1, 0])) := by
  rw [execKeyUpdate, State.inSession_of_session session, State.spdmKeyUpdate, if_pos (by decide), State.respond_of_short (by decide)]
  rfl

theorem execEndSession_session : execEndSession i s = .next ((s.setSession i {}).emit (.response [0x13, 0x6C, 0, 0])) := by
  rw [execEndSession, State.inSession_of_session session, State.respond_of_short (by decide)]
  rfl

end Session

theorem execSpdmHeartbeatTimeout_used {s : State} {i : Fin 2} (inUse : (s.session i).inUse = true) :
    execSpdmHeartbeatTimeout i s = .next (s.setSession i {}) := by
  rw [execSpdmHeartbeatTimeout, if_pos inUse]

theorem execChunkGet_next {s : State} {h : BitVec 8} {q : BitVec 16} (connected : s.spdmConnected) (kept : s.sec.chunkOut ≠ [])
    (next : q.toNat = s.sec.chunkSeq) :
    execChunkGet h q s = .next ((s.modSec (fun x => { x with chunkOut := x.chunkOut.drop 4084, chunkSeq := x.chunkSeq + 1 })).emit
      (.response ([0x13, 0x06, BitVec.ofNat 8 (b2n (s.sec.chunkOut.drop 4084).isEmpty), h] ++ leBytes 2 q.toNat ++ [0, 0]
        ++ leBytes 4 (s.sec.chunkOut.take 4084).length ++ s.sec.chunkOut.take 4084))) := by
  rw [execChunkGet, State.spdmAfter_of_connected connected, if_neg (by simp [kept, next])]
  simp only [chunkBytes, spdmMsg_eq, BitVec.ofNat_toNat, BitVec.setWidth_eq, List.append_assoc]
  rfl

theorem execChunkSend_part {s : State} {h : BitVec 8} {q : BitVec 16} {part : List Byte} (connected : s.spdmConnected) (later : q ≠ 0)
    (next : q.toNat = s.sec.chunkSeq) (room : s.sec.chunkIn.length + part.length ≤ 65536) :
    execChunkSend h q false part s
      = .next ((s.modSec (fun x => { x with chunkIn := x.chunkIn ++ part, chunkSeq := x.chunkSeq + 1 })).emit
        (.response ([0x13, 0x05, 0, h] ++ leBytes 2 q.toNat))) := by
  rw [execChunkSend, State.spdmAfter_of_connected connected]
  simp only [later, if_false]
  rw [if_neg (by simp [next]; omega)]
  simp only [Bool.false_eq_true, if_false, spdmMsg_eq, BitVec.ofNat_toNat, BitVec.setWidth_eq]
  rfl

theorem execChunkSend_whole {s : State} {h : BitVec 8} {m : List Byte} (connected : s.spdmConnected) (room : m.length ≤ 65536) :
    execChunkSend h 0 true m s
      = .next ((((s.modSec (fun x => { x with chunkIn := [], chunkSeq := 0 })).emit (.response [0x13, 0x05, 0, h, 0, 0])).spdmGathered m)) := by
  rw [execChunkSend, State.spdmAfter_of_connected connected]
  simp only [if_true, List.nil_append]
  rw [if_neg (by simp; omega)]
  simp only [spdmMsg_eq, BitVec.ofNat_toNat, BitVec.setWidth_eq]
  rfl

/-! ### IDE keys -/

section Ide
variable {s : State} {i : Fin 2} (session : s.spdmSession i) {x : IdeStream}
include session

theorem execQuery_session : execQuery i s = .next (s.emit (.response [0x13, 0x7E, 0, 0, 1, 0])) := by
  rw [execQuery, State.inSession_of_session session, State.ideQuery, State.ideAnswer_of_short (by decide)]
  rfl

theorem execKeyProg_unused {k : Fin 2} (unused : (s.ideDir x).active ≠ some k) (key : BitVec 256) :
    execKeyProg i x k key s = .next ((s.setIde x (if k = 0 then { s.ideDir x with key0 := some key } else { s.ideDir x with key1 := some key })).emit
      (.response [0x13, 0x7E, 0, 0, 3, 0])) := by
  rw [execKeyProg, State.inSession_of_session session, State.ideKeyProg]
  dsimp only
  rw [if_neg unused, State.ideAnswer_of_short (by decide)]
  rfl

theorem execKeyProg_used {k : Fin 2} (used : (s.ideDir x).active = some k) (key : BitVec 256) :
    execKeyProg i x k key s = .next (s.emit (.response [0x13, 0x7E, 0, 0, 3, 1])) := by
  rw [execKeyProg, State.inSession_of_session session, State.ideKeyProg]
  rw [if_pos used, State.ideAnswer_of_short (by decide)]
  rfl

theorem execKSetGo_programmed {k : Fin 2} (programmed : (if k = 0 then (s.ideDir x).key0 else (s.ideDir x).key1).isSome = true) :
    execKSetGo i x k s
      = .next (((s.setIde x { s.ideDir x with active := some k, insecure := false }).raise 0x0A08 0 (ideIx x + k.val * 16)).emit
        (.response [0x13, 0x7E, 0, 0, 6, 0])) := by
  have some : (if k = 0 then (s.ideDir x).key0 else (s.ideDir x).key1).isNone = false := by
    rw [← Option.not_isSome, programmed]
    rfl
  rw [execKSetGo, State.inSession_of_session session, State.ideSetGo]
  dsimp only
  rw [some, if_neg Bool.false_ne_true, State.ideAnswer_of_short (by decide)]
  rfl

theorem execKSetStop_used {k : Fin 2} (used : (s.ideDir x).active = some k) :
    execKSetStop i x k s = .next ((s.setIde x { s.ideDir x with active := none }).emit (.response [0x13, 0x7E, 0, 0, 6, 0])) := by
  rw [execKSetStop, State.inSession_of_session session, State.ideSetStop]
  dsimp only
  rw [if_pos used, State.ideAnswer_of_short (by decide)]
  rfl

end Ide

theorem execIdeIntegrityFailure_active {s : State} {x : IdeStream} (active : (s.ideDir x).active.isSome = true) (up : s.host.linkUp = true) :
    ∃ t, execIdeIntegrityFailure x s = .next t ∧ t.host.linkUp = false ∧ t.host.attached = false ∧ t.sec.sessions = []
      ∧ t.sec.ide = [(ideIx x, { insecure := true })] ∧ t.mem = s.mem ∧ t.pending = s.pending := by
  have lost := SameHold.hostLinkLost s up
  have some : (s.ideDir x).active.isNone = false := by
    rw [← Option.not_isSome, active]
    rfl
  have told : SameHold True True ((s.hostLinkLost).setIde x { insecure := true })
      (((s.hostLinkLost).setIde x { insecure := true }).raise 0x0A09 0 (ideIx x)) := .raise _ _ _ _
  have ide : ((s.hostLinkLost).setIde x { insecure := true }).sec.ide = [(ideIx x, { insecure := true })] := by
    rw [State.setIde, State.modSec_sec, lost.sec]
    rfl
  have sessions : ((s.hostLinkLost).setIde x { insecure := true }).sec.sessions = [] := by
    rw [State.setIde, State.modSec_sec, lost.sec]
    rfl
  have linkUp : ((s.hostLinkLost).setIde x { insecure := true }).host.linkUp = false := lost.linkUp
  have attached : ((s.hostLinkLost).setIde x { insecure := true }).host.attached = false := lost.attached
  have mem : ((s.hostLinkLost).setIde x { insecure := true }).mem = s.mem := lost.mem
  have pending : ((s.hostLinkLost).setIde x { insecure := true }).pending = s.pending := lost.pending
  refine ⟨_, by rw [execIdeIntegrityFailure, some, if_neg Bool.false_ne_true], told.linkUp.trans linkUp, told.attached.trans attached, ?_, ?_,
    told.mem.trans mem, told.pending.trans pending⟩
  · rw [told.sec, sessions]
  · rw [told.sec, ide]

end Sys2Proof.Machine

namespace Sys2Proof
open Machine

/-- Settles O21: the requests that the responder serves, each by its message. -/
theorem spdmAnswers : Obligations.SpdmAnswers :=
  ⟨fun _ => execGetVersion_runs,
    fun _ runs version => ⟨capabilitiesMsg, execGetCapabilities_runs runs version, rfl, rfl, rfl, rfl⟩,
    fun _ runs version caps => ⟨spdmAlgorithmsMsg, execNegotiateAlgorithms_runs runs version caps, rfl, rfl, rfl, rfl, rfl⟩,
    fun _ => execGetDigests_connected,
    fun s off len c connected chain => by
      subst chain
      rcases Nat.lt_or_ge off.toNat s.certChain.length with inside | past
      · exact ⟨_, execGetCertificate_inside connected inside, fun past => absurd inside (Nat.not_lt.2 past), fun _ => rfl⟩
      · exact ⟨_, execGetCertificate_past connected past, fun _ => rfl, fun inside => absurd past (Nat.not_le.2 inside)⟩,
    fun _ _ _ _ _ _ _ connected => execChallenge_signed connected, fun _ _ _ _ _ connected => execGetMeasurements_one connected,
    fun _ _ connected => execChallenge_busy connected, fun _ _ _ _ _ _ _ connected => execGetMeasurements_all connected,
    fun _ code runs => execSpdmUnsupported_runs runs code⟩

/-- Settles O22: what a session serves, each request by its message, and the link's loss with a broken IDE stream. -/
theorem spdmSessionsComplete : Obligations.SpdmSessionsComplete :=
  ⟨fun _ _ _ _ _ _ _ _ _ connected aliased free => execKeyExchange_free connected aliased free, fun _ _ _ connected => execFinish_begun connected,
    fun _ _ session => execSpdmHeartbeat_session session, fun _ _ session => execKeyUpdate_session session,
    fun _ _ session => execEndSession_session session, fun _ _ => execSpdmHeartbeatTimeout_used,
    fun s h q c connected kept next chunk => by
      subst chunk
      exact execChunkGet_next connected kept next,
    fun _ _ _ _ connected => execChunkSend_part connected, fun _ _ _ connected => execChunkSend_whole connected,
    fun _ _ session => execQuery_session session, fun _ _ _ key session unused => execKeyProg_unused (k := 0) session unused key,
    fun _ _ _ key session unused => execKeyProg_unused (k := 1) session unused key, fun _ _ _ _ key used session => execKeyProg_used session used key,
    fun _ _ _ _ session => execKSetGo_programmed session, fun _ _ _ _ session => execKSetStop_used session,
    fun _ _ => execIdeIntegrityFailure_active⟩

end Sys2Proof
end

section
/-! Registers: what the host's writes do (O23), and what a read returns of what a write has left (O24). -/
namespace Sys2Proof.Machine

/-! ### Access to BAR0 and BAR2 -/

theorem execRegisterWrite_unaligned {s : State} {b2 : Bool} {off : BitVec 25} {n : Nat} {v : Dword}
    (h : ¬((n = 4 ∨ n = 8) ∧ off.toNat % n = 0)) : execRegisterWrite b2 off n v s = .next s := by
  have refused : (s.awake && (decide (n = 4) || decide (n = 8)) && decide (off.toNat % n = 0)) = false := by
    rw [Bool.and_eq_false_iff, Bool.and_eq_false_iff, decide_eq_false_iff_not, Bool.or_eq_false_iff, decide_eq_false_iff_not, decide_eq_false_iff_not]
    tauto
  simp only [execRegisterWrite, refused, Bool.not_false, if_true]

theorem execRegisterWrite_unassigned {s : State} {off : BitVec 25} {v : Dword} (none : blockAt off.toNat = none) :
    execRegisterWrite false off 4 v s = .next s := by
  simp [execRegisterWrite, none]

theorem execRegisterWrite_4 {s : State} (awake : s.awake = true) {off : BitVec 25} {b : Block} {o : Nat} (aligned : off.toNat % 4 = 0)
    (place : blockAt off.toNat = some (b, o)) (v : Dword) : execRegisterWrite false off 4 v s = .next (s.write32 b o (v.setWidth 32)) := by
  simp [execRegisterWrite, awake, aligned, place]

theorem execRegisterWrite_8 {s : State} (awake : s.awake = true) {off : BitVec 25} {b : Block} {o : Nat} (aligned : off.toNat % 8 = 0)
    (place : blockAt off.toNat = some (b, o)) (v : Dword) : execRegisterWrite false off 8 v s = .next (s.write64 b o v) := by
  simp [execRegisterWrite, awake, aligned, place]

theorem execRegisterWrite_component {s : State} (awake : s.awake = true) (cxl : s.host.pcieOnly = false) {off : BitVec 25}
    (aligned : off.toNat % 4 = 0) (low : off.toNat < 0x8000) (v : Dword) :
    execRegisterWrite true off 4 v s
      = .next (s.modHost (fun h => { h with component := tput h.component (off.toNat / 4) (componentWritten off.toNat (v.setWidth 32)) })) := by
  simp [execRegisterWrite, awake, aligned, State.writeBar2, cxl, low]

theorem execRegisterWrite_pcieOnly {s : State} (pcie : s.host.pcieOnly = true) (off : BitVec 25) (n : Nat) (v : Dword) :
    execRegisterWrite true off n v s = .next s := by
  simp [execRegisterWrite, State.writeBar2, pcie]

/-! ### Registers of job slots and rings -/

theorem blockAt_phase : ∀ n : Fin 16, blockAt (BitVec.ofNat 25 (0x21010 + 0x20 * n.val)).toNat = some (.dlr, 0x1010 + 0x20 * n.val) := by decide

theorem aligned_phase : ∀ n : Fin 16, (BitVec.ofNat 25 (0x21010 + 0x20 * n.val)).toNat % 4 = 0 := by decide

/-- DLR_PHASE is a job slot's register. -/
theorem State.write32_phase (s : State) (n : Fin 16) (w : Word) :
    s.write32 .dlr (0x1010 + 0x20 * n.val) w = s.writeSlot n (fun j => { j with phaseTarget := w }) := by
  fin_cases n <;> rfl

theorem execRegisterWrite_phase {s : State} (awake : s.awake = true) (n : Fin 16) (v : Dword) :
    execRegisterWrite false (BitVec.ofNat 25 (0x21010 + 0x20 * n.val)) 4 v s
      = .next (s.writeSlot n (fun j => { j with phaseTarget := v.setWidth 32 })) := by
  rw [execRegisterWrite_4 awake (aligned_phase n) (blockAt_phase n), State.write32_phase]

theorem blockAt_base : ∀ q : Fin 64, blockAt (BitVec.ofNat 25 (0x10000 + 0x20 * q.val)).toNat = some (.hrc, 0x20 * q.val) := by decide

theorem aligned_base : ∀ q : Fin 64, (BitVec.ofNat 25 (0x10000 + 0x20 * q.val)).toNat % 8 = 0 := by decide

theorem ringAt_base (q : Fin 64) : ringAt (0x20 * q.val) = some (.sq q, 0) := by
  have index : 0x20 * q.val / 0x20 = q.val := by omega
  rw [ringAt, dif_pos (by omega)]
  simp [index]

/-- HRC_SQ_BASE is a submission ring's register. -/
theorem State.write64_base (s : State) (q : Fin 64) (v : Dword) : s.write64 .hrc (0x20 * q.val) v = s.writeRingAddr (.sq q) false v := by
  have read : ∃ x, s.reg64 .hrc (0x20 * q.val) = some x := by
    refine ⟨(s.sq q).base.toNat, ?_⟩
    show s.hrc64 _ = _
    rw [State.hrc64, ringAt_base]
    rfl
  obtain ⟨x, read⟩ := read
  rw [State.write64, read]
  show s.writeHrc64 _ v = _
  rw [State.writeHrc64, ringAt_base]
  rfl

theorem execRegisterWrite_base {s : State} (awake : s.awake = true) {q : Fin 64} (open' : bits (s.sq q).cfg 31 1 = 0 ∨ s.host.attached = false)
    (v : Dword) :
    execRegisterWrite false (BitVec.ofNat 25 (0x10000 + 0x20 * q.val)) 8 v s
      = .next (s.modSq q (fun x => { x with base := v &&& 0xFFFFFFFFFFFFF000 })) := by
  have ready : s.ringOpen (.sq q) = true := by
    rw [← ringEnabled_eq_false_iff] at open'
    obtain off | away := open'
    · simp [State.ringOpen, State.ringCfg, off]
    · simp [State.ringOpen, away]
  rw [execRegisterWrite_8 awake (aligned_base q) (blockAt_base q), State.write64_base, State.writeRingAddr, ready]
  rfl

/-! ### Registers that read as they were written -/

theorem State.readBar0_4 {s : State} {off : BitVec 25} {b : Block} {o : Nat} (aligned : off.toNat % 4 = 0)
    (place : blockAt off.toNat = some (b, o)) : s.readBar0 off.toNat 4 = s.read32 b o := by
  simp [State.readBar0, aligned, place]

/-- A 32-bit register at offset `o` of block `b` reads as it was written, but for the bits outside `mask`, which are 0, and the fields `ones`, of which
0 is kept as 1; the write changes neither memory nor tiles, queue or ports. -/
def KeepsWord (b : Block) (o : Nat) (mask : Word) (ones : List (Nat × Nat)) : Prop :=
  ∀ (s : State) (w : Word), (s.write32 b o w).read32 b o = (oneFor ones (w &&& mask)).toNat ∧ (s.write32 b o w).mem = s.mem
    ∧ (s.write32 b o w).tiles = s.tiles ∧ (s.write32 b o w).pending = s.pending ∧ (s.write32 b o w).ports = s.ports

theorem and_allOnes_word (w : Word) : w &&& 0xFFFFFFFF = w := BitVec.and_allOnes (x := w)

theorem keepsWord_wdogCtl : KeepsWord .dlr 0x40 0xFFC00000 [] := fun _ _ => ⟨rfl, rfl, rfl, rfl, rfl⟩

theorem keepsWord_chanCtl : KeepsWord .dlr 0x44 0xFFFFFFFF [(0, 16)] := fun s w => by
  rw [and_allOnes_word]
  exact ⟨rfl, rfl, rfl, rfl, rfl⟩

theorem keepsWord_recovCtl : KeepsWord .dlr 0x48 0xFFFFFFFF [(16, 16), (0, 16)] := fun s w => by
  rw [and_allOnes_word]
  exact ⟨rfl, rfl, rfl, rfl, rfl⟩

theorem keepsWord_talon_first : KeepsWord .dlr 0x80 0x80000FFF [] := fun s w =>
  ⟨congrArg BitVec.toNat (tget_tput_same 0 s.dealer.talons 0 (w &&& 0x80000FFF)), rfl, rfl, rfl, rfl⟩

theorem keepsWord_talon_last : KeepsWord .dlr 0x9C 0x80000FFF [] := fun s w =>
  ⟨congrArg BitVec.toNat (tget_tput_same 0 s.dealer.talons 7 (w &&& 0x80000FFF)), rfl, rfl, rfl, rfl⟩

theorem keepsWord_trkCtl : KeepsWord .trk 0 0xFFFF0000 [(16, 8)] := fun _ _ => ⟨rfl, rfl, rfl, rfl, rfl⟩

theorem keepsWord_deckCtl : KeepsWord .trk 4 0xFFFF0000 [(16, 16)] := fun _ _ => ⟨rfl, rfl, rfl, rfl, rfl⟩

theorem keepsWord_liveSel : KeepsWord .sts 0x200 0x000F007F [] := fun _ _ => ⟨rfl, rfl, rfl, rfl, rfl⟩

theorem keepsWord_rateDflt : KeepsWord .evr 0x10 0x0000FFFF [(8, 8), (0, 8)] := fun _ _ => ⟨rfl, rfl, rfl, rfl, rfl⟩

theorem keepsWord_rateOvr : KeepsWord .evr 0x5C 0xFFFFFFFF [(0, 8)] := fun s w => by
  rw [and_allOnes_word]
  exact ⟨congrArg BitVec.toNat (tget_tput_same 0 s.tel.rateOvr 15 (oneFor [(0, 8)] w)), rfl, rfl, rfl, rfl⟩

/-- A register narrower than the word keeps the word's low bits. -/
theorem toNat_setWidth_eq_and {n : Nat} (h : n ≤ 32) (w : Word) : (w.setWidth n).toNat = (w &&& BitVec.ofNat 32 (2 ^ n - 1)).toNat := by
  have small : 2 ^ n - 1 < 2 ^ 32 := by
    have := Nat.pow_le_pow_right (n := 2) (by omega) h
    have := Nat.two_pow_pos n
    omega
  rw [BitVec.toNat_setWidth, BitVec.toNat_and, BitVec.toNat_ofNat, Nat.mod_eq_of_lt small, Nat.and_two_pow_sub_one_eq_mod]

theorem keepsWord_codeSel : KeepsWord .evr 0x60 0x0000FFFF [] := fun _ w => ⟨toNat_setWidth_eq_and (by decide) w, rfl, rfl, rfl, rfl⟩

theorem keepsWord_readIndex : KeepsWord .evr 0x80 0x0001FFFF [] := fun _ w => ⟨toNat_setWidth_eq_and (by decide) w, rfl, rfl, rfl, rfl⟩

theorem keepsWord_hwtIndex : KeepsWord .hrc 0xF000 0x0000FFFF [] := fun _ w => ⟨toNat_setWidth_eq_and (by decide) w, rfl, rfl, rfl, rfl⟩

theorem keepsWord_hwtCtl : KeepsWord .hrc 0xF010 0x8000FFFF [(0, 16)] := fun _ _ => ⟨rfl, rfl, rfl, rfl, rfl⟩

/-- A register that keeps its word, through BAR0. -/
theorem KeepsWord.readBar0 {b : Block} {o : Nat} {mask : Word} {ones : List (Nat × Nat)} (keeps : KeepsWord b o mask ones) {s t : State}
    {off : BitVec 25} {v : Dword} (awake : s.awake = true) (aligned : off.toNat % 4 = 0) (place : blockAt off.toNat = some (b, o))
    (written : exec (.registerWrite false off 4 v) s = .next t) :
    t.readBar0 off.toNat 4 = (oneFor ones (v.setWidth 32 &&& mask)).toNat ∧ t.mem = s.mem ∧ t.tiles = s.tiles ∧ t.pending = s.pending
      ∧ t.ports = s.ports := by
  rw [exec_registerWrite, execRegisterWrite_4 awake aligned place, Host.Outcome.next.injEq] at written
  rw [← written, State.readBar0_4 aligned place]
  exact keeps s (v.setWidth 32)

end Sys2Proof.Machine

namespace Sys2Proof
open Machine

/-- Settles O23: each write by the place of its offset. -/
theorem registerWriteCompletes : Obligations.RegisterWriteCompletes :=
  ⟨fun _ _ _ _ _ => execRegisterWrite_unaligned, fun _ _ _ _ => execRegisterWrite_unassigned,
    fun s v awake => execRegisterWrite_4 (off := 0x20044) (b := .dlr) (o := 0x44) awake rfl rfl v,
    fun s n v awake valid => by
      rw [exec_registerWrite, execRegisterWrite_phase awake, State.writeSlot, State.slotHeld, valid]
      rfl,
    fun s n v awake valid => by
      rw [exec_registerWrite, execRegisterWrite_phase awake, State.writeSlot, State.slotHeld, valid]
      rfl,
    fun _ _ v awake ready => execRegisterWrite_base awake ready v, fun _ _ v awake cxl aligned low => execRegisterWrite_component awake cxl aligned low v,
    fun _ off n v pcie => execRegisterWrite_pcieOnly pcie off n v⟩

/-- Settles O24: each of the registers keeps its word. -/
theorem registersReadBack : Obligations.RegistersReadBack := by
  refine ⟨fun s t v off mask ones awake place written => ?_, fun s off n bad => ?_, fun s off n size aligned none => ?_⟩
  · simp only [List.mem_cons, Prod.mk.injEq, List.not_mem_nil, or_false] at place
    rcases place with ⟨rfl, rfl, rfl⟩ | ⟨rfl, rfl, rfl⟩ | ⟨rfl, rfl, rfl⟩ | ⟨rfl, rfl, rfl⟩ | ⟨rfl, rfl, rfl⟩ | ⟨rfl, rfl, rfl⟩ | ⟨rfl, rfl, rfl⟩
      | ⟨rfl, rfl, rfl⟩ | ⟨rfl, rfl, rfl⟩ | ⟨rfl, rfl, rfl⟩ | ⟨rfl, rfl, rfl⟩ | ⟨rfl, rfl, rfl⟩ | ⟨rfl, rfl, rfl⟩ | ⟨rfl, rfl, rfl⟩
    · exact keepsWord_wdogCtl.readBar0 awake rfl rfl written
    · exact keepsWord_chanCtl.readBar0 awake rfl rfl written
    · exact keepsWord_recovCtl.readBar0 awake rfl rfl written
    · exact keepsWord_talon_first.readBar0 awake rfl rfl written
    · exact keepsWord_talon_last.readBar0 awake rfl rfl written
    · exact keepsWord_trkCtl.readBar0 awake rfl rfl written
    · exact keepsWord_deckCtl.readBar0 awake rfl rfl written
    · exact keepsWord_liveSel.readBar0 awake rfl rfl written
    · exact keepsWord_rateDflt.readBar0 awake rfl rfl written
    · exact keepsWord_rateOvr.readBar0 awake rfl rfl written
    · exact keepsWord_codeSel.readBar0 awake rfl rfl written
    · exact keepsWord_readIndex.readBar0 awake rfl rfl written
    · exact keepsWord_hwtIndex.readBar0 awake rfl rfl written
    · exact keepsWord_hwtCtl.readBar0 awake rfl rfl written
  · have refused : ((decide (n = 4) || decide (n = 8)) && decide (off % n = 0)) = false := by
      rw [Bool.and_eq_false_iff, decide_eq_false_iff_not, Bool.or_eq_false_iff, decide_eq_false_iff_not, decide_eq_false_iff_not]
      tauto
    rw [State.readBar0, refused]
    rfl
  · rw [State.readBar0, if_neg (by obtain rfl | rfl := size <;> simp [aligned]), none]

end Sys2Proof
end

section
/-! The package's identity, the reset of the compute complex and the tiles' control registers (R103, R104, R397, R475, R576): O25. -/
namespace Sys2Proof.Machine

/-! ### What a port's state and its own packets leave alone -/

/-- Device memory, the tiles, the queue and the identity registers are the same. -/
structure SameIdentity (s t : State) : Prop where
  mem : t.mem = s.mem
  tiles : t.tiles = s.tiles
  pending : t.pending = s.pending
  train : t.host.train = s.host.train
  role : t.host.role = s.host.role
  package : t.host.package = s.host.package
  epoch : t.host.epoch = s.host.epoch

namespace SameIdentity

variable {s t u : State}

theorem refl (s : State) : SameIdentity s s := ⟨rfl, rfl, rfl, rfl, rfl, rfl, rfl⟩

theorem trans (h : SameIdentity s t) (k : SameIdentity t u) : SameIdentity s u :=
  ⟨k.mem.trans h.mem, k.tiles.trans h.tiles, k.pending.trans h.pending, k.train.trans h.train, k.role.trans h.role, k.package.trans h.package,
    k.epoch.trans h.epoch⟩

theorem foldl {α : Type} {f : State → α → State} (hf : ∀ s a, SameIdentity s (f s a)) (l : List α) (s : State) : SameIdentity s (l.foldl f s) := by
  induction l generalizing s with
  | nil => exact .refl s
  | cons a l ih => exact (hf s a).trans (ih (f s a))

theorem of_traffic (h : SameButTraffic s t) : SameIdentity s t where
  mem := by rw [h.state]
  tiles := by rw [h.state]
  pending := by rw [h.state]
  train := by rw [h.host]
  role := by rw [h.host]
  package := by rw [h.host]
  epoch := by rw [h.host]

theorem modPort (s : State) (p : Nat) (f : Port → Port) : SameIdentity s (s.modPort p f) := ⟨rfl, rfl, rfl, rfl, rfl, rfl, rfl⟩

theorem portEvent (s : State) (code p x : Nat) : SameIdentity s (s.portEvent code p x) := of_traffic (traffic_raise (.refl s) _ _ _)

theorem sendIdentity (s : State) (p : Nat) : SameIdentity s (s.sendIdentity p) := by
  unfold State.sendIdentity
  dsimp only
  split
  · exact modPort s p _
  · exact .refl s

theorem emptyKitty (s : State) (p : Nat) : SameIdentity s (s.emptyKitty p) :=
  (modPort s p _).trans (foldl (fun s _ => modPort s p _) _ _)

theorem breakLoads (s : State) (p : Nat) : SameIdentity s (s.breakLoads p) := by
  refine foldl (fun s n => foldl (fun s i => ?_) _ s) _ s
  dsimp only
  split
  · exact of_traffic (traffic_breakLoad (.refl s) n i 1)
  · exact .refl s

theorem leaveUp (s : State) (p cause : Nat) (st : LinkState) : SameIdentity s (s.leaveUp p cause st) := by
  unfold State.leaveUp
  extract_lets q gone s1 s2 s3 s4
  have h1 : SameIdentity s s1 := (emptyKitty s p).trans (modPort _ p _)
  have h2 : SameIdentity s1 s2 := foldl (fun s k => (modPort s p _).trans (of_traffic (traffic_statJob (.refl _) _ _ _))) _ _
  have h3 : SameIdentity s2 s3 := portEvent _ _ _ _
  have h4 : SameIdentity s3 s4 := foldl (fun s j => of_traffic (traffic_revokeForDiscard (.refl s) p j)) _ _
  exact (((h1.trans h2).trans h3).trans h4).trans (breakLoads s4 p)

theorem portDown (s : State) (p cause : Nat) : SameIdentity s (s.portDown p cause) := by
  unfold State.portDown
  dsimp only
  refine SameIdentity.trans ?_ (modPort _ p _)
  split
  · exact (modPort s p _).trans (leaveUp _ p cause .down)
  · exact modPort s p _

theorem sendOwed (s : State) : SameIdentity s s.sendOwed := by
  refine foldl (fun s n => foldl (fun s i => ?_) _ s) _ s
  dsimp only
  split
  · exact SameIdentity.trans (of_traffic (traffic_modJob (.refl s) fun _ => rfl)) (foldl (fun s e => of_traffic (traffic_loadRequest (.refl s) n i _ _)) _ _)
  · exact .refl s

theorem checkLanes (s : State) (p : Nat) : SameIdentity s (s.checkLanes p) := by
  unfold State.checkLanes
  split
  · exact portDown s p 2
  · exact .refl s

theorem judgePort (s : State) (p : Nat) : SameIdentity s (s.judgePort p) := by
  unfold State.judgePort
  dsimp only
  split
  · split
    · exact (((modPort s p _).trans (portEvent (s.modPort p _) 0x0701 p 0)).trans (checkLanes _ p)).trans (sendOwed _)
    · split
      · exact .refl s
      · exact (modPort s p _).trans (portEvent _ _ _ _)
  · exact .refl s

theorem identityChanged (s : State) : SameIdentity s s.identityChanged := by
  refine foldl (fun s p => ?_) _ s
  dsimp only
  split
  · exact (sendIdentity s p).trans (judgePort _ p)
  · exact sendIdentity s p

end SameIdentity

/-! ### Identity -/

theorem toNat_ofNat_bits {w : Nat} (lo len : Nat) (x : BitVec w) : (BitVec.ofNat len (bits x lo len)).toNat = bits x lo len := by
  rw [BitVec.toNat_ofNat, Nat.mod_eq_of_lt (bits_lt x lo len)]

section Identity
variable {s : State} (awake : s.awake = true) (v : Dword)
include awake

theorem execGlbIdentityWrite_train (noJob : s.anyJob = false) (new : v ≠ s.host.train) :
    ∃ t, execGlbIdentityWrite .train v s = .next t ∧ t.host.train = v ∧ t.host.epoch = s.host.epoch ∧ t.host.package = s.host.package
      ∧ t.mem = s.mem ∧ t.tiles = s.tiles ∧ t.pending = s.pending := by
  have told := SameIdentity.identityChanged (s.modHost (fun h => { h with train := v }))
  refine ⟨_, ?_, told.train, told.epoch, told.package, told.mem, told.tiles, told.pending⟩
  rw [execGlbIdentityWrite, State.fromHost_of_awake awake, State.writeIdentity, noJob, if_neg Bool.false_ne_true]
  exact congrArg _ (if_neg (Ne.symm new))

theorem execGlbIdentityWrite_package (noJob : s.anyJob = false)
    (new : ¬(bits v 30 2 = s.host.role.toNat ∧ bits v 0 12 = s.host.package.toNat)) :
    ∃ t, execGlbIdentityWrite .package v s = .next t ∧ t.host.role.toNat = bits v 30 2 ∧ t.host.package.toNat = bits v 0 12
      ∧ t.host.epoch = s.host.epoch + 1 ∧ t.host.train = s.host.train ∧ t.mem = s.mem ∧ t.tiles = s.tiles ∧ t.pending = s.pending := by
  have told := SameIdentity.identityChanged (s.modHost (fun h => { h with
    role := BitVec.ofNat 2 (bits v 30 2), package := BitVec.ofNat 12 (bits v 0 12), epoch := h.epoch + 1 }))
  refine ⟨_, ?_, ?_, ?_, told.epoch, told.train, told.mem, told.tiles, told.pending⟩
  · rw [execGlbIdentityWrite, State.fromHost_of_awake awake]
    unfold State.writeIdentity
    rw [if_neg (by simp [noJob])]
    refine congrArg _ (if_neg fun same => new ?_)
    rw [Bool.and_eq_true, decide_eq_true_eq, decide_eq_true_eq] at same
    rw [same.1, same.2, toNat_ofNat_bits, toNat_ofNat_bits]
    exact ⟨rfl, rfl⟩
  · rw [told.role, State.modHost_host, toNat_ofNat_bits]
  · rw [told.package, State.modHost_host, toNat_ofNat_bits]

theorem execGlbIdentityWrite_job (job : s.anyJob = true) (r : IdentityReg) :
    execGlbIdentityWrite r v s = .next (s.modHost (fun h => { h with glbReject := true })) := by
  rw [execGlbIdentityWrite, State.fromHost_of_awake awake]
  exact congrArg _ (if_pos job)

end Identity

/-! ### Reset of the compute complex -/

theorem execCcReset_idle {s : State} (awake : s.awake = true) (idle : s.host.ccBusy = false) :
    ∃ t, execCcReset s = .next t ∧ t.host.ccBusy = true ∧ t.anyJob = false ∧ t.objs = [] ∧ t.trk.locals = [] ∧ t.trk.shares = []
      ∧ (∀ L < 128, (t.tile L).streams = [] ∧ (t.tile L).eps = [] ∧ (t.tile L).banks = [] ∧ (t.tile L).finQueue = [])
      ∧ t.flash = s.flash ∧ t.fuses = s.fuses ∧ t.pending = s.pending := by
  obtain ⟨reset, -, -, pending, flash, fuses, -⟩ := s.nextOpen.ccReset_spec (s.openBelow (2 ^ 16))
  refine ⟨_, by rw [execCcReset, if_neg (by simp [idle, awake])], ?_⟩
  rw [State.ccResetOpen]
  obtain ⟨locals, shares, -⟩ := reset.trk
  refine ⟨reset.ccBusy, reset.anyJob, reset.objs, locals, shares, fun L _ => ?_, flash, fuses, pending⟩
  obtain ⟨clock, fenced, tile⟩ := reset.tiles (State.tileIx _ L)
  rw [State.tile, tile]
  exact ⟨rfl, rfl, rfl, rfl⟩

/-! ### Control of a tile's array -/

/-- A change of one tile is what it is on that tile. -/
theorem State.modTileAt_congr {s : State} {ix : Nat} {f g : Tile → Tile} (h : f (s.tileAt ix) = g (s.tileAt ix)) :
    s.modTileAt ix f = s.modTileAt ix g := by
  unfold State.tileAt at h
  unfold State.modTileAt tmod
  rw [h]

section ArrCtl
variable {s : State} (awake : s.awake = true) {k : Fin 4} {p : Fin 34} (v : Word)
include awake

theorem execArrCtlWrite_free (free : s.tileHeld k p = false) :
    execArrCtlWrite k p v s = .next (s.modTileAt (k.val * 34 + p.val) (fun x => x.writeArrCtl v)) := by
  rw [execArrCtlWrite, State.fromHost_of_awake awake, State.writeTile, if_neg (by simp [free])]

theorem execArrCtlWrite_good (free : s.tileHeld k p = false) (good : (s.tileAt (k.val * 34 + p.val)).arrCtlBad v = false) :
    execArrCtlWrite k p v s = .next (s.modTileAt (k.val * 34 + p.val) (fun x => { x with arrCtl := v &&& 0xCFFFFFFE })) := by
  rw [execArrCtlWrite_free awake v free]
  exact congrArg _ (State.modTileAt_congr (if_neg (by rw [good]; exact Bool.false_ne_true)))

theorem execArrCtlWrite_bad (free : s.tileHeld k p = false) (bad : (s.tileAt (k.val * 34 + p.val)).arrCtlBad v = true) :
    execArrCtlWrite k p v s = .next (s.modTileAt (k.val * 34 + p.val) (fun x => { x with arrReject := true })) := by
  rw [execArrCtlWrite_free awake v free]
  exact congrArg _ (State.modTileAt_congr (if_pos bad))

theorem execArrCtlWrite_held (held : s.tileHeld k p = true) :
    execArrCtlWrite k p v s = .next (s.modHost (fun h => { h with glbReject := true })) := by
  rw [execArrCtlWrite, State.fromHost_of_awake awake, State.writeTile, if_pos held]

end ArrCtl

end Sys2Proof.Machine

namespace Sys2Proof
open Machine

/-- Settles O25: a change of the identity is told on the links and leaves the host's side, the tiles and
memory; the reset of the compute complex by what it is known to leave; a tile's control by its checks. -/
theorem identityAndResetComplete : Obligations.IdentityAndResetComplete :=
  ⟨fun _ v awake noJob new => execGlbIdentityWrite_train awake v noJob new,
    fun _ v awake noJob new => execGlbIdentityWrite_package awake v noJob new,
    fun _ r v awake job => execGlbIdentityWrite_job awake v job r,
    fun _ awake idle => execCcReset_idle awake idle,
    fun _ _ => rfl,
    fun _ _ _ v awake free good => execArrCtlWrite_good awake v free good,
    fun _ _ _ v awake free bad => execArrCtlWrite_bad awake v free bad,
    fun _ _ _ v awake held => execArrCtlWrite_held awake v held⟩

end Sys2Proof
end

section
/-! The GDDR7 controllers: training, temperature, thresholds and margining. -/
namespace Sys2Proof.Machine

section Training
variable {s : State} {n : Fin 20}

/-- The end of training clears what the controller holds and leaves the other controllers. -/
theorem execGddrTrained_untrained (released : s.pkg.gddrResetN = true) (untrained : (s.gd n).trained = false) (able : (s.gd n).trainFail = false) :
    ∃ t, execGddrTrained n s = .next t ∧ t.gd n = { s.gd n with trained := true } ∧ (∀ m : Fin 20, m ≠ n → t.gd m = s.gd m)
      ∧ (∀ a, t.memByte a = if isGddr a = true ∧ controllerOf a = n.val then 0 else s.memByte a) ∧ t.host = s.host ∧ t.tiles = s.tiles
      ∧ t.pending = s.pending := by
  refine ⟨_, if_neg (by simp [released, untrained, able]), ?_, fun m other => ?_, fun a => ?_, rfl, rfl, rfl⟩
  · exact (State.gd_modGd ..).trans (if_pos rfl)
  · exact (State.gd_modGd ..).trans (if_neg fun same => other (Fin.ext same))
  · refine (tget_filter 0 (fun a => !(isGddr a && decide (controllerOf a = n.val))) s.mem a).trans ?_
    by_cases mine : isGddr a = true ∧ controllerOf a = n.val
    · rw [if_pos mine, if_neg (by simp [mine])]
    · rw [if_neg mine, if_pos (by simpa [imp_iff_not_or] using mine)]
      rfl

theorem execGddrTrainingFailed_last (released : s.pkg.gddrResetN = true) (untrained : (s.gd n).trained = false)
    (able : (s.gd n).trainFail = false) (last : 2 ≤ (s.gd n).attempts) :
    execGddrTrainingFailed n s
      = .next (((s.modGd n (fun g => { g with attempts := 3, trainFail := true })).raise 0x0620 0 (n.val * 2 ^ 48)).degrade 3) := by
  rw [execGddrTrainingFailed, if_neg (by simp [released, untrained, able]), if_neg (Nat.not_lt.2 last)]

theorem training_in_reset (reset : s.pkg.gddrResetN = false) : execGddrTrained n s = .next s ∧ execGddrTrainingFailed n s = .next s :=
  ⟨if_pos (by simp [reset]), if_pos (by simp [reset])⟩

end Training

/-! ### Temperature -/

/-- A temperature below every threshold calls for no throttling. -/
theorem Gd.directStep_cool {g : Gd} {c : Nat} (cool : ∀ i < 4, c < g.threshold (i + 1)) : g.directStep c = 0 := by
  have h1 := cool 0 (by decide)
  have h2 := cool 1 (by decide)
  have h3 := cool 2 (by decide)
  have h4 := cool 3 (by decide)
  rw [directStep, if_neg (Nat.not_le.2 h4), if_neg (Nat.not_le.2 h3), if_neg (Nat.not_le.2 h2), if_neg (Nat.not_le.2 h1)]

theorem State.setThrottleStep_same {s : State} {n step : Nat} (same : (s.gd n).thrStep = step) : s.setThrottleStep n step = s := if_pos same

theorem execGddrTempPoll_cool {s : State} {n : Fin 20} {c : BitVec 8} (run : s.pkg.inReset = false) (unthrottled : (s.gd n).thrStep = 0)
    (sound : (s.gd n).tempFail = false) (cool : ∀ i < 4, c.toNat < (s.gd n).threshold (i + 1)) :
    execGddrTempPoll n (some c) s = .next (s.modGd n (fun g => { g with tempC := c, badReads := 0, tempFail := false })) := by
  rw [execGddrTempPoll, if_neg (by simp [run])]
  dsimp only
  rw [if_neg (by simp [sound]), unthrottled, Gd.directStep_cool cool]
  exact congrArg _ (State.setThrottleStep_same ((congrArg Gd.thrStep ((State.gd_modGd ..).trans (if_pos rfl))).trans unthrottled))

/-! ### Margining -/

/-- The controllers of a stack are those whose number says so. -/
theorem mem_gdsOf {n m : Nat} (hn : n < 20) (h : m ∈ gdsOf (n / 5)) : m < 20 ∧ m / 5 = n / 5 := by
  have := mem_upFrom.1 h
  omega

section Margining
variable {s : State} {n : Fin 20}

theorem State.startMargining_idle (idle : s.stackBusy (n.val / 5) = false) (unthrottled : ∀ m < 20, m / 5 = n.val / 5 → (s.gd m).thrStep = 0) :
    s.startMargining n = (s.writePatterns n).modGd n (fun g => { g with marginBusy := true }) := by
  have none : (gdsOf (n.val / 5)).any (fun i => (s.gd i).thrStep ≠ 0) = false := by
    refine List.any_eq_false.2 fun m hm => ?_
    obtain ⟨small, stack⟩ := mem_gdsOf n.isLt hm
    simp [unthrottled m small stack]
  exact if_neg (by rw [idle, none]; decide)

theorem State.startMargining_busy (busy : s.stackBusy (n.val / 5) = true) :
    s.startMargining n = s.modGd n (fun g => { g with marginDone := true, marginResult := 3 }) := if_pos (by rw [busy]; rfl)

/-- Margining whose every pin passes ends with result 0. -/
theorem execMarginingDone_pass {ws : List Word} (len : ws.length = 32) (busy : (s.gd n).marginBusy = true)
    (pass : ∀ w ∈ ws, (s.gd n).marginPass (cappedMargins w) = true) :
    execMarginingDone n ws s = .next (s.modGd n (fun g => { g with
      marginBusy := false, marginDone := true, marginResult := 0, marginDq := (List.range 32).map (fun p => (p, cappedMargins (ws.getD p 0))) })) := by
  have all : ((List.range 32).map (fun p => (p, cappedMargins (ws.getD p 0)))).all (fun e => (s.gd n).marginPass e.2) = true := by
    refine List.all_eq_true.2 fun e he => ?_
    obtain ⟨p, hp, rfl⟩ := List.mem_map.1 he
    have small : p < ws.length := len ▸ List.mem_range.1 hp
    rw [List.getD_eq_getElem _ _ small]
    exact pass _ (List.getElem_mem small)
  unfold execMarginingDone
  rw [if_neg (by simp [busy])]
  dsimp only
  rw [if_pos all]
  rfl

end Margining

theorem State.writeGdThr_good {s : State} {n : Nat} {v : Word} (h0 : bits v 0 8 ≤ 85) (h1 : bits v 8 8 ≤ 95) (h2 : bits v 16 8 ≤ 100)
    (h3 : bits v 24 8 ≤ 105) (h01 : bits v 0 8 < bits v 8 8) (h12 : bits v 8 8 < bits v 16 8) (h23 : bits v 16 8 < bits v 24 8) :
    s.writeGdThr n v = s.modGd n (fun g => { g with thr := v }) :=
  if_pos (by simp [h0, h1, h2, h3, h01, h12, h23])

end Sys2Proof.Machine

namespace Sys2Proof
open Machine

/-- Settles O26: training clears the controller's own bytes; a temperature below every threshold asks for no throttling; a write of
thresholds and the start of margining by their checks. -/
theorem gddrCompletes : Obligations.GddrCompletes := by
  refine ⟨fun _ _ released untrained able => execGddrTrained_untrained released untrained able,
    fun _ _ released untrained able last => execGddrTrainingFailed_last released untrained able last,
    fun _ _ reset => training_in_reset reset,
    fun s n c run unthrottled sound h0 h1 h2 h3 => execGddrTempPoll_cool run unthrottled sound fun i hi => ?_,
    fun s n i run trained => if_pos (by simp [run, trained]),
    fun s n awake => congrArg _ (fromHost_awake _ awake),
    fun s n v awake h0 h1 h2 h3 h01 h12 h23 =>
      congrArg _ ((fromHost_awake _ awake).trans (State.writeGdThr_good h0 h1 h2 h3 h01 h12 h23)),
    fun s n awake idle unthrottled => by
      rw [exec_marginingStart, execMarginingStart, fromHost_awake _ awake, State.startMargining_idle idle unthrottled],
    fun s n awake busy => congrArg _ ((fromHost_awake _ awake).trans (State.startMargining_busy busy)),
    fun s n ws len busy pass => execMarginingDone_pass len busy pass⟩
  match i, hi with
  | 0, _ => exact h0
  | 1, _ => exact h1
  | 2, _ => exact h2
  | 3, _ => exact h3

end Sys2Proof
end

section
/-! Scrubbing and a stack's memory layout. -/
namespace Sys2Proof.Machine

/-- What ranges zeroed leave in memory. -/
theorem State.memByte_zeroRanges (s : State) (rs : List (Nat × Nat)) (a : Nat) :
    (s.zeroRanges rs).memByte a = if rs.any (fun r => decide (r.1 ≤ a) && decide (a < r.2)) then 0 else s.memByte a := by
  have fold : ∀ u : State, (rs.foldl State.zeroRange u).memByte a
      = if rs.any (fun r => decide (r.1 ≤ a) && decide (a < r.2)) then 0 else u.memByte a := by
    induction rs with
    | nil => exact fun u => rfl
    | cons r rs ih =>
      intro u
      rw [List.foldl_cons, ih, State.memByte_zeroRange, List.any_cons, ← ite_or]
      congr 1
      simp [or_comm]
  refine (fold _).trans ?_
  rw [State.snoopHost_eq]
  rfl

/-- A line without poison and without a flaw is read without an error. -/
theorem State.readLine_clean {s : State} {slot : Option Nat} {line : Nat} (gddr : isGddr (line * 64) = true) (sound : s.isPoisoned line = false)
    (flawless : tfind s.flaws line = none) : s.readLine slot line = (s.touchChunk line, false) := by
  unfold State.readLine
  rw [if_pos gddr]
  refine (if_neg (by rw [show (s.touchChunk line).isPoisoned line = s.isPoisoned line from rfl, sound]; decide)).trans ?_
  unfold State.meetFlaw
  rw [show (s.touchChunk line).flaws = s.flaws from rfl, flawless]

/-- What the scrubber reads is GDDR7 memory. -/
theorem isGddr_scrubAddr (n p : Nat) : isGddr (scrubAddr n p / 64 * 64) = true := by
  unfold isGddr scrubAddr gddrOf
  refine decide_eq_true ?_
  dsimp only
  have : gddrBase = 64 * (gddrBase / 64) := by decide
  omega

theorem execScrubVisit_clean {s : State} {n : Fin 20} (run : s.pkg.inReset = false) (on : (s.gd n).scrub.getLsbD 31 = true)
    (trained : (s.gd n).trained = true) (sound : s.isPoisoned (scrubAddr n (s.gd n).scrubPos / 64) = false)
    (flawless : tfind s.flaws (scrubAddr n (s.gd n).scrubPos / 64) = none) :
    execScrubVisit n .clean false s = .next ((s.touchChunk (scrubAddr n (s.gd n).scrubPos / 64)).modGd n
      (fun g => { g with scrubPos := (g.scrubPos + 1) % 62914560 })) := by
  have bit : nbit (s.gd n).scrub.toNat 31 = true := on
  unfold execScrubVisit
  rw [if_neg (by simp [run, trained, bit])]
  dsimp only
  rw [State.readLine_clean (isGddr_scrubAddr _ _) sound flawless]
  rfl

/-! ### The layout -/

section Layout
variable {s : State} {k : Nat} {v : Word}

theorem State.writeMemCfg_idle (idle : s.stackBusy k = false) (fits : bits v 0 5 ≤ 16) (plain : v.getLsbD 30 = false) :
    s.writeMemCfg k v = s.modStack k (fun x => { x with memBusy := some (bits v 0 5) }) := by
  have bit : nbit v.toNat 30 = false := plain
  unfold State.writeMemCfg
  rw [bit, if_neg Bool.false_ne_true]
  exact if_neg (by simp [idle, fits])

theorem State.writeGddrCfg_idle (idle : s.stackBusy k = false) (fits : bits v 0 5 ≤ 16) (plain : v.getLsbD 30 = false)
    (free : (s.stack k).gddrBusy = none) (new : bits v 0 5 ≠ (s.stack k).cut512) (unheld : (s.stack k).cutHeld = false) :
    s.writeGddrCfg k v = s.modStack k (fun x => { x with gddrBusy := some (bits v 0 5), cutHeld := false, cutHeldStep := 0 }) := by
  have bit : nbit v.toNat 30 = false := plain
  unfold State.writeGddrCfg
  rw [bit, if_neg Bool.false_ne_true]
  dsimp only
  rw [if_neg (by simp [idle, fits]), free, if_neg (by exact Ne.symm new), unheld, if_neg Bool.false_ne_true]

/-- Clearing a stack's reject bits does not free the stack. -/
theorem State.stackBusy_modStack (f : Stack → Stack) (j : Nat) : (s.modStack k f).stackBusy j = s.stackBusy j := rfl

theorem State.writeMemCfg_busy (busy : s.stackBusy k = true) :
    s.writeMemCfg k v = s.modStack k (fun x => { x with memReject := true }) := by
  unfold State.writeMemCfg
  dsimp only
  refine if_pos ?_
  split
  · rw [State.stackBusy_modStack, busy]; rfl
  · rw [busy]; rfl

theorem State.writeGddrCfg_busy (busy : s.stackBusy k = true) :
    s.writeGddrCfg k v = s.modStack k (fun x => { x with gddrReject := true }) := by
  unfold State.writeGddrCfg
  dsimp only
  refine if_pos ?_
  split
  · rw [State.stackBusy_modStack, busy]; rfl
  · rw [busy]; rfl

end Layout

theorem Zeroed.stack {s t : State} (h : Zeroed s t) (k : Nat) : t.stack k = s.stack k := by rw [h.state]; rfl

theorem execFarCacheResizeDone_busy {s : State} {k : Fin 4} {f : Nat} (busy : (s.stack k).memBusy = some f) :
    execFarCacheResizeDone k s = .next (s.modStack k (fun x => { x with far4m := f, memBusy := none, far := [] })) := by
  rw [execFarCacheResizeDone, busy]

/-- The new layout takes the cut region's bytes from the slices' end, or gives them back: they are zero either way. -/
theorem execGddrLayoutDone_busy {s : State} {k : Fin 4} {c : Nat} (busy : (s.stack k).gddrBusy = some c) :
    ∃ t, execGddrLayoutDone k s = .next t ∧ (t.stack k).cut512 = c ∧ (t.stack k).gddrBusy = none
      ∧ (∀ a, (a < gddrOf k + min (s.gsliceBytes k) (t.gsliceBytes k) ∨ gddrOf k + 19136 * mib ≤ a) → t.memByte a = s.memByte a)
      ∧ (∀ a, gddrOf k + min (s.gsliceBytes k) (t.gsliceBytes k) ≤ a → a < gddrOf k + 19136 * mib → t.memByte a = 0)
      ∧ t.tiles = s.tiles ∧ t.pending = s.pending := by
  have zeroed := fun rs => zeroed_zeroRanges (s.modStack k (fun x => { x with cut512 := c, gddrBusy := none })) rs
  have stks : ∀ rs, ((s.modStack k (fun x => { x with cut512 := c, gddrBusy := none })).zeroRanges rs).stack k
      = { s.stack k with cut512 := c, gddrBusy := none } := fun rs =>
    ((zeroed rs).stack k).trans (State.stack_modStack_same ..)
  have slice : ∀ rs, ((s.modStack k (fun x => { x with cut512 := c, gddrBusy := none })).zeroRanges rs).gsliceBytes k
      = (s.modStack k (fun x => { x with cut512 := c, gddrBusy := none })).gsliceBytes k := fun rs => by
    rw [State.gsliceBytes, stks, State.gsliceBytes, State.stack_modStack_same]
  refine ⟨_, by rw [execGddrLayoutDone, busy], by rw [stks], by rw [stks], fun a outside => ?_, fun a low high => ?_,
    by rw [(zeroed _).state]; rfl, by rw [(zeroed _).state]; rfl⟩
  · rw [slice] at outside
    rw [State.memByte_zeroRanges, if_neg]
    · rfl
    · simp only [List.any_cons, List.any_nil, Bool.or_false, Bool.and_eq_true, decide_eq_true_eq]
      omega
  · rw [slice] at low
    rw [State.memByte_zeroRanges, if_pos]
    simp only [List.any_cons, List.any_nil, Bool.or_false, Bool.and_eq_true, decide_eq_true_eq]
    exact ⟨low, high⟩

end Sys2Proof.Machine

namespace Sys2Proof
open Machine

/-- Settles O27: a clean visit of the scrubber touches its chunk; a write of the layout by its checks; the new layout's cut region reads
zero. -/
theorem layoutCompletes : Obligations.LayoutCompletes :=
  ⟨fun _ _ run on trained sound flawless => execScrubVisit_clean run on trained sound flawless,
    fun _ _ _ awake idle fits plain => congrArg _ ((fromHost_awake _ awake).trans (State.writeMemCfg_idle idle fits plain)),
    fun _ _ _ busy => execFarCacheResizeDone_busy busy,
    fun _ _ _ awake idle fits plain free new unheld =>
      congrArg _ ((fromHost_awake _ awake).trans (State.writeGddrCfg_idle idle fits plain free new unheld)),
    fun _ _ _ awake busy => ⟨congrArg _ ((fromHost_awake _ awake).trans (State.writeMemCfg_busy busy)),
      congrArg _ ((fromHost_awake _ awake).trans (State.writeGddrCfg_busy busy))⟩,
    fun _ _ _ busy => execGddrLayoutDone_busy busy⟩

end Sys2Proof
end

section
/-! Lines of device memory that are read and written: SameButLines, which every access of a line keeps, and the host's CXL.mem accesses. -/
namespace Sys2Proof.Machine

/-- From `s` to `t` only what an access of a line leaves changes: poison, flaws, caches and controllers, and what records leave. -/
structure SameButLines (s t : State) : Prop where
  state : t = { s with
      hostMem := t.hostMem, dealer := t.dealer, host := t.host, ports := t.ports, tel := t.tel, noc := t.noc, out := t.out,
      free := t.free, poison := t.poison, flaws := t.flaws, chunkCache := t.chunkCache, gds := t.gds, stks := t.stks }
  host : t.host = { s.host with
      cqs := t.host.cqs, eq := t.host.eq, buffer := t.host.buffer, owed := t.host.owed, degraded := t.host.degraded,
      heldEvents := t.host.heldEvents, msixDue := t.host.msixDue, msixPending := t.host.msixPending, evSeq := t.host.evSeq }
  dealer : t.dealer = { s.dealer with jobs := t.dealer.jobs }
  job : ∀ n, t.job n = { s.job n with loads := (t.job n).loads, statistics := (t.job n).statistics, satRaised := (t.job n).satRaised }
  stack : ∀ k, t.stack k = { s.stack k with far := (t.stack k).far }

namespace SameButLines

variable {s t u : State}

theorem refl (s : State) : SameButLines s s := by constructor <;> intros <;> rfl

theorem trans (h : SameButLines s t) (k : SameButLines t u) : SameButLines s u where
  state := by rw [k.state, h.state]
  host := by rw [k.host, h.host]
  dealer := by rw [k.dealer, h.dealer]
  job n := by rw [k.job n, h.job n]
  stack i := by rw [k.stack i, h.stack i]

theorem foldl {α : Type} {f : State → α → State} (hf : ∀ v a, SameButLines v (f v a)) (l : List α) : ∀ s, SameButLines s (l.foldl f s) := by
  induction l with
  | nil => exact refl
  | cons a l ih => exact fun s => (hf s a).trans (ih _)

theorem of_traffic (h : SameButTraffic s t) : SameButLines s t where
  state := by rw [h.state]
  host := by rw [h.host]
  dealer := h.dealer
  job := h.job
  stack k := by rw [State.stack, h.state]; rfl

/-- Poison, flaws, the chunk caches and the controllers are of the lines. -/
theorem lines (s : State) (poison flaws chunkCache gds) : SameButLines s { s with poison, flaws, chunkCache, gds } := by
  constructor <;> intros <;> rfl

/-- The far cache of a stack is of the lines. -/
theorem far (s : State) (k : Nat) (far : List FarLine) : SameButLines s (s.modStack k (fun x => { x with far })) := by
  constructor
  case stack =>
    intro j
    rw [State.stack_modStack]
    split
    · next e => rw [e]
    · rfl
  all_goals intros; rfl

theorem raise (s : State) (code job detail : Nat) : SameButLines s (s.raise code job detail) :=
  of_traffic (traffic_raise (.refl s) code job detail)

theorem stat (s : State) (slot idx n : Nat) : SameButLines s (s.stat slot idx n) := of_traffic (traffic_stat (.refl s) slot idx n)

theorem statFor (s : State) (slot : Option Nat) (i : Nat) : SameButLines s (s.statFor slot i) := by
  unfold State.statFor
  split
  · exact stat s _ i 1
  · exact refl s

theorem degrade (s : State) (reason : Nat) : SameButLines s (s.degrade reason) :=
  trans (t := s.modHost fun h => { h with degraded := true }) (by constructor <;> intros <;> rfl) (raise _ _ _ _)

theorem setPoison (s : State) (line : Nat) : SameButLines s (s.setPoison line) := by
  unfold State.setPoison State.watchPoison
  split
  · exact (lines s _ _ _ _).trans (degrade _ 4)
  · exact lines s _ _ _ _

theorem corrected (s : State) (slot : Option Nat) (line : Nat) : SameButLines s (s.corrected slot line) := by
  unfold State.corrected
  dsimp only
  split
  · exact ((lines s _ _ _ _).trans (raise _ _ _ _)).trans (statFor _ slot 9)
  · exact ((lines s _ _ _ _).trans (raise _ _ _ _)).trans (statFor _ slot 9)

theorem uncorrected (s : State) (slot : Option Nat) (line : Nat) : SameButLines s (s.uncorrected slot line) := by
  unfold State.uncorrected
  extract_lets a s1 s2
  have h : SameButLines s s2 := by
    dsimp only [s2, s1]
    split
    · exact lines s _ _ _ _
    · exact lines s _ _ _ _
  exact ((h.trans (raise s2 _ _ _)).trans (setPoison _ line)).trans (statFor _ slot 10)

theorem meetFlaw (s : State) (slot : Option Nat) (line : Nat) : SameButLines s (s.meetFlaw slot line).1 := by
  unfold State.meetFlaw
  split
  · exact refl s
  · split
    · dsimp only
      split
      · exact corrected s slot line
      · exact refl s
    · exact uncorrected s slot line

theorem touchChunk (s : State) (line : Nat) : SameButLines s (s.touchChunk line) := lines s _ _ _ _

theorem touchChunk_gddr (s : State) (line : Nat) : SameButLines s (if isGddr (line * 64) then s.touchChunk line else s) := by
  split
  · exact touchChunk s line
  · exact refl s

theorem readLine (s : State) (slot : Option Nat) (line : Nat) : SameButLines s (s.readLine slot line).1 := by
  unfold State.readLine
  extract_lets s1
  have h : SameButLines s s1 := touchChunk_gddr s line
  split
  · exact (h.trans (statFor s1 slot 10)).trans (raise _ _ _ _)
  · exact h.trans (meetFlaw s1 slot line)

theorem writeLine (s : State) (slot : Option Nat) (line : Nat) (whole : Bool) : SameButLines s (s.writeLine slot line whole) := by
  unfold State.writeLine
  extract_lets gddr s1 s2
  have h1 : SameButLines s s1 := touchChunk_gddr s line
  have h2 : SameButLines s1 s2 := by
    dsimp only [s2]
    split
    · exact corrected s1 slot line
    · exact refl s1
  have h := h1.trans h2
  split
  · exact h.trans (lines s2 _ _ _ _)
  · split
    · exact h.trans (meetFlaw s2 slot line)
    · exact h

theorem writeLines (s : State) (slot : Option Nat) (cells : List Host.Cell) : SameButLines s (s.writeLines slot cells) :=
  foldl (fun s l => writeLine s slot l _) _ s

theorem gddrAccess (s : State) (slot : Option Nat) (line : Nat) (write bypass : Bool) : SameButLines s (s.gddrAccess slot line write bypass) := by
  unfold State.gddrAccess
  extract_lets a k st r s1
  have h : SameButLines s s1 := far s k r.1
  split
  · exact h
  · extract_lets s2
    have h2 : SameButLines s s2 := h.trans (stat s1 _ _ _)
    split
    · exact h2
    · exact h2.trans (stat s2 _ _ _)

theorem touchRead (s : State) (slot : Option Nat) (bypass : Bool) (line : Nat) : SameButLines s (s.touchRead slot bypass line).1 := by
  unfold State.touchRead
  dsimp only
  split
  · exact (gddrAccess s slot line false bypass).trans (readLine _ slot line)
  · exact readLine s slot line

theorem touchReads (slot : Option Nat) (bypass : Bool) (ls : List Nat) : ∀ s, SameButLines s (Machine.touchReads slot bypass ls s).1 := by
  induction ls with
  | nil => exact refl
  | cons l r ih => exact fun s => (touchRead s slot bypass l).trans (ih _)

/-- A logical tile stands for the physical one that it stood for. -/
theorem tileIx (h : SameButLines s t) (L : Nat) : t.tileIx L = s.tileIx L :=
  State.tileIx_congr (fun k => by rw [h.stack k]) (by rw [h.state]) L

theorem mem (h : SameButLines s t) : t.mem = s.mem := by rw [h.state]
theorem tiles (h : SameButLines s t) : t.tiles = s.tiles := by rw [h.state]
theorem objs (h : SameButLines s t) : t.objs = s.objs := by rw [h.state]
theorem pending (h : SameButLines s t) : t.pending = s.pending := by rw [h.state]

end SameButLines

/-! ### Lines without a flaw -/

/-- Where no line has a flaw, a write of a line touches only the caches and clears poison. -/
theorem State.writeLine_flawless {s : State} (flawless : s.flaws = []) (slot : Option Nat) (line : Nat) (whole : Bool) :
    s.writeLine slot line whole
      = { s with chunkCache := (s.writeLine slot line whole).chunkCache, poison := (s.writeLine slot line whole).poison } := by
  unfold State.writeLine
  extract_lets gddr s1 s2
  obtain ⟨c, h1⟩ : ∃ c, s1 = { s with chunkCache := c } := by
    dsimp only [s1]
    split
    · exact ⟨_, rfl⟩
    · exact ⟨_, rfl⟩
  have none : tfind s1.flaws line = none := by
    rw [h1]
    exact congrArg (tfind · line) flawless
  have h2 : s2 = s1 := if_neg (by simp [none])
  have met : s1.meetFlaw slot line = (s1, false) := by rw [State.meetFlaw, none]
  have gone : tdel s1.flaws line = s.flaws := by rw [h1]; simp [flawless, tdel]
  rw [h2, met, gone, ite_self]
  clear_value s2 s1
  subst h2 h1
  split
  · rfl
  · rfl

theorem State.writeLines_flawless {s : State} (flawless : s.flaws = []) (slot : Option Nat) (cells : List Host.Cell) :
    s.writeLines slot cells = { s with chunkCache := (s.writeLines slot cells).chunkCache, poison := (s.writeLines slot cells).poison } := by
  unfold State.writeLines
  refine List.foldlRecOn (motive := fun u : State => u = { s with chunkCache := u.chunkCache, poison := u.poison }) _ _ rfl fun u same l _ => ?_
  have none : u.flaws = [] := by rw [same]; exact flawless
  rw [State.writeLine_flawless none, same]

/-! ### Bytes stored at consecutive addresses -/

theorem Mem.byte_setCells_cellsAt (bs : List Byte) (base : Nat) (m : Mem) (a : Nat) :
    Mem.byte (Mem.setCells m (cellsAt base bs)) a
      = if base ≤ a ∧ a < base + bs.length then bs.getD (a - base) 0 else Mem.byte m a := by
  induction bs generalizing base m with
  | nil => exact (if_neg (by simp)).symm
  | cons b r ih =>
    rw [cellsAt, Mem.setCells, ih, Mem.byte_set, List.length_cons]
    by_cases here : a = base
    · rw [if_neg (by omega), if_pos here, if_pos (by omega), here, Nat.sub_self]
      rfl
    · rw [if_neg here]
      by_cases within : base + 1 ≤ a ∧ a < base + 1 + r.length
      · rw [if_pos within, if_pos (by omega), show a - base = a - (base + 1) + 1 by omega, List.getD_cons_succ]
      · rw [if_neg within, if_neg (by omega)]

/-! ### The host's accesses -/

/-- The stack and the offset of an access in its stack's part of the host-managed device memory. -/
theorem hdm_split {x k o : Nat} (h : x = k * gddrStackBytes + o) (low : o < gddrStackBytes) : hdmStack x = k ∧ hdmOffset x = o := by
  have pos : 0 < gddrStackBytes := by decide
  subst h
  constructor
  · rw [hdmStack, Nat.mul_comm, Nat.mul_add_div pos, Nat.div_eq_of_lt low, Nat.add_zero]
  · rw [hdmOffset, Nat.mul_comm, Nat.mul_add_mod, Nat.mod_eq_of_lt low]

theorem isGddr_line_gddrOf (k o : Nat) : isGddr ((gddrOf k + o) / 64 * 64) = true := by
  unfold isGddr gddrOf
  refine decide_eq_true ?_
  have : gddrBase = 64 * (gddrBase / 64) := by decide
  omega

theorem foldl_const_line {f : Nat → Nat} {l : Nat} (n : Nat) (h : ∀ i < n + 1, f i = l) : ((List.range (n + 1)).map f).dedup = [l] := by
  have all : (List.range (n + 1)).map f = List.replicate (n + 1) l :=
    List.eq_replicate_iff.2 ⟨by simp, fun x hx => by
      obtain ⟨i, hi, rfl⟩ := List.mem_map.1 hx
      exact h i (List.mem_range.1 hi)⟩
  rw [all]
  exact List.replicate_dedup (Nat.succ_ne_zero n)

theorem gddrOf_line (k o : Nat) : (gddrOf k + o) % 64 = o % 64 := by
  unfold gddrOf
  have : gddrBase = 64 * (gddrBase / 64) := by decide
  omega

/-- Bytes that lie in one line touch that line. -/
theorem linesOf_within {a n : Nat} (within : a % 64 + n ≤ 64) (some : 0 < n) : linesOf (upFrom a n) = [a / 64] := by
  obtain ⟨n, rfl⟩ := Nat.exists_eq_succ_of_ne_zero (Nat.ne_of_gt some)
  rw [linesOf, upFrom, List.map_map]
  exact foldl_const_line n fun i hi => by
    change (i + a) / 64 = a / 64
    omega

theorem State.readLine_poisoned {s : State} {slot : Option Nat} {line : Nat} (poisoned : s.isPoisoned line = true) :
    (s.readLine slot line).2 = true := by
  unfold State.readLine
  extract_lets s1
  have same : s1.isPoisoned line = s.isPoisoned line := by
    dsimp only [s1]
    split <;> rfl
  rw [same, poisoned]
  rfl

theorem State.applyAmb_empty (s : State) : s.applyAmb {} = s := rfl

/-- A read of bytes of one line that the host may read. -/
theorem State.serveHost_read_line {s : State} {h : BitVec 48} {n a : Nat} (address : a = gddrOf (hdmStack h.toNat) + hdmOffset h.toNat)
    (cxl : s.cxlMem = true) (works : s.gddrFailed (hdmStack h.toNat) = false) (line : linesOf (upFrom a n) = [a / 64]) :
    s.serveHost (.read h n) = (let r := touchReads none true [a / 64] s
      let s1 := r.1.modHost (fun x => { x with hostHeld := addOnce x.hostHeld (a / 64) })
      if r.2 then
        let f := s1.freeBytes n
        f.1.emit (.memData f.2 true)
      else s1.emit (.memData (s1.memRead a n) false)) := by
  unfold State.serveHost
  dsimp only
  rw [← address, if_neg (by simp [cxl, works]), line]
  rfl

theorem touchReads_single (s : State) (slot : Option Nat) (bypass : Bool) (l : Nat) :
    touchReads slot bypass [l] s = s.touchRead slot bypass l := by
  simp only [touchReads, Bool.or_false]

theorem State.touchRead_clean {s : State} {slot : Option Nat} {bypass : Bool} {line : Nat} (gddr : isGddr (line * 64) = true)
    (sound : (s.gddrAccess slot line false bypass).isPoisoned line = false)
    (flawless : tfind (s.gddrAccess slot line false bypass).flaws line = none) :
    s.touchRead slot bypass line = ((s.gddrAccess slot line false bypass).touchChunk line, false) := by
  rw [State.touchRead, if_pos gddr]
  exact State.readLine_clean gddr sound flawless

theorem State.touchRead_poisoned {s : State} {slot : Option Nat} {bypass : Bool} {line : Nat} (gddr : isGddr (line * 64) = true)
    (poisoned : (s.gddrAccess slot line false bypass).isPoisoned line = true) : (s.touchRead slot bypass line).2 = true := by
  rw [State.touchRead, if_pos gddr]
  exact State.readLine_poisoned poisoned

section ReadLine
variable {s : State} {h : BitVec 48} {n a : Nat} (address : a = gddrOf (hdmStack h.toNat) + hdmOffset h.toNat)
  (cxl : s.cxlMem = true) (works : s.gddrFailed (hdmStack h.toNat) = false) (line : linesOf (upFrom a n) = [a / 64])
  (gddr : isGddr (a / 64 * 64) = true)
include address cxl works line gddr

theorem State.serveHost_read_clean (sound : s.isPoisoned (a / 64) = false) (flawless : tfind s.flaws (a / 64) = none) :
    ∃ t, s.serveHost (.read h n) = t ∧ t.out = .memData (s.memRead a n) false :: s.out ∧ t.mem = s.mem
      ∧ t.host = { s.host with hostHeld := addOnce s.host.hostHeld (a / 64) } ∧ t.tiles = s.tiles ∧ t.pending = s.pending := by
  rw [State.serveHost_read_line address cxl works line, touchReads_single, State.touchRead_clean (s := s) (slot := none) gddr sound flawless]
  exact ⟨_, rfl, rfl, rfl, rfl, rfl, rfl⟩

theorem State.serveHost_read_poisoned (poisoned : s.isPoisoned (a / 64) = true) :
    ∃ t bs, bs.length = n ∧ s.serveHost (.read h n) = t ∧ t.out.head? = some (.memData bs true) ∧ t.mem = s.mem
      ∧ t.tiles = s.tiles ∧ t.pending = s.pending := by
  have marked : (s.touchRead none true (a / 64)).2 = true := State.touchRead_poisoned gddr poisoned
  have touched := SameButLines.touchRead s none true (a / 64)
  rw [State.serveHost_read_line address cxl works line, touchReads_single]
  generalize s.touchRead none true (a / 64) = r at marked touched ⊢
  obtain ⟨u, e⟩ := r
  have size : ∀ v : State, (v.freeBytes n).2.length = n := fun v => by rw [State.freeBytes, List.length_map, List.length_range]
  exact ⟨_, _, size _, if_pos marked, rfl, touched.mem, touched.tiles, touched.pending⟩

end ReadLine

section Access
variable {s : State} {h : BitVec 48} {k o : Nat} (awake : s.awake = true) (at_ : h.toNat = k * gddrStackBytes + o) (low : o < gddrStackBytes)
  (stack : k < 4)
include awake at_ low stack

theorem execHostMemWrite_hdm (bs : List Byte) : execHostMemWrite h bs s = .next (s.hostAccess (.write h bs)) := by
  rw [execHostMemWrite, if_neg (by simp [awake]), if_neg (by rw [(hdm_split at_ low).1]; omega)]

theorem execHostMemRead_hdm (n : Nat) (amb : Ambient) : execHostMemRead h n amb s = .next ((s.applyAmb amb).hostAccess (.read h n)) := by
  rw [execHostMemRead, if_neg (by simp [awake]), if_neg (by rw [(hdm_split at_ low).1]; omega)]

omit awake stack in
theorem State.hostAccess_zeroing {x : HostAccess} (hx : x.offset = h.toNat) (zeroing : s.zeroing k o = true) :
    s.hostAccess x = s.modHost (fun y => { y with memWaiting := y.memWaiting ++ [x] }) := by
  obtain ⟨st, off⟩ := hdm_split at_ low
  rw [State.hostAccess, hx, st, off, if_pos zeroing]

omit awake stack in
theorem State.hostAccess_ready {x : HostAccess} (hx : x.offset = h.toNat) (ready : s.zeroing k o = false) : s.hostAccess x = s.serveHost x := by
  obtain ⟨st, off⟩ := hdm_split at_ low
  rw [State.hostAccess, hx, st, off, ready]
  rfl

/-- A write into a group slice. -/
theorem execHostMemWrite_slice {bs : List Byte} (cxl : s.cxlMem = true) (ready : s.zeroing k o = false) (works : s.gddrFailed k = false)
    (fits : o + bs.length ≤ 4 * s.gsliceBytes k) (some : bs ≠ []) :
    ∃ t, execHostMemWrite h bs s = .next t
      ∧ (∀ a, t.memByte a = if gddrOf k + o ≤ a ∧ a < gddrOf k + o + bs.length then bs.getD (a - (gddrOf k + o)) 0 else s.memByte a)
      ∧ t.tiles = s.tiles ∧ t.objs = s.objs ∧ t.pending = s.pending
      ∧ (s.flaws = [] → t.gds = s.gds
        ∧ t.host = { s.host with hostHeld := s.host.hostHeld.filter (fun l => l ≠ (gddrOf k + o) / 64) }) := by
  obtain ⟨st, off⟩ := hdm_split at_ low
  have inside : o < 4 * s.gsliceBytes k := by
    have := List.length_pos_iff.2 some
    omega
  obtain ⟨u, hu⟩ : ∃ u, u = (s.gddrAccess .none ((gddrOf k + o) / 64) true true).modHost fun x =>
    { x with hostHeld := x.hostHeld.filter (· ≠ (gddrOf k + o) / 64) } := ⟨_, rfl⟩
  have written := SameButLines.writeLines u .none (cellsAt (gddrOf k + o) bs)
  refine ⟨{ u.writeLines .none (cellsAt (gddrOf k + o) bs) with mem := Mem.setCells u.mem (cellsAt (gddrOf k + o) bs) }, ?_,
    fun a => (Mem.byte_setCells_cellsAt bs _ _ a).trans ?_,
    written.tiles.trans ?_, written.objs.trans ?_, written.pending.trans ?_, fun flawless => ?_⟩
  · rw [execHostMemWrite_hdm awake at_ low stack, State.hostAccess_ready at_ low (x := .write h bs) rfl ready, State.serveHost, st, off,
      if_neg (by simp [cxl, works]), if_pos inside, hu]
    rfl
  · rw [hu]
    rfl
  · rw [hu]; rfl
  · rw [hu]; rfl
  · rw [hu]; rfl
  · have quiet := State.writeLines_flawless (s := u) (by rw [hu]; exact flawless) .none (cellsAt (gddrOf k + o) bs)
    rw [quiet, hu]
    exact ⟨rfl, rfl⟩

/-- A write to the cut region or the management area is discarded, and told of once per second at most. -/
theorem execHostMemWrite_reserved {bs : List Byte} (cxl : s.cxlMem = true) (ready : s.zeroing k o = false) (works : s.gddrFailed k = false)
    (above : 4 * s.gsliceBytes k ≤ o) : execHostMemWrite h bs s = .next (s.reservedWrite (gddrOf k + o)) := by
  obtain ⟨st, off⟩ := hdm_split at_ low
  rw [execHostMemWrite_hdm awake at_ low stack, State.hostAccess_ready at_ low (x := .write h bs) rfl ready, State.serveHost, st, off,
    if_neg (by simp [cxl, works]), if_neg (Nat.not_lt.2 above)]

section Read
variable (ready : s.zeroing k o = false)
include ready

theorem execHostMemRead_served (n : Nat) : execHostMemRead h n {} s = .next (s.serveHost (.read h n)) := by
  rw [execHostMemRead_hdm awake at_ low stack, State.applyAmb_empty, State.hostAccess_ready at_ low (x := .read h n) rfl ready]

end Read


/-- Without a committed decoder nothing is stored, and a read gives bytes that nothing constrains. -/
theorem execHostMem_uncommitted (bs : List Byte) (n : Nat) (uncommitted : s.cxlMem = false) (ready : s.zeroing k o = false) :
    execHostMemWrite h bs s = .next s
    ∧ ∃ ds, ds.length = n ∧ execHostMemRead h n {} s = .next (({ s with free := s.free + n } : State).emit (.memData ds false)) := by
  refine ⟨?_, (s.freeBytes n).2, by rw [State.freeBytes, List.length_map, List.length_range], ?_⟩
  · rw [execHostMemWrite_hdm awake at_ low stack, State.hostAccess_ready at_ low (x := .write h bs) rfl ready, State.serveHost, if_pos (by simp [uncommitted])]
  · rw [execHostMemRead_hdm awake at_ low stack]
    change Host.Outcome.next (s.hostAccess (.read h n)) = _
    rw [State.hostAccess_ready at_ low (by rfl) ready, State.serveHost, if_pos (by simp [uncommitted])]
    rfl

end Access

theorem execHostMem_past {s : State} {h : BitVec 48} (bs : List Byte) (n : Nat) (amb : Ambient) (awake : s.awake = true)
    (past : 4 * gddrStackBytes ≤ h.toNat) :
    execHostMemWrite h bs s = .fault .hdmOffsetOutOfRange ∧ execHostMemRead h n amb s = .fault .hdmOffsetOutOfRange := by
  have beyond : 4 ≤ hdmStack h.toNat := (Nat.le_div_iff_mul_le (by decide)).2 past
  constructor
  · rw [execHostMemWrite, if_neg (by simp [awake]), if_pos beyond]
  · rw [execHostMemRead, if_neg (by simp [awake]), if_pos beyond]

theorem State.reservedWrite_first {s : State} (a : Nat) (first : s.host.reservedAt = none) :
    s.reservedWrite a = (s.modHost (fun x => { x with reservedAt := some s.now })).raise 0x0632 0 a := if_neg (by simp [first])

theorem State.reservedWrite_again {s : State} (a : Nat) {u : Nat} (last : s.host.reservedAt = some u) (soon : s.now < u + 1000000) :
    s.reservedWrite a = s := if_pos (by simp [last, soon])

/-! ### The answers to page requests -/

theorem State.stream_modStream_same_tile (s : State) (L n i : Nat) (f : Stream → Stream) :
    (s.modStream L n f).stream L i = if i = n then f (s.stream L n) else s.stream L i := by
  rw [State.stream, State.modStream, State.tile_modTile_same, Tile.stream_modStream]
  rfl

/-- An operation that waited for the page at `v` waits no more. -/
def Op.retry (v : Nat) (o : Op) : Op := if o.faultAddr.map (·.toNat) = some v then { o with faultAddr := none } else o

theorem Op.retry_faultAddr (v : Nat) (o : Op) : (o.retry v).faultAddr.map (·.toNat) ≠ some v := by
  unfold Op.retry
  split
  · exact nofun
  · next other => exact other

/-- The accesses that waited for a page wait no more. -/
theorem State.retryAccess_ops (s : State) (L v : Nat) {i : Nat} (hi : i < 3) :
    ∀ o ∈ ((s.retryAccess L v).stream L i).ops, o.faultAddr.map (·.toNat) ≠ some v := by
  have upTo : ∀ k, ∀ i < k, ∀ o ∈ (((List.range k).foldl (fun s n => s.modStream L n (fun x => { x with ops := x.ops.map (Op.retry v) }))
      s).stream L i).ops, o.faultAddr.map (·.toNat) ≠ some v := by
    intro k
    induction k with
    | zero => exact fun i hi => absurd hi (Nat.not_lt_zero i)
    | succ k ih =>
      intro i hi
      rw [List.range_succ, List.foldl_append, List.foldl_cons, List.foldl_nil]
      by_cases here : i = k
      · subst here
        rw [State.stream_modStream_same]
        intro o ho
        obtain ⟨p, -, rfl⟩ := List.mem_map.1 ho
        exact Op.retry_faultAddr v p
      · rw [State.stream_modStream_same_tile, if_neg here]
        exact ih i (by omega)
  exact upTo 3 i hi

/-- A valid entry of the host window that is the job's own translates without the host. -/
theorem State.translate_direct {s : State} {job v p e : Nat} {write : Bool} (hp : p = (v - hostBase) / (2 * mib)) (small : p < 65536)
    (he : e = (tget 0 s.host.hwt p).toNat) (valid : nbit e 0 = true) (own : nbits e 9 12 = job)
    (granted : nbit e (if write then 2 else 1) = true) (direct : nbit e 3 = false) :
    ∃ a, s.translate job v write = (s, .ok a) := by
  subst hp he
  unfold State.translate
  extract_lets q e
  have valid' : nbit e 0 = true := valid
  have own' : nbits e 9 12 = job := own
  have granted' : nbit e (if write then 2 else 1) = true := granted
  have direct' : nbit e 3 = false := direct
  rw [if_neg (Nat.not_le.2 small), valid', if_neg (by decide), if_neg (by simp [own']), granted', if_neg (by decide), direct']
  exact ⟨_, rfl⟩

theorem execPageRequestResponse_taken {s u : State} {L : Fin 129} {v n a : Nat} (tile : L.val ≠ 128) (attached : s.host.attached = true)
    (taken : s.takeRequest L = some (v, u)) (slot : u.slotOfTile L = some n)
    (translated : u.translate (u.job n).id.toNat v false = (u, .ok a)) :
    execPageRequestResponse L true {} s = .next (u.retryAccess L v) := by
  rw [execPageRequestResponse, if_neg (by simp [attached]), if_neg (show ¬L.val = hubTile from tile), taken]
  dsimp only
  rw [if_neg (by decide), State.applyAmb_empty]
  simp only [slot, translated]

section Pages
variable {s : State} {L : Fin 129} {v : Nat} {r : List (Nat × Nat)} (tile : L.val ≠ 128) (attached : s.host.attached = true)
  (first : s.host.pageRequests = (L.val, v) :: r)
include first

theorem State.takeRequest_first : s.takeRequest L = some (v, s.modHost (fun h => { h with pageRequests := r })) := by
  rw [State.takeRequest, first, takeFirst, if_pos (by simp)]

include tile attached

theorem execPageRequestTimeout_tile :
    execPageRequestTimeout L s = .next ((s.modHost (fun h => { h with pageRequests := r })).hostFault L v 6 false) := by
  rw [execPageRequestTimeout, if_neg (by simp [attached]), if_neg (show ¬L.val = hubTile from tile), State.takeRequest_first first]

theorem execPageRequestResponse_tile {p n : Nat} (slot : s.slotOfTile L = some n) (hp : p = (v - hostBase) / (2 * mib)) (small : p < 65536)
    (valid : (tget 0 s.host.hwt p).getLsbD 0 = true) (own : bits (tget 0 s.host.hwt p) 9 12 = (s.job n).id.toNat)
    (readable : (tget 0 s.host.hwt p).getLsbD 1 = true) (direct : (tget 0 s.host.hwt p).getLsbD 3 = false) :
    ∃ t, execPageRequestResponse L true {} s = .next t ∧ t.host.pageRequests = r
      ∧ (∀ i < 3, ∀ o ∈ (t.stream L i).ops, o.faultAddr.map (·.toNat) ≠ some v) ∧ t.mem = s.mem ∧ t.pending = s.pending := by
  have job : (s.modHost fun h => { h with pageRequests := r }).slotOfTile L = some n := slot
  obtain ⟨a, translated⟩ := State.translate_direct (s := s.modHost fun h => { h with pageRequests := r }) (write := false) hp small rfl valid own
    readable direct
  refine ⟨_, execPageRequestResponse_taken tile attached (State.takeRequest_first first) job translated, ?_,
    fun i hi => State.retryAccess_ops _ L v hi, ?_, ?_⟩
  · rw [State.retryAccess_eq]; rfl
  · rw [State.retryAccess_eq]; rfl
  · rw [State.retryAccess_eq]; rfl

end Pages

theorem State.answerHub_front {s : State} {q : Nat × Nat × Nat} {r : List (Nat × Nat × Nat)} (first : s.host.hubRequests = q :: r)
    (unserved : q.2.2 = 0) (why : Nat) :
    s.answerHub why = s.modHost (fun h => { h with hubRequests := if why = 0 then r else r ++ [(q.1, q.2.1, why)] }) := by
  rw [State.answerHub, first, takeFirst, if_pos (by simp [unserved])]

theorem execPageRequest_hub {s : State} {q : Nat × Nat × Nat} {r : List (Nat × Nat × Nat)} (g : Bool) (attached : s.host.attached = true)
    (first : s.host.hubRequests = q :: r) (unserved : q.2.2 = 0) :
    execPageRequestResponse 128 g {} s
      = .next (s.modHost (fun h => { h with hubRequests := if g = true then r else r ++ [(q.1, q.2.1, 5)] }))
    ∧ execPageRequestTimeout 128 s = .next (s.modHost (fun h => { h with hubRequests := r ++ [(q.1, q.2.1, 6)] })) := by
  constructor
  · rw [execPageRequestResponse, if_neg (by simp [attached]), if_pos (by rfl), State.applyAmb_empty, State.answerHub_front first unserved]
    cases g <;> rfl
  · rw [execPageRequestTimeout, if_neg (by simp [attached]), if_pos (by rfl), State.answerHub_front first unserved]
    rfl

theorem execPageRequest_detached {s : State} (L : Fin 129) (g : Bool) (amb : Ambient) (detached : s.host.attached = false) :
    execPageRequestResponse L g amb s = .next s ∧ execPageRequestTimeout L s = .next s :=
  ⟨if_pos (by simp [detached]), if_pos (by simp [detached])⟩

/-! ### A fetched line's snoop -/

theorem execHostLineSnoop_ahead {s : State} {l : BitVec 58} (fetched : l.toNat ∈ s.host.fetchLines) (ahead : l.toNat ∈ s.host.aheadLines) :
    execHostLineSnoop l s = .next (s.modHost (fun h => { h with staleLines := addOnce h.staleLines l.toNat })) := if_pos (by simp [fetched, ahead])

theorem execHostLineSnoop_other {s : State} {l : BitVec 58} (other : l.toNat ∉ s.host.fetchLines ∨ l.toNat ∉ s.host.aheadLines) :
    execHostLineSnoop l s = .next (s.modHost (fun h => { h with fetchLines := h.fetchLines.filter (fun m => m ≠ l.toNat) })) := by
  refine if_neg fun both => ?_
  rw [Bool.and_eq_true, List.contains_iff_mem, List.contains_iff_mem] at both
  exact other.elim (· both.1) (· both.2)

end Sys2Proof.Machine

namespace Sys2Proof
open Machine

/-- Settles O28: an access goes to the address its offset names, by what its line holds; the answer to a page request by whose it is. -/
theorem hostMemoryCompletes : Obligations.HostMemoryCompletes := by
  refine ⟨fun _ _ _ _ _ awake at_ low stack cxl ready works fits some => execHostMemWrite_slice awake at_ low stack cxl ready works fits some,
    fun _ _ _ _ _ awake at_ low stack cxl ready works above => ⟨fun first => ?_, fun _ last soon => ?_⟩,
    fun _ _ _ _ _ _ awake at_ low stack zeroing => ⟨?_, fun amb => ?_⟩,
    fun _ h n k o awake at_ low stack cxl ready works within some => ?_,
    fun _ _ bs n _ _ awake at_ low stack uncommitted ready => execHostMem_uncommitted awake at_ low stack bs n uncommitted ready,
    fun _ _ bs n amb awake past => execHostMem_past bs n amb awake past,
    fun _ _ fetched ahead => execHostLineSnoop_ahead fetched ahead,
    fun _ _ other => execHostLineSnoop_other other,
    fun _ _ _ _ _ _ tile attached first slot hp small valid own readable direct =>
      execPageRequestResponse_tile tile attached first slot hp small valid own readable direct,
    fun _ _ _ _ tile attached first => execPageRequestTimeout_tile tile attached first,
    fun _ _ _ g attached first unserved => execPageRequest_hub g attached first unserved,
    fun _ L g amb detached => execPageRequest_detached L g amb detached⟩
  · rw [exec_hostMemWrite, execHostMemWrite_reserved awake at_ low stack cxl ready works above, State.reservedWrite_first _ first]
  · rw [exec_hostMemWrite, execHostMemWrite_reserved awake at_ low stack cxl ready works above, State.reservedWrite_again _ last soon]
  · rw [exec_hostMemWrite, execHostMemWrite_hdm awake at_ low stack, State.hostAccess_zeroing at_ low rfl zeroing]
  · rw [exec_hostMemRead, execHostMemRead_hdm awake at_ low stack,
      State.hostAccess_zeroing (s := State.applyAmb _ amb) at_ low rfl zeroing]
  · obtain ⟨st, off⟩ := hdm_split at_ low
    have address : gddrOf k + o = gddrOf (hdmStack h.toNat) + hdmOffset h.toNat := by rw [st, off]
    have line := linesOf_within (a := gddrOf k + o) (by rw [gddrOf_line]; exact within) some
    rw [← st] at works
    rw [exec_hostMemRead, execHostMemRead_served awake at_ low stack ready]
    refine ⟨fun sound flawless => ?_, fun poisoned => ?_⟩
    · obtain ⟨t, served, rest⟩ := State.serveHost_read_clean address cxl works line (isGddr_line_gddrOf k o) sound flawless
      exact ⟨t, by rw [served], rest⟩
    · obtain ⟨t, bs, size, served, rest⟩ := State.serveHost_read_poisoned address cxl works line (isGddr_line_gddrOf k o) poisoned
      exact ⟨t, bs, size, by rw [served], rest⟩

end Sys2Proof
end

section
/-! The fetch of descriptors. -/
namespace Sys2Proof.Machine

theorem State.applyHw_empty (s : State) : s.applyHw [] = s := rfl

/-- A change of one table entry is what it is on that entry. -/
theorem tmod_congr {α : Type} {d : α} {t : Tbl α} {i : Nat} {f g : α → α} (h : f (tget d t i) = g (tget d t i)) : tmod d t i f = tmod d t i g := by
  rw [tmod, tmod, h]

theorem State.modSq_congr {s : State} {q : Nat} {f g : Sq → Sq} (h : f (s.sq q) = g (s.sq q)) : s.modSq q f = s.modSq q g := by
  have sqs : tmod {} s.host.sqs q f = tmod {} s.host.sqs q g := tmod_congr h
  exact congrArg (fun sqs => { s with host := { s.host with sqs } }) sqs

/-- An error of a submission ring disables it. -/
theorem State.ringError_sq (s : State) (q : Fin 64) (code : Nat) :
    s.ringError (.sq q) code 0 = (s.modSq q (fun x => { x with cfg := putBits x.cfg 31 1 0 &&& 0xBF00001F })).raise code 0 q.val := by
  have same : s.setCfg (.sq q) (putBits (s.ringCfg (.sq q)) 31 1 0)
      = s.modSq q (fun x => { x with cfg := putBits x.cfg 31 1 0 &&& 0xBF00001F }) := State.modSq_congr rfl
  rw [State.ringError, same]
  rfl

section Fetch
variable {s u : State} {q : Fin 64} {d : Desc} (attached : s.host.attached = true) (turn : s.fetchTurn = some q.val)
include turn

/-- The ring whose turn it is has a descriptor and room. -/
theorem State.fetchReady_of_turn : s.fetchReady q = true := List.find?_some turn

variable (hu : u = s.modHost (fun h => { h with sqTurn := (q.val + 1) % 64, fetched := h.fetched + 1 }))
include attached hu

theorem execDescriptorFetch_failed :
    execDescriptorFetch q [] true s
      = .next ((u.modSq q (fun x => { x with cfg := putBits x.cfg 31 1 0 &&& 0xBF00001F })).raise 0x0104 0 q.val) := by
  rw [execDescriptorFetch, if_neg (by simp [State.fetchReady_of_turn turn]), if_neg (by simp [attached]), if_neg (by simp [turn]),
    State.applyHw_empty, ← hu]
  exact congrArg _ (State.ringError_sq u q _)

variable (hd : d = ⟨s.hostRead ((s.sq q).base.toNat + (s.sq q).head.toNat % 2 ^ bits (s.sq q).cfg 0 5 * 64) 64, q, (s.sq q).head.toNat, s.host.fetched⟩)
include hd

/-- A descriptor that passes its checks enters the ring's window. -/
theorem execDescriptorFetch_queued (pass : u.fetchStatus d = none) :
    execDescriptorFetch q [] false s = .next (u.modSq q (fun x => { x with head := x.head + 1, window := x.window ++ [d] })) := by
  have hd' : d = ⟨u.hostRead ((s.sq q).base.toNat + (s.sq q).head.toNat % ringSize (s.sq q).cfg * 64) 64, q, (s.sq q).head.toNat, s.host.fetched⟩ := by
    rw [hd, hu]; rfl
  rw [execDescriptorFetch, if_neg (by simp [State.fetchReady_of_turn turn]), if_neg (by simp [attached]), if_neg (by simp [turn]),
    State.applyHw_empty, ← hu]
  dsimp only
  rw [if_neg Bool.false_ne_true, ← hd', pass]

/-- A descriptor that fails its checks completes at once with their status. -/
theorem execDescriptorFetch_answered {st : Nat} (fail : u.fetchStatus d = some st) (jobless : s.findJob d.job = none) (room : s.mayReserve = true) :
    execDescriptorFetch q [] false s
      = .next ((u.modSq q (fun x => { x with head := x.head + 1 })).completeDesc d st (descStep {} d) (descRef d) 0) := by
  have hd' : d = ⟨u.hostRead ((s.sq q).base.toNat + (s.sq q).head.toNat % ringSize (s.sq q).cfg * 64) 64, q, (s.sq q).head.toNat, s.host.fetched⟩ := by
    rw [hd, hu]; rfl
  rw [execDescriptorFetch, if_neg (by simp [State.fetchReady_of_turn turn]), if_neg (by simp [attached]), if_neg (by simp [turn]),
    State.applyHw_empty, ← hu]
  dsimp only
  rw [if_neg Bool.false_ne_true, ← hd', fail]
  simp only [room, jobless, Bool.not_true, Bool.false_eq_true, if_false]

end Fetch

theorem execDescriptorFetch_out_of_turn {s : State} {q p : Fin 64} (attached : s.host.attached = true) (turn : s.fetchTurn = some p.val)
    (other : p ≠ q) (hw : List Host.Cell) (f : Bool) : execDescriptorFetch q hw f s = .next s := by
  have elsewhere : s.fetchTurn ≠ some q.val := by
    rw [turn]
    exact fun e => other (Fin.ext (Option.some.inj e))
  unfold execDescriptorFetch
  dsimp only
  rw [attached, if_neg (by decide : ¬(!true) = true), if_pos elsewhere, ite_self]

end Sys2Proof.Machine

namespace Sys2Proof
open Machine

/-- Settles O29: the ring whose turn it is has its descriptor fetched and checked; another waits. -/
theorem descriptorFetchCompletes : Obligations.DescriptorFetchCompletes :=
  ⟨fun _ _ _ _ _ _ _ attached turn hu hd => ⟨fun pass => execDescriptorFetch_queued attached turn hu hd pass,
      fun _ fail jobless room => execDescriptorFetch_answered attached turn hu hd fail jobless room, execDescriptorFetch_failed attached turn hu⟩,
    fun _ _ _ hw f attached turn other => execDescriptorFetch_out_of_turn attached turn other hw f⟩

end Sys2Proof
end

section
/-! A NOP of no job while a job with the number 0 stands: why `JobLifeCompletes` fails. -/
namespace Sys2Proof.Machine

/-- A NOP descriptor of no job, fetched at `no`. -/
def nopOfNoJob (no : Nat) : Desc := ⟨7 :: List.replicate 63 0, 0, no, no⟩

/-- Two NOPs of no job stand in ring 0, and a job whose number is 0 is being placed: its JOB descriptor, at 0, is later than the NOP at
2^32 - 1 and not later than the NOP at 1. -/
def jobZeroState : State :=
  { ({} : State) with
    host := { sqs := [(0, { window := [nopOfNoJob 1, nopOfNoJob 0xFFFFFFFF] })] }
    dealer := { jobs := [(0, { valid := true })] } }

/-- The first NOP waits for the descriptor of job 0, so the package takes the second. -/
theorem jobZeroState_nextDesc : jobZeroState.nextDesc 0 7 = some (nopOfNoJob 0xFFFFFFFF, [nopOfNoJob 1]) := by decide +kernel

/-- A completion leaves the rings' windows. -/
theorem State.completeDesc_sq (s : State) (d : Desc) (status step ref value : Nat) (tokens : List Word) (q : Nat) :
    (s.completeDesc d status step ref value tokens).sq q = s.sq q := by
  have sqs := congrArg HostIf.sqs (traffic_completeDesc (.refl s) d status step ref value tokens).host
  rw [State.sq, sqs]
  rfl

theorem execNopDescriptor_jobZeroState : execNopDescriptor 0 jobZeroState
    = .next ((jobZeroState.modSq 0 (fun x => { x with window := [nopOfNoJob 1] })).completeDesc (nopOfNoJob 0xFFFFFFFF) 0 0 0 0) := by
  have next : jobZeroState.nextDesc (0 : Fin 64).val 7 = some (nopOfNoJob 0xFFFFFFFF, [nopOfNoJob 1]) := jobZeroState_nextDesc
  rw [execNopDescriptor, next]
  rfl

end Sys2Proof.Machine

namespace Sys2Proof
open Machine

/-- Refutes O32: of two NOPs of no job the package takes the second while a job with the number 0 has a descriptor under way that the first must
wait for. -/
theorem not_jobLifeCompletes : ¬ Obligations.JobLifeCompletes := by
  rintro ⟨-, -, -, -, nop, -⟩
  have first := nop jobZeroState 0 (nopOfNoJob 1) [nopOfNoJob 0xFFFFFFFF] rfl rfl rfl rfl
  rw [exec_nopDescriptor, execNopDescriptor_jobZeroState, Host.Outcome.next.injEq] at first
  have windows := congrArg (fun s => (s.sq 0).window) first
  simp only [State.completeDesc_sq, Fin.val_zero, State.sq_modSq_same] at windows
  exact absurd windows (by decide)

end Sys2Proof
end

section
/-! STEP, LOAD, PASS and ABORT descriptors. -/
namespace Sys2Proof.Machine

/-! ### The descriptor that is served -/

/-- A descriptor at the front of its ring's window that does not wait is the one served. -/
theorem State.nextDesc_front {s : State} {q dtype : Nat} {d : Desc} {r : List Desc} (front : (s.sq q).window = d :: r) (kind : d.dtype = dtype)
    (goes : s.descWaits d = false) : s.nextDesc q dtype = some (d, r) := by
  unfold State.nextDesc
  rw [front, nextDescs]
  simp only [List.any_nil, Bool.not_false, Bool.or_true, Bool.and_true, kind, decide_true, if_true, List.nil_append, List.find?_cons, goes]

theorem State.modJob_congr {s : State} {n : Nat} {f g : Job → Job} (h : f (s.job n) = g (s.job n)) : s.modJob n f = s.modJob n g := by
  have jobs : tmod {} s.dealer.jobs n f = tmod {} s.dealer.jobs n g := tmod_congr h
  exact congrArg (fun jobs => { s with dealer := { s.dealer with jobs } }) jobs

theorem nbit_zero (x : Nat) : nbit x 0 = decide (x % 2 = 1) := Nat.testBit_zero x

theorem nbit_one (x : Nat) : nbit x 1 = decide (x / 2 % 2 = 1) := by
  rw [nbit, Nat.testBit_succ, Nat.testBit_zero]

section Waits
variable {s : State} {d : Desc} {n : Nat} (job : s.findJob d.job = some n) (runs : (s.job n).runs = true)
include job

theorem State.descWaits_abort (kind : d.dtype = 4) : s.descWaits d = false := by simp [State.descWaits, job, kind]

include runs

theorem State.descWaits_step (kind : d.dtype = 2) (free : (s.job n).run = none) : s.descWaits d = false := by
  simp [State.descWaits, job, kind, runs, free]

theorem State.descWaits_load (kind : d.dtype = 6) (free : leAt d.bytes 12 2 / 2 % 2 = 1 ∨ (s.job n).run = none) : s.descWaits d = false := by
  rcases free with background | free
  · simp [State.descWaits, job, kind, runs, nbit_one, background]
  · simp [State.descWaits, job, kind, runs, free]

theorem State.descWaits_pass (kind : d.dtype = 3) (free : (s.job n).passes = []) : s.descWaits d = false := by
  simp [State.descWaits, job, kind, runs, free]

end Waits

/-! ### STEP -/

section Step
variable {s : State} {q : Fin 64} {d : Desc} {r : List Desc} {n : Nat} (next : s.nextDesc q 2 = some (d, r)) (job : s.findJob d.job = some n)
  (runs : (s.job n).runs = true)
include next job runs

theorem execStep_serving {x : StepRun} (run : (s.job n).run = some x) (serving : x.serving = true) (amb : Ambient) :
    execStep q amb s = .next (s.modJob n (fun j => { j with run := some { x with ctlWanted := true } })) := by
  simp only [execStep, next, job, runs, run, Bool.not_true, Bool.false_eq_true, if_false, Option.isSome_some, if_true]
  rw [State.endServing, run]
  exact congrArg _ (if_pos serving)

variable (free : (s.job n).run = none) (step : leAt d.bytes 8 4 = (s.job n).step.toNat)
include free step

/-- A step without a table to read starts at once. -/
theorem execStep_unread (unread : (s.job n).deck.firstStage = none ∨ leAt d.bytes 24 2 % 2 = 1) (amb : Ambient) :
    execStep q amb s = .next ((s.modSq q (fun x => { x with window := r })).modJob n (fun j => { j with
      run := some { desc := d, step := (s.job n).step, mbCount := if (leAt d.bytes 24 2) % 2 = 1 then 0 else leAt d.bytes 12 4,
                    table := BitVec.ofNat 64 (leAt d.bytes 16 8), serving := decide ((leAt d.bytes 24 2) % 2 = 1),
                    attempt := (s.job n).attempt } })) := by
  have noRead : ((s.job n).deck.firstStage.isSome && !nbit (leAt d.bytes 24 2) 0 && decide (0 < leAt d.bytes 12 4)) = false := by
    rw [nbit_zero]
    rcases unread with none | serving
    · simp [none]
    · simp [serving]
  simp only [execStep, next, job, runs, free, step, noRead, Bool.not_true, Bool.false_eq_true, if_false, Option.isSome_none, ne_eq,
    not_true_eq_false, Bool.false_and, Option.isNone_some]
  rw [nbit_zero]
  simp only [decide_eq_true_eq]
  rfl

/-- A step's table of micro-batches is checked before it starts. -/
theorem execStep_table {u : State} {c v : Nat} {as : List Nat} (first : (s.job n).deck.firstStage.isSome = true)
    (plain : leAt d.bytes 24 2 % 2 = 0) (count : c = leAt d.bytes 12 4) (some' : 0 < c) (table : v = leAt d.bytes 16 8)
    (attached : s.host.attached = true)
    (read : translateAll d.job false ((List.range ((c * 16 + 4095) / 4096 + 1)).map (fun i => min (v + i * 4096) (v + c * 16 - 1))) s = (u, as, none)) :
    execStep q {} s = .next ((u.modSq q (fun x => { x with window := r })).modJob n (fun j => { j with
      run := some { desc := d, step := (s.job n).step, mbCount := c, table := BitVec.ofNat 64 v, attempt := (s.job n).attempt } })) := by
  subst count table
  have unserving : nbit (leAt d.bytes 24 2) 0 = false := by rw [nbit_zero, plain]; rfl
  simp only [execStep, next, job, runs, free, step, first, unserving, some', attached, State.applyAmb_empty, read, Bool.not_true,
    Bool.false_eq_true, if_false, Option.isSome_none, ne_eq, not_true_eq_false, Bool.not_false, Bool.and_self, decide_true, if_true,
    Bool.and_false, Option.isNone_some]
  rfl

end Step

/-! ### LOAD -/

section Load
variable {s : State} {q : Fin 64} {d : Desc} {r : List Desc} {n : Nat} (next : s.nextDesc q 6 = some (d, r)) (job : s.findJob d.job = some n)
  (runs : (s.job n).runs = true) (cxl : s.host.pcieOnly = false) (idle : (s.load n d.loadId).active = false)
include next job runs cxl idle

theorem execLoad_foreground (free : (s.job n).run = none) (foreground : leAt d.bytes 12 2 / 2 % 2 = 0)
    (step : leAt d.bytes 8 4 = (s.job n).step.toNat) :
    execLoad q s = .next ((s.modSq q (fun x => { x with window := r })).modJob n (fun j => { j with
      run := some { desc := d, step := (s.job n).step, mbCount := 0, load := some d.loadId, attempt := (s.job n).attempt } })) := by
  simp only [execLoad, next, job, runs, cxl, idle, free, nbit_one, foreground, step, Bool.not_true, Bool.or_self, Bool.false_eq_true, if_false,
    Option.isSome_none, ne_eq, not_true_eq_false, Nat.zero_ne_one, decide_false]
  rfl

theorem execLoad_background (background : leAt d.bytes 12 2 / 2 % 2 = 1)
    (few : ((s.job n).loads.filter (fun l => l.2.active && l.2.background)).length < 4) (room : s.mayReserve = true) :
    execLoad q s = .next (((s.modSq q (fun x => { x with window := r })).reserve).beginLoad n d.loadId d) := by
  simp only [execLoad, next, job, runs, cxl, idle, nbit_one, background, room, Bool.not_true, Bool.or_self, Bool.false_eq_true, if_false,
    decide_true, if_true, if_neg (Nat.not_le.2 few)]
  rfl

end Load

/-! ### ABORT -/

theorem execAbort_unreserved {s : State} {q : Fin 64} {d : Desc} {r : List Desc} {n : Nat} {x : StepRun}
    (next : s.nextDesc q 4 = some (d, r)) (kind : d.dtype = 4) (job : s.findJob d.job = some n) (lead : (s.job n).coordPkg = s.self)
    (room : s.mayReserve = true) (whole : leAt d.bytes 16 1 = 0) (run : (s.job n).run = some x) (step : x.step.toNat = leAt d.bytes 8 4)
    (unreserved : x.reserved = false) (uncoordinated : s.coordAt (s.job n).id.toNat (stepKey x.step) = none) :
    execAbort q s = .next ((((s.modSq q (fun x => { x with window := r })).completeDesc x.desc 0x20 x.step.toNat 0
      (0x0302 + 1 * 2 ^ 16 + s.self.toNat * 2 ^ 20)).modJob n (fun j => { j with run := none })).completeDesc d 0 (leAt d.bytes 8 4)
        (leAt d.bytes 12 4 % 2 ^ 20) 0) := by
  have same : BitVec.ofNat 32 (leAt d.bytes 8 4) = x.step := by rw [← step, BitVec.ofNat_toNat, BitVec.setWidth_eq]
  have target : (s.takeDesc q r).abortTarget n d = ((((s.takeDesc q r).completeDesc x.desc 0x20 x.step.toNat 0 s.abortValue).modJob n
      (fun j => { j with run := none })), true) := by
    have job : (s.takeDesc q r).job n = s.job n := rfl
    have coord : (s.takeDesc q r).coordAt (s.job n).id.toNat (stepKey x.step) = none := uncoordinated
    unfold State.abortTarget
    dsimp only
    rw [whole, if_pos rfl, job, run, same]
    dsimp only
    rw [if_pos rfl, unreserved, coord]
    rfl
  have ref : descRef d = leAt d.bytes 12 4 % 2 ^ 20 := if_pos (by simp [kind])
  rw [execAbort, next]
  dsimp only
  rw [job]
  dsimp only
  rw [if_neg (by simp [lead]), if_neg (by simp [room]), target]
  dsimp only
  rw [if_pos rfl, ref]
  rfl

/-! ### PASS -/

theorem SameButLines.viewTouch (s : State) (slot v n : Nat) : SameButLines s (s.viewTouch slot v n).1 := by
  unfold State.viewTouch
  split
  · exact touchReads _ _ _ s
  · exact refl s

theorem execPass_ready {s u : State} {q : Fin 64} {d : Desc} {r : List Desc} {n : Nat} {x : StepRun} {rec' : Nat}
    (next : s.nextDesc q 3 = some (d, r)) (job : s.findJob d.job = some n) (runs : (s.job n).runs = true)
    (run : (s.job n).run = some x) (serving : x.serving = true) (started : x.started = true) (step : x.step.toNat = leAt d.bytes 8 4)
    (free : (s.job n).passes = []) (within : leAt d.bytes 28 4 + leAt d.bytes 24 1 ≤ 2 ^ 20) (record : rec' = leAt d.bytes 32 8)
    (small : rec' < 2 ^ 48) (durable : (s.job n).isDurable rec' = true) (durableEnd : (s.job n).isDurable (rec' + 71) = true)
    (resolved : (s.resolve n (8 * (s.job n).first) (rec' : Int)).isSome = true) (touched : s.viewTouch n rec' 4 = (u, false))
    (position : leAt (u.viewBytes n rec' 4) 0 4 = leAt d.bytes 28 4) (attached : u.host.attached = true) :
    execPass q {} s = .next ((u.modSq q (fun x => { x with window := r })).modJob n (fun j => { j with passes :=
      [{ desc := d, step := j.step, mb := BitVec.ofNat 20 (leAt d.bytes 12 4), drafts := BitVec.ofNat 64 (leAt d.bytes 16 8),
         positions := leAt d.bytes 24 1, posBase := BitVec.ofNat 20 (leAt d.bytes 28 4), stream := BitVec.ofNat 48 rec' }] })) := by
  subst record
  have passes : (u.job n).passes = [] := by
    have kept := (SameButLines.viewTouch s n (leAt d.bytes 32 8) 4).job n
    rw [touched] at kept
    rw [kept]
    exact free
  rw [execPass, next]
  dsimp only
  rw [job]
  dsimp only
  rw [run, free]
  dsimp only
  rw [if_neg (by simp [runs, started]), if_neg (by simp [serving, step]), if_neg (by simp), if_neg (Nat.not_lt.2 within), if_neg, if_neg (by simp),
    touched]
  · dsimp only
    rw [if_neg (by simp [position]), if_pos attached, State.applyAmb_empty]
    refine congrArg _ (State.modJob_congr ?_)
    have same : ((u.takeDesc q r).job n).passes = [] := passes
    rw [same, List.nil_append]
  · simpa [durable, durableEnd, Option.isSome_iff_ne_none] using ⟨small, Option.isSome_iff_ne_none.1 resolved⟩

/-! ### What a background load begins with -/

/-- From `s` to `t` no job's loads change. -/
def SameLoads (s t : State) : Prop := ∀ n, (t.job n).loads = (s.job n).loads

namespace SameLoads

variable {s t u : State}

theorem refl (s : State) : SameLoads s s := fun _ => rfl

theorem trans (h : SameLoads s t) (k : SameLoads t u) : SameLoads s u := fun n => (k n).trans (h n)

theorem of_dealer (h : t.dealer = s.dealer) : SameLoads s t := fun n => by rw [State.job, h, State.job]

theorem foldl {α : Type} {f : State → α → State} (hf : ∀ v a, SameLoads v (f v a)) (l : List α) : ∀ s, SameLoads s (l.foldl f s) := by
  induction l with
  | nil => exact refl
  | cons a l ih => exact fun s => (hf s a).trans (ih _)

theorem raise (s : State) (code job detail : Nat) : SameLoads s (s.raise code job detail) := of_dealer (records_raise s code job detail).dealer

theorem modJob (s : State) (m : Nat) (f : Job → Job) (hf : ∀ j, (f j).loads = j.loads) : SameLoads s (s.modJob m f) := fun n => by
  rw [State.job_modJob]
  split
  · next e => rw [hf, e]
  · rfl

theorem modPort (s : State) (p : Nat) (f : Port → Port) : SameLoads s (s.modPort p f) := of_dealer rfl

theorem stat (s : State) (slot idx n : Nat) : SameLoads s (s.stat slot idx n) := by
  unfold State.stat
  refine trans (t := (s.statQ slot idx n).1) ?_ (foldl (fun s e => raise s _ _ _) _ _)
  unfold State.statQ State.satEvents
  extract_lets c v sat s1
  have h : SameLoads s s1 := modJob s slot _ fun _ => rfl
  split
  · split
    · exact h
    · exact h.trans (modJob s1 slot _ fun _ => rfl)
  · exact h

theorem statJob (s : State) (id idx n : Nat) : SameLoads s (s.statJob id idx n) := by
  unfold State.statJob
  split
  · exact stat s _ idx n
  · exact refl s

theorem dropPacket (s : State) (port : Nat) (p : Packet) : SameLoads s (s.dropPacket port p) :=
  ((raise s _ _ _).trans (modPort _ port _)).trans (statJob _ _ _ _)

theorem route (s : State) (p : Packet) : SameLoads s (s.route p).1 := by
  unfold State.route
  split
  · exact of_dealer rfl
  · split
    · exact of_dealer rfl
    · split
      · exact (modPort s _ _).trans (statJob _ _ _ _)
      · exact refl s

theorem sendQuiet (s : State) (p : Packet) : SameLoads s (s.sendQuiet p) := by
  have routed := route s { p with bank := s.bankOf (tagJob p.tag) }
  unfold State.sendQuiet
  dsimp only
  split
  · next e => rwa [e] at routed
  · next e =>
    rw [e] at routed
    exact routed.trans (dropPacket _ _ _)

theorem revokeForDiscard (s : State) (port job : Nat) : SameLoads s (s.revokeForDiscard port job) := by
  unfold State.revokeForDiscard
  split
  · exact refl s
  · split
    · exact refl s
    · dsimp only
      split
      · exact refl s
      · exact (modPort s port _).trans (foldl (fun v _ => sendQuiet v _) _ _)

theorem sendRequest (s : State) (p : Packet) : SameLoads s (s.sendRequest p).1 := by
  have routed := route s { p with bank := s.bankOf (tagJob p.tag) }
  unfold State.sendRequest
  dsimp only
  split
  · next e => rwa [e] at routed
  · next e =>
    rw [e] at routed
    dsimp only
    split
    · exact (routed.trans (dropPacket _ _ _)).trans (revokeForDiscard _ _ _)
    · exact routed.trans (dropPacket _ _ _)

end SameLoads

/-- From `s` to `t` the load `i` of slot `n` keeps its descriptor and its kind. -/
def SameLoadDesc (n i : Nat) (s t : State) : Prop := (t.load n i).desc = (s.load n i).desc ∧ (t.load n i).background = (s.load n i).background

theorem State.load_modLoad_same (s : State) (n i : Nat) (f : Load → Load) : (s.modLoad n i f).load n i = f (s.load n i) := by
  rw [State.load, State.modLoad, State.job_modJob_same]
  exact (tget_tmod ..).trans (if_pos rfl)

theorem SameLoadDesc.modLoad (s : State) (n i : Nat) (f : Load → Load) (hf : ∀ l, (f l).desc = l.desc ∧ (f l).background = l.background) :
    SameLoadDesc n i s (s.modLoad n i f) := by
  unfold SameLoadDesc
  rw [State.load_modLoad_same]
  exact hf _

theorem SameLoadDesc.of_loads {s t : State} (h : SameLoads s t) (n i : Nat) : SameLoadDesc n i s t := by
  unfold SameLoadDesc State.load
  rw [h n]
  exact ⟨rfl, rfl⟩

theorem SameLoadDesc.trans {n i : Nat} {s t u : State} (h : SameLoadDesc n i s t) (k : SameLoadDesc n i t u) : SameLoadDesc n i s u :=
  ⟨k.1.trans h.1, k.2.trans h.2⟩

theorem SameLoadDesc.loadRequest (s : State) (n i : Nat) (up : Bool) (op : Nat) : SameLoadDesc n i s (s.loadRequest n i up op) := by
  unfold State.loadRequest
  dsimp only
  generalize hp : bulkRequest _ _ _ _ _ _ = p
  have sent := SameLoads.sendRequest s p
  split
  · next e =>
    rw [e] at sent
    exact .of_loads sent n i
  · next e =>
    rw [e] at sent
    split
    · exact (SameLoadDesc.of_loads sent n i).trans (modLoad _ n i _ fun _ => ⟨rfl, rfl⟩)
    · exact .of_loads sent n i

theorem SameLoadDesc.passReady (s : State) (n i : Nat) : SameLoadDesc n i s (s.passReady n i) := by
  unfold State.passReady
  dsimp only
  split
  · exact (modLoad s n i (fun l => { l with readySent := true }) fun _ => ⟨rfl, rfl⟩).trans (loadRequest _ n i _ _)
  · exact ⟨rfl, rfl⟩

theorem SameLoadDesc.endLoad (s : State) (n i status : Nat) : SameLoadDesc n i s (s.endLoad n i status) := by
  have completed : SameLoads s (s.unreserve.completeDesc (tget ({} : Load) (s.job n).loads i).desc status
      (descStep (s.job n) (tget ({} : Load) (s.job n).loads i).desc) 0 0) := .of_dealer (records_complete s.unreserve _).dealer
  exact (SameLoadDesc.of_loads completed n i).trans (modLoad _ n i _ fun _ => ⟨rfl, rfl⟩)

theorem SameLoadDesc.loadDone (s : State) (n i : Nat) : SameLoadDesc n i s (s.loadDone n i) := by
  unfold State.loadDone
  split
  · exact endLoad s n i 0
  · exact modLoad s n i _ fun _ => ⟨rfl, rfl⟩

/-- A load that begins has its descriptor, and its kind by the descriptor's flags. -/
theorem State.beginLoad_load (s : State) (n i : Nat) (d : Desc) :
    ((s.beginLoad n i d).load n i).desc = d ∧ ((s.beginLoad n i d).load n i).background = nbit (leAt d.bytes 12 2) 1 := by
  unfold State.beginLoad
  extract_lets b up down l s1
  have begun : s1.load n i = l := State.load_modLoad_same s n i _
  have kept : SameLoadDesc n i s1 (if l.head && l.tail && decide (l.image = 0) then s1.loadDone n i else s1.passReady n i) := by
    split
    · exact .loadDone s1 n i
    · exact .passReady s1 n i
  obtain ⟨desc, background⟩ := kept
  exact ⟨desc.trans (by rw [begun]), background.trans (by rw [begun])⟩

/-- What a load leaves of the rings, memory and the queue. -/
def SameRings (s t : State) : Prop := (∀ q, t.sq q = s.sq q) ∧ t.mem = s.mem ∧ t.pending = s.pending

theorem SameRings.of_traffic {s t : State} (h : SameButTraffic s t) : SameRings s t := by
  refine ⟨fun q => ?_, by rw [h.state], by rw [h.state]⟩
  rw [State.sq, h.host]
  rfl

theorem SameRings.trans {s t u : State} (h : SameRings s t) (k : SameRings t u) : SameRings s u :=
  ⟨fun q => (k.1 q).trans (h.1 q), k.2.1.trans h.2.1, k.2.2.trans h.2.2⟩

theorem SameRings.modLoad (s : State) (n i : Nat) (f : Load → Load) : SameRings s (s.modLoad n i f) := ⟨fun _ => rfl, rfl, rfl⟩

theorem SameRings.endLoad (s : State) (n i status : Nat) : SameRings s (s.endLoad n i status) := by
  have freed : SameRings s s.unreserve := ⟨fun _ => rfl, rfl, rfl⟩
  exact (freed.trans (of_traffic (traffic_completeDesc (.refl s.unreserve) _ status _ 0 0 []))).trans (modLoad _ n i _)

/-- A load that begins leaves the rings, memory and the queue. -/
theorem State.sameRings_beginLoad (s : State) (n i : Nat) (d : Desc) : SameRings s (s.beginLoad n i d) := by
  unfold State.beginLoad
  extract_lets b up down l s1
  refine (SameRings.modLoad s n i _ : SameRings s s1).trans ?_
  split
  · unfold State.loadDone
    split
    · exact .endLoad s1 n i 0
    · exact .modLoad s1 n i _
  · unfold State.passReady
    dsimp only
    split
    · exact (SameRings.modLoad s1 n i _).trans (.of_traffic (traffic_loadRequest (.refl _) n i true 1))
    · exact ⟨fun _ => rfl, rfl, rfl⟩

end Sys2Proof.Machine

namespace Sys2Proof
open Machine

/-- Settles O33: the descriptor at the front of the ring is served by its type and its job's state. -/
theorem stepDescriptorsComplete : Obligations.StepDescriptorsComplete := by
  refine ⟨fun _ _ _ _ _ amb front kind job runs free step unread =>
      execStep_unread (State.nextDesc_front front kind (State.descWaits_step job runs kind free)) job runs free step unread amb,
    fun _ _ _ _ _ _ _ _ _ front kind job runs free step first plain count some' table attached read =>
      execStep_table (State.nextDesc_front front kind (State.descWaits_step job runs kind free)) job runs free step first plain count some' table
        attached read,
    fun _ _ _ _ _ amb _ next job runs run serving => execStep_serving next job runs run serving amb,
    fun _ _ _ _ _ front kind job runs cxl free idle foreground step =>
      execLoad_foreground (State.nextDesc_front front kind (State.descWaits_load job runs kind (.inr free))) job runs cxl idle free foreground step,
    fun s q d r n front kind job runs cxl idle background few room => ?_,
    fun _ _ _ _ _ _ _ _ front kind job runs _ run serving started step free within record small durable durableEnd resolved touched position
        attached =>
      execPass_ready (State.nextDesc_front front kind (State.descWaits_pass job runs kind free)) job runs run serving started step free within record
        small durable durableEnd resolved touched position attached,
    fun _ _ _ _ _ _ front kind job lead room whole run step unreserved uncoordinated =>
      execAbort_unreserved (State.nextDesc_front front kind (State.descWaits_abort job kind)) kind job lead room whole run step unreserved
        uncoordinated⟩
  obtain ⟨desc, kept⟩ := ((s.modSq q (fun x => { x with window := r })).reserve).beginLoad_load n d.loadId d
  obtain ⟨sq, mem, pending⟩ := ((s.modSq q (fun x => { x with window := r })).reserve).sameRings_beginLoad n d.loadId d
  refine ⟨_, execLoad_background (State.nextDesc_front front kind (State.descWaits_load job runs kind (.inl background))) job runs cxl idle background
    few room, rfl, desc, kept.trans (by rw [nbit_one, background]; rfl), ?_, mem, pending⟩
  rw [sq]
  exact congrArg Sq.window (State.sq_modSq_same s q fun x => { x with window := r })

end Sys2Proof
end

section
/-! The start of a step. -/
namespace Sys2Proof.Machine

/-- What each of the first `k` streams is after a change of each. -/
theorem Tile.stream_foldl_modStream (g : Nat → Stream → Stream) (t : Tile) (k i : Nat) :
    ((List.range k).foldl (fun t n => t.modStream n (g n)) t).stream i = if i < k then g i (t.stream i) else t.stream i := by
  induction k with
  | zero => rfl
  | succ k ih =>
    rw [List.range_succ, List.foldl_append, List.foldl_cons, List.foldl_nil, Tile.stream_modStream]
    by_cases here : i = k
    · subst here
      rw [if_pos rfl, ih, if_neg (Nat.lt_irrefl _), if_pos (Nat.lt_succ_self _)]
    · rw [if_neg here, ih]
      exact if_congr (by omega) rfl rfl

/-- One tile of a job at the start of a step. -/
def State.beginTile (j : Job) (version : Nat) (s : State) (L : Nat) : State :=
  let c := deckTile j.deck (L - 8 * j.first)
  let s1 := s.modTile L (fun t => (List.range 3).foldl (fun t n =>
    t.modStream n (fun x => if (tfind c.streams n).isSome then x.begin j n version else { x with state := .idle, ops := [] }))
    { t with stepCycle := 0 })
  (List.range 3).foldl (fun s n => s.modStream L n (fun x => { x with resume := s.replayState L n x.pc })) s1

theorem State.beginStreams_eq (s : State) (slot version : Nat) :
    s.beginStreams slot version = (s.job slot).tiles.foldl (State.beginTile (s.job slot) version) s := rfl

/-- From `s` to `t` only the tile `L` changes. -/
structure SameButTile (L : Nat) (s t : State) : Prop where
  state : t = { s with tiles := t.tiles }
  other : ∀ ix, ix ≠ s.tileIx L → t.tileAt ix = s.tileAt ix

namespace SameButTile

variable {L : Nat} {s t u : State}

theorem refl (L : Nat) (s : State) : SameButTile L s s := ⟨rfl, fun _ _ => rfl⟩

theorem tileIx (h : SameButTile L s t) (M : Nat) : t.tileIx M = s.tileIx M := by rw [h.state]; rfl

theorem trans (h : SameButTile L s t) (k : SameButTile L t u) : SameButTile L s u where
  state := by rw [k.state, h.state]
  other ix hix := (k.other ix (by rwa [h.tileIx])).trans (h.other ix hix)

theorem modTile (L : Nat) (s : State) (f : Tile → Tile) : SameButTile L s (s.modTile L f) :=
  ⟨rfl, fun _ hix => (State.tileAt_modTileAt ..).trans (if_neg hix)⟩

end SameButTile

/-- The state that a replay restores is the only thing that is set. -/
theorem State.resume_streams (s : State) (L k : Nat) :
    let t := (List.range k).foldl (fun s n => s.modStream L n (fun x => { x with resume := s.replayState L n x.pc })) s
    SameButTile L s t ∧ ∀ i, t.stream L i = { s.stream L i with resume := (t.stream L i).resume } := by
  refine List.foldlRecOn (motive := fun t : State => SameButTile L s t ∧ ∀ i, t.stream L i = { s.stream L i with resume := (t.stream L i).resume })
    _ _ ⟨.refl L s, fun _ => rfl⟩ fun t ⟨tile, kept⟩ n _ => ⟨tile.trans (.modTile L t _), fun i => ?_⟩
  rw [State.stream_modStream_same_tile]
  split
  · next e => rw [← e, kept i]
  · exact kept i

/-- A stream at the start of a step, by what the deck says of it. -/
def Stream.startOf (j : Job) (version L i : Nat) (x : Stream) : Stream :=
  if (tfind (deckTile j.deck (L - 8 * j.first)).streams i).isSome then x.begin j i version else { x with state := .idle, ops := [] }

theorem State.beginTile_spec (j : Job) (version : Nat) (s : State) (L : Nat) :
    SameButTile L s (s.beginTile j version L) ∧ ∀ i < 3, (s.beginTile j version L).stream L i
      = { (s.stream L i).startOf j version L i with resume := ((s.beginTile j version L).stream L i).resume } := by
  unfold State.beginTile
  extract_lets c s1
  obtain ⟨tile, kept⟩ := s1.resume_streams L 3
  refine ⟨(SameButTile.modTile L s _ : SameButTile L s s1).trans tile, fun i hi => ?_⟩
  have begun : s1.stream L i = (s.stream L i).startOf j version L i := by
    rw [State.stream, State.tile_modTile_same, Tile.stream_foldl_modStream, if_pos hi]
    rfl
  rw [kept i, begun]

theorem State.beginTile_spec_tile (j : Job) (version : Nat) (s : State) (L : Nat) : SameButTile L s (s.beginTile j version L) :=
  (s.beginTile_spec j version L).1

/-- From `s` to `t` only tiles change, and of them only those of the list. -/
structure SameButTiles (l : List Nat) (s t : State) : Prop where
  state : t = { s with tiles := t.tiles }
  other : ∀ M, (∀ L ∈ l, s.tileIx L ≠ s.tileIx M) → t.tile M = s.tile M

theorem SameButTiles.tileIx {l : List Nat} {s t : State} (h : SameButTiles l s t) (M : Nat) : t.tileIx M = s.tileIx M := by rw [h.state]; rfl

theorem SameButTiles.of_tile {L : Nat} {s t : State} (h : SameButTile L s t) : SameButTiles [L] s t :=
  ⟨h.state, fun M apart => by rw [State.tile, h.tileIx, h.other _ (apart L List.mem_cons_self).symm]; rfl⟩

theorem SameButTiles.append {l m : List Nat} {s t u : State} (h : SameButTiles l s t) (k : SameButTiles m t u) : SameButTiles (l ++ m) s u where
  state := by rw [k.state, h.state]
  other M apart := by
    rw [k.other M fun L hL => by rw [h.tileIx, h.tileIx]; exact apart L (List.mem_append_right _ hL)]
    exact h.other M fun L hL => apart L (List.mem_append_left _ hL)

theorem State.beginTiles_sameButTiles (j : Job) (version : Nat) (l : List Nat) : ∀ s : State, SameButTiles l s (l.foldl (State.beginTile j version) s) := by
  induction l with
  | nil => exact fun s => ⟨rfl, fun _ _ => rfl⟩
  | cons L l ih => exact fun s => (SameButTiles.of_tile (s.beginTile_spec_tile j version L)).append (ih _)

theorem State.beginStreams_state (s : State) (slot version : Nat) :
    s.beginStreams slot version = { s with tiles := (s.beginStreams slot version).tiles } :=
  (State.beginTiles_sameButTiles (s.job slot) version (s.job slot).tiles s).state

/-- Every tile of the list begins, where no two of them stand for one physical tile. -/
theorem State.beginTiles_stream {j : Job} {version : Nat} {l : List Nat} {s : State} (distinct : l.Nodup)
    (apart : ∀ L ∈ l, ∀ M ∈ l, s.tileIx L = s.tileIx M → L = M) {L i : Nat} (hL : L ∈ l) (hi : i < 3) :
    (l.foldl (State.beginTile j version) s).stream L i = { (s.stream L i).startOf j version L i with
      resume := ((l.foldl (State.beginTile j version) s).stream L i).resume } := by
  obtain ⟨before, after, rfl⟩ := List.append_of_mem hL
  rw [List.nodup_append, List.nodup_cons] at distinct
  obtain ⟨-, ⟨unlater, -⟩, unbefore⟩ := distinct
  rw [List.foldl_append, List.foldl_cons]
  have first := State.beginTiles_sameButTiles j version before s
  obtain ⟨now, begun⟩ := (before.foldl (State.beginTile j version) s).beginTile_spec j version L
  have last := State.beginTiles_sameButTiles j version after ((before.foldl (State.beginTile j version) s).beginTile j version L)
  have untouched : (before.foldl (State.beginTile j version) s).stream L i = s.stream L i := by
    rw [State.stream, first.other L fun M hM same => unbefore M hM L List.mem_cons_self (apart M (by simp [hM]) L hL same)]
    rfl
  have kept : ∀ u, u = after.foldl (State.beginTile j version) ((before.foldl (State.beginTile j version) s).beginTile j version L) →
      u.stream L i = ((before.foldl (State.beginTile j version) s).beginTile j version L).stream L i := by
    rintro u rfl
    rw [State.stream, last.other L fun M hM same => unlater ?_]
    · rfl
    · rw [now.tileIx, now.tileIx, first.tileIx, first.tileIx] at same
      rwa [← apart M (by simp [hM]) L hL same]
  rw [kept _ rfl, ← untouched]
  exact begun i hi

/-- A step starts on an engine without contexts as the state stands. -/
theorem State.meldStepStart_idle {s : State} {n : Nat} (idle0 : (s.meld 0).ctxs = []) (idle1 : (s.meld 1).ctxs = []) : s.meldStepStart n = s := by
  have none : ∀ e, (s.meld e).ctxs = [] → ((s.meld e).slotsOf (s.job n).id.toNat).foldl (fun s cs => s.relayStart e cs n) s = s := fun e idle => by
    rw [Meld.slotsOf, idle]
    rfl
  rw [State.meldStepStart, show List.range 2 = [0, 1] from rfl, List.foldl_cons, none 0 idle0, List.foldl_cons, none 1 idle1, List.foldl_nil]

theorem nodup_upFrom (n k : Nat) : (upFrom n k).Nodup := by
  rw [upFrom]
  exact List.Nodup.map (fun a b h => Nat.add_right_cancel h) List.nodup_range

theorem Job.nodup_tiles (j : Job) : j.tiles.Nodup := by
  unfold Job.tiles
  split
  · exact nodup_upFrom _ _
  · exact List.nodup_nil

/-- The job at the start of a step without a load and without an update. -/
def Job.startOf (j : Job) (s : State) (r : StepRun) : Job :=
  { j with
    run := some { r with started := true, reserved := true, version := j.curTag, nextMb := 0, ctlDone := false, slotWait := false }
    wdogLimit := wdogLimitOf j.tTile j.tFixed (s.minClock j) (bits s.dealer.wdogCtl 22 6), wdogElapsed := 0, wdogExtra := 0
    wdogFmin := s.minClock j, stepFmin := s.minClock j, stepUs := 0
    energyAt := s.tel.railEnergy.map (fun (e : Nat × Dword) => (e.1, e.2.toNat)) }

/-- A step without a load starts: its record is reserved, its job counts anew, and its streams begin. -/
theorem execStepStart_plain {s : State} {n : Fin 16} {r : StepRun} (run : (s.job n).run = some r) (load : r.load = none)
    (cxl : s.host.pcieOnly = false) (unstarted : r.started = false) (unrevoked : r.revoked = false) (undone : r.done = false)
    (unreserved : r.reserved = false) (runs : (s.job n).runs = true) (unpaged : (s.job n).page = none) (room : s.mayReserve = true)
    (noUpdate : (s.job n).deck.update = false) (noCut : (s.job n).cutDue = false) (idle0 : (s.meld 0).ctxs = []) (idle1 : (s.meld 1).ctxs = []) :
    execStepStart n s = .next ((s.reserve.modJob n (fun _ => (s.job n).startOf s r)).beginStreams n (s.job n).curTag.toNat) := by
  have uncut : (s.reserve.modJob n (fun _ => (s.job n).startOf s r)).startCut n = s.reserve.modJob n (fun _ => (s.job n).startOf s r) := by
    rw [State.startCut, State.job_modJob_same]
    exact if_pos (by rw [Job.startOf, noCut]; rfl)
  have unmelded : ((s.reserve.modJob n (fun _ => (s.job n).startOf s r)).beginStreams n (s.job n).curTag.toNat).meldStepStart n
      = (s.reserve.modJob n (fun _ => (s.job n).startOf s r)).beginStreams n (s.job n).curTag.toNat := by
    have same := (s.reserve.modJob n (fun _ => (s.job n).startOf s r)).beginStreams_state n (s.job n).curTag.toNat
    refine State.meldStepStart_idle ?_ ?_
    · rw [same]; exact idle0
    · rw [same]; exact idle1
  cases r
  dsimp only at load unstarted unrevoked undone unreserved
  subst load unstarted unrevoked undone unreserved
  unfold execStepStart
  dsimp only
  rw [run]
  dsimp only
  rw [runs, cxl, if_neg (by decide), unpaged, if_neg (by decide), room, if_neg (by decide), noUpdate, if_neg Bool.false_ne_true]
  simp only [Bool.false_eq_true, if_false]
  dsimp only [Job.startOf] at uncut unmelded ⊢
  rw [uncut, unmelded]

end Sys2Proof.Machine

namespace Sys2Proof
open Machine

/-- Settles O34: the tiles of a job begin one by one, and no two of them stand for one physical tile. -/
theorem stepStartCompletes : Obligations.StepStartCompletes := by
  intro s n r valid fits run load cxl unstarted unrevoked undone unreserved runs unpaged room noUpdate noCut idle0 idle1 apart
  obtain ⟨u, hu⟩ : ∃ u, u = s.reserve.modJob n (fun _ => (s.job n).startOf s r) := ⟨_, rfl⟩
  have job : u.job n = (s.job n).startOf s r := by rw [hu, State.job_modJob_same]
  have tiles : (u.job n).tiles = (s.job n).tiles := by rw [job]; rfl
  have same := u.beginStreams_state n (s.job n).curTag.toNat
  have begun : ∀ L ∈ (s.job n).tiles, ∀ i < 3, (u.beginStreams n (s.job n).curTag.toNat).stream L i
      = { (s.stream L i).startOf (u.job n) (s.job n).curTag.toNat L i with
          resume := ((u.beginStreams n (s.job n).curTag.toNat).stream L i).resume } := by
    intro L hL i hi
    have stream : u.stream L i = s.stream L i := by rw [hu]; rfl
    rw [← stream]
    refine State.beginTiles_stream (Job.nodup_tiles _) ?_ (tiles ▸ hL) hi
    rw [tiles, hu]
    exact apart
  refine ⟨u.beginStreams n (s.job n).curTag.toNat, ?_, ?_, ?_, ?_, ?_, ?_, ?_, ?_, fun L hL i hi => ⟨fun configured => ?_, fun other => ?_⟩⟩
  · rw [exec_stepStart, execStepStart_plain run load cxl unstarted unrevoked undone unreserved runs unpaged room noUpdate noCut idle0 idle1, hu]
  · rw [same, hu]; rfl
  · rw [same, hu]; rfl
  · rw [same, hu]; rfl
  · rw [same, hu]; rfl
  · rw [same]; exact congrArg Job.run job
  · rw [same]; exact congrArg Job.wdogLimit job
  · rw [same]; exact congrArg Job.wdogElapsed job
  · have deck : (u.job n).deck = (s.job n).deck ∧ (u.job n).first = (s.job n).first := by rw [job]; exact ⟨rfl, rfl⟩
    rw [begun L hL i hi, Stream.startOf, deck.1, deck.2, if_pos configured, Stream.begin]
    refine ⟨rfl, ?_, ?_, rfl, rfl, rfl⟩
    · exact (toNat_ofNat_bits 0 16 _)
    · rw [job]; rfl
  · have deck : (u.job n).deck = (s.job n).deck ∧ (u.job n).first = (s.job n).first := by rw [job]; exact ⟨rfl, rfl⟩
    rw [begun L hL i hi, Stream.startOf, deck.1, deck.2, if_neg (by simp [other])]

end Sys2Proof
end

section
/-! Injections, the watchdogs and the statistics page. -/
namespace Sys2Proof.Machine

/-- A read of the host window that the translations serve is a read that the hub has. -/
theorem State.hubWindow_ok {s u : State} {slot v n : Nat} {bs : List Byte} (read : s.windowRead slot v n = (u, .ok bs)) :
    s.hubWindow slot v n = (u, .ok bs) := by rw [State.hubWindow, read]

/-! ### What a read of the host window and an injection leave of the jobs -/

/-- From `s` to `t` a job changes only in its loads and its statistics. -/
def SameJobs (s t : State) : Prop :=
  ∀ n, t.job n = { s.job n with loads := (t.job n).loads, statistics := (t.job n).statistics, satRaised := (t.job n).satRaised }

namespace SameJobs

variable {s t u : State}

theorem refl (s : State) : SameJobs s s := fun _ => rfl

theorem trans (h : SameJobs s t) (k : SameJobs t u) : SameJobs s u := fun n => by rw [k n, h n]

theorem of_dealer (h : t.dealer = s.dealer) : SameJobs s t := fun n => by
  have same : t.job n = s.job n := by rw [State.job, h, State.job]
  rw [same]

theorem modEp (s : State) (L e : Nat) (f : Endpoint → Endpoint) : SameJobs s (s.modEp L e f) := of_dealer rfl

theorem foldl {α : Type} {f : State → α → State} (hf : ∀ v a, SameJobs v (f v a)) (l : List α) : ∀ s, SameJobs s (l.foldl f s) := by
  induction l with
  | nil => exact refl
  | cons a l ih => exact fun s => (hf s a).trans (ih _)

theorem translate (s : State) (job v : Nat) (write : Bool) : SameJobs s (s.translate job v write).1 := by
  refine of_dealer ?_
  unfold State.translate
  extract_lets p e a s1
  have counted : s1.dealer = s.dealer := rfl
  clear_value p e a s1
  repeat' split
  all_goals simp only [State.modHost_dealer, counted]

theorem translateAll (job : Nat) (write : Bool) (vs : List Nat) : ∀ s, SameJobs s (Machine.translateAll job write vs s).1 := by
  induction vs with
  | nil => exact refl
  | cons v r ih =>
    intro s
    have first := translate s job v write
    cases e : s.translate job v write with
    | mk s1 x =>
      rw [e] at first
      cases x with
      | ok a => rw [translateAll_cons_ok e]; exact first.trans (ih s1)
      | fail why => rw [translateAll_cons_fail e]; exact first

theorem stat (s : State) (slot i n : Nat) : SameJobs s (s.stat slot i n) := (traffic_stat (.refl s) slot i n).job

theorem fetchLine (s : State) (slot : Option Nat) (line : Nat) : SameJobs s (s.fetchLine slot line) := by
  unfold State.fetchLine
  extract_lets stale s1
  have h : SameJobs s s1 := of_dealer rfl
  split
  · split
    · exact h.trans (stat s1 _ _ _)
    · exact h
  · exact h

theorem windowRead (s : State) (slot v n : Nat) : SameJobs s (s.windowRead slot v n).1 := by
  have translated := translateAll (s.job slot).id.toNat false (upFrom v n) s
  unfold State.windowRead
  split
  · next e => rwa [e] at translated
  · next e =>
    rw [e] at translated
    exact (translated.trans (foldl (fun s l => fetchLine s _ l) _ _)).trans (stat _ slot 13 n)

theorem storeCells (s : State) (slot : Option Nat) (cells : List Host.Cell) : SameJobs s (s.storeCells slot cells) := by
  have snooped : SameJobs s (s.snoopHost (linesOf (cells.map (·.1)))) := of_dealer (by rw [State.snoopHost_eq])
  exact snooped.trans (SameButLines.writeLines _ slot cells).job

theorem writeArea (s : State) (slot L e : Nat) (spill poison : Bool) (off : Nat) (bs : List Byte) :
    SameJobs s (s.writeArea slot L e spill poison off bs) := by
  unfold State.writeArea
  extract_lets x base cells lines s1 s2
  have h1 : SameJobs s s1 := foldl (fun s l => by
    split
    · exact (SameButLines.gddrAccess s _ l true false).job
    · exact refl s) lines s
  have h2 : SameJobs s s2 := h1.trans (storeCells s1 _ cells)
  split
  · exact h2.trans (foldl (fun s l => (SameButLines.setPoison s l).job) lines s2)
  · exact h2

theorem inject {slot : Nat} {tag : Nat → Nat → Tag} {payload : List Byte} (placed : s.inject slot tag payload = some t) : SameJobs s t := by
  unfold State.inject at placed
  dsimp only at placed
  split at placed
  · cases placed
  · split at placed
    · cases placed
    · split at placed
      · cases placed
      · cases Option.some.inj placed
        refine SameJobs.trans (SameJobs.trans ?_ (writeArea _ slot _ _ false false _ _)) (modEp _ _ _ _)
        split
        · exact refl s
        · exact writeArea s slot _ _ false false _ _

end SameJobs

/-- The tiles of a job hang on what an injection leaves. -/
theorem SameJobs.minClock {s t : State} (h : SameJobs s t) (u : State) (n : Nat) :
    (t.job n).tTile = (s.job n).tTile ∧ (t.job n).tFixed = (s.job n).tFixed ∧ u.minClock (t.job n) = u.minClock (s.job n) := by
  rw [h n]
  exact ⟨rfl, rfl, rfl⟩

section Run
variable {s : State} {n : Fin 16} {r : StepRun} (run : (s.job n).run = some r)
include run

/-! ### Injections -/

theorem execMicroBatchInjection_placed {u v w : State} {b payload : List Byte} (started : r.started = true) (unrevoked : r.revoked = false)
    (unserving : r.serving = false) (load : r.load = none) (first : (s.job n).deck.firstStage.isSome = true) (more : r.nextMb < r.mbCount)
    (attached : s.host.attached = true) (entry : s.windowRead n (r.table.toNat + 16 * r.nextMb) 16 = (u, .ok b))
    (read : (u.entryBytes (leAt b 8 2)).1.windowRead n (leAt b 0 8) (u.entryBytes (leAt b 8 2)).2 = (v, .ok payload))
    (placed : v.inject n (injectTag (s.job n) 0 r.nextMb (leAt b 12 4 % 2 ^ 20)) payload = some w) :
    execMicroBatchInjection n {} s = .next (w.modJob n (fun j => { j with run := some { r with nextMb := r.nextMb + 1 } })) := by
  have due : (!r.started || r.revoked || r.serving || r.load.isSome || (s.job n).deck.firstStage.isNone || decide (r.mbCount ≤ r.nextMb)) = false := by
    simp [started, unrevoked, unserving, load, first, more]
  have entry := State.hubWindow_ok entry
  have read := State.hubWindow_ok read
  generalize size : u.entryBytes (leAt b 8 2) = x at read
  obtain ⟨u', k⟩ := x
  rw [execMicroBatchInjection, run]
  obtain ⟨window, hw⟩ : ∃ window, window = State.hubWindow := ⟨_, rfl⟩
  rw [← hw] at entry read ⊢
  simp only [due, Bool.false_eq_true, if_false, attached, Bool.not_true, State.applyAmb_empty, entry, size, read, placed]

theorem execControlPassInjection_placed {w : State} (started : r.started = true) (unrevoked : r.revoked = false) (unserving : r.serving = false)
    (load : r.load = none) (uncontrolled : r.ctlDone = false) (all : r.mbCount ≤ r.nextMb) (cxl : s.host.pcieOnly = false)
    (placed : s.inject n (injectTag (s.job n) 3 0 0) [] = some w) :
    execControlPassInjection n s = .next (w.modJob n (fun j => { j with run := some { r with ctlDone := true } })) := by
  rw [execControlPassInjection, run]
  dsimp only
  rw [if_neg (by simp [started, unrevoked, unserving, load, uncontrolled, all, cxl]), placed]

theorem execPassInjection_placed {u w : State} {p : PassRun} {payload : List Byte} (started : r.started = true) (unrevoked : r.revoked = false)
    (serving : r.serving = true) (passes : (s.job n).passes = [p]) (uninjected : p.injected = false) (unrevokedPass : p.revoked = false)
    (unreserved : p.reserved = false) (attached : s.host.attached = true) (room : s.mayReserve = true)
    (read : s.windowRead n p.drafts.toNat (p.positions * 4) = (u, .ok payload))
    (placed : u.inject n (injectTag (s.job n) 0 p.mb.toNat p.posBase.toNat) payload = some w) :
    execPassInjection n p.mb {} s = .next (w.reserve.modJob n (fun j => { j with
        passes := modFirst (fun q => q.mb = p.mb) (fun q => { q with
          injected := true, reserved := true, overrun := false, wdogElapsed := 0, wdogExtra := 0,
          wdogLimit := wdogLimitOf (s.job n).tTile (s.job n).tFixed (s.minClock (s.job n)) (bits s.dealer.wdogCtl 22 6) }) j.passes })) := by
  have found : [p].find? (fun q => decide (q.mb = p.mb)) = some p := by rw [List.find?_cons, decide_eq_true rfl]
  unfold execPassInjection
  dsimp only
  rw [run, passes, found]
  dsimp only
  rw [if_neg (by simp [started, unrevoked, serving, uninjected, unrevokedPass]), if_neg (by simp [attached]), if_neg (by simp [room]),
    State.applyAmb_empty, State.hubWindow_ok read]
  dsimp only
  rw [placed]
  dsimp only
  rw [if_neg (by simp [unreserved])]
  have injected : SameJobs s w.reserve := by
    have taken := SameJobs.windowRead s n p.drafts.toNat (p.positions * 4)
    rw [read] at taken
    exact (taken.trans (.inject placed)).trans (.of_dealer rfl)
  obtain ⟨tTile, tFixed, clock⟩ := injected.minClock s n
  refine congrArg _ (State.modJob_congr ?_)
  rw [tTile, tFixed, clock]

/-! ### Watchdogs -/

theorem execStepOverrun_late (started : r.started = true) (unserving : r.serving = false) (first : r.overrun = false)
    (unended : s.workEnded n r = false) (late : (s.job n).wdogLimit ≤ (s.job n).wdogElapsed) :
    execStepOverrun n s = .next ((s.modJob n (fun j => { j with run := some { r with overrun := true } })).raise 0x0201
      (s.job n).id.toNat ((s.job n).wdogLimit + n.val * 2 ^ 32 + (s.job n).step.toNat % 2 ^ 20 * 2 ^ 36)) := by
  rw [execStepOverrun, run]
  dsimp only
  rw [if_neg (by simp [started]), if_neg (by simp [unserving]), if_neg (by simp [first, unended, late])]
  rfl

theorem execStepOverrun_latePass {p : PassRun} (started : r.started = true) (serving : r.serving = true) (passes : (s.job n).passes = [p])
    (injected : p.injected = true) (late : p.wdogLimit ≤ p.wdogElapsed) (first : p.overrun = false) (unready : p.readySent = false) :
    execStepOverrun n s = .next ((s.modJob n (fun j => { j with passes := [{ p with overrun := true }] })).raise 0x0201
      (s.job n).id.toNat (p.wdogLimit + n.val * 2 ^ 32 + (s.job n).step.toNat % 2 ^ 20 * 2 ^ 36)) := by
  have isLate : (p.late 1 && !p.overrun && !p.readySent) = true := by simp [PassRun.late, injected, late, first, unready]
  have marked : s.modJob n (fun j => { j with
      passes := modFirst (fun p => p.late 1 && !p.overrun && !p.readySent) (fun q => { q with overrun := true }) j.passes })
      = s.modJob n (fun j => { j with passes := [{ p with overrun := true }] }) :=
    State.modJob_congr (by simp only [passes, modFirst, isLate, if_true])
  have found : [p].find? (fun p => p.late 1 && !p.overrun && !p.readySent) = some p := by rw [List.find?_cons, isLate]
  rw [execStepOverrun, run]
  dsimp only
  rw [if_neg (by simp [started]), if_pos serving, passes, found]
  dsimp only
  rw [marked]
  rfl

theorem execStepWatchdogFault_latePass {p : PassRun} (started : r.started = true) (serving : r.serving = true) (passes : (s.job n).passes = [p])
    (injected : p.injected = true) (on : bits s.dealer.wdogCtl 28 4 ≠ 0) (late : bits s.dealer.wdogCtl 28 4 * p.wdogLimit ≤ p.wdogElapsed) :
    execStepWatchdogFault n s = .next ((s.raise 0x0202 (s.job n).id.toNat
      (p.wdogLimit + n.val * 2 ^ 32 + (s.job n).step.toNat % 2 ^ 20 * 2 ^ 36)).jobFault 0x0202) := by
  have found : [p].find? (fun p => p.late (bits s.dealer.wdogCtl 28 4)) = some p := by
    rw [List.find?_cons, show p.late (bits s.dealer.wdogCtl 28 4) = true by simp [PassRun.late, injected, late]]
  unfold execStepWatchdogFault
  dsimp only
  rw [run]
  dsimp only
  rw [if_neg (by simp [started, on]), if_pos serving, passes, found]
  rfl

theorem execStepWatchdogFault_late (started : r.started = true) (unserving : r.serving = false) (on : bits s.dealer.wdogCtl 28 4 ≠ 0)
    (late : bits s.dealer.wdogCtl 28 4 * (s.job n).wdogLimit ≤ (s.job n).wdogElapsed) :
    execStepWatchdogFault n s = .next ((s.raise 0x0202 (s.job n).id.toNat
      ((s.job n).wdogLimit + n.val * 2 ^ 32 + (s.job n).step.toNat % 2 ^ 20 * 2 ^ 36)).jobFault 0x0202) := by
  unfold execStepWatchdogFault
  dsimp only
  rw [run]
  dsimp only
  rw [if_neg (by simp [started, on]), if_neg (by simp [unserving]), if_neg (Nat.not_lt.2 late)]
  rfl

end Run

/-! ### The statistics page -/

theorem execStatsPageWritten_written {s u : State} {n : Fin 16} {page : List Byte} (attached : s.host.attached = true)
    (due : (s.job n).page = some page) (unheld : (s.job n).pageHeld = false)
    (written : s.windowWrite n ((s.job n).stats.toNat + leAt page 4 4 % 2 * 0x4000) page = (u, none)) :
    execStatsPageWritten n s = .next ((u.modJob n (fun j => { j with
      page := none, pageStep := BitVec.ofNat 32 (leAt page 4 4) })).completeStep n) := by
  have address : (s.job n).pageAddr (BitVec.ofNat 32 (leAt page 4 4)) = (s.job n).stats.toNat + leAt page 4 4 % 2 * 0x4000 := by
    rw [Job.pageAddr, BitVec.toNat_ofNat]
    omega
  rw [execStatsPageWritten, if_pos attached, State.writePage]
  dsimp only
  rw [due]
  dsimp only
  rw [if_neg (by simp [unheld]), address, written]

end Sys2Proof.Machine

namespace Sys2Proof
open Machine

/-- Settles O36: an injection takes its payload from the host window and is placed; a watchdog acts when its count is over. -/
theorem injectionsComplete : Obligations.InjectionsComplete :=
  ⟨fun _ _ _ _ _ _ _ _ run started unrevoked unserving load first more attached entry read placed =>
      execMicroBatchInjection_placed run started unrevoked unserving load first more attached entry read placed,
    fun _ _ _ _ run started unrevoked unserving load uncontrolled all cxl placed =>
      execControlPassInjection_placed run started unrevoked unserving load uncontrolled all cxl placed,
    fun _ _ _ _ _ _ _ run started unrevoked serving passes uninjected unrevokedPass unreserved attached room read placed =>
      ⟨_, execPassInjection_placed run started unrevoked serving passes uninjected unrevokedPass unreserved attached room read placed, rfl, rfl⟩,
    fun _ _ _ run started unserving first unended late => execStepOverrun_late run started unserving first unended late,
    fun _ _ _ _ run started serving passes injected late first unready =>
      execStepOverrun_latePass run started serving passes injected late first unready,
    fun _ _ _ _ run started serving passes injected on late => execStepWatchdogFault_latePass run started serving passes injected on late,
    fun _ _ _ run started unserving on late => execStepWatchdogFault_late run started unserving on late,
    fun _ _ _ _ attached due unheld written => execStatsPageWritten_written attached due unheld written⟩

end Sys2Proof
end

section
/-! Instructions issue: the sequencer's own complete at issue, the engines' join their queue. -/
namespace Sys2Proof.Machine

/-! ### The issue of an instruction -/

section MayIssue
variable {s u : State} {L : Fin 128} {n : Fin 3} {slot w : Nat} (may : s.mayIssue L n slot w) (hu : u = s.issued L n w)
include may hu

/-- An instruction that may issue does, for the row of commands that its opcode is of. -/
theorem State.tryIssue_of_mayIssue {row : Nat → Bool} (mine : row w = true) : s.tryIssue L n row = .go u slot w := by
  obtain ⟨job, notIdle, notHalt, unheld, free, uncomputed, within, sound, word, good, alone, room, wait⟩ := may
  have goes : ((s.stream L n).state = .idle || (s.stream L n).state = .halt || (s.stream L n).issueHeld || s.engineHeld L
      || (s.tile L).recomputing n) = false := by simp [notIdle, notHalt, unheld, free, uncomputed]
  have ready : (insWait w ≠ 0 && !(s.stream L n).waitDone && !s.waitHolds L n (insWait w)) = false := by
    rcases wait with none | done | holds
    · simp [none]
    · simp [done]
    · simp [holds]
  have drained : (issuesAlone (insOp w) && !(s.stream L n).ops.isEmpty) = false := by
    cases e : issuesAlone (insOp w)
    · rfl
    · simp [alone e]
  have taken : u = if insWait w ≠ 0 && !(s.stream L n).waitDone then ((s.scratchTouch L (s.fetchAt L n) 16).1).waitTaken L n (insWait w)
      else (s.scratchTouch L (s.fetchAt L n) 16).1 := by
    rw [hu, State.issued]
    exact if_congr (by simp) rfl rfl
  unfold State.fetchAt at within sound word taken
  unfold State.tryIssue
  obtain ⟨touch, ht⟩ : ∃ touch, touch = State.scratchTouch := ⟨_, rfl⟩
  obtain ⟨read, hr⟩ : ∃ read, read = State.scratchRead := ⟨_, rfl⟩
  rw [← ht] at sound taken ⊢
  rw [← hr] at word ⊢
  extract_lets x at' r w'
  have same : w' = w := word.symm
  rw [job]
  dsimp only
  rw [if_neg (by rw [goes]; exact Bool.false_ne_true), if_neg (Nat.not_lt.2 within), if_neg (by rw [sound]; exact Bool.false_ne_true), same, good]
  dsimp only
  rw [if_neg (by simp [mine]), if_neg (by rw [drained]; exact Bool.false_ne_true), if_neg (by rw [ready]; exact Bool.false_ne_true),
    if_neg (by rw [room]; exact Bool.false_ne_true), taken]

theorem State.runSeq_of_mayIssue {op : Nat} (opcode : insOp w = op) (f : State → Nat → State) :
    s.runSeq L n op f = (f u w).signalAtIssue L n (insSig w) := by
  rw [State.runSeq, State.tryIssue_of_mayIssue may hu (by simp [opcode])]

end MayIssue

/-- A word that is read leaves its stream. -/
theorem State.stream_scratchTouch (s : State) (L o k : Nat) (M i : Nat) : (s.scratchTouch L o k).1.stream M i = s.stream M i := by
  have touched : SameButLines s (s.scratchTouch L o k).1 := .touchReads _ _ _ s
  rw [State.stream, State.tile, State.tileAt, touched.tileIx, touched.tiles]
  rfl

/-- A wait that is taken changes its handle's target only. -/
theorem State.issued_stream (s : State) (L n w : Nat) :
    (s.issued L n w).stream L n = { s.stream L n with handles := ((s.issued L n w).stream L n).handles } := by
  unfold State.issued
  dsimp only
  split
  · rw [State.waitTaken, State.modHandle, State.stream_modStream_same, State.stream_scratchTouch]
  · rw [State.stream_scratchTouch]

end Sys2Proof.Machine

namespace Sys2Proof
open Machine

/-- Settles O41: an instruction that may issue runs its row on the state in which its word is read and its wait taken. -/
theorem sequencerInstructionsComplete : Obligations.SequencerInstructionsComplete := by
  intro s L n slot w u may hu
  have loops : (u.stream L n).loops = (s.stream L n).loops := by rw [hu, State.issued_stream]
  refine ⟨fun opcode => ?_, fun opcode => ?_, fun opcode => ?_, fun opcode c hc => ?_, fun opcode => ?_, fun opcode => ?_, fun opcode => ?_⟩
  · rw [exec_nop, execNop, State.runSeq_of_mayIssue may hu opcode]
    rfl
  · rw [exec_stop, execStop, State.runSeq_of_mayIssue may hu opcode]
    rfl
  · rw [exec_jmp, execJmp, State.runSeq_of_mayIssue may hu opcode]
    rfl
  · rw [exec_loop, execLoop, State.runSeq_of_mayIssue may hu opcode]
    dsimp only
    rw [loops, ← hc, State.advance1, State.stream_modStream_same, ← apply_ite (State.advance _ _ _)]
    rfl
  · rw [exec_ldlc, execLdlc, State.runSeq_of_mayIssue may hu opcode]
    rw [State.advance1, State.stream_modStream_same]
  · rw [exec_brtag, execBrtag, State.runSeq_of_mayIssue may hu opcode]
    rw [State.advance1, ← apply_ite (State.advance _ _ _)]
    rfl
  · rw [exec_fence, execFence, State.runSeq_of_mayIssue may hu opcode]
    rfl

end Sys2Proof

namespace Sys2Proof.Machine

/-! ### A tile that is mapped past the scratch: why `SequencerFrame` fails -/

/-- Tile 0 of the only job stands for a physical tile whose scratch would lie in GDDR7. -/
def strayTileState : State :=
  { ({} : State) with
    dealer := { jobs := [(0, { valid := true, groups := 1 })] }
    stks := [(0, { tileMap := [(0, 15360)] })]
    tiles := [(15360, { streams := [(0, { state := .run })] })] }

/-- Its first word is a NOP without a wait and without a signal. -/
theorem strayTileState_mayIssue : strayTileState.mayIssue 0 0 0 0 := by
  unfold State.mayIssue
  decide +kernel

/-- The state that the NOP leaves. -/
def strayTileNop : State := strayTileState.runSeq 0 0 0x00 (fun s _ => s.advance1 0 0)

/-- The fetch of the word counts a read of GDDR7 for the job. -/
theorem strayTileNop_counts : (strayTileNop.job 0).statistics.length = 2 := by decide +kernel

end Sys2Proof.Machine

namespace Sys2Proof
open Machine

/-- Refutes O42: where the tile map names a tile past the scratch, the fetch of an instruction counts a GDDR7 read in the job's statistics. -/
theorem not_sequencerFrame : ¬ Obligations.SequencerFrame := by
  intro frame
  obtain ⟨-, -, -, -, -, -, same, -⟩ := frame strayTileState strayTileNop 0 0 0 0 (.nop 0 0) strayTileState_mayIssue (by decide) (by decide)
    List.mem_cons_self rfl
  obtain ⟨-, dealer, -⟩ := same rfl
  have none : (strayTileNop.job 0).statistics.length = 0 := by rw [State.job, dealer]; rfl
  exact absurd (strayTileNop_counts.symm.trans none) (by decide)

end Sys2Proof

namespace Sys2Proof.Machine

/-! ### The engines' instructions -/

section Engines
variable {s u r : State} {L : Fin 128} {n : Fin 3} {slot w : Nat}

theorem execMma_issue {v : State} (go : s.tryIssue L n (fun w => insOp w = 0x10) = .go u slot w)
    (west : u.scratchTouch L (mmaWest w) 64 = (v, false)) (north : v.scratchTouch L (mmaNorth w) 64 = (r, false))
    (good : u.mmaBad slot L n (u.stream L n).tag w = none) :
    execMma L n s = .next (r.enqueue L n w (u.keepsOf slot ((feederOf (u.scratchRead L (mmaNorth w) 64)).span false)
        ++ u.keepsOf slot ((feederOf (u.scratchRead L (mmaWest w) 64)).span true)).dedup) := by
  have read : u.feederTouch L w = (r, false) := by
    obtain ⟨touch, ht⟩ : ∃ touch, touch = State.scratchTouch := ⟨_, rfl⟩
    unfold State.feederTouch
    rw [← ht] at west north ⊢
    simp only [west, north, Bool.or_self]
  rw [execMma, go]
  obtain ⟨touch, ht⟩ : ∃ touch, touch = State.feederTouch := ⟨_, rfl⟩
  rw [← ht] at read ⊢
  simp only [read, good, Bool.false_eq_true, if_false]

theorem execVec_issue (go : s.tryIssue L n (fun w => insOp w = 0x11) = .go u slot w) :
    execVec L n s = .next (u.enqueue L n w (u.vecPins slot L w)) := by
  rw [execVec, go]

theorem execDma_issue {v x : State} {d : DmaDesc} {t : Tensor} {f : Fmt} (go : s.tryIssue L n (fun w => insOp w = 0x18) = .go u slot w)
    (desc : d = u.dmaDesc L w) (first : u.scratchTouch L (insDesc w) 64 = (v, false))
    (source : v.scratchTouch L (leAt (u.scratchRead L (insDesc w) 4) 0 2 * 64) 64 = (x, false))
    (target : x.scratchTouch L (leAt (u.scratchRead L (insDesc w) 4) 2 2 * 64) 64 = (r, false))
    (good : u.dmaBad slot L n (u.stream L n).tag d = none) (tensor : u.tensorOf slot (u.stream L n).tag d.src = some t)
    (fmt : fmtOfCode (leAt d.dst 8 1) = some f) (exact' : (u.job slot).det = false ∨ d.accw = false ∨ f.isInt = true) :
    execDma L n s = .next ((r.runAhead slot L (u.stream L n).tag w d).enqueue L n w (u.keepsOf slot t.extent)) := by
  have read : u.dmaTouch L w = (r, false) := by
    obtain ⟨touch, ht⟩ : ∃ touch, touch = State.scratchTouch := ⟨_, rfl⟩
    unfold State.dmaTouch
    rw [← ht] at first source target ⊢
    simp only [first, source, target, Bool.or_self]
  have accumulates : ((d.accw && !f.isInt) && (u.job slot).det) = false := by
    rcases exact' with loose | plain | int
    · simp [loose]
    · simp [plain]
    · simp [int]
  rw [execDma, go]
  obtain ⟨touch, ht⟩ : ∃ touch, touch = State.dmaTouch := ⟨_, rfl⟩
  rw [← ht] at read ⊢
  simp only [read, ← desc, good, fmt, accumulates, tensor, Bool.false_eq_true, if_false]

theorem execRecv_issue (go : s.tryIssue L n (fun w => insOp w = 0x20) = .go u slot w) (read : u.scratchTouch L (insDesc w) 64 = (r, false))
    (good : tensorBad (u.descBytes L w) = false) (member : u.recvMisuse L (tget 0 (u.stream L n).sels (nbits w 24 3)) = none) :
    execRecv L n s = .next ((r.enqueue L n w []).modStream L n (fun x => { x with issueHeld := true })) := by
  rw [execRecv, go]
  obtain ⟨touch, ht⟩ : ∃ touch, touch = State.scratchTouch := ⟨_, rfl⟩
  rw [← ht] at read ⊢
  simp only [read, good, member, Bool.false_eq_true, if_false]

theorem execSend_issue {t : Tensor} {o : Op} (go : s.tryIssue L n (fun w => insOp w = 0x21) = .go u slot w)
    (read : u.scratchTouch L (insDesc w) 64 = (r, false)) (good : tensorBad (u.descBytes L w) = false)
    (tensor : u.tensorOf slot (u.stream L n).tag (u.descBytes L w) = some t)
    (op : o = { engine := .channel, word := BitVec.ofNat 128 w, tag := (u.stream L n).tag, pc := (u.stream L n).pc })
    (fits : (u.ep L (nbits w 24 5)).sendMisuse (recordUnits (sendPayload o t)) = none) :
    execSend L n s = .next (r.enqueue L n w (u.keepsOf slot t.extent)) := by
  have fits : (u.ep L (insEp w)).sendMisuse (recordUnits (sendPayload o t)) = none := fits
  rw [execSend, go]
  obtain ⟨touch, ht⟩ : ∃ touch, touch = State.scratchTouch := ⟨_, rfl⟩
  rw [← ht] at read ⊢
  subst op
  simp only [read, good, tensor, fits, Bool.false_eq_true, if_false]

end Engines

end Sys2Proof.Machine

namespace Sys2Proof
open Machine

/-- Settles O43: an engine's instruction that may issue is checked by what its descriptors say and joins its engine's queue. -/
theorem engineInstructionsIssue : Obligations.EngineInstructionsIssue := by
  intro s u L n slot w may hu
  have go {row : Nat → Bool} := State.tryIssue_of_mayIssue (row := row) may hu
  exact ⟨fun _ _ opcode west north good => execMma_issue (go (by simp [opcode])) west north good,
    fun opcode => execVec_issue (go (by simp [opcode])),
    fun _ _ _ _ _ _ opcode desc first source target good tensor fmt exact' =>
      execDma_issue (go (by simp [opcode])) desc first source target good tensor fmt exact',
    fun _ opcode read good member => execRecv_issue (go (by simp [opcode])) read good member,
    fun _ _ _ opcode read good tensor op fits => execSend_issue (go (by simp [opcode])) read good tensor op fits⟩

end Sys2Proof
end

section
/-! Packets that the package takes: remote signals and the control of channels. -/
namespace Sys2Proof.Machine

theorem State.modPort_congr {s : State} {p : Nat} {f g : Port → Port} (h : f (s.port p) = g (s.port p)) : s.modPort p f = s.modPort p g := by
  have ports : tmod {} s.ports p f = tmod {} s.ports p g := tmod_congr h
  exact congrArg (fun ports => { s with ports }) ports

/-! ### A packet that stands first is taken -/

section Takes
variable {s u : State} {src : Src} {p : Packet} (takes : s.takes src p u)
include takes

/-- A packet that stands first at its source is the one that its command takes. -/
theorem State.takePacket_of_takes {f : Packet → Bool} (wanted : f p = true) : s.takePacket src f = some (p, u) := by
  cases src with
  | noc =>
    obtain ⟨r, front, rfl⟩ := takes
    simp only [State.takePacket, State.takeLocal, front, takeFirst, wanted, if_true]
  | port q =>
    obtain ⟨k, r, front, rfl, unfreed, travels, here, rfl⟩ := takes
    obtain ⟨want, hw⟩ : ∃ want : KittyPkt → Bool, want = fun k => !k.freed && (!k.pkt.hopLocal && decide (k.pkt.dst = s.self) && f k.pkt) := ⟨_, rfl⟩
    have first : want k = true := by simp [hw, unfreed, travels, here, wanted]
    have freed : s.modPort q (fun x => { x with kitty := modFirst want (fun x => { x with freed := true }) x.kitty })
        = s.modPort q (fun x => { x with kitty := { k with freed := true } :: r }) :=
      State.modPort_congr (by rw [front]; simp only [modFirst, first, if_true])
    unfold State.takePacket
    dsimp only
    unfold State.freeKitty
    dsimp only
    rw [← hw, front, List.find?_cons_of_pos first]
    dsimp only
    rw [freed]

/-- A packet is taken off its queue; nothing else changes. -/
theorem State.takes_state : u = { s with noc := u.noc, ports := u.ports } := by
  cases src with
  | noc =>
    obtain ⟨r, -, rfl⟩ := takes
    rfl
  | port q =>
    obtain ⟨k, r, -, -, -, -, -, rfl⟩ := takes
    rfl

end Takes

/-! ### Remote signals -/

theorem later_self (w a : Nat) (pos : 1 ≤ w) (small : a < 2 ^ w) : later w a a = false := (laterIsAsymmetric w a a 0 pos small small).1

theorem tagStep_lt (t : Tag) : tagStep t < 2 ^ 20 := bits_lt t 96 20

section Sync
variable {s u : State} {src : Src} {p : Packet} (takes : s.takes src p u) (sync : p.ptype = 3)
include takes

/-- What a signal waits for does not hang on the packet's place. -/
theorem State.signalStays_takes (job step object : Nat) : s.signalStays job step object = u.signalStays job step object := by
  rw [State.takes_state takes]
  rfl

include sync

/-- A remote signal that does not stay where it is acts. -/
theorem execSync_takes (goes : u.signalStays (tagJob p.tag) (tagStep p.tag) (bits p.handle 0 16) = false) :
    execSync src s = .next (u.remoteSignal (tagJob p.tag) (tagStep p.tag) (bits p.handle 0 16) (bits p.handle 16 4) (bits p.handle 20 16) p.src) := by
  rw [execSync, State.takePacket_of_takes takes]
  simp [sync, ptSync, State.signalStays_takes takes, goes]

variable {slot : Nat} (job : u.findJob (tagJob p.tag) = some slot)
include job

theorem execSync_current {v : State} (now : tagStep p.tag = (u.job slot).step.toNat % 2 ^ 20)
    (acts : u.signalObj slot (bits p.handle 0 16) (bits p.handle 16 4) (bits p.handle 20 16) = some v) : execSync src s = .next v := by
  have goes : u.signalStays (tagJob p.tag) (tagStep p.tag) (bits p.handle 0 16) = false := by
    rw [State.signalStays, job, now]
    dsimp only
    rw [later_self 20 _ (by decide) (Nat.mod_lt _ (by decide)), Bool.false_and]
  obtain ⟨o, resolves, -⟩ := (signalsAct u v slot (bits p.handle 0 16) (bits p.handle 16 4) (bits p.handle 20 16)).1 acts
  have barrier : (u.obj o).kind ≠ 3 := fun kind => by
    have none := (signalsAct u v slot (bits p.handle 0 16) (bits p.handle 16 4) (bits p.handle 20 16)).2.2 o resolves kind
    rw [acts] at none
    cases none
  rw [execSync_takes takes sync goes, State.remoteSignal, job]
  dsimp only
  rw [if_pos now, State.applyRemote, resolves]
  dsimp only
  rw [if_neg barrier, acts]

theorem execSync_earlier (earlier : later 20 ((u.job slot).step.toNat % 2 ^ 20) (tagStep p.tag) = true) :
    execSync src s = .next (u.stat slot 19 1) := by
  have notLater : later 20 (tagStep p.tag) ((u.job slot).step.toNat % 2 ^ 20) = false :=
    (laterIsAsymmetric 20 _ _ 0 (by decide) (Nat.mod_lt _ (by decide)) (tagStep_lt _)).2.1 earlier
  have other : tagStep p.tag ≠ (u.job slot).step.toNat % 2 ^ 20 := fun same => by
    rw [same, later_self 20 _ (by decide) (Nat.mod_lt _ (by decide))] at earlier
    cases earlier
  have goes : u.signalStays (tagJob p.tag) (tagStep p.tag) (bits p.handle 0 16) = false := by
    rw [State.signalStays, job]
    dsimp only
    rw [notLater, Bool.false_and]
  rw [execSync_takes takes sync goes, State.remoteSignal, job]
  dsimp only
  rw [if_neg other, if_neg (by rw [notLater]; exact Bool.false_ne_true)]

theorem execSync_later {o : Nat} (isLater : later 20 (tagStep p.tag) ((u.job slot).step.toNat % 2 ^ 20) = true)
    (resolves : (u.job slot).objectOf (bits p.handle 0 16) = some o) (room : (u.stack (o / 16384)).deferred.length < 256) :
    execSync src s = .next (u.modStack (o / 16384) (fun k => { k with deferred := k.deferred ++
      [⟨BitVec.ofNat 12 (tagJob p.tag), BitVec.ofNat 20 (tagStep p.tag), BitVec.ofNat 16 (bits p.handle 0 16),
        BitVec.ofNat 4 (bits p.handle 16 4), BitVec.ofNat 16 (bits p.handle 20 16), p.src, u.nextOrder⟩] })) := by
  have other : tagStep p.tag ≠ (u.job slot).step.toNat % 2 ^ 20 := fun same => by
    rw [same, later_self 20 _ (by decide) (Nat.mod_lt _ (by decide))] at isLater
    cases isLater
  have goes : u.signalStays (tagJob p.tag) (tagStep p.tag) (bits p.handle 0 16) = false := by
    rw [State.signalStays, job]
    dsimp only
    rw [resolves]
    dsimp only
    rw [decide_eq_false (show ¬deferredLimit ≤ _ from Nat.not_le.2 room), Bool.and_false]
  rw [execSync_takes takes sync goes, State.remoteSignal, job]
  dsimp only
  rw [if_neg other, if_pos isLater, resolves]

end Sync

theorem execSync_stays {s : State} {p : Packet} {slot o : Nat} (only : s.noc = [p]) (job : s.findJob (tagJob p.tag) = some slot)
    (isLater : later 20 (tagStep p.tag) ((s.job slot).step.toNat % 2 ^ 20) = true)
    (resolves : (s.job slot).objectOf (bits p.handle 0 16) = some o) (full : 256 ≤ (s.stack (o / 16384)).deferred.length) :
    execSync .noc s = .next s := by
  have stays : s.signalStays (tagJob p.tag) (tagStep p.tag) (bits p.handle 0 16) = true := by
    rw [State.signalStays, job]
    dsimp only
    rw [resolves]
    dsimp only
    rw [decide_eq_true (show deferredLimit ≤ _ from full), isLater, Bool.and_true]
  rw [execSync, State.takePacket, State.takeLocal, only, takeFirst, if_neg (by simp [stays]), takeFirst]

theorem execSync_jobless {s u : State} {src : Src} {p : Packet} (takes : s.takes src p u) (sync : p.ptype = 3)
    (none : u.findJob (tagJob p.tag) = none) :
    execSync src s = .next (u.raise 0x0424 (tagJob p.tag)
      (bits p.handle 0 16 + bits p.handle 16 4 * 2 ^ 16 + 1 * 2 ^ 20 + p.src.toNat * 2 ^ 24 + tagStep p.tag * 2 ^ 36)) := by
  rw [execSync_takes takes sync (by rw [State.signalStays, none]), State.remoteSignal, none]
  rfl

theorem execWaitSatisfied_holds {s : State} {L : Fin 128} {n : Fin 3} (wait : (s.stream L n).state = .wait)
    (holds : s.waitHolds L n (s.stream L n).waitHandle.toNat = true) :
    execWaitSatisfied L n s = .next ((s.waitTaken L n (s.stream L n).waitHandle.toNat).modStream L n
      (fun x => { x with state := .run, waitHandle := 0, waitDone := true })) := if_pos (by simp [wait, holds])

end Sys2Proof.Machine

namespace Sys2Proof
open Machine

/-- Settles O44: a remote signal acts by how its step stands to its job's. -/
theorem waitsAndRemoteSignals : Obligations.WaitsAndRemoteSignals :=
  ⟨fun _ _ _ wait holds => execWaitSatisfied_holds wait holds,
    fun _ _ _ _ _ _ takes sync job now acts => execSync_current takes sync job now acts,
    fun _ _ _ _ _ takes sync job earlier => execSync_earlier takes sync job earlier,
    fun _ _ _ _ _ _ takes sync job isLater resolves room => execSync_later takes sync job isLater resolves room,
    fun _ _ _ _ only _ job isLater resolves full => execSync_stays only job isLater resolves full,
    fun _ _ _ _ takes sync none => execSync_jobless takes sync none⟩

end Sys2Proof

namespace Sys2Proof.Machine

/-! ### Changes of an endpoint, one after another -/

theorem tput_tput {α : Type} (t : Tbl α) (i : Nat) (x y : α) : tput (tput t i x) i y = tput t i y := by
  induction t with
  | nil => simp [tput]
  | cons e r ih =>
    obtain ⟨k, v⟩ := e
    by_cases here : i = k
    · simp [tput, here]
    · by_cases before : i < k
      · simp [tput, here, before]
      · simp [tput, here, before, ih]

theorem tmod_tmod {α : Type} (d : α) (t : Tbl α) (i : Nat) (f g : α → α) : tmod d (tmod d t i f) i g = tmod d t i (fun x => g (f x)) := by
  rw [tmod, tmod, tmod, tget_tput_same, tput_tput]

theorem State.modTile_modTile (s : State) (L : Nat) (f g : Tile → Tile) : (s.modTile L f).modTile L g = s.modTile L (fun t => g (f t)) := by
  have tiles : tmod {} (tmod {} s.tiles (s.tileIx L) f) (s.tileIx L) g = tmod {} s.tiles (s.tileIx L) (fun t => g (f t)) := tmod_tmod ..
  exact congrArg (fun tiles => { s with tiles }) tiles

theorem State.modEp_modEp (s : State) (L e : Nat) (f g : Endpoint → Endpoint) : (s.modEp L e f).modEp L e g = s.modEp L e (fun x => g (f x)) := by
  have ep : ∀ t : Tile, (t.modEp e f).modEp e g = t.modEp e (fun x => g (f x)) := fun t =>
    congrArg (fun eps => { t with eps }) (tmod_tmod ..)
  rw [State.modEp, State.modEp, State.modTile_modTile, State.modEp]
  exact congrArg _ (funext ep)

theorem State.modEp_congr {s : State} {L e : Nat} {f g : Endpoint → Endpoint} (h : f (s.ep L e) = g (s.ep L e)) : s.modEp L e f = s.modEp L e g := by
  have eps : tmod {} (s.tile L).eps e f = tmod {} (s.tile L).eps e g := tmod_congr h
  exact State.modTileAt_congr (congrArg (fun eps => { s.tile L with eps }) eps)

/-! ### Channel control -/

section Ctl
variable {s u : State} {src : Src} {p : Packet} {slot L e op : Nat} (takes : s.takesCtl src op p u slot L e)
include takes

/-- A CHAN_CTL packet that is taken acts on its endpoint. -/
theorem State.takeChanCtl_takes (f : State → Packet → Nat → Nat → Nat → State) : s.takeChanCtl src op f = f u p slot L e := by
  obtain ⟨packet, kind, operation, endpoint⟩ := takes
  rw [State.takeChanCtl, State.takePacket_of_takes packet (by simp [kind, ptChanCtl, operation])]
  dsimp only
  rw [endpoint]

end Ctl

theorem execOpen_takes {s u : State} {src : Src} {p : Packet} (takes : s.takes src p u) (kind : p.ptype = 2) (operation : p.spec 32 1 = 1) :
    s.takePacket src (fun p => p.ptype.toNat = ptChanCtl && p.spec 32 1 = opOpen) = some (p, u) ∧ s.self = u.self := by
  refine ⟨State.takePacket_of_takes takes (by simp [kind, ptChanCtl, operation, opOpen]), ?_⟩
  rw [State.takes_state takes]
  rfl

section Control
variable {s u : State} {src : Src} {p : Packet} {slot L e : Nat}

theorem execOpen_accepted (takes : s.takesCtl src 1 p u slot L e)
    (accepted : u.openRefusal (tagJob p.tag) (bits p.handle 0 12) (p.spec 34 2 % 4096) (p.spec 36 4) p.src = none) :
    execOpen src s = .next ((u.modEp L e (fun x => { x.restart with
      state := .opened, msgSeq := 0, ringUnits := BitVec.ofNat 32 x.ringOf, spillUnits := BitVec.ofNat 32 x.spillOf })).originate
      (chanCtl u.self p.src (tagJob p.tag) (tagStep p.tag) (p.spec 34 2 % 4096) 2 0 (bits p.handle 0 12) 0 (u.ep L e).ringOf (u.ep L e).spillOf)) := by
  obtain ⟨packet, kind, operation, endpoint⟩ := takes
  obtain ⟨taken, self⟩ := execOpen_takes packet kind operation
  rw [execOpen, taken]
  dsimp only
  rw [accepted]
  dsimp only
  rw [endpoint, self]
  rfl

theorem execOpen_refused {r : Nat} (takes : s.takes src p u) (kind : p.ptype = 2) (operation : p.spec 32 1 = 1)
    (refused : u.openRefusal (tagJob p.tag) (bits p.handle 0 12) (p.spec 34 2 % 4096) (p.spec 36 4) p.src = some r) :
    execOpen src s = .next (u.originate
      (chanCtl u.self p.src (tagJob p.tag) (tagStep p.tag) (p.spec 34 2 % 4096) 3 r (bits p.handle 0 12) 0 0 0)) := by
  obtain ⟨taken, self⟩ := execOpen_takes takes kind operation
  rw [execOpen, taken]
  dsimp only
  rw [refused, self]
  rfl

theorem execAccept_opening (takes : s.takesCtl src 2 p u slot L e) (opening : (u.ep L e).state = .opening) :
    execAccept src s = .next (u.modEp L e (fun x => { x.restart with
      state := .opened, msgSeq := 0, ringUnits := BitVec.ofNat 32 (p.spec 40 4), spillUnits := BitVec.ofNat 32 (p.spec 44 4) })) := by
  rw [execAccept, opAccept, State.takeChanCtl_takes takes, if_pos opening]

/-- The reason of a refusal is the three low bits of its field. -/
theorem ofNat_refusal (x : Nat) : BitVec.ofNat 3 (x % 8) = BitVec.ofNat 3 x := BitVec.eq_of_toNat_eq (by simp [BitVec.toNat_ofNat])

theorem execRefuse_retry (takes : s.takesCtl src 3 p u slot L e) (opening : (u.ep L e).state = .opening)
    (busy : p.spec 33 1 % 8 = 1 ∨ p.spec 33 1 % 8 = 2) :
    execRefuse src s = .next (u.modEp L e (fun x => { x with refuse := BitVec.ofNat 3 (p.spec 33 1), retry := true })) := by
  rw [execRefuse, opRefuse, State.takeChanCtl_takes takes]
  dsimp only
  rw [if_pos opening, if_pos (by simpa using busy), State.modEp_modEp, ofNat_refusal]

theorem execRefuse_failed (takes : s.takesCtl src 3 p u slot L e) (opening : (u.ep L e).state = .opening)
    (not1 : p.spec 33 1 % 8 ≠ 1) (not2 : p.spec 33 1 % 8 ≠ 2) :
    execRefuse src s
      = .next ((u.modEp L e (fun x => { x with refuse := BitVec.ofNat 3 (p.spec 33 1) })).openFailed slot L e (p.spec 33 1 % 8)) := by
  rw [execRefuse, opRefuse, State.takeChanCtl_takes takes]
  dsimp only
  rw [if_pos opening, if_neg (by simp [not1, not2]), ofNat_refusal]

theorem execClose_receiver (takes : s.takesCtl src 4 p u slot L e) (recv : (u.ep L e).isRecv = true) (opened : (u.ep L e).state = .opened)
    (unread : (u.ep L e).head ≠ (u.ep L e).tail) :
    execClose src s = .next (u.modEp L e (fun x => { x with state := .closing })) := by
  have waits : (u.modEp L e (fun x => { x with state := .closing })).finishClose slot L e = u.modEp L e (fun x => { x with state := .closing }) := by
    rw [State.finishClose, State.ep_modEp_same]
    exact if_neg (by simp [unread])
  rw [execClose, opClose, State.takeChanCtl_takes takes]
  dsimp only
  rw [if_pos recv, if_pos opened, waits]

theorem execClose_sender (takes : s.takesCtl src 4 p u slot L e) (send : (u.ep L e).isRecv = false) (closing : (u.ep L e).state = .closing) :
    execClose src s = .next (u.modEp L e (fun x => { x with state := .closed })) := by
  rw [execClose, opClose, State.takeChanCtl_takes takes]
  dsimp only
  rw [if_neg (by simp [send]), if_pos closing]

theorem execHeadUpdate_later (takes : s.takesCtl src 5 p u slot L e) (send : (u.ep L e).isRecv = false)
    (isLater : later 32 (p.spec 36 4) (u.ep L e).head.toNat = true) :
    execHeadUpdate src s = .next (u.modEp L e (fun x => { x with head := BitVec.ofNat 32 (p.spec 36 4) })) := by
  rw [execHeadUpdate, opHead, State.takeChanCtl_takes takes]
  dsimp only
  rw [if_pos (by simp [send, isLater])]

theorem execHeadUpdate_old (takes : s.takesCtl src 5 p u slot L e) (old : later 32 (p.spec 36 4) (u.ep L e).head.toNat = false) :
    execHeadUpdate src s = .next u := by
  rw [execHeadUpdate, opHead, State.takeChanCtl_takes takes]
  dsimp only
  rw [if_neg (by simp [old])]

theorem execSpillReq_sender (takes : s.takesCtl src 7 p u slot L e) (send : (u.ep L e).isRecv = false) (opened : (u.ep L e).state = .opened)
    (room : (u.ep L e).spillUnits ≠ 0) : execSpillReq src s = .next (u.modEp L e (fun x => { x with spill := true })) := by
  rw [execSpillReq, opSpillReq, State.takeChanCtl_takes takes]
  dsimp only
  rw [if_pos (by simpa [send, opened] using room)]

theorem execSpillEnd_sender (takes : s.takesCtl src 8 p u slot L e) (send : (u.ep L e).isRecv = false) :
    execSpillEnd src s = .next (u.modEp L e (fun x => { x with
      spillHead := BitVec.ofNat 32 (p.spec 36 4), spill := x.spill && decide (x.spillTail ≠ BitVec.ofNat 32 (p.spec 36 4)) })) := by
  rw [execSpillEnd, opSpillEnd, State.takeChanCtl_takes takes]
  dsimp only
  rw [if_pos (by simp [send])]

/-- An endpoint whose head is told again keeps its state of waiting, and so do the others. -/
theorem State.reportHead_blocked (s : State) (slot L e i : Nat) : ((s.reportHead slot L e).ep L i).blocked = (s.ep L i).blocked := by
  have tiles : ∀ t : State, SameButTraffic (s.modEp L e (fun x => { x with reported := x.head })) t →
      (t.ep L i).blocked = (s.ep L i).blocked := fun t told => by
    have same : t.ep L i = (s.modEp L e (fun x => { x with reported := x.head })).ep L i := by rw [told.state]; rfl
    rw [same, State.ep, State.modEp, State.tile_modTile_same, Tile.ep_modEp]
    split
    · next here => rw [here]; rfl
    · rfl
  exact tiles _ (traffic_originate (.refl _) _)

/-- A notice from a sender at a tile none of whose channels waits is answered with the head. -/
theorem execBlocked_unblocked (takes : s.takesCtl src 6 p u slot L e) (recv : (u.ep L e).isRecv = true) (opened : (u.ep L e).state = .opened)
    (ours : (u.ep L e).isDealer = false) (free : ∀ i < 32, (u.ep L i).blocked = false) : execBlocked src s = .next (u.reportHead slot L e) := by
  rw [execBlocked, opBlocked, State.takeChanCtl_takes takes]
  extract_lets re x s1 crossing new s2
  have told : s1 = u.reportHead slot L e := if_pos (by simp [re, recv, Endpoint.receives, opened, ours])
  have none : crossing = [] := List.filter_eq_nil_iff.2 fun i hi => by
    have unblocked : (s1.ep L i).blocked = false := by
      rw [told, State.reportHead_blocked, free i (by have := mem_upFrom.1 hi; omega)]
    simp [unblocked]
  have calm : new = false := by simp only [new, none, List.any_nil]
  have still : s2 = s1 := by simp only [s2, none, List.foldl_nil]
  rw [if_neg (by simp [calm]), still, told]

end Control

section Timers
variable {s : State} {L : Fin 128} {e : Fin 32} {slot : Nat} (job : s.slotOfTile L = some slot)

theorem execDeadlockTimerStop_set (timer : (s.ep L e).deadlockTimer = true) :
    execDeadlockTimerStop L e s = .next (s.modEp L e (fun x => { x with deadlockTimer := false, crossedWith := none })) :=
  congrArg _ (if_pos timer)

include job

theorem execOpenRetry_due (opening : (s.ep L e).state = .opening) (retry : (s.ep L e).retry = true) :
    execOpenRetry L e s = .next ((s.modEp L e (fun x => { x with retry := false })).tellPeer slot L e 1 (s.ep L e).maxUnits) := by
  have same : s.modEp L e (fun x => { x with state := .opening, retry := false }) = s.modEp L e (fun x => { x with retry := false }) :=
    State.modEp_congr (by rw [← opening])
  rw [execOpenRetry, job]
  dsimp only
  rw [if_pos (by simp [opening, retry]), State.sendOpen, same]
  rfl

theorem execOpenTimeout_opening (opening : (s.ep L e).state = .opening) : execOpenTimeout L e s = .next (s.openFailed slot L e 0) := by
  rw [execOpenTimeout, job]
  exact if_pos opening

theorem execHeadUpdateTimer_due (valid : (s.ep L e).valid = true) (recv : (s.ep L e).isRecv = true) (ours : (s.ep L e).isDealer = false)
    (opened : (s.ep L e).state = .opened) (away : (s.ep L e).peerPkg ≠ s.self) (moved : (s.ep L e).head ≠ (s.ep L e).reported) :
    execHeadUpdateTimer L e s
      = .next ((s.modEp L e (fun x => { x with reported := x.head })).tellPeer slot L e 5 (s.ep L e).head.toNat) := by
  rw [execHeadUpdateTimer, job]
  exact if_pos (by simp [valid, recv, ours, Endpoint.receives, opened, away, moved])

theorem execBlockedNoticeTimer_blocked (valid : (s.ep L e).valid = true) (send : (s.ep L e).isRecv = false) (blocked : (s.ep L e).blocked = true) :
    execBlockedNoticeTimer L e s = .next (s.tellPeer slot L e 6 0) := by
  rw [execBlockedNoticeTimer, job]
  exact if_pos (by simp [valid, send, blocked])

theorem execChannelDeadlock_over (timer : (s.ep L e).deadlockTimer = true) (blocked : (s.ep L e).blocked = true) :
    ∃ d, execChannelDeadlock L e s = .next ((s.raise 0x0432 (s.job slot).id.toNat d).jobFault 0x0432) := by
  rw [execChannelDeadlock, job]
  exact ⟨_, if_pos (by simp [timer, blocked])⟩

end Timers

end Sys2Proof.Machine

namespace Sys2Proof
open Machine

/-- Settles O45: a packet of channel control acts on the endpoint that it addresses, by that endpoint's state. -/
theorem channelControlCompletes : Obligations.ChannelControlCompletes :=
  ⟨fun _ _ _ _ _ _ _ takes accepted => execOpen_accepted takes accepted,
    fun _ _ _ _ _ takes kind operation refused => execOpen_refused takes kind operation refused,
    fun _ _ _ _ _ _ _ takes opening => execAccept_opening takes opening,
    fun _ _ _ _ _ _ _ takes opening busy => execRefuse_retry takes opening busy,
    fun _ _ _ _ _ _ _ takes opening not1 not2 => execRefuse_failed takes opening not1 not2,
    fun _ _ _ _ job opening retry => execOpenRetry_due job opening retry,
    fun _ _ _ _ job opening => execOpenTimeout_opening job opening,
    fun _ _ _ _ _ _ _ takes recv opened unread => execClose_receiver takes recv opened unread,
    fun _ _ _ _ _ _ _ takes send closing => execClose_sender takes send closing,
    fun _ _ _ _ _ _ _ takes send isLater => execHeadUpdate_later takes send isLater,
    fun _ _ _ _ _ _ _ takes old => execHeadUpdate_old takes old,
    fun _ _ _ _ job valid recv ours opened away moved => execHeadUpdateTimer_due job valid recv ours opened away moved,
    fun _ _ _ _ job valid send blocked => execBlockedNoticeTimer_blocked job valid send blocked,
    fun _ _ _ _ _ _ _ takes recv opened ours free => execBlocked_unblocked takes recv opened ours free,
    fun _ _ _ _ _ _ _ takes send opened room => execSpillReq_sender takes send opened room,
    fun _ _ _ _ _ _ _ takes send => execSpillEnd_sender takes send,
    fun _ _ _ _ job timer blocked => execChannelDeadlock_over job timer blocked,
    fun _ _ _ timer => execDeadlockTimerStop_set timer⟩

end Sys2Proof
end

section
/-! A RECV whose descriptor has an error that is corrected: why `MessagesComplete` fails. -/
namespace Sys2Proof.Machine

/-- The header of a message record of 4 bytes of payload of job 5. -/
def oneRecord : List Byte :=
  [1, 0, 0, 0, 2, 0, 0, 0, 4] ++ List.replicate 7 0 ++ (List.range 16).map (fun i =>
    BitVec.ofNat 8 ((mkTag 5 0 0 1 0 0 0 0 1 3).toNat / 2 ^ (8 * i))) ++ List.replicate 32 0

/-- The descriptor of a tensor of one word at address 256. -/
def oneWord : List Byte :=
  [0, 1, 0, 0, 0, 0, 0, 0, 0, 0, 0, 0, 1, 0, 0, 0, 1, 0, 1, 0, 1, 0, 1, 0, 1, 0]

/-- A RECV with its descriptor at scratch address 0x1000 that waits at the channel unit. -/
def waitingRecv : Op := { engine := .channel, word := 0x4000000020, tag := 0x5, pc := 0 }

/-- The descriptor of the RECV at the head of stream 0 lies in a line with an error that the code corrects; a record stands in the ring of
endpoint 1. -/
def flawedRecvState : State :=
  { ({} : State) with
    dealer := { jobs := [(0, { valid := true, placed := true, id := 5, groups := 1, step := 3 })] }
    mem := Mem.setCells (Mem.setCells [] (cellsAt 0 oneRecord)) (cellsAt (scratchOf 0 0 + 0x1000) oneWord)
    flaws := [((scratchOf 0 0 + 0x1000) / 64, 1)]
    tiles := [(0, {
      eps := [(1, { cfg := 0xC0000008, state := .opened, tail := 2, peer := 0x00070002 })]
      streams := [(0, { ops := [waitingRecv], issueHeld := true, sels := [(0, 0x0001000000000001)] })] })] }

/-- The RECV at the head may be taken. -/
theorem flawedRecvState_head : flawedRecvState.slotOfTile (0 : Fin 128) = some 0
    ∧ (flawedRecvState.stream (0 : Fin 128) (0 : Fin 3)).channelHead 0x20 = some waitingRecv ∧ flawedRecvState.engineHeld (0 : Fin 128) = false
    ∧ waitingRecv.faultAddr = none ∧ flawedRecvState.chanTakes 0 (0 : Fin 128) (0 : Fin 3) = true := by decide +kernel

/-- Its set chooses endpoint 1, where the record stands. -/
theorem flawedRecvState_record :
    (flawedRecvState.chanTake 0 (0 : Fin 128) (0 : Fin 3)).chooseMember 0 (0 : Fin 128)
      (tget 0 (flawedRecvState.stream (0 : Fin 128) (0 : Fin 3)).sels (nbits waitingRecv.word.toNat 24 3)) = some (0, 1)
    ∧ (flawedRecvState.chanTake 0 (0 : Fin 128) (0 : Fin 3)).nextRecord 0 (0 : Fin 128) 1 = some (false, 0, oneRecord)
    ∧ tagPass (BitVec.ofNat 128 (leAt oneRecord 16 16)) ≠ 3 := by decide +kernel

/-- The state once the RECV's descriptor has been read, and once the record's header has. -/
abbrev flawedRecvRead : State × Bool :=
  (flawedRecvState.chanTake 0 (0 : Fin 128) (0 : Fin 3)).scratchTouch (0 : Fin 128) (insDesc waitingRecv.word.toNat) 64

abbrev flawedRecvHeader : State × Bool :=
  touchReads (some 0) false ((flawedRecvState.chanTake 0 (0 : Fin 128) (0 : Fin 3)).headerLines 0 (0 : Fin 128) 1) flawedRecvRead.1

theorem flawedRecvState_sound : flawedRecvRead.2 = false ∧ flawedRecvHeader.2 = false := by decide +kernel

/-- A read without an error. -/
theorem eq_pair_of_snd {α : Type} {p : α × Bool} (h : p.2 = false) : p = (p.1, false) := Prod.ext rfl h

/-- The tensor takes the record's payload. -/
theorem flawedRecvState_tensor :
    (flawedRecvHeader.1.tensorOf 0 (BitVec.ofNat 128 (leAt oneRecord 16 16))
      (flawedRecvHeader.1.descBytes (0 : Fin 128) waitingRecv.word.toNat)).map Tensor.payload = some (leAt oneRecord 8 4) := by decide +kernel

/-- The correction of the error is an event, which has a sequence number. -/
theorem flawedRecvState_event :
    (match execRecvTake 0 0 flawedRecvState with
    | .next u => u.host.evSeq
    | _ => 0) = 1 := by decide +kernel

end Sys2Proof.Machine

namespace Sys2Proof
open Machine

/-- Refutes O46: a RECV whose descriptor has an error that the code corrects is taken with an event, so the host's side does not stay. -/
theorem not_messagesComplete : ¬ Obligations.MessagesComplete := by
  rintro ⟨-, -, -, -, -, -, -, -, take, -⟩
  obtain ⟨job, head, free, unfaulted, turn⟩ := flawedRecvState_head
  obtain ⟨chosen, record, kind⟩ := flawedRecvState_record
  obtain ⟨sound, soundHeader⟩ := flawedRecvState_sound
  obtain ⟨t, tensor, payload⟩ := Option.map_eq_some_iff.1 flawedRecvState_tensor
  obtain ⟨u, run, -, -, -, -, -, -, -, host, -⟩ := take flawedRecvState _ flawedRecvRead.1 flawedRecvHeader.1 0 0 0 0 1 waitingRecv t false 0 oneRecord _ _
    job head free unfaulted turn rfl rfl chosen record rfl (eq_pair_of_snd sound) (eq_pair_of_snd soundHeader) kind tensor payload
  have counted := flawedRecvState_event
  rw [← exec_recvTake, run] at counted
  dsimp only at counted
  rw [host] at counted
  exact absurd counted (by decide)

end Sys2Proof
end

section
/-! A packet that goes through its bytes: the header's words, the trailer, and what a port makes of them (R319, R320, R323). -/
namespace Sys2Proof.Machine

theorem take_leBytes {m n : Nat} (v : Nat) (h : m ≤ n) : (leBytes n v).take m = leBytes m v := by
  induction m generalizing n v with
  | zero => rfl
  | succ m ih =>
    obtain ⟨n, rfl⟩ : ∃ n', n = n' + 1 := ⟨n - 1, by omega⟩
    simp [leBytes, ih (v / 256) (by omega : m ≤ n)]

theorem leAt_leBytes_prefix {m n : Nat} (v : Nat) (bs : List Byte) (h : m ≤ n) : leAt (leBytes n v ++ bs) 0 m = v % 256 ^ m := by
  rw [leAt, List.drop_zero, List.take_append_of_le_length (by simpa using h), take_leBytes v h, leNat_leBytes]

theorem nbits_eq (x lo len : Nat) : nbits x lo len = x / 2 ^ lo % 2 ^ len := by
  rw [nbits, Nat.shiftRight_eq_div_pow]

theorem nbit_eq (x i : Nat) : nbit x i = decide (x / 2 ^ i % 2 = 1) := by
  rw [nbit, Nat.testBit_eq_decide_div_mod_eq]

theorem b2n_le (b : Bool) : b2n b ≤ 1 := by cases b <;> decide

theorem decide_b2n (b : Bool) : decide (b2n b = 1) = b := by cases b <;> rfl

/-- The header's first word (R319, R320). -/
def Packet.routeWord (k : Packet) : Nat :=
  k.dst.toNat + k.src.toNat * 2 ^ 12 + k.ptype.toNat * 2 ^ 24 + k.cls.toNat * 2 ^ 28 + b2n k.bank * 2 ^ 30 + b2n k.hopLocal * 2 ^ 31

/-- The header's second word, with the packet's sequence number (R319). -/
def Packet.seqWord (k : Packet) (seq : BitVec 24) : Nat :=
  seq.toNat + k.payload.length / 64 % 128 * 2 ^ 24 + b2n k.last * 2 ^ 31

/-- The header's bytes before its CRC (R319). -/
def Packet.covered (k : Packet) (seq : BitVec 24) : List Byte :=
  leBytes 4 k.routeWord ++ leBytes 4 (k.seqWord seq) ++ leBytes 8 k.handle.toNat ++ leBytes 16 k.tag.toNat ++ leBytes 24 k.specific.toNat

theorem Packet.header_eq (k : Packet) (seq : BitVec 24) :
    k.header seq = k.covered seq ++ (leBytes 4 (crc32c (k.covered seq)).toNat ++ leBytes 4 0) := by
  rw [← List.append_assoc]; rfl

section
variable (k : Packet) (seq : BitVec 24)

@[simp] theorem Packet.length_covered : (k.covered seq).length = 56 := by simp [Packet.covered]

@[simp] theorem Packet.length_header : (k.header seq).length = 64 := by simp [Packet.header_eq]

theorem Packet.routeWord_lt : k.routeWord < 256 ^ 4 := by
  have d := k.dst.isLt; have s := k.src.isLt; have t := k.ptype.isLt; have c := k.cls.isLt
  have b := b2n_le k.bank; have h := b2n_le k.hopLocal
  rw [Packet.routeWord]
  omega

theorem Packet.seqWord_lt : k.seqWord seq < 256 ^ 4 := by
  have s := seq.isLt; have b := b2n_le k.last
  rw [Packet.seqWord]
  omega

theorem Packet.take_header : (k.header seq).take 56 = k.covered seq := by
  rw [Packet.header_eq, List.take_append_of_le_length (by simp), List.take_of_length_le (by simp)]

theorem Packet.crc_header : leAt (k.header seq) 56 4 = (crc32c (k.covered seq)).toNat := by
  have front := leAt_append_add (k.covered seq) (leBytes 4 (crc32c (k.covered seq)).toNat ++ leBytes 4 0) 0 4
  rw [Packet.length_covered] at front
  rw [Packet.header_eq, front, leAt_leBytes_append _ (crc32c (k.covered seq)).isLt]

theorem Packet.route_header : leAt (k.header seq) 0 4 = k.routeWord := by
  rw [Packet.header_eq]
  simp only [Packet.covered, List.append_assoc]
  exact leAt_leBytes_append _ k.routeWord_lt

theorem leAt_after {xs ys : List Byte} {o n : Nat} (h : xs.length = o) : leAt (xs ++ ys) o n = leAt ys 0 n := by
  subst h; exact leAt_append_add xs ys 0 n

theorem Packet.seqBytes_header (n : Nat) (h : n ≤ 4) : leAt (k.header seq) 4 n = k.seqWord seq % 256 ^ n := by
  rw [Packet.header_eq]
  simp only [Packet.covered, List.append_assoc]
  rw [leAt_after (by simp), leAt_leBytes_prefix _ _ h]

theorem Packet.handle_header : leAt (k.header seq) 8 8 = k.handle.toNat := by
  rw [Packet.header_eq]
  simp only [Packet.covered, List.append_assoc]
  rw [← List.append_assoc (leBytes 4 k.routeWord), leAt_after (by simp), leAt_leBytes_append _ k.handle.isLt]

theorem Packet.tag_header : leAt (k.header seq) 16 16 = k.tag.toNat := by
  rw [Packet.header_eq]
  simp only [Packet.covered, List.append_assoc]
  rw [← List.append_assoc (leBytes 4 k.routeWord), ← List.append_assoc (_ ++ _) (leBytes 8 _), leAt_after (by simp),
    leAt_leBytes_append _ k.tag.isLt]

theorem Packet.specific_header : leAt (k.header seq) 32 24 = k.specific.toNat := by
  rw [Packet.header_eq, Packet.covered, List.append_assoc (_ ++ _) (leBytes 24 _), leAt_after (by simp),
    leAt_leBytes_append _ k.specific.isLt]

theorem Packet.seqWord_mod : k.seqWord seq % 256 ^ 3 = seq.toNat := by
  have s := seq.isLt; have b := b2n_le k.last
  rw [Packet.seqWord]
  omega

theorem Packet.headerCount_header (short : k.payload.length ≤ 4096) : headerCount (k.header seq) = k.payload.length / 64 := by
  have s := seq.isLt; have b := b2n_le k.last
  rw [headerCount, k.seqBytes_header seq 4 (by omega), nbits_eq, Packet.seqWord]
  omega

/-- The fields that the header carries are the packet's own. -/
theorem Packet.ofHeader_header : Packet.ofHeader (k.header seq) k.payload k.poison = k := by
  have d := k.dst.isLt; have s := k.src.isLt; have t := k.ptype.isLt; have c := k.cls.isLt; have q := seq.isLt
  have b := b2n_le k.bank; have h := b2n_le k.hopLocal; have l := b2n_le k.last
  have hop : k.routeWord / 2 ^ 31 % 2 = b2n k.hopLocal := by rw [Packet.routeWord]; omega
  have bank : k.routeWord / 2 ^ 30 % 2 = b2n k.bank := by rw [Packet.routeWord]; omega
  have cls : k.routeWord / 2 ^ 28 % 2 ^ 2 = k.cls.toNat := by rw [Packet.routeWord]; omega
  have ptype : k.routeWord / 2 ^ 24 % 2 ^ 4 = k.ptype.toNat := by rw [Packet.routeWord]; omega
  have src : k.routeWord / 2 ^ 12 % 2 ^ 12 = k.src.toNat := by rw [Packet.routeWord]; omega
  have dst : k.routeWord / 2 ^ 0 % 2 ^ 12 = k.dst.toNat := by rw [Packet.routeWord]; omega
  have last : k.seqWord seq % 256 ^ 4 / 2 ^ 31 % 2 = b2n k.last := by rw [Packet.seqWord]; omega
  simp only [Packet.ofHeader, k.route_header, k.seqBytes_header seq 4 le_rfl, k.handle_header, k.tag_header, k.specific_header,
    nbit_eq, nbits_eq, hop, bank, cls, ptype, src, dst, last, decide_b2n, BitVec.ofNat_toNat, BitVec.setWidth_eq]

end

/-- The trailer of a packet (R323). -/
def Packet.trailer (k : Packet) (seq : BitVec 24) (replayed : Bool) : List Byte :=
  leBytes 4 (crc32c k.payload).toNat ++ (leBytes 3 seq.toNat ++ [BitVec.ofNat 8 (b2n k.poison + 2 * b2n replayed)])

section
variable (k : Packet) (seq : BitVec 24) (replayed : Bool)

theorem Packet.wire_eq : k.wire seq replayed = k.header seq ++ (k.payload ++ k.trailer seq replayed) := by
  simp [Packet.wire, Packet.trailer]

@[simp] theorem Packet.length_trailer : (k.trailer seq replayed).length = 8 := by simp [Packet.trailer]

theorem Packet.length_wire : (k.wire seq replayed).length = k.payload.length + 72 := by
  simp [Packet.wire_eq]; omega

theorem Packet.take_wire : (k.wire seq replayed).take 64 = k.header seq := by
  rw [Packet.wire_eq, List.take_append_of_le_length (by simp), List.take_of_length_le (by simp)]

theorem Packet.drop_wire : (k.wire seq replayed).drop 64 = k.payload ++ k.trailer seq replayed := by
  rw [Packet.wire_eq, List.drop_append_of_le_length (by simp), List.drop_of_length_le (by simp), List.nil_append]

theorem Packet.payload_wire : ((k.wire seq replayed).drop 64).take ((k.wire seq replayed).length - 72) = k.payload := by
  rw [Packet.drop_wire, Packet.length_wire, Nat.add_sub_cancel, List.take_left]

theorem Packet.trailer_wire : (k.wire seq replayed).drop ((k.wire seq replayed).length - 8) = k.trailer seq replayed := by
  have at64 : (k.wire seq replayed).length - 8 = 64 + k.payload.length := by rw [Packet.length_wire]; omega
  rw [at64, ← List.drop_drop, Packet.drop_wire, List.drop_left]

theorem Packet.crc_trailer : leAt (k.trailer seq replayed) 0 4 = (crc32c k.payload).toNat :=
  leAt_leBytes_append _ (crc32c k.payload).isLt

theorem Packet.seq_trailer : leAt (k.trailer seq replayed) 4 3 = seq.toNat := by
  rw [Packet.trailer, leAt_after (by simp), leAt_leBytes_append _ seq.isLt]

theorem Packet.poison_trailer : nbit (leAt (k.trailer seq replayed) 7 1) 0 = k.poison := by
  rw [Packet.trailer, ← List.append_assoc, leAt_after (by simp), nbit_eq]
  cases k.poison <;> cases replayed <;> rfl

end

variable {s : State} {p : Fin 16} {k : Packet}

/-- An aligned, locked port that is not searching takes the whole packet with the expected number into its kitty (R319, R323, R326). -/
theorem execPacketArrival_wire (aligned : (s.port p).aligned = true) (locked : (s.port p).rxLocked = true)
    (found : (s.port p).searching = false) (blocks : k.payload.length % 64 = 0) (short : k.payload.length ≤ 4096) (b : Bool)
    (up : (s.port p).state = .up) (sound : k.malformed (k.payload.length / 64) = false) :
    execPacketArrival p (k.wire (s.port p).expected b) s = .next ((s.modPort p (fun q => { q with
      kitty := q.kitty ++ [{ pkt := k }], expected := q.expected + 1, nak := false })).portCount p 2 1) := by
  have whole : ¬ k.payload.length ≠ 64 * (k.payload.length / 64) := by omega
  simp only [execPacketArrival, Packet.take_wire, Packet.payload_wire, Packet.trailer_wire, Packet.take_header, Packet.crc_header,
    Packet.seqBytes_header _ _ 3 (by omega : 3 ≤ 4), Packet.seqWord_mod, Packet.crc_trailer, Packet.seq_trailer, Packet.poison_trailer,
    Packet.headerCount_header _ _ short, Packet.ofHeader_header, aligned, locked, found, up, sound, whole]
  simp

end Sys2Proof.Machine

namespace Sys2Proof
open Machine

/-- Settles O57: the header's and the trailer's words are decoded to the fields that they encode, their CRCs agree with the bytes that they
cover, and with the expected sequence number the port takes the packet. -/
theorem packetsArriveAsSent : Obligations.PacketsArriveAsSent := by
  intro s p k b up locked found blocks short sound
  have aligned : (s.port p).aligned = true := by simp [Port.aligned, up]
  rw [exec_packetArrival]
  exact execPacketArrival_wire aligned locked found blocks short b up sound

end Sys2Proof
end

section
/-! Local tricks: opening, committing, revoking, and their timeouts (R285, R288 to R290, R297). -/
namespace Sys2Proof.Machine

section
variable {s u : State} {L : Fin 128} {n : Fin 3} {slot w : Nat} (may : s.mayIssue L n slot w) (hu : u = s.issued L n w)
include may hu

theorem execTopen_opens {i : Nat} (opcode : insOp w = 0x30) (no : u.trickOf L n = none) (clear : (u.tile L).carries n = false)
    (clean : trickOperandBad w = false) (ok : nbit w 25 = true → nbit w 24 = true) (free : u.freeSlot = some i)
    (room : u.stackTricks (L / 32) < 64) :
    execTopen L n s = .next (((((u.advance1 L n).signalAtIssue L n (insSig w)).nextOpen).modTrk (fun v => { v with
      locals := v.locals ++ [(i,
        { tile := L, stream := n, deferred := nbit w 24, perMb := nbit w 25, job := (u.job slot).id,
          step := BitVec.ofNat 20 (tagStep (u.stream L n).tag), mb := BitVec.ofNat 20 (tagMb (u.stream L n).tag),
          record := u.replayState L n (u.stream L n).pc, since := u.now })] })).modStream L n (fun x => { x with trick := some i })) := by
  have deferredIfPerMb : (nbit w 25 && !nbit w 24) = false := by
    cases h : nbit w 25
    · rfl
    · simp [ok h]
  simp [execTopen, State.tryIssue_of_mayIssue may hu, opcode, no, clear, clean, deferredIfPerMb, free, Nat.not_le.mpr room]

theorem execTcommit_commits {i : Nat} {t : Trick} (opcode : insOp w = 0x31) (opened : u.trickOf L n = some (i, t))
    (votes : nbit w 24 = true → t.deferred = true ∧ t.perMb = true) (clean : trickOperandBad w = false) :
    execTcommit L n s = .next (((u.enqueue L n w []).modStream L n (fun x => { x with issueHeld := true })).modTrickOf L n
      (fun t => { t with committing := true, vote := nbit w 24 })) := by
  have go := State.tryIssue_of_mayIssue (row := fun w => insOp w = 0x31) may hu (by simp [opcode])
  cases h : nbit w 24
  · simp [execTcommit, go, opened, clean, h]
  · obtain ⟨deferred, perMb⟩ := votes h
    simp [execTcommit, go, opened, clean, h, deferred, perMb]

theorem execTrevokeRetry_revokes {i : Nat} {t : Trick} (opcode : insOp w = 0x32) (retry : nbit w 24 = true)
    (opened : u.trickOf L n = some (i, t)) (clean : trickOperandBad w = false) :
    execTrevokeRetry L n s = .next ((u.noteRevoke L n 1 (u.stream L n).pc.toNat i).replay L n) := by
  simp [execTrevokeRetry, State.tryIssue_of_mayIssue may hu, opcode, retry, opened, clean]

theorem execTrevokeContinue_revokes {i : Nat} {t : Trick} (opcode : insOp w = 0x32) (on : nbit w 24 = false)
    (opened : u.trickOf L n = some (i, t)) (unsent : t.sends = 0) (unsignalled : t.signals = 0) (clean : trickOperandBad w = false) :
    execTrevokeContinue L n s = .next ((((((u.noteRevoke L n 1 (u.stream L n).pc.toNat i).dropTrick L n).modTile L
      (fun x => x.returnTakes n))).advance1 L n).signalAtIssue L n (insSig w)) := by
  simp [execTrevokeContinue, State.tryIssue_of_mayIssue may hu, opcode, on, opened, unsent, unsignalled, clean]

end

end Sys2Proof.Machine

namespace Sys2Proof
open Machine

/-- Settles O53: an instruction that may issue passes the checks of its row, and the completion and the timeouts act on the trick they name. -/
theorem localTricksComplete : Obligations.LocalTricksComplete := by
  refine ⟨fun s u L n slot w may hu => ⟨?topen, ?tcommit, ?retry, ?goOn⟩, ?failed, ?complete, ?timeout, ?capacity⟩
  case topen =>
    intro i opcode no clear clean ok free room
    exact execTopen_opens may hu opcode no clear clean ok free room
  case tcommit =>
    intro i t opcode opened votes clean
    exact execTcommit_commits may hu opcode opened votes clean
  case retry =>
    intro i t opcode retry opened clean
    exact execTrevokeRetry_revokes may hu opcode retry opened clean
  case goOn =>
    intro i t opcode on opened unsent unsignalled clean
    exact execTrevokeContinue_revokes may hu opcode on opened unsent unsignalled clean
  case failed =>
    intro s L n slot i t placed opened committing going
    simp [execTcommitComplete, placed, opened, committing, going]
  case complete =>
    intro s u L n slot i t placed opened committing going hu
    simp [execTcommitComplete, placed, opened, committing, going, hu]
  case timeout =>
    intro s i t opened limit
    simp [execLocalTrickTimeout, opened, limit]
  case capacity =>
    intro s i t opened waits
    simp [execLogCapacityTimeout, opened, waits]

end Sys2Proof
end

section
/-! The DMA engine and the array: which stream has the turn, and what a transfer, a grant, a check and a drain leave. -/
namespace Sys2Proof.Machine

theorem filter_range3_single {f : Nat → Bool} (n : Fin 3) (mine : f n.val = true) (others : ∀ m < 3, m ≠ n.val → f m = false) :
    (List.range 3).filter f = [n.val] := by
  have alone : (List.range 3).filter f = (List.range 3).filter (fun m => decide (m = n.val)) := by
    refine List.filter_congr fun m hm => ?_
    by_cases h : m = n.val
    · simp [h, mine]
    · simp [h, others m (List.mem_range.mp hm) h]
  have single : ∀ n : Fin 3, (List.range 3).filter (fun m => decide (m = n.val)) = [n.val] := by decide
  rw [alone, single n]

theorem filterMap_range3_single {α : Type} {f : Nat → Option α} {x : α} (n : Fin 3) (mine : f n.val = some x)
    (others : ∀ m < 3, m ≠ n.val → f m = none) : (List.range 3).filterMap f = [x] := by
  have one : (List.range 3).filterMap f = ((List.range 3).filter (fun m => (f m).isSome)).filterMap f := by
    rw [List.filterMap_filter]
    refine List.filterMap_congr fun m _ => ?_
    cases f m <;> simp
  rw [one, filter_range3_single n (by simp [mine]) fun m hm h => by simp [others m hm h]]
  simp [mine]

section
variable {s u : State} {L : Fin 128} {n : Fin 3} {slot : Nat} {o : Op}

theorem execDmaTransferStart_queued (placed : s.slotOfTile L = some slot) (going : s.engineHeld L = false)
    (none_moved : ∀ m < 3, (s.stream L m).ops.any isDmaMoved = false) (none_held : ∀ m < 3, (s.stream L m).ops.any isDmaHeld = false)
    (head : (s.stream L n).dmaHead = some o) (others : ∀ m < 3, m ≠ n.val → (s.stream L m).dmaHead = none)
    (keeps : s.keepsReady o = true) (free : s.dmaHeld slot L o = false) (turn : (s.tile L).pick 2 [n.val] = some n.val) (amb : Ambient) :
    execDmaTransferStart L amb s = .next (((s.applyAmb amb).modTile L (fun t => t.notePassed 2 [n.val] n)).dmaMove slot L n
      (fun p => isDmaQueued p && p.word = o.word && p.pc = o.pc) o) := by
  simp only [State.stream] at none_moved none_held head others
  have moved : (List.range 3).any (fun n => ((s.tile L).stream n).ops.any isDmaMoved) = false :=
    List.any_eq_false.mpr fun m hm => by simp [none_moved m (List.mem_range.mp hm)]
  have held : (List.range 3).find? (fun n => ((s.tile L).stream n).ops.any isDmaHeld) = none :=
    List.find?_eq_none.mpr fun m hm => by simp [none_held m (List.mem_range.mp hm)]
  simp only [execDmaTransferStart, placed, moved, going, held]
  rw [filter_range3_single n ?mine ?others]
  case mine => simp [head, keeps, free]
  case others => exact fun m hm h => by simp [others m hm h]
  simp [turn, head]

theorem execDmaTransferStart_held (placed : s.slotOfTile L = some slot) (going : s.engineHeld L = false)
    (none_moved : ∀ m < 3, (s.stream L m).ops.any isDmaMoved = false) (mine : (s.stream L n).ops.find? isDmaHeld = some o)
    (first : ∀ m < n.val, (s.stream L m).ops.any isDmaHeld = false) (sound : o.faultAddr = none) (free : s.dmaHeld slot L o = false)
    (amb : Ambient) : execDmaTransferStart L amb s = .next ((s.applyAmb amb).dmaMove slot L n isDmaHeld o) := by
  simp only [State.stream] at none_moved mine first
  have moved : (List.range 3).any (fun n => ((s.tile L).stream n).ops.any isDmaMoved) = false :=
    List.any_eq_false.mpr fun m hm => by simp [none_moved m (List.mem_range.mp hm)]
  have some_held : ((s.tile L).stream n).ops.any isDmaHeld = true :=
    List.any_eq_true.mpr ⟨o, List.mem_of_find?_eq_some mine, List.find?_some mine⟩
  have held : (List.range 3).find? (fun n => ((s.tile L).stream n).ops.any isDmaHeld) = some n.val :=
    List.find?_range_eq_some.mpr ⟨some_held, List.mem_range.mpr n.isLt, fun m hm => by simp [first m hm]⟩
  simp [execDmaTransferStart, placed, moved, going, held, mine, sound, free]

theorem execDmaComplete_ends (placed : s.slotOfTile L = some slot) (going : s.engineStopped L = false)
    (mine : (s.stream L n).ops.find? isDmaMoved = some o) (first : ∀ m < n.val, (s.stream L m).ops.any isDmaMoved = false)
    (sound : o.faultAddr = none) (reach : s.host.attached = true ∨ o.statusAt < (hostBase : Int))
    (written : s.writeStatus ⟨slot, L, n, o.tag, o.inTrick⟩ dmaRegions o.statusAt o.status = (u, .ok)) :
    execDmaComplete L s
      = .next ((if o.tracks then u.recordNumeric L n slot o.inTrick o.status else u).finishOp L n isDmaMoved) := by
  simp only [State.stream] at mine first
  have some_moved : ((s.tile L).stream n).ops.any isDmaMoved = true :=
    List.any_eq_true.mpr ⟨o, List.mem_of_find?_eq_some mine, List.find?_some mine⟩
  have moved : (List.range 3).find? (fun n => ((s.tile L).stream n).ops.any isDmaMoved) = some n.val :=
    List.find?_range_eq_some.mpr ⟨some_moved, List.mem_range.mpr n.isLt, fun m hm => by simp [first m hm]⟩
  have reaches : (!s.host.attached && decide (hostBase ≤ o.statusAt)) = false := by
    rcases reach with attached | low
    · simp [attached]
    · simp [Nat.not_le.mpr (by exact_mod_cast low)]
  simp only [execDmaComplete, placed, moved, mine, going, sound, reaches, State.dmaEnd, written]
  rfl

end

section
variable {s u : State} {L : Fin 128} {n : Fin 3} {slot : Nat} {t : Tile}

theorem execArrayGrant_granted {amb : Ambient} (placed : s.slotOfTile L = some slot) (going : s.engineHeld L = false)
    (hu : u = amb.held.foldl State.meetHeld (s.applyAmb amb)) (ready : (u.offer L n).ready = true)
    (others : ∀ m < 3, m ≠ n.val → u.offer L m = .nothing) (turn : ((u.tile L).endTurn [n.val]).arbitrate [n.val] = some (n.val, t)) :
    execArrayGrant L amb s = (match u.offer L n with
      | .block o => .next ((u.modTile L (fun _ => t)).grantBlock slot L n o)
      | .again k => .next ((u.modTile L (fun _ => t)).grantAgain slot L n k)
      | _ => .next u) := by
  simp only [execArrayGrant, placed, going, ← hu]
  rw [List.filterMap_eq_nil_iff.mpr ?nobad, filter_range3_single n ready ?others]
  case others => exact fun m hm h => by simp [others m hm h, Offer.ready]
  case nobad =>
    intro m hm
    by_cases h : m = n.val
    · subst h
      cases offer : u.offer L n <;> simp_all [Offer.ready]
    · simp [others m (List.mem_range.mp hm) h]
  simp only [turn]
  rfl

theorem execArrayGrant_block {o : Op} {amb : Ambient} (placed : s.slotOfTile L = some slot) (going : s.engineHeld L = false)
    (hu : u = amb.held.foldl State.meetHeld (s.applyAmb amb)) (offer : u.offer L n = .block o)
    (others : ∀ m < 3, m ≠ n.val → u.offer L m = .nothing) (turn : ((u.tile L).endTurn [n.val]).arbitrate [n.val] = some (n.val, t)) :
    execArrayGrant L amb s = .next ((u.modTile L (fun _ => t)).grantBlock slot L n o) := by
  rw [execArrayGrant_granted placed going hu (by simp [offer, Offer.ready]) others turn, offer]

theorem execArrayGrant_again {k : Nat} {amb : Ambient} (placed : s.slotOfTile L = some slot) (going : s.engineHeld L = false)
    (hu : u = amb.held.foldl State.meetHeld (s.applyAmb amb)) (offer : u.offer L n = .again k)
    (others : ∀ m < 3, m ≠ n.val → u.offer L m = .nothing) (turn : ((u.tile L).endTurn [n.val]).arbitrate [n.val] = some (n.val, t)) :
    execArrayGrant L amb s = .next ((u.modTile L (fun _ => t)).grantAgain slot L n k) := by
  rw [execArrayGrant_granted placed going hu (by simp [offer, Offer.ready]) others turn, offer]

theorem execArrayGrant_bad {r : Nat} {o : Op} {amb : Ambient} (placed : s.slotOfTile L = some slot) (going : s.engineHeld L = false)
    (hu : u = amb.held.foldl State.meetHeld (s.applyAmb amb)) (offer : u.offer L n = .bad o r)
    (others : ∀ m < 3, m ≠ n.val → u.offer L m = .nothing) :
    execArrayGrant L amb s = .next (u.refuse 0x0420 L n o.pc r (mmaBank o.word.toNat)) := by
  simp only [execArrayGrant, placed, going, ← hu]
  rw [filterMap_range3_single (x := (n.val, o, r)) n ?mine ?others]
  case mine => simp [offer]
  case others => exact fun m hm h => by simp [others m hm h]
  simp

theorem State.meetHeld_trickCopy {i : Nat} {t : Trick} (opened : s.trickOf L n = some (i, t)) (hu : u = s.raise 0x0502 t.job.toNat 0) :
    s.meetHeld (.trickCopy L n) = ((u.noteRevoke L n 2 0xFFFF i).interruptTile L (u.now - t.since)).replay L n := by
  have still : u.trickOf L n = some (i, t) := by
    rw [← opened, State.trickOf, State.trickOf, hu, (records_raise s 0x0502 t.job.toNat 0).trk]
  simp [State.meetHeld, opened, ← hu, State.revokeLocal, still]

end

section
variable {s : State} {L : Fin 128}

/-- The tile that a drain of a bank queues, not readable yet (R109). -/
def Tile.finEntry (t : Tile) (k : Nat) : FinEntry :=
  { stream := (t.bank k).stream, bank := k, isInt := (t.bank k).isInt, rows := (t.bank k).rows, cols := (t.bank k).cols,
    tag := (t.bank k).tag, cells := (t.bank k).cells, readable := false }

/-- A drain begins: the bank is DRAINING and its tile joins the finished-tile queue, not readable yet (R103, R109). -/
theorem execDrainStart_drains {k : Nat} {r : List Nat} (order : (s.tile L).completeOrder = k :: r) (idle : (s.tile L).draining = none)
    (room : (s.tile L).finQueue.length < 2) (going : s.engineStopped L = false) :
    ∃ t e, execDrainStart L s = .next t ∧ (t.tile L).draining = some k ∧ (t.tile L).completeOrder = r
      ∧ (t.tile L).finQueue = (s.tile L).finQueue ++ [e] ∧ e.bank = k ∧ e.readable = false ∧ e.cells = ((s.tile L).bank k).cells
      ∧ e.stream = ((s.tile L).bank k).stream ∧ e.tag = ((s.tile L).bank k).tag ∧ ((t.tile L).bank k).state = .draining
      ∧ t.mem = s.mem ∧ t.objs = s.objs ∧ t.pending = s.pending := by
  have goes : (((s.tile L).draining.isSome || decide (2 ≤ (s.tile L).finQueue.length)) || s.engineStopped L) = false := by
    simp [idle, going, room]
  refine ⟨_, (s.tile L).finEntry k, by simp only [execDrainStart, order, goes]; rfl, ?_⟩
  simp [Tile.bank, Tile.modBank, Tile.modStream, Tile.finEntry, tget_tmod]

theorem execDrainEnd_frees {k : Nat} (draining : (s.tile L).draining = some k) (going : s.engineStopped L = false) :
    ∃ t, execDrainEnd L s = .next t ∧ ((t.tile L).bank k).state = .free ∧ ((t.tile L).bank k).steps = []
      ∧ (t.tile L).draining = none ∧ (∀ e ∈ (t.tile L).finQueue, e.bank = k → e.readable = true) ∧ t.mem = s.mem ∧ t.objs = s.objs
      ∧ t.pending = s.pending := by
  refine ⟨_, by simp only [execDrainEnd, draining, going]; rfl, ?_⟩
  simp only [Tile.bank, Tile.modBank, State.tile_modTile_same, tget_tmod, if_true, true_and, State.modTile_mem, State.modTile_objs,
    State.modTile_pending, and_true]
  intro e he hk
  obtain ⟨x, -, rfl⟩ := List.mem_map.mp he
  by_cases h : x.bank = k
  · simp [h]
  · simp [h] at hk

end

/-- What the transfer's reads and its write give, in the order of R192. -/
theorem State.dmaMove_done {s r v w : State} {L n slot : Nat} {o : Op} {f : Op → Bool} {d : DmaDesc} {a b : Tensor} {bs : List Byte}
    {st : Option NumStatus} (touch : s.dmaTouch L o.word.toNat = (r, false)) (desc : d = r.dmaDesc L o.word.toNat)
    (src : r.tensorOf slot o.tag d.src = some a) (dst : r.tensorOf slot o.tag d.dst = some b)
    (read : r.dmaValues ⟨slot, L, n, o.tag, o.inTrick⟩ d (d.bypass || o.word.getLsbD 24) a b = (v, .ok (bs, st)))
    (written : v.engineWrite ⟨slot, L, n, o.tag, o.inTrick⟩ d.dstRegions (d.bypass || o.word.getLsbD 24) b.direct (b.bytes.zip bs)
      = (w, .ok)) :
    s.dmaMove slot L n f o = w.modOp L n f (fun p => { p with
      phase := .moved, status := st.getD {}, statusAt := if st.isSome then b.status else 0, tracks := st.isSome }) := by
  subst desc
  simp only [State.dmaMove, touch, src, dst, read, written]
  rfl

section
variable {s u v : State} {L : Fin 128} {b : Fin 4} {slot : Nat} {c : SkipCheck} {r : List SkipCheck} {z : Bool}
  (placed : s.slotOfTile L = some slot) (going : s.engineStopped L = false) (checks : ((s.tile L).bank b).checks = c :: r)
include placed going checks

theorem execSparsityCheck_good
    (checked : s.checkSkip slot L ((s.tile L).bank b).stream ((s.tile L).bank b) c = (u, .ok (z, true)))
    (run : State.checkAll slot L ((s.tile L).bank b).stream ((s.tile L).bank b) [c] u = (v, none)) :
    execSparsityCheck L b s = .next (v.modTile L (fun t => t.modBank b (fun x => { x with checks := r }))) := by
  simp only [execSparsityCheck, placed, checks, going, checked, if_true, run]
  rfl

theorem execSparsityCheck_bad
    (checked : s.checkSkip slot L ((s.tile L).bank b).stream ((s.tile L).bank b) c = (u, .ok (z, false)))
    (run : State.checkAll slot L ((s.tile L).bank b).stream ((s.tile L).bank b) (c :: r) u = (v, none)) :
    execSparsityCheck L b s = .next (v.modTile L (fun t => t.recomputeBank b)) := by
  simp only [execSparsityCheck, placed, checks, going, checked, Bool.false_eq_true, if_false, run]

end

end Sys2Proof.Machine

namespace Sys2Proof
open Machine

/-- Settles O48: with one stream that asks, the turn is its own; the completions, the checks and the drains act on what they name. -/
theorem enginesComplete : Obligations.EnginesComplete := by
  refine ⟨?queued, ?held, ?dmaComplete, ?block, ?again, ?bad, ?trickCopy, ?mmaComplete, ?good, ?wrong, ?bank, ?drainStart, ?drainEnd⟩
  case queued =>
    intro s u L n slot o amb f placed going moved held head others keeps free turn hu hf
    have starts := execDmaTransferStart_queued placed going moved held head others keeps free turn amb
    rw [← hu, ← hf] at starts
    exact ⟨starts, fun r v w d a b bs st touch desc src dst read written =>
      starts.trans (congrArg _ (State.dmaMove_done touch desc src dst read written))⟩
  case held =>
    intro s L n slot o amb placed going moved mine first sound free
    exact execDmaTransferStart_held placed going moved mine first sound free amb
  case dmaComplete =>
    intro s u L n slot o placed going mine first sound reach written
    exact execDmaComplete_ends placed going mine first sound reach written
  case block =>
    intro s u L n slot o t amb placed going hu offer others turn
    exact execArrayGrant_block placed going hu offer others turn
  case again =>
    intro s u L n slot k t amb placed going hu offer others turn
    exact execArrayGrant_again placed going hu offer others turn
  case bad =>
    intro s u L n slot r o amb placed going hu offer others
    exact execArrayGrant_bad placed going hu offer others
  case trickCopy =>
    intro s u L n i t opened hu
    exact State.meetHeld_trickCopy opened hu
  case mmaComplete =>
    intro s L n going
    simp [execMmaComplete, going]
  case good =>
    intro s u v L b slot c r z placed going checks checked run
    exact execSparsityCheck_good placed going checks checked run
  case wrong =>
    intro s u v L b slot c r z placed going checks checked run
    exact execSparsityCheck_bad placed going checks checked run
  case bank =>
    intro s L b going fed checks recompute state
    simp [execBankComplete, going, fed, checks, recompute, state]
  case drainStart =>
    intro s L k r order idle room going
    exact execDrainStart_drains order idle room going
  case drainEnd =>
    intro s L k draining going
    exact execDrainEnd_frees draining going

end Sys2Proof
end

section
/-! The vector engine: a granted instruction runs its function and waits for its completion (R111, R123, R124, R128 to R136). -/
namespace Sys2Proof.Machine

@[simp] theorem Tile.notePassed_finQueue (t : Tile) (key : Nat) (ready : List Nat) (n : Nat) :
    (t.notePassed key ready n).finQueue = t.finQueue := by
  have keeps : ∀ (t : Tile), (ready.foldl (fun t m => t.modStream m (fun x => { x with
      passed := tput x.passed key (if m = n then 0 else tget 0 x.passed key + 1) })) t).finQueue = t.finQueue := by
    induction ready with
    | nil => intro t; rfl
    | cons m ms ih => intro t; rw [List.foldl_cons, ih]; rfl
  exact keeps t

section
variable {s u v : State} {L : Fin 128} {n : Fin 3} {slot vop : Nat} {o : Op} {l : LoopDesc} {st : NumStatus} {amb : Ambient}
  {run : VecRun → State → State × Except VecErr NumStatus}

/-- An instruction whose descriptor passes R136's checks runs its function on the operands' state and waits for VEC_COMPLETE. -/
theorem State.vecRun_passed {isIt : Op → Bool} (fits : insDesc o.word.toNat + 128 ≤ 0x400000)
    (read : s.scratchTouch L (insDesc o.word.toNat) 128 = (u, false)) (hl : l = loopOf (s.scratchRead L (insDesc o.word.toNat) 128))
    (good : s.vecBad slot L o.inTrick o.word.toNat l = none) (det : (s.job slot).det = true → vecDet o.word.toNat l = none)
    (ran : run (s.vecRunOf L n slot o l) u = (v, .ok st)) :
    s.vecRun slot L n isIt o run = (v.modTile L (fun t => { t with vecStream := some n.val })).modOp L n isIt
      (fun p => { p with phase := .moved, status := st, statusAt := l.status }) := by
  have exact' : (if (s.job slot).det = true then vecDet o.word.toNat l else none) = none := by
    by_cases h : (s.job slot).det = true
    · rw [if_pos h, det h]
    · rw [if_neg h]
  rw [State.vecRun, if_neg (Nat.not_lt.mpr fits)]
  generalize s.scratchTouch L (insDesc o.word.toNat) 128 = r at read ⊢
  subst read
  rw [← hl]
  dsimp only
  rw [if_neg Bool.false_ne_true, good]
  dsimp only
  rw [exact']
  dsimp only
  rw [State.vecRunOf] at ran
  rw [ran]

theorem State.vecGrant_of_turn (turn : s.vecTurn L n slot o l vop amb u) (ran : run (s.vecRunOf L n slot o l) u = (v, .ok st)) :
    s.vecGrant L amb vop run = v.vecMoved L n st l := by
  obtain ⟨placed, ready, pick, first, free, going, opcode, fits, read, hl, good, det⟩ := turn
  simp only [State.stream] at first
  generalize ht : (s.applyAmb amb).modTile L (fun t => t.notePassed 1 [n.val] n) = t at read hl good
  have job : t.job slot = s.job slot := by rw [← ht]; rfl
  have queue : (t.tile L).finQueue = (s.tile L).finQueue := by
    rw [← ht, State.tile_modTile_same, Tile.notePassed_finQueue]; rfl
  have runOf : t.vecRunOf L n slot o l = s.vecRunOf L n slot o l := by rw [State.vecRunOf, State.vecRunOf, queue]
  have mine : (decide (vecOp o.word.toNat = vop) || (vecUse (vecOp o.word.toNat)).isNone) = true := by simp [opcode]
  rw [State.vecMoved, ← State.vecRun_passed (isIt := isVecQueued) (run := run) fits read hl good (by simpa only [job] using det) (by simpa only [runOf] using ran), ← ht]
  obtain ⟨vecRun, hv⟩ : ∃ vecRun, vecRun = State.vecRun := ⟨_, rfl⟩
  rw [← hv]
  simp only [State.vecGrant, ← hv, going, placed, free, ready, pick, first, mine, if_true, Bool.false_eq_true, if_false]

theorem execVecComplete_ends (stream : (s.tile L).vecStream = some n.val) (placed : s.slotOfTile L = some slot)
    (mine : (s.stream L n).findOp isVecMoved = some o) (going : s.engineStopped L = false)
    (written : s.writeStatus ⟨slot, L, n, o.tag, o.inTrick⟩ (nearRegions L) o.statusAt o.status = (u, .ok)) :
    execVecComplete L s = .next (((u.recordNumeric L n slot o.inTrick o.status).modTile L (fun t => { t with
      vecStream := none, finQueue := if vecPop o.word.toNat then t.finQueue.drop 1 else t.finQueue })).finishOp L n isVecMoved) := by
  simp only [execVecComplete, stream, placed, mine, going, written]
  rfl

end

end Sys2Proof.Machine

namespace Sys2Proof
open Machine

/-- Settles O49: every instruction of the engine is the grant of its opcode with its own function, and the grant of the only ready stream runs
that function. -/
theorem vectorInstructionsComplete : Obligations.VectorInstructionsComplete := by
  refine ⟨fun s u v L n slot vop o l st x amb turn hx => ⟨?elements, ?compare, ?reductions, ?scans⟩, ?complete⟩
  all_goals try subst hx
  case elements =>
    intro c f listed ran
    have grant := State.vecGrant_of_turn (run := fun x s => s.vecElements x true f) turn ran
    simp only [List.mem_cons, Prod.mk.injEq, List.not_mem_nil, or_false] at listed
    rcases listed with ⟨rfl, rfl, rfl⟩ | ⟨rfl, rfl, rfl⟩ | ⟨rfl, rfl, rfl⟩ | ⟨rfl, rfl, rfl⟩ | ⟨rfl, rfl, rfl⟩ | ⟨rfl, rfl, rfl⟩ | ⟨rfl, rfl, rfl⟩
      | ⟨rfl, rfl, rfl⟩ | ⟨rfl, rfl, rfl⟩ | ⟨rfl, rfl, rfl⟩ | ⟨rfl, rfl, rfl⟩ | ⟨rfl, rfl, rfl⟩ | ⟨rfl, rfl, rfl⟩ | ⟨rfl, rfl, rfl⟩ | ⟨rfl, rfl, rfl⟩
      | ⟨rfl, rfl, rfl⟩ | ⟨rfl, rfl, rfl⟩
    case inr.inr.inr.inr.inr.inr.inr.inr.inr.inr.inr.inr.inr.inr.inr.inr =>
      exact congrArg _ (State.vecGrant_of_turn
        (run := fun x s => s.vecElements x true (fun _ _ _ => Machine.Num.ofInt (s.tile L).stepCycle)) turn ran)
    all_goals exact congrArg _ grant
  case compare =>
    rintro rfl ran
    exact congrArg _ (State.vecGrant_of_turn (run := fun x s => s.vecElements x false
      (fun a b _ => if condHolds (vecCond x.word) a b then Machine.Num.one else Machine.Num.zero)) turn ran)
  case reductions =>
    intro c index f listed ran
    have grant := State.vecGrant_of_turn (run := fun x s => s.vecReduce x index f) turn ran
    simp only [List.mem_cons, Prod.mk.injEq, List.not_mem_nil, or_false] at listed
    rcases listed with ⟨rfl, rfl, rfl, rfl⟩ | ⟨rfl, rfl, rfl, rfl⟩ | ⟨rfl, rfl, rfl, rfl⟩ | ⟨rfl, rfl, rfl, rfl⟩ | ⟨rfl, rfl, rfl, rfl⟩
      | ⟨rfl, rfl, rfl, rfl⟩ | ⟨rfl, rfl, rfl, rfl⟩
    case inr.inr.inl =>
      exact congrArg _ (State.vecGrant_of_turn (run := fun x s => s.vecReduce x false (fun xs =>
        ((meanVar (vecSample x.word) xs).1, some (meanVar (vecSample x.word) xs).2))) turn ran)
    all_goals exact congrArg _ grant
  case scans =>
    intro c exclusive segmented listed ran
    have grant := State.vecGrant_of_turn (run := fun x s => s.vecScan x exclusive segmented) turn ran
    simp only [List.mem_cons, Prod.mk.injEq, List.not_mem_nil, or_false] at listed
    rcases listed with ⟨rfl, rfl, rfl, rfl⟩ | ⟨rfl, rfl, rfl, rfl⟩ | ⟨rfl, rfl, rfl, rfl⟩ | ⟨rfl, rfl, rfl, rfl⟩
    all_goals exact congrArg _ grant
  case complete =>
    intro s u L n slot o stream placed mine going written
    exact execVecComplete_ends stream placed mine going written

end Sys2Proof
end

section
/-! Deck tricks: what a coordinator and a participant make of a TRICK packet that they take (R286, R292, R299 to R302). -/
namespace Sys2Proof.Machine

/-- Two changes that agree on the first entry that is meant change a list alike. -/
theorem modFirst_congr {α : Type} {p : α → Bool} {f g : α → α} {xs : List α} {x : α} (found : xs.find? p = some x) (h : f x = g x) :
    modFirst p f xs = modFirst p g xs := by
  induction xs with
  | nil => rfl
  | cons y ys ih =>
    rw [List.find?_cons] at found
    cases hy : p y with
    | true =>
      rw [hy] at found
      obtain rfl : y = x := by simpa using found
      simp [modFirst, hy, h]
    | false =>
      rw [hy] at found
      simp [modFirst, hy, ih found]

theorem mem_addOnce {α : Type} [DecidableEq α] (xs : List α) (x y : α) : y ∈ addOnce xs x ↔ y ∈ xs ∨ y = x := by
  unfold addOnce
  split
  · next h =>
    exact ⟨.inl, fun either => either.elim id fun e => e ▸ h⟩
  · simp

theorem State.modCoord_congr {s : State} {job : Nat} {k : TrickKey} {f g : Coord → Coord} {c : Coord} (found : s.coordAt job k = some c)
    (h : f c = g c) : s.modCoord job k f = s.modCoord job k g := by
  simp only [State.modCoord, State.modTrk, modFirst_congr found h]

theorem State.haveCoord_of_some {s : State} {n : Nat} {k : TrickKey} {c : Coord} (found : s.coordAt (s.job n).id.toNat k = some c) :
    s.haveCoord n k = s := by
  simp [State.haveCoord, found]

variable {s u : State} {src : Src} {p : Packet} {n msg : Nat}

theorem State.onTrick_takes (takes : s.takesTrick src msg p u n) {stay : Packet → Nat → Bool} (goes : stay p n = false)
    (f : State → Packet → Nat → State) : s.onTrick src msg stay f = f u p n := by
  obtain ⟨packet, kind, message, job, still⟩ := takes
  rw [State.onTrick, State.takePacket_of_takes packet (by simp [kind, ptTrick, message, job, goes])]
  dsimp only
  rw [still]

section
variable {c : Coord} (takes : u.coordTakes p n = true) (found : u.coordAt (u.job n).id.toNat (trickKeyOf p) = some c)
  (attempt : c.attempt = p.attempt) (collecting : c.phase = .collecting)
include takes found attempt collecting

theorem State.coordReady_last (going : (u.job n).restoring = false) (every : ∀ m ∈ c.members, m ∈ c.ready ∨ m = p.src) :
    u.coordReady p n = (u.modCoord (u.job n).id.toNat (trickKeyOf p) (fun c => { c with
      ready := addOnce c.ready p.src, phase := .committed, timer := false })).tellMembers
        c.members (u.job n).id.toNat (trickKeyOf p) c.attempt 3 0 u.self := by
  have all : c.members.all (fun m => (addOnce c.ready p.src).contains m) = true := by
    rw [List.all_eq_true]
    intro m hm
    simpa [mem_addOnce] using every m hm
  simp only [State.coordReady, takes, State.haveCoord_of_some found, found, attempt, collecting, going, all]
  simp only [Bool.not_true, Bool.false_eq_true, if_false, ne_eq, not_true, if_true]
  rw [State.modCoord_congr found (by rfl)]

theorem State.coordReady_more (going : (u.job n).restoring = false) (some' : ∃ m ∈ c.members, m ∉ c.ready ∧ m ≠ p.src) :
    u.coordReady p n = u.modCoord (u.job n).id.toNat (trickKeyOf p) (fun c => { c with
      ready := addOnce c.ready p.src, timer := c.timer || p.src = u.self }) := by
  have missing : c.members.all (fun m => (addOnce c.ready p.src).contains m) = false := by
    rw [List.all_eq_false]
    obtain ⟨m, hm, unready, other⟩ := some'
    exact ⟨m, hm, by simp [mem_addOnce, unready, other]⟩
  simp only [State.coordReady, takes, State.haveCoord_of_some found, found, attempt, collecting, going, missing]
  simp only [Bool.not_true, Bool.false_eq_true, if_false, ne_eq, not_true]
  rw [State.modCoord_congr found (by rfl)]

theorem State.coordRefuse_revokes (cause : p.cause ≠ 7) :
    u.coordRefuse p n = u.coordRevoke (u.job n).id.toNat (trickKeyOf p) p.cause p.src := by
  simp [State.coordRefuse, takes, State.haveCoord_of_some found, found, attempt, cause, collecting]

end

theorem State.coordDone_last {c : Coord} (found : u.coordAt (u.job n).id.toNat (trickKeyOf p) = some c) (attempt : c.attempt = p.attempt)
    (committed : c.phase = .committed) (every : ∀ m ∈ c.members, m ∈ c.done ∨ m = p.src) :
    u.coordDone p n = (u.modCoord (u.job n).id.toNat (trickKeyOf p) (fun _ => { c with done := addOnce c.done p.src })).dropCoord
      (u.job n).id.toNat (trickKeyOf p) := by
  have all (v : State) : v.doneAll { c with done := addOnce c.done p.src } = true := by
    rw [State.doneAll, List.all_eq_true]
    intro m hm
    have := every m hm
    simpa [mem_addOnce] using Or.inl this
  cases c
  dsimp only at attempt committed
  subst attempt committed
  simp only [State.coordDone, found, ne_eq, not_true, if_false]
  rw [if_pos (all _)]

theorem State.resumeWaits_of_share {x : Share} (going : (s.job n).restoring = false)
    (share : s.keyShare (s.job n).id.toNat (trickKeyOf p) = some x) (drained : x.phase ≠ .draining) (up : s.bankUp (s.job n) = true) :
    s.resumeWaits p n = false := by
  simp [State.resumeWaits, going, share, drained, up]

section
variable {x : Share} (share : u.keyShare (u.job n).id.toNat (trickKeyOf p) = some x)
include share

theorem State.applyCommit_pass (ready : x.phase = .ready) (attempt : x.attempt = p.attempt) (pass : (trickKeyOf p).isPass = true) :
    u.applyCommit p n = u.commitPass n x := by
  simp [State.applyCommit, share, ready, attempt, pass]

theorem State.applyCommit_step {r : StepRun} (ready : x.phase = .ready) (attempt : x.attempt = p.attempt)
    (step : (trickKeyOf p).isPass = false) (run : (u.job n).run = some r) (uncut : (u.job n).cutReady = false) :
    u.applyCommit p n = u.commitStep n r x := by
  simp [State.applyCommit, share, ready, attempt, step, run, uncut]

theorem State.applyCommit_unready (unready : x.phase ≠ .ready) : u.applyCommit p n = u := by
  simp [State.applyCommit, share, unready]

theorem State.applyRevoke_live (plain : p.cause ≠ 6) (kept : p.cause ≠ 7) (attempt : x.attempt = p.attempt)
    (live : x.phase = .opened ∨ x.phase = .ready) : u.applyRevoke p n = u.revokeShare n (trickKeyOf p) p.cause p.origin := by
  rcases live with live | live <;> simp [State.applyRevoke, plain, kept, share, attempt, live]

theorem State.applyResume_step (whole : (u.job n).restored = false) (next : x.attempt + 1 = p.attempt)
    (step : (trickKeyOf p).isPass = false) :
    u.applyResume p n
      = ((u.resumeReset n).dropShare (u.job n).id.toNat (trickKeyOf p)).restartStep n (some p.attempt) := by
  simp only [State.applyResume, whole, share, next, step, ne_eq, not_true, Bool.false_eq_true, if_false]

end

theorem State.coordFull_of_some {c : Coord} (found : s.coordAt (s.job n).id.toNat (trickKeyOf p) = some c) : s.coordFull p n = false := by
  simp [State.coordFull, found]

end Sys2Proof.Machine

namespace Sys2Proof
open Machine

/-- Settles O54: a TRICK packet that is taken runs its message on the coordinator's or the participant's entry that it names. -/
theorem deckTricksComplete : Obligations.DeckTricksComplete := by
  refine ⟨?stepShare, ?passShare, ?voteless, ?ready, ?refuse, ?commit, ?unready, ?revoke, ?done, ?resume, ?timeout, ?stepPublished,
    ?passPublished, ?logError, ?drained⟩
  case stepShare =>
    intro s n r e run ready fits
    simp [execShareReady, run, ready, fits]
  case passShare =>
    intro s n m i x e share opened wanted votes room
    have place : (decide (i = 0) && s.freeSlot.isNone) = false := by
      rcases room with h | h
      · simp [h]
      · obtain ⟨j, hj⟩ := Option.isSome_iff_exists.mp h
        simp [hj]
    simp only [exec_shareReady, execShareReady, share, opened, Nat.pos_iff_ne_zero.mp wanted, votes, place]
    simp
  case voteless =>
    intro s n m k e share voteless fits
    simp [execShareReady, share, voteless, fits]
  case ready =>
    rintro s u src p n job k c takes rfl rfl coord found before attempt collecting going
    rw [exec_trickReady, execTrickReady, State.onTrick_takes takes (State.coordFull_of_some before)]
    exact ⟨fun every => by rw [State.coordReady_last coord found attempt collecting going every],
      fun missing => by rw [State.coordReady_more coord found attempt collecting going missing]⟩
  case refuse =>
    rintro s u src p n job k c takes rfl rfl coord found before attempt collecting cause
    rw [exec_trickRefuse, execTrickRefuse, State.onTrick_takes takes (State.coordFull_of_some before),
      State.coordRefuse_revokes coord found attempt collecting cause]
  case commit =>
    rintro s u src p n k x takes rfl share ready attempt
    rw [exec_trickCommit, execTrickCommit, State.onTrick_takes takes rfl]
    exact ⟨fun pass => by rw [State.applyCommit_pass share ready attempt pass],
      fun r step runs uncut => by rw [State.applyCommit_step share ready attempt step runs uncut]⟩
  case unready =>
    rintro s u src p n k x takes rfl share unready
    rw [exec_trickCommit, execTrickCommit, State.onTrick_takes takes rfl, State.applyCommit_unready share unready]
  case revoke =>
    rintro s u src p n k x takes rfl plain kept share attempt live
    rw [exec_trickRevoke, execTrickRevoke, State.onTrick_takes takes rfl, State.applyRevoke_live share plain kept attempt live]
  case done =>
    rintro s u src p n job k c takes rfl rfl found attempt committed every
    rw [exec_trickDone, execTrickDone, State.onTrick_takes takes rfl, State.coordDone_last found attempt committed every]
  case resume =>
    rintro s u src p n k x takes rfl before going whole held share drained up next step
    rw [exec_trickResume, execTrickResume, State.onTrick_takes takes (State.resumeWaits_of_share before held drained up),
      State.applyResume_step share whole next step]
  case timeout =>
    intro s i c entry timer collecting
    simp [execPrepareTimeout, entry, timer, collecting]
  case stepPublished =>
    intro s n x share
    simp [execPublicationDone, share]
  case passPublished =>
    rintro s u n m x p share rfl pass
    simp [execPublicationDone, share, pass]
  case logError =>
    intro s n m x share
    simp [execPublicationDone, share]
  case drained =>
    intro s n mb x share
    refine ⟨fun ports may => ?_, fun ports => ?_⟩
    · simp only [exec_revokeDrained, execRevokeDrained, share, ports]
      have goes : (decide (x.cause ≠ 2) || (s.job n).restoring || s.bankUp (s.job n)) = true := by simpa [or_assoc] using may
      rw [goes]
      rfl
    · simp [execRevokeDrained, share, ports]

end Sys2Proof
end

section
/-! The states of a link, its lanes, and the writes of a port's registers (R313, R316, R334 to R343, R345, R347, R349, R350, R353). -/
namespace Sys2Proof.Machine

theorem State.modPort_modPort (s : State) (p : Nat) (f g : Port → Port) : (s.modPort p f).modPort p g = s.modPort p (fun q => g (f q)) :=
  congrArg (fun ports => { s with ports }) (tmod_tmod ..)

theorem State.port_modPort_ne {s : State} {p r : Nat} (h : r ≠ p) (f : Port → Port) : (s.modPort p f).port r = s.port r := by
  rw [State.port_modPort, if_neg h]

theorem State.portEvent_eq (s : State) (code p x : Nat) : s.portEvent code p x = s.raise code 0 (portDetail p + x * 2 ^ 8) := rfl

theorem State.portEvent_zero (s : State) (code p : Nat) : s.portEvent code p 0 = s.raise code 0 (portDetail p) := by
  rw [State.portEvent_eq, Nat.zero_mul, Nat.add_zero]

@[simp] theorem State.port_raise (s : State) (code job detail r : Nat) : (s.raise code job detail).port r = s.port r := by
  rw [State.port, (records_raise s code job detail).ports, State.port]

theorem State.port_portCount (s : State) (p i n r : Nat) :
    (s.portCount p i n).port r = { s.port r with counters := ((s.portCount p i n).port r).counters } := by
  rw [State.portCount, State.port_modPort]
  split
  · next h => subst h; rfl
  · rfl

theorem putBits_ctl_mode (x : Word) (v : Nat) : nbit (putBits x 31 1 v).toNat 27 = nbit x.toNat 27 := by
  rw [nbit, nbit, BitVec.testBit_toNat, BitVec.testBit_toNat, getLsbD_putBits]
  · simp
  all_goals omega

section
variable {s : State} {p : Fin 16}

/-- A port that is not UP goes down without anything to give up (R338). -/
theorem State.portDown_idle (cause : Nat) (idle : (s.port p).state ≠ .up) :
    s.portDown p cause = s.modPort p (fun q => { q with
      lastDown := BitVec.ofNat 4 cause, state := .down, nbr := none, restoring := 0, rxLocked := false, regain := false,
      restriping := false, markerDue := false, rxRestripe := false }) := by
  rw [State.portDown, if_neg idle, State.modPort_modPort]

theorem execPortEnable_disabled (awake : s.awake = true) (real : s.portExists p = true) (disabled : (s.port p).state = .disabled)
    (mode : nbit (s.port p).ctl.toNat 27 = false) :
    execPortEnable p s = .next (s.modPort p (fun q => { q with ctl := putBits q.ctl 31 1 1, state := .detect })) := by
  rw [execPortEnable, State.fromHost_of_awake awake, State.portEnable, if_pos real]
  dsimp only
  rw [if_pos disabled, State.enterDetect, State.modPort_modPort, State.modPort_congr]
  dsimp only
  rw [putBits_ctl_mode, mode]
  rfl

theorem execPortDisable_idle (awake : s.awake = true) (real : s.portExists p = true) (idle : (s.port p).state ≠ .up) :
    execPortDisable p s = .next (s.modPort p (fun q => { q with
      ctl := putBits q.ctl 31 1 0, state := .disabled, nbr := none, restoring := 0, rxLocked := false, regain := false,
      restriping := false, markerDue := false, rxRestripe := false })) := by
  rw [execPortDisable, State.fromHost_of_awake awake, State.portDisable, if_pos real]
  dsimp only
  rw [if_neg idle, State.modPort_modPort]

theorem execTrainingDone_aligns {rx tx : BitVec 8} (train : (s.port p).state = .train)
    (receive : s.minLanes p ≤ popCount (rx &&& s.laneMask p)) (transmit : s.minLanes p ≤ popCount (tx &&& s.laneMask p)) :
    execTrainingDone p rx tx s = .next (s.modPort p (fun q => { q.fresh with
      state := .align, rxLanes := rx &&& s.laneMask p, txLanes := tx &&& s.laneMask p,
      failedLanes := s.laneMask p &&& ~~~(rx &&& s.laneMask p) })) := by
  simp [execTrainingDone, train, Nat.not_lt.mpr receive, Nat.not_lt.mpr transmit]

theorem execTrainingDone_low {rx tx : BitVec 8} (train : (s.port p).state = .train)
    (low : popCount (rx &&& s.laneMask p) < s.minLanes p ∨ popCount (tx &&& s.laneMask p) < s.minLanes p) :
    execTrainingDone p rx tx s = execTrainingFailed p s := by
  simp [execTrainingDone, execTrainingFailed, train, low]

theorem execTrainingFailed_train (train : (s.port p).state = .train) :
    execTrainingFailed p s = .next ((s.modPort p (fun q => { q with
      lastDown := 5, state := .down, nbr := none, restoring := 0, rxLocked := false, regain := false,
      restriping := false, markerDue := false, rxRestripe := false })).raise 0x070B 0 (portDetail p)) := by
  rw [execTrainingFailed, if_pos train, State.trainFailed, State.portDown_idle 5 (by simp [train]), State.portEvent_zero]
  rfl

/-- The packet with the identity block that a port sends its neighbour (R334). -/
def State.identityPacket (s : State) (p : Nat) : Packet :=
  { hopLocal := true, cls := 0, ptype := BitVec.ofNat 4 ptIdentity, src := s.self, dst := 0, tag := 0, last := true,
    payload := s.identityBlock p }

theorem execAlignLock_locks (align : (s.port p).state = .align) :
    ∃ t k, execAlignLock p s = .next t ∧ (t.port p).state = .discover ∧ (t.port p).rxLocked = true ∧ (t.port p).peerLocked = true
      ∧ (t.port p).txq = (s.port p).txq ++ [k] ∧ k.ptype.toNat = ptIdentity ∧ k.hopLocal = true ∧ k.payload = s.identityBlock p
      ∧ t.mem = s.mem ∧ t.host = s.host ∧ t.pending = s.pending := by
  obtain ⟨u, hu⟩ : ∃ u, u = s.modPort p (fun q => { q with state := .discover, rxLocked := true, peerLocked := true }) := ⟨_, rfl⟩
  have port : u.port p = { s.port p with state := .discover, rxLocked := true, peerLocked := true } := by rw [hu, State.port_modPort_same]
  have block : u.identityBlock p = s.identityBlock p := by
    have fork : u.bifurcated p = s.bifurcated p := by
      rw [State.bifurcated, State.bifurcated, hu, State.port_modPort]
      split
      · next h => rw [h]
      · rfl
    rw [State.identityBlock, State.identityBlock, fork, port, hu]
    rfl
  refine ⟨u.sendIdentity p, u.identityPacket p, ?_, ?_⟩
  · rw [execAlignLock, if_pos align, hu]
  · have sends : u.sendIdentity p = u.modPort p (fun q => { q with txq := q.txq ++ [u.identityPacket p] }) := by
      simp [State.sendIdentity, State.identityPacket, port]
    rw [sends, State.port_modPort_same, port]
    exact ⟨rfl, rfl, rfl, rfl, rfl, rfl, block, by rw [hu]; rfl, by rw [hu]; rfl, by rw [hu]; rfl⟩

section
variable {u : State} {k : Packet} (discover : (s.port p).state = .discover)
  (taken : s.freeKitty p (fun x => x.pkt.ptype.toNat = ptIdentity) = some (k, u)) (still : (u.port p).state = .discover)
include discover taken

/-- A neighbour's identity in DISCOVER is kept, and the port judged by it (R334, R335). -/
theorem execIdentity_judges :
    execIdentity p s = .next ((u.modPort p (fun q => { q with nbr := some (Identity.ofBlock k.payload) })).judgePort p) := by
  simp [execIdentity, discover, taken]

include still

theorem execIdentity_up (may : (u.modPort p (fun q => { q with nbr := some (Identity.ofBlock k.payload) })).mayCarry p = true) :
    execIdentity p s = .next (((((u.modPort p (fun q => { q with nbr := some (Identity.ofBlock k.payload) })).modPort p
      (fun q => { q with state := .up, relink := none })).portEvent 0x0701 p 0).checkLanes p).sendOwed) := by
  rw [execIdentity_judges discover taken, State.judgePort]
  simp only [State.port_modPort_same, still, may]
  rfl

theorem execIdentity_held (may : (u.modPort p (fun q => { q with nbr := some (Identity.ofBlock k.payload) })).mayCarry p = false) :
    execIdentity p s = .next (((u.modPort p (fun q => { q with nbr := some (Identity.ofBlock k.payload) })).modPort p
      (fun q => { q with state := .held })).portEvent 0x0705 p 0) := by
  rw [execIdentity_judges discover taken, State.judgePort]
  simp only [State.port_modPort_same, still, may]
  rfl

end

theorem execPortFence_idle (awake : s.awake = true) (real : s.portExists p = true) (idle : (s.port p).state ≠ .up) :
    execPortFence p s = .next (s.modPort p (fun q => { q with ctl := putBits q.ctl 30 1 1 })) := by
  simp [execPortFence, awake, State.portFence, real, idle]

theorem execPortUnfence_unheld (awake : s.awake = true) (real : s.portExists p = true) (unheld : (s.port p).state ≠ .held) :
    execPortUnfence p s = .next (s.modPort p (fun q => { q with ctl := putBits q.ctl 30 1 0 })) := by
  simp [execPortUnfence, awake, State.portUnfence, real, unheld]

theorem lastDown_emptyKitty (s : State) (p r : Nat) : ((s.emptyKitty p).port r).lastDown = (s.port r).lastDown := by
  have keeps (s : State) (f : Port → Port) (hf : ∀ q, (f q).lastDown = q.lastDown) : ((s.modPort p f).port r).lastDown = (s.port r).lastDown := by
    rw [State.port_modPort]
    split
    · next h => subst h; exact hf _
    · rfl
  have credits (ks : List KittyPkt) (s : State) :
      ((ks.foldl (fun s k => s.creditFreed p k.pkt.cls.toNat k.pkt.blocks) s).port r).lastDown = (s.port r).lastDown := by
    induction ks generalizing s with
    | nil => rfl
    | cons k ks ih => rw [List.foldl_cons, ih]; exact keeps _ _ fun _ => rfl
  rw [State.emptyKitty, credits]
  exact keeps _ _ fun _ => rfl

/-- What a port gives up when it leaves UP does not touch the cause of its last fall. -/
theorem lastDown_leaveUp (s : State) (p cause r : Nat) (st : LinkState) : ((s.leaveUp p cause st).port r).lastDown = (s.port r).lastDown := by
  have same {s t : State} (h : SameButTraffic s t) : (t.port r).lastDown = (s.port r).lastDown := by rw [h.port r]
  unfold State.leaveUp
  extract_lets q gone s1 s2 s3 s4
  have h1 : (s1.port r).lastDown = (s.port r).lastDown := by
    rw [← lastDown_emptyKitty s p r, State.port_modPort]
    split
    · next h => subst h; rfl
    · rfl
  have h2 : (s2.port r).lastDown = (s1.port r).lastDown := same
    (SameButTraffic.foldl (.refl _) (fun v k => traffic_statJob (traffic_modPort (.refl v) fun _ => rfl) _ _ _) _)
  have h3 : (s3.port r).lastDown = (s2.port r).lastDown := same (traffic_raise (.refl _) _ _ _)
  have h4 : (s4.port r).lastDown = (s3.port r).lastDown := same
    (SameButTraffic.foldl (.refl _) (fun v j => traffic_revokeForDiscard (.refl v) p j) _)
  have h5 : ((s4.breakLoads p).port r).lastDown = (s4.port r).lastDown := by
    refine same (SameButTraffic.foldl (.refl _) (fun v n => SameButTraffic.foldl (.refl _) (fun w i => ?_) _) _)
    dsimp only
    split
    · exact traffic_breakLoad (.refl w) n i 1
    · exact .refl w
  rw [h5, h4, h3, h2, h1]

theorem State.portDown_port (s : State) (p cause : Nat) :
    ((s.portDown p cause).port p).state = .down ∧ ((s.portDown p cause).port p).lastDown = BitVec.ofNat 4 cause := by
  unfold State.portDown
  dsimp only
  rw [State.port_modPort_same]
  refine ⟨rfl, ?_⟩
  dsimp only
  split
  · rw [lastDown_leaveUp, State.port_modPort_same]
  · rw [State.port_modPort_same]

theorem execFrameLockTimeout_up (up : (s.port p).state = .up) (regain : (s.port p).regain = true) :
    ∃ t, execFrameLockTimeout p s = .next t ∧ (t.port p).state = .down ∧ (t.port p).lastDown = 3 ∧ t.mem = s.mem ∧ t.pending = s.pending := by
  obtain ⟨down, last⟩ := State.portDown_port s p 3
  have same := SameIdentity.portDown s p 3
  exact ⟨s.portDown p 3, by simp [execFrameLockTimeout, up, regain], down, last, same.mem, same.pending⟩

/-! ### Lanes -/

theorem State.minLanes_congr {t : State} (h : ∀ r, (t.port r).ctl = (s.port r).ctl) (p : Nat) : t.minLanes p = s.minLanes p := by
  rw [State.minLanes, State.minLanes, State.bifurcated, State.bifurcated, h, h]

theorem execLaneFailure_align {l : Fin 8} (align : (s.port p).state = .align) (lane : (s.port p).rxLanes.getLsbD l = true) :
    execLaneFailure p l s = .next (((s.modPort p (fun q => { q with
      rxLocked := false, regain := false, rxRestripe := false, rxLanes := q.rxLanes &&& ~~~((1 : BitVec 8) <<< l.val),
      failedLanes := q.failedLanes ||| ((1 : BitVec 8) <<< l.val) })).portCount p 11 1).raise 0x0703 0 (portDetail p + l.val * 2 ^ 8)) := by
  have unaligned : (s.port p).aligned = false := by simp [Port.aligned, align]
  have falls : (((s.port p).aligned || decide ((s.port p).state = .align)) && (s.port p).rxLanes.getLsbD l) = true := by simp [align, lane]
  simp only [execLaneFailure]
  rw [if_pos falls, State.portEvent_eq, State.modPort_congr (g := fun q => { q with
      rxLocked := false, regain := false, rxRestripe := false, rxLanes := q.rxLanes &&& ~~~((1 : BitVec 8) <<< l.val),
      failedLanes := q.failedLanes ||| ((1 : BitVec 8) <<< l.val) }) (by rw [unaligned]; rfl), State.checkLanes, if_neg]
  rw [State.port_raise, State.port_portCount, State.port_modPort_same]
  simp [align]

section
variable {u : State} {l : Fin 8} (aligned : (s.port p).aligned = true) (lane : (s.port p).rxLanes.getLsbD l = true)
  (hu : u = ((s.modPort p (fun q => { q with
      rxLocked := false, regain := true, rxRestripe := true, rxLanes := q.rxLanes &&& ~~~((1 : BitVec 8) <<< l.val),
      failedLanes := q.failedLanes ||| ((1 : BitVec 8) <<< l.val) })).portCount p 11 1).raise 0x0703 0 (portDetail p + l.val * 2 ^ 8))
include aligned lane hu

theorem execLaneFailure_aligned : execLaneFailure p l s = .next (u.checkLanes p) := by
  have falls : (((s.port p).aligned || decide ((s.port p).state = .align)) && (s.port p).rxLanes.getLsbD l) = true := by simp [aligned, lane]
  simp only [execLaneFailure]
  rw [if_pos falls, State.portEvent_eq, State.modPort_congr (g := fun q => { q with
      rxLocked := false, regain := true, rxRestripe := true, rxLanes := q.rxLanes &&& ~~~((1 : BitVec 8) <<< l.val),
      failedLanes := q.failedLanes ||| ((1 : BitVec 8) <<< l.val) }) (by rw [aligned]; rfl), hu]

omit aligned lane in
theorem minLanes_after_laneFailure : u.minLanes p = s.minLanes p := by
  refine State.minLanes_congr (fun r => ?_) p
  rw [hu, State.port_raise, State.port_portCount, State.port_modPort]
  split
  · next h => rw [h]
  · rfl

theorem execLaneFailure_enough
    (enough : (u.port p).state ≠ .up ∨ (s.minLanes p ≤ popCount (u.port p).rxLanes ∧ s.minLanes p ≤ popCount (u.port p).txLanes)) :
    execLaneFailure p l s = .next u := by
  rw [execLaneFailure_aligned aligned lane hu, State.checkLanes, if_neg]
  rw [State.lanesLow, minLanes_after_laneFailure hu]
  rcases enough with idle | ⟨receive, transmit⟩
  · simp [idle]
  · simp [Nat.not_lt.mpr receive, Nat.not_lt.mpr transmit]

theorem execLaneFailure_low (up : (u.port p).state = .up) (low : popCount (u.port p).rxLanes < s.minLanes p) :
    execLaneFailure p l s = .next (u.portDown p 2) := by
  rw [execLaneFailure_aligned aligned lane hu, State.checkLanes, if_pos]
  rw [State.lanesLow, minLanes_after_laneFailure hu]
  simp [up, low]

end

/-! ### Registers -/

theorem execHlFiWrite_taken {c : Fin 5} {v : Dword} (awake : s.awake = true) (mode : bits v 61 2 ≠ 3) (trigger : bits v 59 2 ≠ 3)
    (control : c = 4 → bits v 61 2 ≠ 2 ∧ bits v 59 2 ≠ 2) :
    execHlFiWrite p c v s = .next (s.modPort p (fun q => { q with
      fi := tput q.fi c (oneFor (if bits v 59 2 = 0 then [(24, 5)] else []) (v &&& 0xFE00FFFFFFFFFFFF)), fiLeft := tput q.fiLeft c (bits v 24 24) })) := by
  have good : (decide (bits v 61 2 = 3) || decide (bits v 59 2 = 3)
      || (decide (c.val = 4) && (decide (bits v 61 2 = 2) || decide (bits v 59 2 = 2)))) = false := by
    by_cases h : c = 4
    · obtain ⟨m, t⟩ := control h
      simp [mode, trigger, m, t]
    · have other : c.val ≠ 4 := fun e => h (Fin.ext e)
      simp [mode, trigger, other]
  rw [execHlFiWrite, State.fromHost_of_awake awake, State.writeFi, good]
  rfl

theorem execRtEntryWrite_taken {d : Fin 4096} {v : Word} (awake : s.awake = true) (c24 : codeOk (bits v 24 5) = true)
    (c16 : codeOk (bits v 16 5) = true) (c8 : codeOk (bits v 8 5) = true) (unused : s.deckUses d = false) :
    execRtEntryWrite (some p) d v s = .next (s.modPort p (fun q => { q with routes := tput q.routes d (v &&& 0x1F1F1F00) }))
      ∧ execRtEntryWrite none d v s = .next { s with originRoutes := tput s.originRoutes d (v &&& 0x1F1F1F00) } := by
  constructor
  · simp [execRtEntryWrite, awake, State.writeRoute, c24, c16, c8, unused]
  · simp [execRtEntryWrite, awake, State.writeRoute, c24, c16, c8, unused]

theorem execKittyClassWrite_up (c : Fin 4) (v : Word) (awake : s.awake = true) (up : (s.port p).state = .up) :
    execKittyClassWrite p c v s = .next (s.modPort p (fun q => { q with reject := true })) := by
  simp [execKittyClassWrite, awake, State.writeKittyClass, up, State.portReject]

/-- The sum over the other classes that the model forms is the sum over all four without the written one's. -/
theorem reserve_others (q : Port) (c : Fin 4) :
    ((upFrom 0 4).filter (fun i => decide (i ≠ c.val))).foldl (fun a i => a + q.reserve i) 0
      = q.reserve 0 + q.reserve 1 + q.reserve 2 + q.reserve 3 - q.reserve c := by
  have range : upFrom 0 4 = [0, 1, 2, 3] := rfl
  fin_cases c <;> simp [range] <;> omega

theorem execKittyClassWrite_taken {c : Fin 4} {v : Word} (awake : s.awake = true) (disabled : (s.port p).state = .disabled)
    (least : 65 ≤ bits v 0 16) (ordered : bits v 0 16 ≤ bits v 16 16)
    (fits : (s.port p).reserve 0 + (s.port p).reserve 1 + (s.port p).reserve 2 + (s.port p).reserve 3 - (s.port p).reserve c + bits v 0 16
      ≤ s.kittySize p / 2) :
    execKittyClassWrite p c v s = .next (s.modPort p (fun q => { q with kittyClass := tput q.kittyClass c v })) := by
  rw [← reserve_others] at fits
  rw [execKittyClassWrite, State.fromHost_of_awake awake, State.writeKittyClass, if_neg]
  simp only [disabled, Bool.or_eq_true, decide_eq_true_eq]
  simp only [ne_eq, decide_not] at fits ⊢
  simp
  omega

end

end Sys2Proof.Machine

namespace Sys2Proof
open Machine

/-- Settles O55: each command meets its state and leaves the next one; a port that is not UP has nothing to give up when it goes down. -/
theorem linkStatesComplete : Obligations.LinkStatesComplete := by
  refine ⟨?enable, ?disable, ?detect, ?trained, ?trainedLow, ?trainFailed, ?alignLock, ?alignTimeout, ?discoverTimeout, ?identityUp,
    ?identityHeld, ?fence, ?unfence, ?lockLost, ?lock, ?restored, ?restore, ?laneAlign, ?laneAligned, ?restripe, ?peerIdle, ?holdoff,
    ?checker, ?counters, ?fi, ?routes, ?kittyUp, ?kitty⟩
  case enable => exact fun s p awake real disabled mode => execPortEnable_disabled awake real disabled mode
  case disable => exact fun s p awake real idle => execPortDisable_idle awake real idle
  case detect =>
    intro s p m cool detect lanes
    simp [execSignalDetect, cool, detect, lanes]
  case trained =>
    intro s p rx tx train receive transmit
    refine ⟨_, execTrainingDone_aligns train receive transmit, ?_⟩
    rw [State.port_modPort_same]
    exact ⟨rfl, rfl, rfl, rfl, rfl, rfl, rfl, fun r h => State.port_modPort_ne (fun e => h (Fin.ext e)) _, rfl, rfl, rfl, rfl⟩
  case trainedLow => exact fun s p rx tx train low => execTrainingDone_low train low
  case trainFailed => exact fun s p train => execTrainingFailed_train train
  case alignLock => exact fun s p align => execAlignLock_locks align
  case alignTimeout =>
    intro s p align
    rw [exec_alignTimeout, execAlignTimeout, if_pos align, State.portDown_idle 3 (by simp [align])]
    rfl
  case discoverTimeout =>
    intro s p discover alone
    rw [exec_discoverTimeout, execDiscoverTimeout, if_pos (by simp [discover, alone]), State.portDown_idle 8 (by simp [discover])]
    rfl
  case identityUp => exact fun s u p k discover taken still may => execIdentity_up discover taken still may
  case identityHeld => exact fun s u p k discover taken still may => execIdentity_held discover taken still may
  case fence => exact fun s p awake real idle => execPortFence_idle awake real idle
  case unfence => exact fun s p awake real unheld => execPortUnfence_unheld awake real unheld
  case lockLost =>
    intro s p up locked
    simp [execFrameLockLost, up, locked]
  case lock =>
    intro s p up regain
    exact ⟨fun plain => by simp [execFrameLockRegained, up, regain, plain], execFrameLockTimeout_up up regain⟩
  case restored =>
    intro s p l aligned restoring
    simp [execLaneRestored, aligned, restoring, State.portEvent_eq]
    rfl
  case restore =>
    intro s p awake aligned
    simp [execLaneRestore, awake, State.laneRestore, aligned]
  case laneAlign => exact fun s p l align lane => execLaneFailure_align align lane
  case laneAligned =>
    exact fun s u p l aligned lane hu => ⟨execLaneFailure_enough aligned lane hu, execLaneFailure_low aligned lane hu⟩
  case restripe =>
    intro s p aligned restripe
    simp [execRestripeLock, aligned, restripe]
  case peerIdle =>
    intro s p live
    have idle : (s.port p).state ≠ .up := by rcases live with h | h | h | h <;> simp [h]
    rw [exec_peerIdle, execPeerIdle, if_pos (by rcases live with h | h | h | h <;> simp [h]), State.portDown_idle 4 idle]
    rfl
  case holdoff =>
    intro s p down retrain mode
    rw [exec_holdoffExpiry, execHoldoffExpiry, if_pos (by simp [down, retrain]), State.enterDetect, State.modPort_congr]
    rw [mode]
    rfl
  case checker =>
    intro s p l loopback lane
    simp [execLoopbackCheckerLock, loopback, lane]
  case counters =>
    intro s p awake
    simp [execHlCntClr, awake, State.clearCounters]
  case fi => exact fun s p c v awake mode trigger control => execHlFiWrite_taken awake mode trigger control
  case routes => exact fun s p d v awake c24 c16 c8 unused => execRtEntryWrite_taken awake c24 c16 c8 unused
  case kittyUp => exact fun s p c v awake up => execKittyClassWrite_up c v awake up
  case kitty => exact fun s p c v awake disabled least ordered fits => execKittyClassWrite_taken awake disabled least ordered fits

end Sys2Proof
end

section
/-! Frames and packets of a link (R317, R320, R325 to R333, R340, R342, R344, R349, R353, R574). -/
namespace Sys2Proof.Machine

/-! ### The control block -/

/-- The control block's bytes that its CRC covers (R317). -/
def State.controlHead (s : State) (p : Nat) : List Byte :=
  leBytes 4 (((s.port p).expected - 1).toNat + 15 * 2 ^ 24)
    ++ [BitVec.ofNat 8 (b2n (s.port p).nak + b2n (s.port p).rxLocked * 2 + (s.port p).nakId.toNat * 16),
      BitVec.ofNat 8 (b2n (s.wants p 0) + b2n (s.wants p 1) * 2 + b2n (s.wants p 2) * 4 + b2n (s.wants p 3) * 8), (s.port p).rxLanes, 0]
    ++ leBytes 2 ((s.port p).hdrAt.getD 0xFFFF) ++ [0, 0]
    ++ ((upFrom 0 4).map (fun c => leBytes 4 ((s.port p).limitOf c).toNat)).flatten
    ++ ((upFrom 0 4).map (fun c => leBytes 4 (tget 0 (s.port p).freed c).toNat)).flatten ++ List.replicate 12 0

section
variable (s : State) (p : Nat)

theorem State.controlBlock_eq :
    s.controlBlock p = s.controlHead p ++ (leBytes 4 (crc32c (s.controlHead p)).toNat ++ [0, 0, 0, 0]) := by
  rw [← List.append_assoc]
  rfl

@[simp] theorem State.length_controlHead : (s.controlHead p).length = 56 := by
  have range : upFrom 0 4 = [0, 1, 2, 3] := rfl
  simp [State.controlHead, range]

theorem State.length_controlBlock : (s.controlBlock p).length = 64 := by simp [State.controlBlock_eq]

theorem State.ack_controlBlock : leAt (s.controlBlock p) 0 4 = ((s.port p).expected - 1).toNat + 15 * 2 ^ 24 := by
  have ack := ((s.port p).expected - 1).isLt
  rw [State.controlBlock_eq, State.controlHead]
  simp only [List.append_assoc]
  exact leAt_leBytes_append _ (by omega)

theorem State.crc_controlBlock : leAt (s.controlBlock p) 56 4 = (crc32c ((s.controlBlock p).take 56)).toNat := by
  have head : (s.controlBlock p).take 56 = s.controlHead p := by
    rw [State.controlBlock_eq, List.take_append_of_le_length (by simp), List.take_of_length_le (by simp)]
  rw [head, State.controlBlock_eq, leAt_after (by simp), leAt_leBytes_append _ (crc32c (s.controlHead p)).isLt]

theorem State.header_controlBlock : leAt (s.controlBlock p) 8 2 = (s.port p).hdrAt.getD 0xFFFF % 2 ^ 16 := by
  rw [State.controlBlock_eq, State.controlHead]
  simp only [List.append_assoc]
  rw [← List.append_assoc (leBytes 4 _), leAt_after (by simp), leAt_leBytes_prefix _ _ le_rfl]
  rfl

end

/-! ### A frame goes out -/

/-- Only the kitty shares that port `p` has granted may differ. -/
structure SameButShare (p : Nat) (s t : State) : Prop where
  state : t = { s with ports := t.ports }
  port : t.port p = { s.port p with share := (t.port p).share }

theorem SameButShare.refl (p : Nat) (s : State) : SameButShare p s s := ⟨rfl, rfl⟩

theorem SameButShare.grantShare {p : Nat} {s t : State} (h : SameButShare p s t) (c : Nat) : SameButShare p s (t.grantShare p c) := by
  unfold State.grantShare
  dsimp only
  split
  · refine ⟨?_, ?_⟩
    · rw [h.state]; rfl
    · rw [State.port_modPort_same, h.port]
  · exact h

theorem SameButShare.grants {p : Nat} {s t : State} (h : SameButShare p s t) (cs : List Nat) :
    SameButShare p s (cs.foldl (fun s c => s.grantShare p c) t) := by
  induction cs generalizing t with
  | nil => exact h
  | cons c cs ih => exact ih (h.grantShare c)

theorem State.sendReplays_nil {s : State} {p : Nat} (h : (s.port p).resend = []) (hits : List Bool) (n : Nat) : s.sendReplays p hits n = s := by
  cases n with
  | zero => simp [State.sendReplays]
  | succ n => simp [State.sendReplays, h]

theorem Port.inject_unarmed {q : Port} {t : Nat} (unarmed : tget 0 q.fi t = 0) (seq : Nat) (replayed hit : Bool) :
    q.inject t seq replayed hit = (q, .none) := by
  rw [Port.inject, unarmed, if_neg]
  simp [nbit]

section
variable {s : State} {p : Fin 16}

/-- The frame's own content: the stream that it has carried leaves the port, and the block names where the next header begins (R317). -/
theorem execFrameTransmit_plain (h : List Bool) (cool : s.pkg.thermtrip = false)
    (live : (s.port p).state = .align ∨ ((s.port p).aligned = true ∧ (s.port p).resend = [])) (unarmed : tget 0 (s.port p).fi 4 = 0) :
    ∃ u, SameButShare p s u ∧ execFrameTransmit p h s = .next (((u.modPort p (fun q => { q with
      placed := q.placed - 4168, hdrAt := q.hdrNext, hdrNext := none })).emit
        (.control p (u.controlBlock p) ((4168 - (u.port p).placed) / 8) .none)).sendMarker p) := by
  have goes : (((s.port p).aligned || decide ((s.port p).state = .align)) && !s.pkg.thermtrip) = true := by
    rcases live with align | ⟨aligned, -⟩
    · simp [align, cool]
    · simp [aligned, cool]
  have replays : (if ((s.port p).aligned && !(s.port p).restriping) = true then s.sendReplays p h.tail 64 else s) = s := by
    rcases live with align | ⟨-, idle⟩
    · simp [Port.aligned, align]
    · rw [State.sendReplays_nil idle, ite_self]
  obtain ⟨u, hu⟩ : ∃ u, u = (upFrom 0 4).foldl (fun s c => s.grantShare p c) s := ⟨_, rfl⟩
  have share : SameButShare p s u := by rw [hu]; exact (SameButShare.refl p s).grants _
  have fi : tget 0 (u.port p).fi 4 = 0 := by rw [share.port]; exact unarmed
  refine ⟨u, share, ?_⟩
  rw [execFrameTransmit]
  dsimp only
  rw [if_pos goes, replays, ← hu, Port.inject_unarmed fi]
  dsimp only
  rw [State.modPort_congr (g := fun q => { q with placed := q.placed - 4168, hdrAt := q.hdrNext, hdrNext := none }) rfl]
  rfl

end

@[simp] theorem State.port_emit (s : State) (o : Out) (r : Nat) : (s.emit o).port r = s.port r := rfl

/-- What a due re-stripe marker adds behind the frame's block (R349). -/
theorem State.sendMarker_facts (s : State) (p : Nat) :
    (s.sendMarker p).out = (if (s.port p).markerDue then [.restripeMarker p (s.port p).txLanes] else []) ++ s.out
      ∧ (s.sendMarker p).port p = { s.port p with
          markerDue := false, placed := if (s.port p).markerDue then 0 else (s.port p).placed,
          hdrAt := if (s.port p).markerDue then none else (s.port p).hdrAt,
          hdrNext := if (s.port p).markerDue then none else (s.port p).hdrNext }
      ∧ (s.sendMarker p).mem = s.mem ∧ (s.sendMarker p).host = s.host ∧ (s.sendMarker p).pending = s.pending := by
  cases due : (s.port p).markerDue with
  | true =>
    rw [State.sendMarker, if_pos due]
    refine ⟨rfl, ?_, rfl, rfl, rfl⟩
    rw [State.port_emit, State.port_modPort_same]
    rfl
  | false =>
    rw [State.sendMarker, if_neg (by simp [due])]
    refine ⟨rfl, ?_, rfl, rfl, rfl⟩
    rw [if_neg Bool.false_ne_true, if_neg Bool.false_ne_true, if_neg Bool.false_ne_true, ← due]

section
variable {s : State} {p : Fin 16}

theorem execFrameTransmit_frame (h : List Bool) (cool : s.pkg.thermtrip = false)
    (live : (s.port p).state = .align ∨ ((s.port p).aligned = true ∧ (s.port p).resend = [])) (unarmed : tget 0 (s.port p).fi 4 = 0) :
    ∃ t b, execFrameTransmit p h s = .next t
      ∧ t.out = (if (s.port p).markerDue then [.restripeMarker p (s.port p).txLanes] else [])
          ++ .control p b ((4168 - (s.port p).placed) / 8) .none :: s.out ∧ b.length = 64
      ∧ leAt b 0 4 = ((s.port p).expected - 1).toNat + 15 * 2 ^ 24 ∧ leAt b 56 4 = (crc32c (b.take 56)).toNat
      ∧ ((s.port p).hdrAt = none → leAt b 8 2 = 0xFFFF) ∧ (∀ o < 65536, (s.port p).hdrAt = some o → leAt b 8 2 = o)
      ∧ (t.port p).placed = (if (s.port p).markerDue then 0 else (s.port p).placed - 4168) ∧ (t.port p).markerDue = false
      ∧ (t.port p).hdrAt = (if (s.port p).markerDue then none else (s.port p).hdrNext) ∧ (t.port p).hdrNext = none
      ∧ (t.port p).txq = (s.port p).txq
      ∧ (t.port p).kitty = (s.port p).kitty ∧ t.mem = s.mem ∧ t.host = s.host ∧ t.pending = s.pending := by
  obtain ⟨u, share, run⟩ := execFrameTransmit_plain h cool live unarmed
  obtain ⟨v, hv⟩ : ∃ v, v = (u.modPort p (fun q => { q with placed := q.placed - 4168, hdrAt := q.hdrNext, hdrNext := none })).emit
    (.control p (u.controlBlock p) ((4168 - (u.port p).placed) / 8) .none) := ⟨_, rfl⟩
  have port : v.port p = { u.port p with placed := (u.port p).placed - 4168, hdrAt := (u.port p).hdrNext, hdrNext := none } := by
    rw [hv, State.port_emit, State.port_modPort_same]
  have rest : v.out = .control p (u.controlBlock p) ((4168 - (u.port p).placed) / 8) .none :: u.out
      ∧ v.mem = u.mem ∧ v.host = u.host ∧ v.pending = u.pending := by rw [hv]; exact ⟨rfl, rfl, rfl, rfl⟩
  obtain ⟨out, mem, host, pending⟩ := rest
  obtain ⟨mOut, mPort, mMem, mHost, mPending⟩ := State.sendMarker_facts v p
  rw [← hv] at run
  have header := State.header_controlBlock u p
  refine ⟨v.sendMarker p, u.controlBlock p, run, ?_, u.length_controlBlock p, ?_, u.crc_controlBlock p, ?_, ?_, ?_⟩
  · rw [mOut, port, out, share.port, share.state]
  · rw [u.ack_controlBlock, share.port]
  · intro no
    rw [header, share.port]
    simp [no]
  · intro o small at_
    rw [header, share.port]
    simp [at_, Nat.mod_eq_of_lt small]
  · rw [mPort, port, share.port, mMem, mem, mHost, host, mPending, pending, share.state]
    exact ⟨rfl, rfl, rfl, by simp, rfl, rfl, rfl, rfl, rfl⟩

/-! ### A control block comes in -/

theorem execControlBlock_bad {b : List Byte} {fec : Nat × Nat} (aligned : (s.port p).aligned = true)
    (bad : leAt b 56 4 ≠ (crc32c (b.take 56)).toNat ∨ nbits (leAt b 0 4) 24 4 ≠ 15) :
    execControlBlock p ⟨b, fec⟩ s = .next (((s.portCount p 9 fec.1).portCount p 10 fec.2).portCount p 8 1) := by
  have refused : (decide (leAt b 56 4 ≠ (crc32c (b.take 56)).toNat) || decide (nbits (leAt b 0 4) 24 4 ≠ 15)) = true := by simpa using bad
  simp only [execControlBlock, aligned, Bool.true_or, Bool.not_true, Bool.false_eq_true, if_true, if_false]
  rw [if_pos refused]

/-- The limit of a class that a good control block leaves (R328). -/
def newLimit (b : List Byte) (c : Nat) (old : Word) : Word :=
  if later 32 (leAt b (12 + 4 * c) 4) old.toNat then BitVec.ofNat 32 (leAt b (12 + 4 * c) 4) else old

/-- The table of limits with class `c` taken from the block. -/
def takeLimit (b : List Byte) (t : Tbl Word) (c : Nat) : Tbl Word :=
  if later 32 (leAt b (12 + 4 * c) 4) (tget 0 t c).toNat then tput t c (BitVec.ofNat 32 (leAt b (12 + 4 * c) 4)) else t

theorem tget_takeLimit (b : List Byte) (t : Tbl Word) (c r : Nat) :
    tget 0 (takeLimit b t c) r = if r = c then newLimit b c (tget 0 t c) else tget 0 t r := by
  rw [takeLimit, newLimit]
  split
  · rw [tget_tput]
  · split
    · next h => rw [h]
    · rfl

theorem tget_foldl_takeLimit (b : List Byte) {cs : List Nat} (distinct : cs.Nodup) (t : Tbl Word) (c : Nat) :
    tget 0 (cs.foldl (takeLimit b) t) c = if c ∈ cs then newLimit b c (tget 0 t c) else tget 0 t c := by
  induction cs generalizing t with
  | nil => simp
  | cons i cs ih =>
    obtain ⟨absent, distinct⟩ := List.nodup_cons.mp distinct
    rw [List.foldl_cons, ih distinct, tget_takeLimit]
    by_cases h : c = i
    · subst h
      simp [absent]
    · simp [h]

/-- A port that has taken a good control block with the lanes that the peer receives on (R317, R328, R340). -/
def Port.tookControl (q : Port) (b : List Byte) (now : Nat) (lanes : BitVec 8) (changed : Bool) : Port :=
  { q with
    limit := (upFrom 0 4).foldl (takeLimit b) q.limit,
    wantAt := (upFrom 0 4).foldl (fun (t : Tbl Nat) c => if nbit (leAt b 5 1 % 16) c then tput t c now else t) q.wantAt,
    peerWant := BitVec.ofNat 4 (leAt b 5 1 % 16),
    replay := purge (leAt b 0 4 % 2 ^ 24) (fun c => leAt b (28 + 4 * c) 4) q.replay,
    peerLocked := nbit (leAt b 4 1) 1,
    rxLocked := q.rxLocked || decide (q.state = .align), searching := q.searching && decide (leAt b 8 2 = 0xFFFF),
    resend := q.resend.filter (fun r =>
      (purge (leAt b 0 4 % 2 ^ 24) (fun c => leAt b (28 + 4 * c) 4) q.replay).any (fun k => decide (k.seq = r.seq))),
    txLanes := if changed then lanes else q.txLanes,
    restriping := if changed then true else q.restriping && (!(nbit (leAt b 4 1) 1) || q.markerDue),
    markerDue := q.markerDue || changed }

theorem Port.limit_tookControl (q : Port) (b : List Byte) (now : Nat) (lanes : BitVec 8) (changed : Bool) :
    (q.tookControl b now lanes changed).limit = (upFrom 0 4).foldl (takeLimit b) q.limit := by
  simp only [Port.tookControl]

section
variable {b : List Byte} {fec : Nat × Nat} {u : State} (aligned : (s.port p).aligned = true)
  (sound : leAt b 56 4 = (crc32c (b.take 56)).toNat) (version : nbits (leAt b 0 4) 24 4 = 15) (calm : nbit (leAt b 4 1) 0 = false)
  (hu : u = (s.portCount p 9 fec.1).portCount p 10 fec.2)
include aligned sound version calm hu

theorem execControlBlock_taken {lanes : BitVec 8} {changed : Bool} (hl : lanes = BitVec.ofNat 8 (leAt b 6 1) &&& s.laneMask p)
    (hc : changed = decide (lanes ≠ (s.port p).txLanes)) :
    execControlBlock p ⟨b, fec⟩ s
      = .next (if changed then ((u.modPort p (fun q => q.tookControl b s.now lanes true)).sendIdentity p).checkLanes p
        else u.modPort p (fun q => q.tookControl b s.now lanes false)) := by
  have port : u.port p = { s.port p with counters := (u.port p).counters } := by
    rw [hu, State.port_portCount, State.port_portCount]
  have ctl (r : Nat) : (u.port r).ctl = (s.port r).ctl := by rw [hu, State.port_portCount, State.port_portCount]
  have mask : u.laneMask p = s.laneMask p := by rw [State.laneMask, State.laneMask, State.bifurcated, State.bifurcated, ctl]
  have refused : (decide (leAt b 56 4 ≠ (crc32c (b.take 56)).toNat) || decide (nbits (leAt b 0 4) 24 4 ≠ 15)) = false := by
    simp [sound, version]
  have now : u.now = s.now := by rw [hu]; rfl
  simp only [execControlBlock, aligned, Bool.true_or, Bool.not_true, Bool.false_eq_true, if_true, if_false, Bool.true_and, ← hu, mask, ← hl]
  rw [if_neg (by rw [refused]; exact Bool.false_ne_true)]
  simp only [calm, Bool.false_and, Bool.false_eq_true, if_false, ← hc]
  cases changed with
  | true =>
    rw [if_pos rfl, if_pos rfl, if_pos rfl, State.modPort_congr (g := fun q => q.tookControl b s.now lanes true)]
    rw [port, now]
    rfl
  | false =>
    rw [if_neg Bool.false_ne_true, if_neg Bool.false_ne_true, if_neg Bool.false_ne_true,
      State.modPort_congr (g := fun q => q.tookControl b s.now lanes false)]
    rw [port, now]
    rfl

/-- The peer receives on the lanes that the port sends on (R317, R327, R328). -/
theorem execControlBlock_same (same : BitVec.ofNat 8 (leAt b 6 1) &&& s.laneMask p = (s.port p).txLanes) :
    ∃ t, execControlBlock p ⟨b, fec⟩ s = .next t ∧ (t.port p).peerLocked = nbit (leAt b 4 1) 1
      ∧ (t.port p).replay = purge (leAt b 0 4 % 2 ^ 24) (fun c => leAt b (28 + 4 * c) 4) (s.port p).replay
      ∧ (∀ c < 4, tget 0 (t.port p).limit c = if later 32 (leAt b (12 + 4 * c) 4) (tget 0 (s.port p).limit c).toNat
          then BitVec.ofNat 32 (leAt b (12 + 4 * c) 4) else tget 0 (s.port p).limit c)
      ∧ (t.port p).kitty = (s.port p).kitty ∧ (t.port p).txq = (s.port p).txq ∧ t.mem = s.mem ∧ t.host = s.host ∧ t.pending = s.pending := by
  have run := execControlBlock_taken aligned sound version calm hu rfl (changed := false) (by simp [same])
  have port : u.port p = { s.port p with counters := (u.port p).counters } := by
    rw [hu, State.port_portCount, State.port_portCount]
  rw [if_neg Bool.false_ne_true] at run
  refine ⟨_, run, ?_⟩
  rw [State.port_modPort_same, port]
  refine ⟨rfl, rfl, fun c hc => ?_, rfl, rfl, by rw [hu]; rfl, by rw [hu]; rfl, by rw [hu]; rfl⟩
  rw [Port.limit_tookControl, tget_foldl_takeLimit b (nodup_upFrom 0 4), if_pos (mem_upFrom.mpr ⟨Nat.zero_le c, by omega⟩), newLimit]

/-- The peer has lost lanes: the port re-stripes, and a marker is due (R340, R349). -/
theorem execControlBlock_changed (discover : (s.port p).state = .discover)
    (changed : BitVec.ofNat 8 (leAt b 6 1) &&& s.laneMask p ≠ (s.port p).txLanes) :
    ∃ t, execControlBlock p ⟨b, fec⟩ s = .next t ∧ (t.port p).txLanes = BitVec.ofNat 8 (leAt b 6 1) &&& s.laneMask p
      ∧ (t.port p).markerDue = true ∧ (t.port p).restriping = true ∧ (t.port p).placed = (s.port p).placed ∧ t.mem = s.mem
      ∧ t.pending = s.pending := by
  have run := execControlBlock_taken aligned sound version calm hu rfl (changed := true) (by simp [changed])
  have port : u.port p = { s.port p with counters := (u.port p).counters } := by
    rw [hu, State.port_portCount, State.port_portCount]
  obtain ⟨v, hv⟩ : ∃ v, v = u.modPort p (fun q => q.tookControl b s.now (BitVec.ofNat 8 (leAt b 6 1) &&& s.laneMask p) true) := ⟨_, rfl⟩
  have vport : v.port p = (u.port p).tookControl b s.now (BitVec.ofNat 8 (leAt b 6 1) &&& s.laneMask p) true := by
    rw [hv, State.port_modPort_same]
  have vstate : (v.port p).state = .discover := by rw [vport, port]; exact discover
  have sends : v.sendIdentity p = v.modPort p (fun q => { q with txq := q.txq ++ [v.identityPacket p] }) := by
    simp [State.sendIdentity, State.identityPacket, vstate]
  have low : (v.sendIdentity p).checkLanes p = v.sendIdentity p := by
    rw [State.checkLanes, if_neg]
    rw [sends, State.port_modPort_same]
    simp [vstate]
  rw [if_pos rfl, ← hv, low, sends] at run
  refine ⟨_, run, ?_⟩
  rw [State.port_modPort_same, vport, port]
  exact ⟨rfl, Bool.or_true _, rfl, rfl, by rw [hv, hu]; rfl, by rw [hv, hu]; rfl⟩

end

/-! ### Packets -/

theorem take_drop_header (w : List Byte) : leAt (w.take 64) 56 4 = leAt w 56 4 := by
  rw [leAt, leAt, List.drop_take, List.take_take]
  rfl

theorem execPacketArrival_badHeader {w : List Byte} (aligned : (s.port p).aligned = true) (locked : (s.port p).rxLocked = true)
    (found : (s.port p).searching = false) (bad : leAt w 56 4 ≠ (crc32c (w.take 56)).toNat) :
    execPacketArrival p w s
      = .next (((s.portCount p 4 1).modPort p Port.raiseNak).modPort p (fun q => { q with searching := true })) := by
  have covered : (w.take 64).take 56 = w.take 56 := by rw [List.take_take]; rfl
  simp [execPacketArrival, aligned, locked, found, take_drop_header, covered, bad]

theorem execPacketFirstSend_front {k : Packet} {r : List Packet} {c : Fin 4} (cool : s.pkg.thermtrip = false)
    (sending : (s.port p).sending = true) (turn : s.nextClass p = some c.val) (front : (s.port p).txq = k :: r) (cls : k.cls.toNat = c.val)
    (ready : s.sendReady p k = true) :
    execPacketFirstSend p c false s = .next ((s.modPort p (fun q => { q with txq := r })).firstSend p k false) := by
  simp [execPacketFirstSend, cool, sending, turn, front, takeFirst, cls, ready]

theorem execReorderTimeout_places {r : ReplayPkt} {b : Bool} (cool : s.pkg.thermtrip = false) (whole : (s.port p).restriping = false)
    (held : (s.port p).reorder = some (r, b)) :
    execReorderTimeout p s = .next ((s.modPort p (fun q => { q with
      reorder := none, placed := q.placed + 72 + r.pkt.payload.length,
      hdrAt := if q.hdrAt.isNone && decide (q.placed < 4168) then some q.placed else q.hdrAt,
      hdrNext := if q.hdrNext.isNone && decide (4168 ≤ q.placed) then some (q.placed - 4168) else q.hdrNext })).emit
        (.packet p r.pkt r.seq b .none)) := by
  simp only [execReorderTimeout, cool, Bool.false_eq_true, if_false, State.sendReordered, held, whole, State.place, State.modPort_modPort]
  rfl

section
variable {u : State} {c : Fin 4} {k : Packet}

theorem execPacketForward_sends {q : Nat} (passing : s.passing p c = some (k, some q))
    (taken : s.freeKitty p (fun x => x.pkt = k) = some (k, u)) (up : (s.port q).state = .up) :
    execPacketForward p c false s = .next (u.firstSend q k false) := by
  simp [execPacketForward, passing, taken, up]

theorem execPacketForward_discards (passing : s.passing p c = some (k, none)) (taken : s.freeKitty p (fun x => x.pkt = k) = some (k, u)) :
    execPacketForward p c false s = .next (u.discardUnroutable p false k) := by
  simp [execPacketForward, passing, taken]

end

theorem execKittyStall_front {c : Fin 4} {k : KittyPkt} {r : List KittyPkt} (front : (s.port p).kitty = k :: r) (held : k.freed = false)
    (fresh : k.stalled = false) (cls : k.pkt.cls.toNat = c.val) :
    execKittyStall p c s
      = .next ((s.modPort p (fun q => { q with kitty := { k with stalled := true } :: r })).raise 0x0709 0 (portDetail p)) := by
  have first : (!k.freed && decide (k.pkt.cls.toNat = c.val) && !k.stalled) = true := by simp [held, fresh, cls]
  rw [execKittyStall, if_pos (by rw [front, List.any_cons, first, Bool.true_or]), State.portEvent_zero,
    State.modPort_congr (g := fun q => { q with kitty := { k with stalled := true } :: r })]
  rw [front, modFirst, if_pos first]

end

end Sys2Proof.Machine

namespace Sys2Proof
open Machine

/-- Settles O56: a frame's control block is laid out field by field, a good one updates the transmitter's registers, and a packet that may go
goes. -/
theorem packetsMoveOnLinks : Obligations.PacketsMoveOnLinks := by
  refine ⟨?frame, ?badControl, ?control, ?changed, ?replay, ?badHeader, ?searching, ?firstSend, ?reorder, ?forward, ?discard, ?stall⟩
  case frame => exact fun s p h cool live unarmed => execFrameTransmit_frame h cool live unarmed
  case badControl => exact fun s p b fec aligned bad => execControlBlock_bad aligned bad
  case control => exact fun s p b fec aligned sound version same calm => execControlBlock_same aligned sound version calm rfl same
  case changed =>
    exact fun s p b fec discover sound version changed calm =>
      execControlBlock_changed (by simp [Port.aligned, discover]) sound version calm rfl discover changed
  case replay =>
    intro s p aligned some'
    simp [execReplayTimer, aligned, some']
  case badHeader => exact fun s p w aligned locked found bad _ => execPacketArrival_badHeader aligned locked found bad
  case searching =>
    intro s p w searching
    simp [execPacketArrival, searching]
  case firstSend => exact fun s p k r c cool sending turn front cls ready => execPacketFirstSend_front cool sending turn front cls ready
  case reorder => exact fun s p r b cool whole held => execReorderTimeout_places cool whole held
  case forward => exact fun s u p q c k passing taken up _ _ _ => execPacketForward_sends passing taken up
  case discard => exact fun s u p c k passing taken => execPacketForward_discards passing taken
  case stall => exact fun s p c k r front held fresh cls => execKittyStall_front front held fresh cls

end Sys2Proof
end

section
/-! O58 fails: a gather whose own slab is written outside every region loses its job, and with it the shard table that names the other shards'
parents, before its demands go out. -/
namespace Sys2Proof.Machine

/-- Job 5 in its started step, with a version that the gather takes. -/
def strayGatherJob : Job :=
  { valid := true, placed := true, id := 5, groups := 1, step := 3, jobSlots := 1
    versions := [(0, { tag := 4, state := 2 })], run := some { desc := ⟨[], 0, 0, 0⟩, step := 3, mbCount := 0, started := true } }

/-- A queued instruction that waits for keep 127 at that version. -/
def strayGatherOp : Op :=
  { engine := .channel, word := 0x4001000021, tag := mkTag 5 0 0 0 4 0 0 0 0 3, pc := 0, phase := .queued, pins := [127] }

/-- Job 5 in its started step, with a keep of its ALLGATHER context 7 that a queued instruction waits for. The context writes to an address of no
region; its shard 0 has its root here, its shard 1 at package 5. -/
def strayGather : State :=
  { pkg := { inReset := false, gddrResetN := true }
    sec := { running := true }
    host := { ready := true, linkUp := true, attached := true }
    gds := (List.range 20).map (fun n => (n, { trained := true }))
    dealer := { jobs := [(0, strayGatherJob)], keeps := [(127, { valid := true, job := 5, recipe := 7, size := 1 })] }
    tiles := [(0, { streams := [(0, { ops := [strayGatherOp] })] })]
    melds := [(0, {
      ctxs := [(0, { key := 0x8005007300000000, shape := 0x100000001, tables := 0x800000200000, dst := 0x7FFFFFFFFF00 })]
      sources := [(0, (0, 1))], shards := [(0, 0xC0000000), (1, 0x40000005)] })] }

abbrev strayCtx : MeldCtx := strayGather.mctx 0 0

abbrev strayOrder : List (Nat × Nat) :=
  ((strayGather.partShards 0 strayCtx).map (fun sh => (List.range (strayCtx.slabsIn sh)).map (fun i => (sh, i)))).flatten

abbrev strayOwn : List (Nat × Nat) := strayOrder.filter (fun y => shardRoot (strayGather.shardWord 0 strayCtx y.1))

abbrev strayBegun : State := (strayGather.applyAmb {}).gatherStart 0 (127 : Fin 128) 4

abbrev strayFiring : State :=
  ((strayBegun.haveFiring 0 0 0).modFiring 0 0 0 (fun f => { f with
    started := true, version := none, recipe := some (127 : Fin 128).val, home := some (127 : Fin 128).val,
    slabs := strayOrder.map (fun y => { shard := y.1, index := y.2 }) })).modMctx 0 0 (fun y => { y with started := y.started + 1 })

abbrev strayRead : State × Option Int :=
  readAll 0 0 0 0 (4 : BitVec 8).toNat ((strayGather.meldSources 0 strayCtx).map (fun y => strayOwn.map (fun a => (y, a.1, a.2)))).flatten strayFiring

/-- Where the statement has the demands go: to the parents that the table named before the firing. -/
abbrev strayDemanded : State :=
  ((strayGather.partShards 0 strayCtx).filter (fun sh => !shardRoot (strayGather.shardWord 0 strayCtx sh))).foldl (fun s' sh =>
    s'.meldCtl 0 strayCtx (shardParent (strayGather.shardWord 0 strayCtx sh)) 0 (4 : BitVec 8).toNat sh 3 [])
    (strayOwn.foldl (fun s' y => s'.slabResult 0 0 0 0 y.1 y.2) strayRead.1)

/-- The packets that an outcome leaves on the package's own network. -/
def packetsInside : Host.Outcome State Fault Refusal → Nat
  | .next t => t.noc.length
  | _ => 0

theorem strayGather_fires : strayGather.findJob (strayGather.keep (127 : Fin 128)).job.toNat = some 0
    ∧ strayGather.findCtx (strayGather.keep (127 : Fin 128)).job.toNat (strayGather.keep (127 : Fin 128)).recipe.toNat = some (0, 0)
    ∧ (strayGather.keep (127 : Fin 128)).valid = true ∧ (strayGather.keep (127 : Fin 128)).state = 0
    ∧ strayGather.keepWanted (127 : Fin 128) (4 : BitVec 8).toNat = true ∧ strayCtx.kind = 3 ∧ strayCtx.trigStep = 0
    ∧ strayGather.gatherWaits (127 : Fin 128) = false ∧ (∀ y ∈ strayGather.meldSources 0 strayCtx, y.versionRel = false)
    ∧ strayCtx.started = 0 ∧ strayBegun.hasJob 0 = true ∧ strayRead.2 = none := by decide +kernel

theorem strayGather_runs : packetsInside (execKeepRecipeFiring 127 4 {} strayGather) = 1 := by decide +kernel

theorem strayDemanded_noc : strayDemanded.noc.length = 0 := by decide +kernel

end Sys2Proof.Machine

namespace Sys2Proof
open Machine

/-- Refutes O58: the write of the root's slab finds no region (0x0807), the job's contexts and shard words go with the job, and the DEMAND for
the other shard, whose parent is read afterwards, goes to package 0 instead of package 5. -/
theorem not_meldCompletes : ¬ Obligations.MeldCompletes := by
  intro h
  obtain ⟨-, -, -, -, -, -, -, -, -, -, -, -, -, -, -, keep⟩ := h
  obtain ⟨job, ctx, valid, state, wanted, gather, untriggered, free, fixed, started, lives, read⟩ := strayGather_fires
  have run := keep strayGather strayBegun strayFiring strayRead.1 127 4 {} 0 0 0 0 (strayGather.keep (127 : Fin 128)) strayCtx strayOrder strayOwn rfl
    job ctx rfl valid (.inl state) wanted gather untriggered free fixed started.symm rfl rfl rfl lives rfl (Prod.ext rfl read)
  have inside := strayGather_runs
  rw [← exec_keepRecipeFiring, run] at inside
  exact absurd (strayDemanded_noc.symm.trans inside) (by decide)

end Sys2Proof
end

section
/-! Loads and cuts: the chain's requests, the head's segments, the packets of a load, and the partner's and the talon's cuts (R428, R436 to
R440, R478 to R483, R485, R486). -/
namespace Sys2Proof.Machine

/-! ### Requests of the chain -/

section
variable {s u : State} {src : Src} {p : Packet} {n : Nat} (takes : s.takes src p u) (job : u.findJob (tagJob p.tag) = some n)
include takes job

theorem execLoadReady_runs (ready : isLoadReq 1 p = true) (runs : u.loadRuns n (bits p.handle 16 4) = true)
    (new : (u.load n (bits p.handle 16 4)).readyDown = false) :
    execLoadReady src s
      = .next ((u.modLoad n (bits p.handle 16 4) (fun l => { l with readyDown := true })).passReady n (bits p.handle 16 4)) := by
  simp [execLoadReady, State.takePacket_of_takes takes ready, job, runs, new]

theorem execLoadReady_held (ready : isLoadReq 1 p = true) (waits : u.loadRuns n (bits p.handle 16 4) = false) :
    execLoadReady src s = .next (u.modLoad n (bits p.handle 16 4) (fun l => { l with readyHeld := true })) := by
  simp [execLoadReady, State.takePacket_of_takes takes ready, job, waits]

variable (restart : isLoadReq 2 p = true) (active : (u.load n (bits p.handle 16 4)).active = true)
  (background : (u.load n (bits p.handle 16 4)).background = true)
include restart active background

theorem execLoadRestart_head (head : (u.load n (bits p.handle 16 4)).head = true) :
    execLoadRestart src s = .next (u.restartLoad n (bits p.handle 16 4)) := by
  simp [execLoadRestart, State.takePacket_of_takes takes restart, job, active, background, head]

/-- A RESTART from further down goes up the chain; while the link is not UP it is owed (R439, log 12). -/
theorem execLoadRestart_passes {v : State} {ok : Bool} (inner : (u.load n (bits p.handle 16 4)).head = false)
    (other : p.src ≠ (u.load n (bits p.handle 16 4)).up)
    (sent : u.sendRequest (bulkRequest u.self (u.load n (bits p.handle 16 4)).up (u.job n).id.toNat (bits p.handle 16 4)
      (u.load n (bits p.handle 16 4)).stepOf 2) = (v, ok)) :
    execLoadRestart src s = .next (if ok = true then v
      else v.modLoad n (bits p.handle 16 4) (fun l => { l with owed := addOnce l.owed (true, 2) })) := by
  have request : u.loadRequest n (bits p.handle 16 4) true 2 = if ok = true then v
      else v.modLoad n (bits p.handle 16 4) (fun l => { l with owed := addOnce l.owed (true, 2) }) := by
    rw [State.load] at sent background
    cases ok with
    | true => simp only [State.loadRequest, if_true, sent]
    | false => simp only [State.loadRequest, if_true, sent, background, Bool.false_eq_true, if_false, State.modLoad]
  rw [← request]
  simp [execLoadRestart, State.takePacket_of_takes takes restart, job, active, background, inner, other]

end

/-! ### The head of a chain -/

/-- What R437 asks of a segment's header `h` that is for one package. -/
structure PlainSegment (h : List Byte) : Prop where
  magic : leAt h 0 2 = 0x4C47
  crc : leAt h 56 4 = (crc32c (h.take 56)).toNat
  flags : leAt h 2 2 = 0
  dest : leAt h 4 2 < 4096
  pad6 : leAt h 6 2 = 0
  addr : leAt h 8 8 < 2 ^ 48
  pad28 : leAt h 28 28 = 0
  pad60 : leAt h 60 4 = 0
  count : leAt h 24 4 = 0

section
variable {s u v : State} {n i : Fin 16} {amb : Ambient} {l : Load} {h bs : List Byte} (hl : l = s.load n i) (runs : s.loadRuns n i = true)
  (head : l.head = true) (ready : l.readyDown = true) (more : l.endSeen = false) (image : l.image ≠ 0) (attached : s.host.attached = true)
  (room : l.readPos + 64 ≤ l.imageBytes) (inner : l.tail = false)
  (header : (s.applyAmb amb).hubWindow n (l.image.toNat + l.readPos) 64 = (u, .ok h)) (plain : PlainSegment h)
  (rest : l.readPos + 64 + (leAt h 16 8 + 63) / 64 * 64 < l.imageBytes)
  (read : u.hubWindow n (l.image.toNat + l.readPos + 64) (leAt h 16 8) = (v, .ok bs))
include hl runs head ready more image attached room inner header plain rest read

/-- The segment is sent on, and the head reads on behind it (R437, R438). -/
theorem execLoadImageFetch_sends (other : leAt h 4 2 ≠ s.self.toNat) :
    execLoadImageFetch n i amb s = .next (((segmentPieces (leAt h 8 8) bs).foldl (fun w c => w.originate
      (loadPacket w.self l.down (s.job n).id.toNat i l.stepOf c.1 l.total (leAt h 4 2) 0 c.2 false)) v).modLoad n i (fun l' => { l' with
        readPos := l.readPos + 64 + (leAt h 16 8 + 63) / 64 * 64, segments := satNat 24 l'.segments 1, total := l'.total + 1 })) := by
  obtain ⟨magic, crc, flags, dest, pad6, addr, pad28, pad60, count⟩ := plain
  obtain ⟨window, hw⟩ : ∃ window, window = State.hubWindow := ⟨_, rfl⟩
  rw [← hw] at header read
  have short : ¬ l.imageBytes < l.readPos + 64 := by omega
  have past : ¬ l.imageBytes < l.readPos + 64 + (leAt h 16 8 + 63) / 64 * 64 := by omega
  have far : ¬ 281474976710656 ≤ leAt h 8 8 := by omega
  have hosted : l.image ≠ 0#64 := image
  have notEnd : ¬ l.imageBytes ≤ l.readPos + 64 + (leAt h 16 8 + 63) / 64 * 64 := by omega
  simp only [execLoadImageFetch, ← hl, ← hw, runs, head, ready, more, attached, header]
  simp [hosted, short, magic, crc, flags, Nat.not_le.mpr dest, pad6, far, pad28, pad60, count, past, notEnd, read, inner, other, nbit, flagAll, flagEnd]

/-- The head's own segment is written and not sent on (R437). -/
theorem execLoadImageFetch_keeps {w : State} {a : Nat} (own : leAt h 4 2 = s.self.toNat)
    (hw' : w = v.modLoad n i (fun l' => { l' with
      readPos := l.readPos + 64 + (leAt h 16 8 + 63) / 64 * 64, segments := satNat 24 l'.segments 1, total := l'.total + 1 }))
    (target : w.loadTarget n l false (leAt h 8 8) (leAt h 16 8) = some a) :
    execLoadImageFetch n i amb s = .next (w.keepBytes n i a bs false) := by
  obtain ⟨magic, crc, flags, dest, pad6, addr, pad28, pad60, count⟩ := plain
  obtain ⟨window, hw⟩ : ∃ window, window = State.hubWindow := ⟨_, rfl⟩
  rw [← hw] at header read
  have short : ¬ l.imageBytes < l.readPos + 64 := by omega
  have past : ¬ l.imageBytes < l.readPos + 64 + (leAt h 16 8 + 63) / 64 * 64 := by omega
  have far : ¬ 281474976710656 ≤ leAt h 8 8 := by omega
  have hosted : l.image ≠ 0#64 := image
  have notEnd : ¬ l.imageBytes ≤ l.readPos + 64 + (leAt h 16 8 + 63) / 64 * 64 := by omega
  rw [own] at dest
  subst hw'
  simp only [execLoadImageFetch, ← hl, ← hw, runs, head, ready, more, attached, header]
  simp [hosted, short, magic, crc, flags, Nat.not_le.mpr dest, pad6, far, pad28, pad60, count, past, notEnd, read, inner, own, nbit, flagAll, flagEnd, flagVslot,
    target]

end

/-! ### The packets of a load -/

section
variable {s u v : State} {src : Src} {p : Packet} {n i a : Nat} (takes : s.takes src p u) (cxl : s.host.pcieOnly = false)
  (kind : p.ptype = 7) (load : bits p.handle 12 4 = 1) (new : (u.load n i).segAt.map (·.1) ≠ some (p.spec 40 4))
  (job : u.findJob (tagJob p.tag) = some n) (hi : i = bits p.handle 16 4) (runs : u.loadRuns n i = true)
  (inner : (u.load n i).head = false)
include takes cxl kind load job hi runs inner new

/-- The tail of the chain writes the segment's bytes (R437). -/
theorem execLoadPacket_keeps (tail : (u.load n i).tail = true) (all : p.spec 46 2 = 1)
    (hv : v = u.modLoad n i (fun l => { l with
      segments := max l.segments (min (p.spec 40 4 + 1) (2 ^ 24 - 1)), total := max l.total (p.spec 40 4 + 1),
      segAt := some (p.spec 40 4, p.spec 32 8) }))
    (target : v.loadTarget n (u.load n i) false (p.spec 32 8) (min (p.spec 48 2) p.payload.length) = some a) :
    execLoadPacket src s = .next (v.keepBytes n i a (p.payload.take (min (p.spec 48 2) p.payload.length)) p.poison) := by
  have taken := State.takePacket_of_takes (f := fun p => !s.host.pcieOnly && decide (p.ptype.toNat = ptBulk) && decide (bits p.handle 12 4 = 1))
    takes (by simp [cxl, kind, load, ptBulk])
  have bits1 : Nat.testBit 1 15 = false ∧ Nat.testBit 1 2 = false ∧ Nat.testBit 1 1 = false ∧ Nat.testBit 1 0 = true := by decide
  obtain ⟨b15, b2, b1, b0⟩ := bits1
  subst hi
  rw [execLoadPacket, taken]
  simp only [job, runs, inner, tail, all, nbit, flagAll, flagEnd, flagVslot, flagAbandon, b15, b2, b1, b0, Bool.true_or, Bool.not_true,
    Bool.not_false, Bool.or_self, Bool.and_self, Bool.false_eq_true, if_false, if_true]
  rcases first : (u.load n (bits p.handle 16 4)).segAt with _ | ⟨k, b⟩
  · simp only [Nat.sub_self, Nat.zero_add, Nat.add_zero, ← hv, target]
  · have other : k ≠ p.spec 40 4 := by simpa [first] using new
    simp only [if_neg other, Nat.sub_self, Nat.zero_add, Nat.add_zero, ← hv, target]

/-- A package in the chain passes on what is not its own (R437). -/
theorem execLoadPacket_forwards (middle : (u.load n i).tail = false) (plain : p.spec 46 2 = 0) (other : p.spec 44 2 % 4096 ≠ s.self.toNat) :
    execLoadPacket src s = .next ((u.sendCopy { p with dst := (u.load n i).down }).modLoad n i (fun l => { l with
      segments := max l.segments (min (p.spec 40 4 + 1) (2 ^ 24 - 1)), total := max l.total (p.spec 40 4 + 1),
      segAt := some (p.spec 40 4, p.spec 32 8) })) := by
  have taken := State.takePacket_of_takes (f := fun p => !s.host.pcieOnly && decide (p.ptype.toNat = ptBulk) && decide (bits p.handle 12 4 = 1))
    takes (by simp [cxl, kind, load, ptBulk])
  subst hi
  rw [execLoadPacket, taken]
  simp only [job, runs, inner, middle, plain]
  rcases first : (u.load n (bits p.handle 16 4)).segAt with _ | ⟨k, b⟩
  · simp [nbit, flagAll, flagEnd, flagAbandon, other]
  · have later : k ≠ p.spec 40 4 := by simpa [first] using new
    simp [nbit, flagAll, flagEnd, flagAbandon, other, later]

end

/-! ### Cuts -/

theorem State.mem_noteCut (s : State) (k : Nat) (bs : List Byte) :
    (s.noteCut k bs).mem = s.mem ∧ (s.noteCut k bs).tiles = s.tiles ∧ (s.noteCut k bs).objs = s.objs
      ∧ (s.noteCut k bs).pending = s.pending := by
  unfold State.noteCut
  generalize chunks 64 64 bs = hs
  induction hs generalizing s with
  | nil => exact ⟨rfl, rfl, rfl, rfl⟩
  | cons h hs ih =>
    rw [List.foldl_cons]
    obtain ⟨mem, tiles, objs, pending⟩ := ih (if leAt h 0 2 = 0x4354 && leAt h 2 1 = 0x0F && leAt h 56 4 = (crc32c (h.take 56)).toNat then
      s.modStack k (fun x => { x with cutHeld := true, cutHeldStep := BitVec.ofNat 32 (leAt h 24 4) }) else s)
    rw [mem, tiles, objs, pending]
    split <;> exact ⟨rfl, rfl, rfl, rfl⟩

/-- Bytes that the package stores for itself: memory holds them, and the tiles, the objects and the queue stay. -/
theorem State.storeCells_bytes (s : State) (slot : Option Nat) (base : Nat) (bs : List Byte) :
    (∀ a, (s.storeCells slot (cellsAt base bs)).memByte a
      = if base ≤ a ∧ a < base + bs.length then bs.getD (a - base) 0 else s.memByte a)
    ∧ (s.storeCells slot (cellsAt base bs)).tiles = s.tiles ∧ (s.storeCells slot (cellsAt base bs)).objs = s.objs
    ∧ (s.storeCells slot (cellsAt base bs)).pending = s.pending := by
  have written := SameButLines.writeLines (s.snoopHost (linesOf ((cellsAt base bs).map (·.1)))) slot (cellsAt base bs)
  refine ⟨fun a => ?_, ?_, ?_, ?_⟩
  · rw [State.memByte, State.storeCells, State.storeOwn, Mem.byte_setCells_cellsAt, State.snoopHost_eq]
    rfl
  · rw [State.storeCells, State.storeOwn]
    dsimp only
    rw [written.tiles, State.snoopHost_eq]
  · rw [State.storeCells, State.storeOwn]
    dsimp only
    rw [written.objs, State.snoopHost_eq]
  · rw [State.storeCells, State.storeOwn]
    dsimp only
    rw [written.pending, State.snoopHost_eq]

/-- What the talon has of a job's halves once the first packet of stack `k` is in. -/
theorem restored_half (job k : Nat) (id : BitVec 12) (bs : List Byte) (hid : id.toNat = job) :
    (fun i => match [(id, k, bs)].find? (fun (x : BitVec 12 × Nat × List Byte) => decide (x.1.toNat = job) && decide (x.2.1 = i)) with
      | some x => x.2.2
      | none => []) = (fun i => if i = k then bs else []) := by
  funext i
  by_cases h : k = i
  · subst h; simp [hid]
  · simp [h, Ne.symm h]

section
variable {s u : State} {src : Src} {p : Packet} (takes : s.takes src p u)
include takes

/-- The partner stores a cut's bytes in its region (R479). -/
theorem execCutWrite_stores {k n base : Nat} (kind : p.ptype = 7) (cut : bits p.handle 12 4 = 2) (hk : k = p.spec 40 4 % 4)
    (hn : n = min (p.spec 48 2) p.payload.length) (hb : base = (u.cutRegion k).1 + p.spec 32 8)
    (fits : p.spec 32 8 + n ≤ (u.cutRegion k).2) (works : u.gddrFailed k = false) :
    ∃ t, execCutWrite src s = .next t
      ∧ (∀ a, t.memByte a = if base ≤ a ∧ a < base + n then p.payload.getD (a - base) 0 else s.memByte a)
      ∧ t.tiles = s.tiles ∧ t.objs = s.objs ∧ t.pending = s.pending := by
  have taken := State.takePacket_of_takes (f := fun p => decide (p.ptype.toNat = ptBulk) && decide (bits p.handle 12 4 = 2))
    takes (by simp [kind, cut, ptBulk])
  have same := State.takes_state takes
  obtain ⟨bytes, tiles, objs, pending⟩ := State.storeCells_bytes u none base (p.payload.take n)
  obtain ⟨v, hv⟩ : ∃ v, v = (u.storeCells none (cellsAt base (p.payload.take n))).noteCut k (p.payload.take n) := ⟨_, rfl⟩
  obtain ⟨nMem, nTiles, nObjs, nPending⟩ := State.mem_noteCut (u.storeCells none (cellsAt base (p.payload.take n))) k (p.payload.take n)
  rw [← hv] at nMem nTiles nObjs nPending
  have length : (p.payload.take n).length = n := by rw [List.length_take, hn]; omega
  have bytes (a : Nat) : v.memByte a = if base ≤ a ∧ a < base + n then p.payload.getD (a - base) 0 else s.memByte a := by
    rw [State.memByte, nMem, ← State.memByte, bytes, length]
    split
    · next h =>
      have within : a - base < n := by omega
      simp only [List.getD_eq_getElem?_getD, List.getElem?_take, within, if_true]
    · rw [State.memByte, same, State.memByte]
  have lines := SameButLines.foldl (f := fun s l => s.setPoison l) (fun v l => SameButLines.setPoison v l)
    (linesOf ((cellsAt base (p.payload.take n)).map (·.1))) v
  have run : execCutWrite src s = .next (if p.poison then
      (linesOf ((cellsAt base (p.payload.take n)).map (·.1))).foldl (fun s l => s.setPoison l) v else v) := by
    have goes : (decide ((u.cutRegion k).2 < p.spec 32 8 + n) || u.gddrFailed k) = false := by simp [fits, works]
    rw [execCutWrite, taken]
    dsimp only
    rw [← hk, ← hn, ← hb, ← hv, if_neg (by rw [goes]; exact Bool.false_ne_true)]
  refine ⟨_, run, ?_⟩
  rw [tiles] at nTiles
  rw [objs] at nObjs
  rw [pending] at nPending
  split
  · refine ⟨fun a => ?_, ?_, ?_, ?_⟩
    · rw [State.memByte, lines.mem, ← State.memByte, bytes]
    · rw [lines.tiles, nTiles, same]
    · rw [lines.objs, nObjs, same]
    · rw [lines.pending, nPending, same]
  · exact ⟨bytes, by rw [nTiles, same], by rw [nObjs, same], by rw [nPending, same]⟩

/-- The half that a CUT_FETCH names is streamed to the package that asks for it (R486). -/
theorem execCutFetch_streams {w : State} {rs : List CutRec} {d : List Byte} {job step : Nat} {half : Nat → List Byte} (kind : p.ptype = 8)
    (request : bits p.handle 12 4 = 3) (fetch : p.spec 32 1 = 3)
    (hh : half = (fun k => u.wardBytes k (p.spec 33 1 % 2) (p.spec 40 2 * mib) (p.spec 42 2 * mib)))
    (whole : readCut half (tagJob p.tag) (p.spec 36 4) = .done rs job step) (dealer : dealerOf rs = some d) (step' : step = p.spec 36 4)
    (works : ∀ k ∈ cutStacks d, u.gddrFailed k = false)
    (read : touchReads none true ((cutStacks d).map (fun k =>
      linesOf (upFrom ((u.cutRegion k).1 + u.wardHalf k (p.spec 33 1 % 2) (p.spec 40 2 * mib)) (halfLength rs k)))).flatten u = (w, false)) :
    execCutFetch src s = .next ((cutStacks d).foldl (fun v k =>
      (segmentPieces 0 ((half k).take (halfLength rs k))).foldl (fun v c =>
        v.originate (cutPacket v.self p.src (tagJob p.tag) step 3 k c.1 c.2)) v) w) := by
  have taken := State.takePacket_of_takes (f := fun p => decide (p.ptype.toNat = ptBulkReq) && decide (bits p.handle 12 4 = 3)
    && decide (p.spec 32 1 = 3)) takes (by simp [kind, request, fetch, ptBulkReq])
  have sound : (cutStacks d).any u.gddrFailed = false := List.any_eq_false.mpr fun k hk => by simp [works k hk]
  obtain ⟨touch, ht⟩ : ∃ touch, touch = touchReads := ⟨_, rfl⟩
  obtain ⟨parse, hp⟩ : ∃ parse, parse = readCut := ⟨_, rfl⟩
  obtain ⟨ward, hw⟩ : ∃ ward, ward = State.wardBytes := ⟨_, rfl⟩
  subst step'
  rw [← hp] at whole
  rw [← ht] at read
  rw [← hw] at hh
  rw [execCutFetch, ← hp, ← ht, ← hw, taken]
  dsimp only
  rw [← hh, whole]
  dsimp only
  rw [dealer]
  dsimp only
  rw [read, sound, if_neg (by simp)]
  dsimp only
  rw [hh]

/-- Without a whole cut the partner answers CUT_NONE (R486). -/
theorem execCutFetch_none {c : CutParse} (kind : p.ptype = 8) (request : bits p.handle 12 4 = 3) (fetch : p.spec 32 1 = 3)
    (hc : c = readCut (fun k => u.wardBytes k (p.spec 33 1 % 2) (p.spec 40 2 * mib) (p.spec 42 2 * mib)) (tagJob p.tag) (p.spec 36 4))
    (broken : c = .more ∨ c = .bad) :
    execCutFetch src s = .next (u.originate (cutRequest u.self p.src (tagJob p.tag) 4 (decide (p.spec 33 1 % 2 = 1))
      (BitVec.ofNat 12 (p.spec 34 2)) (BitVec.ofNat 32 (p.spec 36 4)) (BitVec.ofNat 16 (p.spec 40 2)) (BitVec.ofNat 16 (p.spec 42 2)))) := by
  have taken := State.takePacket_of_takes (f := fun p => decide (p.ptype.toNat = ptBulkReq) && decide (bits p.handle 12 4 = 3)
    && decide (p.spec 32 1 = 3)) takes (by simp [kind, request, fetch, ptBulkReq])
  obtain ⟨parse, hp⟩ : ∃ parse, parse = readCut := ⟨_, rfl⟩
  obtain ⟨ward, hw⟩ : ∃ ward, ward = State.wardBytes := ⟨_, rfl⟩
  rw [← hp, ← hw] at hc
  rw [execCutFetch, ← hp, ← hw, taken]
  dsimp only
  rw [← hc]
  rcases broken with rfl | rfl <;> rfl

section
variable {v : State} {lead : BitVec 12} {ws : List Watched} {w : Watched} {k : Nat} {bs : List Byte} {half : Nat → List Byte}
  (kind : p.ptype = 7) (cut : bits p.handle 12 4 = 3) (order : u.recov.takeover = some (lead, ws))
  (mine : ws.find? (fun w => w.job.toNat = tagJob p.tag) = some w) (empty : u.recov.restore = []) (hk : k = p.spec 40 4 % 4)
  (clean : p.poison = false) (start : p.spec 32 8 = 0) (hb : bs = p.payload.take (p.spec 48 2))
  (hh : half = (fun i => if i = k then bs else [])) (hv : v = { u with recov := { u.recov with restore := [(w.job, k, bs)] } })
include kind cut order mine empty hk clean start hb hh hv

/-- The first bytes of a cut that a takeover waits for are kept, and their records parsed (R485, R486). -/
theorem execCutRead_first : execCutRead src s = (match readCut half (tagJob p.tag) w.cutStep.toNat with
    | .more => .next v
    | .bad => .next (v.fetchFails (tagJob p.tag))
    | .done rs _ step =>
      if step ≠ w.cutStep.toNat then .next (v.fetchFails (tagJob p.tag))
      else match v.placeCut w rs with
        | (z, false) => .next (z.fetchFails (tagJob p.tag))
        | (z, true) => .next { z with recov := { z.recov with restore := z.recov.restore.filter (fun x => x.1 ≠ w.job) } }) := by
  have taken := State.takePacket_of_takes (f := fun p => decide (p.ptype.toNat = ptBulk) && decide (bits p.handle 12 4 = 3))
    takes (by simp [kind, cut, ptBulk])
  have id : w.job.toNat = tagJob p.tag := by simpa using List.find?_some mine
  have parts := restored_half (tagJob p.tag) k w.job bs id
  rw [← hh] at parts
  obtain ⟨parse, hp⟩ : ∃ parse, parse = readCut := ⟨_, rfl⟩
  obtain ⟨put, hput⟩ : ∃ put, put = State.placeCut := ⟨_, rfl⟩
  rw [execCutRead, ← hp, ← hput, taken]
  dsimp only
  rw [order]
  dsimp only
  rw [mine]
  dsimp only
  rw [if_neg (by simp [clean, start, empty])]
  simp only [empty, ← hk, List.filter_nil, List.nil_append, List.find?_nil, ← hb]
  simp only [order] at hv
  rw [← hv, ← parts] <;> rfl

end

/-- A CUT_NONE of a takeover goes on to the lead (R486). -/
theorem execCutNone_takeover {lead : BitVec 12} {w : Watched} {v : State} (kind : p.ptype = 8) (request : bits p.handle 12 4 = 3)
    (none' : p.spec 32 1 = 4) (absent : u.findJob (tagJob p.tag) = none) (fetch : u.endFetch (tagJob p.tag) = some (lead, w, v)) :
    execCutNone src s = .next (v.sendCopy { p with dst := lead }) := by
  have taken := State.takePacket_of_takes (f := fun p => decide (p.ptype.toNat = ptBulkReq) && decide (bits p.handle 12 4 = 3)
    && decide (p.spec 32 1 = 4)) takes (by simp [kind, request, none', ptBulkReq])
  simp [execCutNone, taken, absent, fetch]

/-- At the lead a CUT_NONE ends the job (R486). -/
theorem execCutNone_lead {n : Nat} (kind : p.ptype = 8) (request : bits p.handle 12 4 = 3)
    (none' : p.spec 32 1 = 4) (job : u.findJob (tagJob p.tag) = some n) (lead : u.leadOf (u.job n) = u.self) :
    execCutNone src s = .next (u.cutLost n (if BitVec.ofNat 12 (p.spec 34 2) = p.src then 4 else 3) (BitVec.ofNat 32 (p.spec 36 4)) p.src) := by
  have taken := State.takePacket_of_takes (f := fun p => decide (p.ptype.toNat = ptBulkReq) && decide (bits p.handle 12 4 = 3)
    && decide (p.spec 32 1 = 4)) takes (by simp [kind, request, none', ptBulkReq])
  simp [execCutNone, taken, job, lead]

end

/-- A job that has been rolled back and drained goes on from its cut (R485). -/
theorem execCutRestored_resumes {s v w : State} {n : Fin 16} (valid : (s.job n).valid = true) (kept : (s.job n).endingLost = false)
    (restoring : (s.job n).restoring = true) (new : (s.job n).restored = false)
    (drained : ∀ e ∈ s.trk.shares, e.2.job = (s.job n).id → e.2.phase = .drained ∨ (e.2.isPass = true ∧ e.2.phase = .opened))
    (led : s.leadOf (s.job n) ≠ s.self)
    (put : (s.recov.takeover = none ∧ s.readBack n = (v, true))
      ∨ ∃ lead ws, s.recov.takeover = some (lead, ws) ∧ (∃ x ∈ ws, x.job = (s.job n).id)
        ∧ v = { s with recov := { s.recov with takeover := some (lead, ws.filter (fun x => x.job ≠ (s.job n).id)) } })
    (hw : w = (((v.restart n).writeBanks ((s.job n).deck.talonRoutes.filter (fun r => (v.restart n).recov.lost.contains r.dest))).modJob n
      (fun j => { j with rolledLines := (s.poisonedLines n).map (fun l => (l, j.cutStep)) }))) :
    execCutRestored n s = .next ((w.raise 0x0233 (s.job n).id.toNat (s.job n).cutStep.toNat).resumeDeck n) := by
  have shares : s.trk.shares.all (fun (e : Nat × Share) => decide (e.2.job ≠ (s.job n).id) || decide (e.2.phase = .drained)
      || (e.2.isPass && decide (e.2.phase = .opened))) = true := by
    rw [List.all_eq_true]
    intro e he
    by_cases h : e.2.job = (s.job n).id
    · rcases drained e he h with d | ⟨pass, opened⟩
      · simp [d]
      · simp [pass, opened]
    · simp [h]
  have goes : (((((!(s.job n).valid || (s.job n).endingLost) || !(s.job n).restoring) || (s.job n).restored)
      || !(s.trk.shares.all (fun (e : Nat × Share) => decide (e.2.job ≠ (s.job n).id) || decide (e.2.phase = .drained)
        || (e.2.isPass && decide (e.2.phase = .opened)))))
      || !(decide (s.leadOf (s.job n) ≠ s.self) || (s.trk.coords.filter (fun c => c.job = (s.job n).id)).all (fun c => s.doneAll c))) = false := by
    rw [shares]
    simp [valid, kept, restoring, new, led]
  obtain ⟨back, hb⟩ : ∃ back, back = State.readBack := ⟨_, rfl⟩
  obtain ⟨again, hr⟩ : ∃ again, again = State.restart := ⟨_, rfl⟩
  obtain ⟨banks, hbk⟩ : ∃ banks, banks = State.writeBanks := ⟨_, rfl⟩
  obtain ⟨lines, hl⟩ : ∃ lines, lines = State.poisonedLines := ⟨_, rfl⟩
  obtain ⟨goOn, hg⟩ : ∃ goOn, goOn = State.resumeDeck := ⟨_, rfl⟩
  rw [← hb] at put
  rw [← hr, ← hbk, ← hl] at hw
  rw [execCutRestored, ← hb, ← hr, ← hbk, ← hl, ← hg]
  dsimp only
  rw [if_neg (by rw [goes]; exact Bool.false_ne_true)]
  rcases put with ⟨none', read⟩ | ⟨lead, ws, order, ⟨x, mem, mine⟩, hv⟩
  · rw [none']
    dsimp only
    rw [if_neg Bool.false_ne_true, read, hw]
  · have talon : ws.any (fun w => decide (w.job = (s.job n).id)) = true := List.any_eq_true.mpr ⟨x, mem, by simp [mine]⟩
    rw [order]
    dsimp only
    rw [if_pos talon, hw, hv]
    simp only [Option.map_some]

/-- The end of a cut's copy makes it ready; one that the link refuses has failed (R485). -/
theorem execCutCopyDone_ends {s : State} {n : Fin 16} (copy : (s.job n).cutCopy.isSome = true) (waits : (s.job n).cutReady = false)
    (sound : (s.job n).cutBad = false) :
    execCutCopyDone n false s = .next (s.modJob n (fun j => { j with cutReady := true, cut := putBits j.cut 28 1 0 }))
    ∧ execCutCopyDone n true s = .next (s.cutFailed n 1) := by
  have goes : ((s.job n).cutCopy.isNone || (s.job n).cutReady || (s.job n).cutBad) = false := by
    rw [waits, sound, Option.isNone_eq_false_iff.mpr copy]
    rfl
  constructor <;> simp [execCutCopyDone, goes]

end Sys2Proof.Machine

namespace Sys2Proof
open Machine

/-- Settles O59: each command by its own lemma; the records of a cut are parsed from what the talon has gathered so far. -/
theorem loadsAndCutsComplete : Obligations.LoadsAndCutsComplete := by
  unfold Obligations.LoadsAndCutsComplete
  refine ⟨fun s u src p n takes ready _ job => ⟨execLoadReady_runs takes job ready, execLoadReady_held takes job ready⟩,
    fun s u src p n takes restart job active background =>
      ⟨execLoadRestart_head takes job restart active background,
        fun inner other v ok => execLoadRestart_passes takes job restart active background inner other⟩, ?_, ?_, ?_,
    fun s n copy waits sound => execCutCopyDone_ends copy waits sound,
    fun s u src p k n base takes kind cut hk hn hb => execCutWrite_stores takes kind cut hk hn hb,
    fun s u w src p rs d job step half takes => execCutFetch_streams takes,
    fun s u src p c takes => execCutFetch_none takes, ?_,
    fun s u src p takes kind request none' => ⟨fun lead w v => execCutNone_takeover takes kind request none',
      fun n => execCutNone_lead takes kind request none'⟩,
    fun s v w n valid kept => execCutRestored_resumes valid kept⟩
  case refine_1 =>
    intro s u v n i amb l h bs addr count w hl runs head ready more image attached room inner header magic crc flags dest pad6 ha addr'
      pad28 pad60 pad24 hc rest read
    subst ha hc
    have plain : PlainSegment h := ⟨magic, crc, flags, dest, pad6, addr', pad28, pad60, pad24⟩
    exact ⟨execLoadImageFetch_sends hl runs head ready more image attached room inner header plain rest read,
      fun own hw a => execLoadImageFetch_keeps hl runs head ready more image attached room inner header plain rest read own hw⟩
  case refine_2 =>
    intro s u v src p n i a takes cxl kind load new job hi runs inner tail all hv target
    exact execLoadPacket_keeps takes cxl kind load new job hi runs inner tail all hv target
  case refine_3 =>
    intro s u src p n i takes cxl kind load new job hi runs inner middle plain other
    exact execLoadPacket_forwards takes cxl kind load new job hi runs inner middle plain other
  case refine_4 =>
    intro s u v src p lead ws w k bs half takes kind cut order mine empty hk clean start hb hh hv
    have first := execCutRead_first takes kind cut order mine empty hk clean start hb hh hv
    refine ⟨fun more => ?_, fun rs job z parsed placed => ?_⟩
    · rw [exec_cutRead, first, more]
    · rw [exec_cutRead, first, parsed]
      dsimp only
      rw [if_neg (by simp), placed]

end Sys2Proof
end

section
/-! Tile failures, die-to-die lanes, heartbeats, lost packages and the takeover (R461, R465 to R467, R471, R472, R474, R484, R485). -/
namespace Sys2Proof.Machine

/-! ### The map of a stack's tiles -/

theorem tfind_tput_same {α : Type} (t : Tbl α) (i : Nat) (x : α) : tfind (tput t i x) i = some x := by
  induction t with
  | nil => simp [tput, tfind]
  | cons e r ih =>
    obtain ⟨k, v⟩ := e
    simp only [tput]
    split
    · simp [tfind]
    · split
      · simp [tfind]
      · simp [tfind, *]

/-- From `s` to `t` the stacks keep the map of their tiles and the tiles' states. -/
structure SameTileMap (s t : State) : Prop where
  map : ∀ k, (t.stack k).tileMap = (s.stack k).tileMap
  state : ∀ k, (t.stack k).tileState = (s.stack k).tileState
  fuses : t.fuses = s.fuses
  pending : t.pending = s.pending

namespace SameTileMap

variable {s t u : State}

theorem refl (s : State) : SameTileMap s s := ⟨fun _ => rfl, fun _ => rfl, rfl, rfl⟩

theorem trans (h : SameTileMap s t) (k : SameTileMap t u) : SameTileMap s u :=
  ⟨fun n => (k.map n).trans (h.map n), fun n => (k.state n).trans (h.state n), k.fuses.trans h.fuses, k.pending.trans h.pending⟩

theorem foldl {α : Type} {f : State → α → State} (h : SameTileMap s u) (hf : ∀ v a, SameTileMap v (f v a)) (l : List α) :
    SameTileMap s (l.foldl f u) := by
  induction l generalizing u with
  | nil => exact h
  | cons a l ih => exact ih (h.trans (hf u a))

/-- An update of another part of the state. -/
theorem of_eq (stks : t.stks = s.stks) (fuses : t.fuses = s.fuses) (pending : t.pending = s.pending) : SameTileMap s t :=
  ⟨fun k => by rw [State.stack, stks, State.stack], fun k => by rw [State.stack, stks, State.stack], fuses, pending⟩

theorem of_traffic (h : SameButTraffic s t) : SameTileMap s t := of_eq (by rw [h.state]) (by rw [h.state]) (by rw [h.state])

theorem of_records (h : SameButRecords s t) : SameTileMap s t := of_eq h.stks h.fuses h.pending

theorem of_clocks (h : SameButClocks s t) : SameTileMap s t :=
  ⟨fun k => by rw [h.stack k], fun k => by rw [h.stack k], by rw [h.state], by rw [h.state]⟩

theorem of_zeroed (h : Zeroed s t) : SameTileMap s t := of_eq (by rw [h.state]) (by rw [h.state]) (by rw [h.state])

theorem modStack (s : State) (k : Nat) {f : Stack → Stack} (map : ∀ x, (f x).tileMap = x.tileMap)
    (state : ∀ x, (f x).tileState = x.tileState) : SameTileMap s (s.modStack k f) := by
  refine ⟨fun n => ?_, fun n => ?_, rfl, rfl⟩ <;> rw [State.stack_modStack] <;> split
  · next e => rw [map, e]
  · rfl
  · next e => rw [state, e]
  · rfl

theorem tileStateOf (h : SameTileMap s t) (k i : Nat) : t.tileStateOf k i = s.tileStateOf k i := by
  rw [State.tileStateOf, State.fuseTile, h.state, h.fuses]
  rfl

theorem physOf (h : SameTileMap s t) (k l : Nat) : t.physOf k l = s.physOf k l := by
  rw [State.physOf, State.fuseMap, h.map]
  simp only [State.fuseTile, h.fuses]
  rfl

end SameTileMap

section Lose
variable (s : State)

theorem tileMap_failDescs (slot status value : Nat) : SameTileMap s (s.failDescs slot status value) := by
  unfold State.failDescs
  refine SameTileMap.trans (SameTileMap.foldl (SameTileMap.foldl (.refl s) (fun v d => ?_) _)
    (fun v d => .of_traffic (traffic_completeDesc (.refl v) _ _ _ _ _ _)) _) (.of_eq rfl rfl rfl)
  refine SameTileMap.trans ?_ (.of_traffic (traffic_completeDesc (.refl _) _ _ _ _ _ _))
  split
  · exact .of_eq rfl rfl rfl
  · exact .refl v

theorem tileMap_tellLost (slot : Nat) : SameTileMap s (s.tellLost slot) := by
  unfold State.tellLost
  dsimp only
  split
  · exact (SameTileMap.refl s).foldl (fun v _ => (SameTileMap.refl v).foldl (fun w _ => .of_traffic (traffic_originate (.refl w) _)) _) _
  · exact .of_traffic (traffic_refuseTricks (.refl s) _ _)

theorem tileMap_dropJobUnits (slot : Nat) : SameTileMap s (s.dropJobUnits slot) := by
  unfold State.dropJobUnits
  extract_lets j job tiles s1 s2 s3 s4 s5
  have units : SameTileMap s s4 := .of_eq rfl rfl rfl
  have deferred : SameTileMap s s5 := by
    refine units.foldl (fun v k => ?_) _
    exact .modStack v k (fun _ => rfl) fun _ => rfl
  refine deferred.foldl (fun v L => ?_) _
  exact .of_eq rfl rfl rfl

theorem tileMap_loseJob (slot code : Nat) (origin : BitVec 12) (tell : Bool) : SameTileMap s (s.loseJob slot code origin tell) := by
  unfold State.loseJob
  extract_lets s1 s2 s3
  have told : SameTileMap s s2 := by
    unfold s2
    split
    · exact (tileMap_failDescs s _ _ _).trans (tileMap_tellLost _ _)
    · exact tileMap_failDescs s _ _ _
  exact (told.trans (tileMap_dropJobUnits _ _)).trans (.of_eq rfl rfl rfl)

theorem tileMap_loseFetched (code : Nat) : SameTileMap s (s.loseFetched code) := by
  unfold State.loseFetched
  refine (SameTileMap.refl s).foldl (fun v q => ?_) _
  dsimp only
  exact ((SameTileMap.refl v).foldl (fun w d => .of_traffic (traffic_completeDesc (.refl w) _ _ _ _ _ _)) _).trans (.of_eq rfl rfl rfl)

/-- A reset of the compute complex leaves the map of the tiles, which the repair has written, as it is (R461, R465). -/
theorem tileMap_ccReset (code : Nat) : SameTileMap s (s.ccReset code) := by
  unfold State.ccReset
  extract_lets lost s1 all s2 s3 s4 s5 s6
  have lose : SameTileMap s s1 := ((SameTileMap.refl s).foldl (fun v n => tileMap_loseJob v n code v.self true) lost).trans (tileMap_loseFetched _ _)
  have zeroed : Zeroed s1 s2 := zeroed_slices s1 all
  clear_value s2 s1
  have cleared : SameTileMap s2 s3 := by
    have put (k : Nat) : s3.stack k = { s2.stack k with deferred := [] } :=
      tget_map (fun (x : Stack) => ({ x with deferred := [] } : Stack)) {} s2.stks k
    exact ⟨fun k => by rw [put], fun k => by rw [put], rfl, rfl⟩
  have rest : SameTileMap s3 { s6 with recov := { s6.recov with takeover := none, restore := [] } } := .of_eq rfl rfl rfl
  exact (((lose.trans (.of_zeroed zeroed)).trans cleared).trans rest).trans (.of_clocks (clocks_retime _))

theorem tileMap_refChange (L n : Nat) (pc : BitVec 16) (version channel : Nat) (up : Bool) :
    SameTileMap s (s.refChange L n pc version channel up) := by
  have fault (job detail : Nat) : SameTileMap s ((s.raise 0x0211 job detail).jobFault 0x0211) :=
    (SameTileMap.of_records (records_raise s _ _ _)).trans (tileMap_ccReset _ _)
  unfold State.refChange
  split
  · exact .refl s
  · dsimp only
    split
    · exact fault _ _
    · split
      · split
        · exact fault _ _
        · exact .of_eq rfl rfl rfl
      · split
        · exact fault _ _
        · exact .of_eq rfl rfl rfl

theorem tileMap_settleSends (L n : Nat) : SameTileMap s (s.settleSends L n) := by
  unfold State.settleSends
  refine (SameTileMap.refl s).foldl (fun v o => ?_) _
  dsimp only
  split
  · split
    · exact tileMap_refChange v _ _ _ _ _ _
    · exact .refl v
  · exact .refl v

theorem tileMap_statQ (slot idx n : Nat) : SameTileMap s (s.statQ slot idx n).1 := by
  unfold State.statQ State.satEvents
  dsimp only
  split
  · split <;> exact .of_eq rfl rfl rfl
  · exact .of_eq rfl rfl rfl

theorem tileMap_noteRevokeQ (L n cause instr slot : Nat) : SameTileMap s (s.noteRevokeQ L n cause instr slot).1 := by
  unfold State.noteRevokeQ
  split
  · exact .refl s
  · next j _ =>
    have counted : SameTileMap s (s.countRevoke j cause false) := .of_eq rfl rfl rfl
    exact counted.trans (tileMap_statQ _ j 26 1)

theorem tileMap_revokeTile (L : Nat) : SameTileMap s (s.revokeTile L).1 := by
  have each (l : List Nat) (a : State × List Ev) (h : SameTileMap s a.1) : SameTileMap s (l.foldl (fun a n =>
      match a.1.trickOf L n with
      | none => a
      | some (i, _) =>
        let r := (a.1.settleSends L n).noteRevokeQ L n 2 0xFFFF i
        (r.1.modTrickOf L n (fun t => { t with
          staged := [], num := {}, capWait := false, committing := false, since := s.now }), a.2 ++ r.2)) a).1 := by
    induction l generalizing a with
    | nil => exact h
    | cons n l ih =>
      refine ih _ ?_
      dsimp only
      split
      · exact h
      · exact ((h.trans (tileMap_settleSends _ _ _)).trans (tileMap_noteRevokeQ _ _ _ _ _ _)).trans (.of_eq rfl rfl rfl)
  refine each _ _ ?_
  unfold State.interruptTile
  dsimp only
  split
  · exact .of_eq rfl rfl rfl
  · exact .refl s

theorem tileMap_degradeQ (reason : Nat) : SameTileMap s (s.degradeQ reason).1 := .of_eq rfl rfl rfl

theorem tileMap_raiseAll (es : List Ev) : SameTileMap s (s.raiseAll es) :=
  (SameTileMap.refl s).foldl (fun v (e : Ev) => .of_records (records_raise v e.1 e.2.1 e.2.2)) _

end Lose

/-! ### Tiles that fail -/

/-- What a swap of a tile writes into its stack's map; the rest of the swap leaves the map as it is (R461). -/
theorem State.swapTile_map (s : State) (L k t p took : Nat) : ∃ v, SameTileMap s v
    ∧ SameTileMap (v.modStack k (fun x => { x with
        tileMap := tput x.tileMap (L % 32) p, tileState := tput (tput x.tileState t 3) p took, swaps := satNat 16 x.swaps 1 }))
      (s.swapTile L k t p took).1 := by
  unfold State.swapTile
  extract_lets r s1 old kept blank s2 s3 c
  have revoked : SameTileMap s s1 := tileMap_revokeTile s L
  clear_value r
  have counted : SameTileMap s3 c.1 := by
    unfold c
    split
    · exact tileMap_statQ _ _ _ _
    · exact .refl _
  clear_value c
  refine ⟨s2, revoked.trans (.of_eq rfl rfl rfl), ?_⟩
  dsimp only
  exact counted.trans (.of_clocks (clocks_retime c.1))

/-- A spare that takes a tile's place is in the map for it, and the tile has failed (R461). -/
theorem State.swapTile_maps (s : State) (L k t p took : Nat) (other : t ≠ p) :
    (s.swapTile L k t p took).1.physOf k (L % 32) = p ∧ (s.swapTile L k t p took).1.tileStateOf k t = 3
      ∧ (s.swapTile L k t p took).1.tileStateOf k p = took ∧ (s.swapTile L k t p took).1.pending = s.pending
      ∧ (s.swapTile L k t p took).1.fuses = s.fuses := by
  obtain ⟨v, before, after⟩ := s.swapTile_map L k t p took
  refine ⟨?_, ?_, ?_, after.pending.trans before.pending, after.fuses.trans before.fuses⟩
  · rw [after.physOf, State.physOf, State.stack_modStack_same, tfind_tput_same]
  · rw [after.tileStateOf, State.tileStateOf, State.stack_modStack_same, tget_tput_ne _ _ _ other, tget_tput_same]
  · rw [after.tileStateOf, State.tileStateOf, State.stack_modStack_same, tget_tput_same]

theorem execTileCheckFailure_spare {s : State} {k : Fin 4} {t : Fin 34} {c : TileCheck} {L p : Nat} {r : List Nat} (run : s.pkg.inReset = false)
    (logical : s.logicalOf k t = some L) (works : s.tileStateOf k t = 0) (spare : s.spares k = p :: r) :
    ∃ u, execTileCheckFailure k t c s = .next u ∧ u.physOf k (L % 32) = p ∧ u.tileStateOf k t = 3 ∧ u.tileStateOf k p = 0
      ∧ u.pending = s.pending ∧ u.fuses = s.fuses := by
  have spareState : s.tileStateOf k p = 1 := by
    have mem : p ∈ s.spares k := spare ▸ List.mem_cons_self
    simpa using (List.mem_filter.mp mem).2
  have other : t.val ≠ p := fun e => by rw [← e, works] at spareState; exact absurd spareState (by decide)
  have fails : SameTileMap (s.swapTile L k t p 0).1 (s.tileFails k t c).1 := by
    rw [State.tileFails, logical]
    dsimp only
    rw [works, if_neg (by decide), spare]
    dsimp only
    generalize s.swapTile L k t p 0 = swapped
    split
    · exact tileMap_degradeQ _ _
    · exact .refl _
  have told := fails.trans (tileMap_raiseAll _ (s.tileFails k t c).2)
  obtain ⟨map, failed, took, pending, fuses⟩ := State.swapTile_maps s L k t p 0 other
  refine ⟨_, by rw [execTileCheckFailure, run, if_neg Bool.false_ne_true], ?_, ?_, ?_, told.pending.trans pending, told.fuses.trans fuses⟩
  · rw [told.physOf, map]
  · rw [told.tileStateOf, failed]
  · rw [told.tileStateOf, took]

/-- One missed heartbeat is the failure of that tile (R465). -/
theorem execTileHeartbeatSample_one {s : State} {k : Fin 4} {t : Fin 34} {m : BitVec 34} (only : ∀ i < 34, m.getLsbD i = decide (i = t.val)) :
    execTileHeartbeatSample k m s = execTileCheckFailure k t .heartbeat s := by
  have missed : (List.range 34).filter (fun i => m.getLsbD i) = [t.val] := by
    rw [List.filter_congr (q := fun i => i == t.val) fun i hi => by rw [only i (List.mem_range.mp hi)]; rfl, List.filter_beq,
      List.count_eq_one_of_mem (List.nodup_range) (List.mem_range.mpr t.isLt)]
    rfl
  rw [execTileHeartbeatSample, execTileCheckFailure, missed]
  simp [State.tilesFail]

/-! ### A tile's image -/

/-- The end of a span leaves device memory, the queue and the tile's fence as they are. -/
theorem State.endSpan_keeps (s : State) (L n : Nat) : (s.endSpan L n).mem = s.mem ∧ (s.endSpan L n).pending = s.pending
    ∧ ((s.endSpan L n).tile L).fenced = (s.tile L).fenced := by
  have stream : ((s.modStream L n (fun x => { x with swapped := false })).tile L).fenced = (s.tile L).fenced := by
    rw [State.modStream, State.tile_modTile_same]
    rfl
  unfold State.endSpan
  dsimp only
  split
  · obtain ⟨v, hv⟩ : ∃ v, v = (s.modStream L n (fun x => { x with swapped := false })).modTile L (fun t => { t with exempt := false }) := ⟨_, rfl⟩
    have clocks := clocks_retime v
    rw [← hv]
    refine ⟨by rw [clocks.state, hv]; rfl, by rw [clocks.state, hv]; rfl, ?_⟩
    rw [State.tile, clocks.tile, clocks.tileIx, ← State.tile, hv, State.tile_modTile_same]
    exact stream
  · exact ⟨rfl, rfl, stream⟩

/-- A tile of no job gets a zeroed scratchpad, and its fence ends (R466). -/
theorem execTileImageReloaded_clears {s : State} {L : Fin 128} (fenced : (s.tile L).fenced = true) (exempt : (s.tile L).exempt = true)
    (free : s.slotOfTile L = none) (none' : ∀ n < 3, s.trickOf L n = none) :
    ∃ u, execTileImageReloaded L s = .next u ∧ (u.tile L).fenced = false
      ∧ (∀ a, u.memByte a = if scratchOf (L / 32) (s.physOf (L / 32) (L % 32)) ≤ a
          ∧ a < scratchOf (L / 32) (s.physOf (L / 32) (L % 32)) + 0x400000 then 0 else s.memByte a)
      ∧ u.pending = s.pending := by
  obtain ⟨base, hb⟩ : ∃ base, base = scratchOf (L / 32) (s.physOf (L / 32) (L % 32)) := ⟨_, rfl⟩
  obtain ⟨z, hz⟩ : ∃ z, z = s.zeroRanges [(base, base + 0x400000)] := ⟨_, rfl⟩
  have zeroed : Zeroed s z := hz ▸ zeroed_zeroRanges s _
  have free' : z.slotOfTile L = none := by rw [zeroed.state]; exact free
  have reload : s.reloadImage L = z := by
    rw [State.reloadImage, ← hb, ← hz]
    simp only [free']
  obtain ⟨v, hv⟩ : ∃ v, v = z.modTile L (fun x => { x with fenced := false }) := ⟨_, rfl⟩
  have resumes : (List.range 3).foldl (fun s n => s.resumeStream L n) v = v := by
    have noTrick (n : Nat) (hn : n < 3) : v.trickOf L n = none := by
      rw [hv, zeroed.state]
      exact none' n hn
    have noSlot : v.slotOfTile L = none := by rw [hv]; exact free'
    have resume (n : Nat) (hn : n < 3) : v.resumeStream L n = v := by
      rw [State.resumeStream, noTrick n hn, noSlot]
      simp
    rw [show List.range 3 = [0, 1, 2] from rfl]
    simp only [List.foldl_cons, List.foldl_nil, resume 0 (by decide), resume 1 (by decide), resume 2 (by decide)]
  have ends (l : List Nat) : ∀ w : State, (l.foldl (fun s n => if (s.stream L n).swapped then s else s.endSpan L n) w).mem = w.mem
      ∧ (l.foldl (fun s n => if (s.stream L n).swapped then s else s.endSpan L n) w).pending = w.pending
      ∧ ((l.foldl (fun s n => if (s.stream L n).swapped then s else s.endSpan L n) w).tile L).fenced = (w.tile L).fenced := by
    induction l with
    | nil => exact fun w => ⟨rfl, rfl, rfl⟩
    | cons n l ih =>
      intro w
      rw [List.foldl_cons]
      split
      · exact ih w
      · obtain ⟨mem, pending, fence⟩ := ih (w.endSpan L n)
        obtain ⟨mem', pending', fence'⟩ := w.endSpan_keeps L n
        exact ⟨mem.trans mem', pending.trans pending', fence.trans fence'⟩
  obtain ⟨mem, pending, fence⟩ := ends (List.range 3) v
  refine ⟨_, by rw [execTileImageReloaded]; simp only [fenced, exempt, Bool.and_self, if_true, reload, ← hv, resumes]; rfl, ?_, fun a => ?_, ?_⟩
  · rw [fence, hv, State.tile_modTile_same]
  · rw [State.memByte, mem, ← State.memByte, hv, State.memByte, State.modTile_mem, ← State.memByte, hz, State.memByte_zeroRanges, ← hb]
    simp
  · rw [pending, hv, State.modTile_pending, zeroed.state]

/-! ### Lanes, heartbeats and management messages -/

theorem execD2dLaneFailure_counts {s : State} {m : Fin 84} {l : BitVec 5} {n : Nat} (few : (tget (0, 0) s.pkg.d2d m).1 < 2)
    (hn : n = (tget (0, 0) s.pkg.d2d m).1 + 1) (run : s.pkg.inReset = false) (idle : s.jobSlots = []) :
    execD2dLaneFailure m l s = .next ((s.modPkg (fun p => { p with
      d2d := tput p.d2d m (n, min 18 ((tget (0, 0) s.pkg.d2d m).2 + 1)) })).raise 0x0901 0 (m + l.toNat * 2 ^ 8)) := by
  obtain ⟨v, hv⟩ : ∃ v, v = s.modPkg (fun p => { p with
    d2d := tput p.d2d m (n, min 18 ((tget (0, 0) s.pkg.d2d m).2 + 1)) }) := ⟨_, rfl⟩
  have still : (v.raise 0x0901 0 (m + l.toNat * 2 ^ 8)).jobSlots = [] := by
    rw [State.jobSlots]
    simp only [State.job, (records_raise v _ _ _).dealer]
    rw [hv]
    exact idle
  unfold execD2dLaneFailure
  dsimp only
  rw [if_neg (by simp [run]; omega), if_pos (by omega), ← hn, ← hv, still, List.foldl_nil]

theorem execPackageHeartbeat_sends {s : State} {js : List Job} (beats : s.tel.heartbeat = true) (runs : s.tel.mcReset = false)
    (run : s.pkg.inReset = false) (hj : js = s.jobSlots.map s.job) :
    execPackageHeartbeat s = .next ((((js.map s.leadOf).dedup).filter (· ≠ s.self)).foldl (fun u p =>
      u.originate (mgmtPacket u.self p 1 ((js.filter (fun j => u.leadOf j = p)).map Job.watched).length
        (BitVec.ofNat 12 (b2n u.host.degraded)) ((((js.filter (fun j => u.leadOf j = p)).map Job.watched).map Watched.bytes).flatten))) s) := by
  rw [execPackageHeartbeat, if_pos (by simp [beats, runs, run]), hj]

/-- Records and packets leave what a job's lead depends on as it is. -/
theorem SameButTraffic.leadOf {s t : State} (h : SameButTraffic s t) (j : Job) : t.leadOf j = s.leadOf j := by
  have deck : t.deckOf j = s.deckOf j := by
    rw [State.deckOf, State.self, h.host]
    rfl
  rw [State.leadOf, deck, State.self, h.state, h.host]
  rfl

theorem SameButTraffic.jobSlots {s t : State} (h : SameButTraffic s t) : t.jobSlots = s.jobSlots := by
  refine List.filter_congr fun n _ => ?_
  rw [h.job n]

/-- A job of this package's lead that a loss concerns. -/
theorem State.jobSlots_led {s v : State} {n : Nat} {p : BitVec 12} (slots : s.jobSlots = [n]) (deck : p ∈ s.deckOf (s.job n))
    (lead : v.leadOf (s.job n) = s.self) :
    s.jobSlots.filter (fun n => (s.deckOf (s.job n)).contains p && decide (v.leadOf (s.job n) = s.self)) = [n] := by
  rw [slots, List.filter_cons_of_pos (by simp [deck, lead]), List.filter_nil]

/-- The lead of the only job declares a package of its deck lost (R472). -/
theorem execPackageLossDeclared_lead {s : State} {p : BitVec 12} {n : Nat} (new : p ∉ s.recov.lost) (other : p ≠ s.self)
    (slots : s.jobSlots = [n]) (deck : p ∈ s.deckOf (s.job n))
    (lead : ({ s with recov := { s.recov with lost := s.recov.lost ++ [p] } } : State).leadOf (s.job n) = s.self) :
    execPackageLossDeclared p s
      = .next (((({ s with recov := { s.recov with lost := s.recov.lost ++ [p] } } : State).forgetRelink p).raise 0x0232 0 p.toNat).jobLosesPackage
        n p) := by
  obtain ⟨v, hv⟩ : ∃ v, v = ({ s with recov := { s.recov with lost := s.recov.lost ++ [p] } } : State) := ⟨_, rfl⟩
  rw [← hv] at lead ⊢
  rw [execPackageLossDeclared, State.declareLost, if_neg (by simp [new, other])]
  dsimp only
  rw [← hv, State.jobSlots_led slots deck lead]
  simp only [List.isEmpty_cons, Bool.false_eq_true, if_false, List.foldl_cons, List.foldl_nil]

/-- The leads that are told of a silent link are those of the jobs whose deck holds the package behind it. -/
theorem State.relink_leads {s : State} {p : BitVec 12} {n : Nat} (slots : s.jobSlots = [n]) (deck : p ∈ s.deckOf (s.job n)) :
    (((s.jobSlots.map s.job).filter (fun j => (s.deckOf j).contains p)).map s.leadOf).dedup = [s.leadOf (s.job n)] := by
  rw [slots, List.map_singleton, List.filter_cons_of_pos (by simp [deck])]
  rfl

section
variable {s : State} {q : Fin 16} {p : BitVec 12} {n : Nat} (silent : (s.port q).relink = some p)
include silent

/-- Without a job, or after the loss is known, a relink timer that ends does nothing more (R471). -/
theorem execRelinkTimeout_idle (nothing : s.jobSlots = [] ∨ p ∈ s.recov.lost ∨ s.tel.heartbeat = false) :
    execRelinkTimeout q s = .next (s.modPort q (fun x => { x with relink := none })) := by
  rw [execRelinkTimeout, silent]
  dsimp only
  rcases nothing with idle | lost | stopped
  · split
    · rfl
    · rw [State.relinkLost]
      have slots : (s.modPort q (fun x => { x with relink := none })).jobSlots = [] := idle
      simp [idle, slots]
  · rw [if_pos (by simp [lost])]
  · rw [if_pos (by simp [stopped])]

variable (slots : s.jobSlots = [n]) (deck : p ∈ s.deckOf (s.job n)) (new : p ∉ s.recov.lost) (beats : s.tel.heartbeat = true)
include slots deck new beats

/-- The lead itself fences the higher package and declares it lost (R472). -/
theorem execRelinkTimeout_lead (lead : s.leadOf (s.job n) = s.self) (higher : s.self.toNat < p.toNat) (sound : s.self ∉ s.recov.lost) :
    execRelinkTimeout q s = .next (((s.modPort q (fun x => { x with relink := none })).originate
      (mgmtPacket s.self p 3 1 p ((s.job n).watched.bytes))).declareLost p) := by
  obtain ⟨v, hv⟩ : ∃ v, v = s.modPort q (fun x => { x with relink := none }) := ⟨_, rfl⟩
  have slots' : v.jobSlots = [n] := by rw [hv]; exact slots
  have deck' : p ∈ v.deckOf (v.job n) := by rw [hv]; exact deck
  have lead' : v.leadOf (v.job n) = v.self := by rw [hv]; exact lead
  have self' : v.self = s.self := by rw [hv]; rfl
  have job' : v.job n = s.job n := by rw [hv]; rfl
  have lost' : v.recov.lost = s.recov.lost := by rw [hv]; rfl
  have jobs : v.jobSlots.filter (fun n => ((v.deckOf (v.job n)).contains p || (v.deckOf (v.job n)).contains s.self)
      && decide (v.leadOf (v.job n) = v.self)) = [n] := by
    rw [slots', List.filter_cons_of_pos (by simp [deck', lead']), List.filter_nil]
  rw [execRelinkTimeout, silent]
  dsimp only
  rw [if_neg (by simp [new, beats]), State.relink_leads slots deck, List.filter_cons_of_neg (by simp [lead]), List.filter_nil,
    List.foldl_nil, ← hv, State.relinkLost]
  dsimp only
  rw [jobs, if_neg (by simp [lost', new, sound]), if_neg (by omega)]
  simp [self', job']

/-- Another lead is told of the silent link (R471). -/
theorem execRelinkTimeout_tells (led : s.leadOf (s.job n) ≠ s.self) :
    execRelinkTimeout q s = .next ((s.modPort q (fun x => { x with relink := none })).originate
      (mgmtPacket s.self (s.leadOf (s.job n)) 5 0 p [])) := by
  obtain ⟨v, hv⟩ : ∃ v, v = s.modPort q (fun x => { x with relink := none }) := ⟨_, rfl⟩
  obtain ⟨u, hu⟩ : ∃ u, u = v.originate (mgmtPacket s.self (s.leadOf (s.job n)) 5 0 p []) := ⟨_, rfl⟩
  have sent : SameButTraffic v u := hu ▸ traffic_originate (.refl v) _
  have slots' : u.jobSlots = [n] := by rw [sent.jobSlots, hv]; exact slots
  have led' : u.leadOf (u.job n) ≠ u.self := by
    have self' : u.self = s.self := by rw [State.self, sent.host, hv]; rfl
    have job : u.leadOf (u.job n) = s.leadOf (s.job n) := by
      rw [sent.leadOf, sent.job n, hv]
      rfl
    rw [self', job]
    exact led
  have self' : v.self = s.self := by rw [hv]; rfl
  rw [execRelinkTimeout, silent]
  dsimp only
  rw [if_neg (by simp [new, beats]), State.relink_leads slots deck, List.filter_cons_of_pos (by simp [led]), List.filter_nil,
    List.foldl_cons, List.foldl_nil, ← hv, self', ← hu, State.relinkLost]
  dsimp only
  rw [slots', List.filter_cons_of_neg (by simp [led']), List.filter_nil]
  rfl

end

section
variable {s u : State} {src : Src} {p : Packet} (takes : s.takes src p u) (kind : p.ptype = 9)
include takes kind

/-- A management message that is neither a fence order nor a takeover order is taken. -/
theorem State.takePacket_mgmt {k : Nat} (message : p.mgmtKind = k) (two : k ≠ 2) (three : k ≠ 3) :
    s.takePacket src (fun p => decide (p.ptype.toNat = ptMgmt) && decide (p.mgmtKind ≠ 2) && decide (p.mgmtKind ≠ 3)) = some (p, u) :=
  State.takePacket_of_takes takes (by simp [kind, ptMgmt, message, two, three])

theorem execMgmt_heartbeat (message : p.mgmtKind = 1) : execMgmt src s = .next { u with recov := { u.recov with
    heard := tput u.recov.heard p.src.toNat (mergeWatched (tget [] u.recov.heard p.src.toNat) p.mgmtJobs),
    planned := if nbit p.mgmtPkg.toNat 0 then addOnce u.recov.planned p.src else u.recov.planned } } := by
  rw [execMgmt, State.takePacket_mgmt takes kind message (by decide) (by decide)]
  dsimp only
  rw [if_pos message]

theorem execMgmt_relink (message : p.mgmtKind = 5) : execMgmt src s = .next (u.relinkLost p.src p.mgmtPkg) := by
  rw [execMgmt, State.takePacket_mgmt takes kind message (by decide) (by decide)]
  simp [message]

theorem execMgmt_restore {w : Watched} {n : Nat} (message : p.mgmtKind = 6) (jobs : p.mgmtJobs = [w]) (job : u.findJob w.job.toNat = some n) :
    execMgmt src s = .next (({ u with recov := { u.recov with
        lost := if p.mgmtPkg = p.src then u.recov.lost else addOnce u.recov.lost p.mgmtPkg } } : State).modJob n (fun j => { j with
      restoring := true, restored := false })) := by
  rw [execMgmt, State.takePacket_mgmt takes kind message (by decide) (by decide)]
  simp only [message, jobs, List.foldl_cons, List.foldl_nil, job, State.awaitCut]
  by_cases own : p.mgmtPkg = p.src <;> simp [own]

theorem execMgmt_rebase (message : p.mgmtKind = 7) :
    execMgmt src s = .next (u.rebase p.mgmtPkg (BitVec.ofNat 12 (leAt p.payload 16 2))) := by
  rw [execMgmt, State.takePacket_mgmt takes kind message (by decide) (by decide)]
  simp [message]

theorem execFenceOrder_none (message : p.mgmtKind = 3) (jobs : p.mgmtJobs = []) :
    execFenceOrder src s = .next (u.modTel (fun t => { t with heartbeat := false })) := by
  rw [execFenceOrder, State.takePacket_of_takes takes (by simp [kind, ptMgmt, message])]
  dsimp only
  rw [jobs, List.foldl_nil]

theorem execFenceOrder_one {w : Watched} {n : Nat} (message : p.mgmtKind = 3) (jobs : p.mgmtJobs = [w])
    (job : u.findJob w.job.toNat = some n) :
    execFenceOrder src s = .next ((u.modTel (fun t => { t with heartbeat := false })).loseJob n 0x0232 p.src false) := by
  have still : (u.modTel (fun t => { t with heartbeat := false })).findJob w.job.toNat = some n := job
  rw [execFenceOrder, State.takePacket_of_takes takes (by simp [kind, ptMgmt, message])]
  dsimp only
  rw [jobs, List.foldl_cons, List.foldl_nil, still]

/-- The standby takes the lost package's place and asks the partners for the cuts (R484, R485). -/
theorem execTakeoverOrder_standby {v : State} (message : p.mgmtKind = 2) (role : u.host.role = 1)
    (hv : v = (u.modHost (fun h => { h with role := 0, package := p.mgmtPkg, epoch := h.epoch + 1 })).identityChanged) :
    execTakeoverOrder src s = .next (p.mgmtJobs.foldl (fun x w => x.originate
      (cutRequest x.self w.partner w.job.toNat 3 w.half p.mgmtPkg w.cutStep w.cutOff w.cutMib))
        { v with recov := { v.recov with takeover := some (p.src, p.mgmtJobs), restore := [] } }) := by
  obtain ⟨change, hc⟩ : ∃ change, change = State.identityChanged := ⟨_, rfl⟩
  rw [← hc] at hv
  rw [execTakeoverOrder, ← hc, State.takePacket_of_takes takes (by simp [kind, ptMgmt, message])]
  dsimp only
  rw [if_neg (by simp [role]), hv]

end

end Sys2Proof.Machine

namespace Sys2Proof
open Machine

/-- Settles O60: each command by its own lemma; a swap of a tile is read off the stack's map, which nothing else that a failure sets off
changes. -/
theorem recoveryCompletes : Obligations.RecoveryCompletes := by
  unfold Obligations.RecoveryCompletes
  refine ⟨fun s k t m only => ?_, fun s k t c L p r run logical works spare => execTileCheckFailure_spare run logical works spare,
    fun s L fenced exempt free none' => execTileImageReloaded_clears fenced exempt free none',
    fun s m l n few hn run idle => execD2dLaneFailure_counts few hn run idle,
    fun s js beats runs run hj => execPackageHeartbeat_sends beats runs run hj,
    fun s u src p takes kind message => execMgmt_heartbeat takes kind message,
    fun s p n new other slots deck lead => execPackageLossDeclared_lead new other slots deck lead,
    fun s q p silent nothing => execRelinkTimeout_idle silent nothing,
    fun s q p n silent slots deck lead higher new sound beats => execRelinkTimeout_lead silent slots deck new beats lead higher sound,
    fun s q p n silent slots deck led new beats => execRelinkTimeout_tells silent slots deck new beats led,
    fun s u src p takes kind message => execMgmt_relink takes kind message,
    fun s u src p w n takes kind message jobs job => execMgmt_restore takes kind message jobs job,
    fun s u src p takes kind message => execMgmt_rebase takes kind message, fun s u src p takes kind message jobs => execFenceOrder_none takes kind message jobs,
    fun s u src p w n takes kind message jobs job => execFenceOrder_one takes kind message jobs job,
    fun s u src p takes kind message role v hv => execTakeoverOrder_standby takes kind message role hv⟩
  obtain ⟨u, hu⟩ : ∃ u, execTileCheckFailure k t .heartbeat s = .next u := by
    unfold execTileCheckFailure
    split <;> exact ⟨_, rfl⟩
  exact ⟨u, by rw [exec_tileHeartbeatSample, execTileHeartbeatSample_one only, hu], hu⟩

end Sys2Proof
end

section
/-! The invariant of O3, O5 and O20, as one relation between the state before and after: outside the security unit's commands no operation
writes to the fuses or the debug level, and every store to device memory keeps its canonical form. Each function of the model has a lemma
`kept_<name>` that carries the relation from a state `s` to what the function makes of a state `u` that `s` has reached. -/
namespace Sys2Proof.Machine
/- One lemma after the other: elaborated side by side, so many short proofs take more threads than the memory limit of the check allows. -/
set_option Elab.async false
variable {s u : State}

/-- From `s` to `t` the fuses and the debug level stay, and device memory stays in its canonical form. -/
structure Kept (s t : State) : Prop where
  mem : s.memOk → t.memOk
  fuses : t.fuses = s.fuses
  level : t.sec.level = s.sec.level

theorem Kept.refl (s : State) : Kept s s := ⟨id, rfl, rfl⟩

theorem Kept.trans {s t u : State} (h : Kept s t) (k : Kept t u) : Kept s u :=
  ⟨k.mem ∘ h.mem, k.fuses.trans h.fuses, k.level.trans h.level⟩

theorem Kept.foldl {α : Type} {s u : State} {f : State → α → State} (h : Kept s u) (hf : ∀ u a, Kept s u → Kept s (f u a)) (l : List α) :
    Kept s (l.foldl f u) := by
  induction l generalizing u with
  | nil => exact h
  | cons a l ih => exact ih (hf u a h)

theorem Kept.foldlFst {α β : Type} {s : State} {f : State × β → α → State × β} {a : State × β} (h : Kept s a.1)
    (hf : ∀ a x, Kept s a.1 → Kept s (f a x).1) (l : List α) : Kept s (l.foldl f a).1 := by
  induction l generalizing a with
  | nil => exact h
  | cons x l ih => exact ih (hf a x h)

/-! ### A state that is a part of an outcome -/

theorem kept_of_next {s a t : State} (e : (Host.Outcome.next a : Host.Outcome State Fault Refusal) = .next t) (k : Kept s a) : Kept s t :=
  Host.Outcome.next.inj e ▸ k

theorem kept_fst {α : Type} {s : State} {x r : State × α} (h : Kept s x.1) (e : r = x) : Kept s r.1 := e ▸ h

theorem kept_left {α : Type} {s v : State} {x : State × α} {b : α} (e : x = (v, b)) (k : Kept s x.1) : Kept s v := by
  rw [e] at k
  exact k

theorem kept_mk {α : Type} {s v : State} {b : α} (h : Kept s v) : Kept s (v, b).1 := h

/-- The state of a pair is kept: `Kept s x.1` as a predicate of the pair, so that a proof can take `x` apart where it stands. -/
def LeftKept {α : Type} (s : State) (x : State × α) : Prop := Kept s x.1

theorem left_mk {α : Type} {s v : State} {b : α} (h : Kept s v) : LeftKept s (v, b) := h

theorem kept_ite {s v w : State} {c : Prop} [Decidable c] (hv : Kept s v) (hw : Kept s w) : Kept s (if c then v else w) := by
  split
  · exact hv
  · exact hw

theorem kept_ite_fst {α : Type} {s : State} {x y : State × α} {c : Prop} [Decidable c] (hx : Kept s x.1) (hy : Kept s y.1) :
    Kept s (if c then x else y).1 := by
  split
  · exact hx
  · exact hy

/-- Every field but `mem`, `fuses` and `sec` may change. -/
theorem kept_with (h : Kept s u)
    {poison flaws pending chunkCache hostMem flash tiles stks gds objs dealer trk host ports originRoutes ortIndex melds tel pkg recov noc out now
      free} :
    Kept s { u with
      poison, flaws, pending, chunkCache, hostMem, flash, tiles, stks, gds, objs, dealer, trk, host, ports, originRoutes, ortIndex, melds, tel, pkg,
      recov, noc, out, now, free } :=
  h.trans ⟨id, rfl, rfl⟩

/-! ### Operations of the state -/

theorem kept_nextOpen (h : Kept s u) : Kept s (State.nextOpen u) := kept_with h

theorem kept_modStack (h : Kept s u) (k : Nat) (f : Stack → Stack) : Kept s (State.modStack u k f) := kept_with h

theorem kept_modTileAt (h : Kept s u) (ix : Nat) (f : Tile → Tile) : Kept s (State.modTileAt u ix f) := kept_with h

theorem kept_modTile (h : Kept s u) (L : Nat) (f : Tile → Tile) : Kept s (State.modTile u L f) := kept_modTileAt h ..

theorem kept_modStream (h : Kept s u) (L n : Nat) (f : Stream → Stream) : Kept s (State.modStream u L n f) := kept_modTile h ..

theorem kept_modEp (h : Kept s u) (L e : Nat) (f : Endpoint → Endpoint) : Kept s (State.modEp u L e f) := kept_modTile h ..

theorem kept_modJob (h : Kept s u) (slot : Nat) (f : Job → Job) : Kept s (State.modJob u slot f) := kept_with h

theorem kept_modGd (h : Kept s u) (n : Nat) (f : Gd → Gd) : Kept s (State.modGd u n f) := kept_with h

theorem kept_modPort (h : Kept s u) (p : Nat) (f : Port → Port) : Kept s (State.modPort u p f) := kept_with h

theorem kept_modMeld (h : Kept s u) (e : Nat) (f : Meld → Meld) : Kept s (State.modMeld u e f) := kept_with h

theorem kept_setObj (h : Kept s u) (o : Nat) (x' : SyncObj) : Kept s (State.setObj u o x') := kept_with h

theorem kept_modHost (h : Kept s u) (f : HostIf → HostIf) : Kept s (State.modHost u f) := kept_with h

theorem kept_modTel (h : Kept s u) (f : Telemetry → Telemetry) : Kept s (State.modTel u f) := kept_with h

theorem kept_modPkg (h : Kept s u) (f : Package → Package) : Kept s (State.modPkg u f) := kept_with h

theorem kept_modSec (h : Kept s u) {f : Security → Security} (hf : ∀ x, (f x).level = x.level) : Kept s (u.modSec f) :=
  h.trans ⟨id, rfl, hf u.sec⟩

theorem kept_modDealer (h : Kept s u) (f : Dealer → Dealer) : Kept s (State.modDealer u f) := kept_with h

theorem kept_modTrk (h : Kept s u) (f : TrickUnit → TrickUnit) : Kept s (State.modTrk u f) := kept_with h

theorem kept_modSq (h : Kept s u) (q : Nat) (f : Sq → Sq) : Kept s (State.modSq u q f) := kept_modHost h ..

theorem kept_modCq (h : Kept s u) (c : Nat) (f : Cq → Cq) : Kept s (State.modCq u c f) := kept_modHost h ..

theorem kept_emit (h : Kept s u) (o : Out) : Kept s (State.emit u o) := kept_with h

theorem kept_fromHost {v : State} (h : Kept s u) (hv : Kept s v) : Kept s (u.fromHost v) := kept_ite hv h

theorem kept_reclock (h : Kept s u) (k : Nat) : Kept s (State.reclock u k) := by
  unfold State.reclock
  grind [kept_modTileAt, kept_modTile, Kept.foldl]

theorem kept_setVoltage (h : Kept s u) (k : Nat) : Kept s (State.setVoltage u k) := by
  unfold State.setVoltage
  grind [kept_modStack, kept_emit]

theorem kept_relimit (h : Kept s u) : Kept s (State.relimit u) := by
  unfold State.relimit
  grind [kept_modJob, Kept.foldl]

theorem kept_retime (h : Kept s u) : Kept s (State.retime u) := by
  unfold State.retime
  grind [kept_reclock, kept_relimit, kept_setVoltage, Kept.foldl]

theorem kept_endSpan (h : Kept s u) (L n : Nat) : Kept s (State.endSpan u L n) := by
  unfold State.endSpan
  grind [kept_modStream, kept_modTile, kept_retime]

/-! ### Records of events and completions, and counters -/

theorem kept_hostWrite (h : Kept s u) (a : Nat) (bs : List Byte) : Kept s (State.hostWrite u a bs) := kept_with h

theorem kept_applyHw (h : Kept s u) (hw : List Host.Cell) : Kept s (State.applyHw u hw) := by
  unfold State.applyHw
  grind [kept_with, Kept.foldl]

theorem kept_applyAmb (h : Kept s u) (amb : Ambient) : Kept s (State.applyAmb u amb) := by
  unfold State.applyAmb
  grind [kept_applyHw, kept_with, Kept.foldl]

theorem kept_placeRecord (h : Kept s u) (r : Cq) (len : Nat) (mk : Nat → List Byte) {v : State} {q : Cq}
    (e : placeRecord u r len mk = some (v, q)) :
    Kept s v := by
  unfold placeRecord at e
  grind [kept_hostWrite]

theorem kept_sendMsix (h : Kept s u) (v : Nat) : Kept s (State.sendMsix u v) := by
  unfold State.sendMsix
  grind [kept_modHost, kept_emit]

theorem kept_raiseVector (h : Kept s u) (cfg : Word) : Kept s (State.raiseVector u cfg) := by
  unfold State.raiseVector
  grind [kept_sendMsix, kept_modHost]

theorem kept_putEvent (h : Kept s u) (r : EventRec) {v : State} (e : State.putEvent u r = some v) : Kept s v := by
  unfold State.putEvent at e
  grind [kept_placeRecord, kept_raiseVector, kept_modHost]

theorem kept_flushHeld (h : Kept s u) (rs : List EventRec) : Kept s (flushHeld rs u) := by
  induction rs generalizing u with
  | nil => exact kept_modHost h _
  | cons r rs ih =>
    unfold flushHeld
    grind [kept_putEvent, kept_modHost]

theorem kept_flushEvents (h : Kept s u) : Kept s (State.flushEvents u) := kept_flushHeld h ..

theorem kept_tellBmc (h : Kept s u) (r : EventRec) : Kept s (State.tellBmc u r) := by
  unfold State.tellBmc
  grind [kept_emit]

theorem kept_toEventRing (h : Kept s u) (r : EventRec) : Kept s (State.toEventRing u r) := by
  unfold State.toEventRing
  grind [kept_putEvent, kept_modHost]

theorem kept_deliverEvent (h : Kept s u) (r : EventRec) : Kept s (State.deliverEvent u r) := by
  unfold State.deliverEvent
  grind [kept_tellBmc, kept_toEventRing]

theorem kept_queueEvent (h : Kept s u) (r : EventRec) : Kept s (State.queueEvent u r) := kept_modTel h ..

theorem kept_takeToken (h : Kept s u) (code job detail : Nat) : Kept s (State.takeToken u code job detail).1 := by
  unfold State.takeToken
  grind [kept_modTel, kept_modHost]

theorem kept_raise (h : Kept s u) (code job detail : Nat) : Kept s (State.raise u code job detail) := by
  unfold State.raise
  grind [kept_queueEvent, kept_deliverEvent, kept_takeToken]

theorem kept_raiseAll (h : Kept s u) (es : List Ev) : Kept s (State.raiseAll u es) := by
  unfold State.raiseAll
  grind [kept_raise, Kept.foldl]

theorem kept_degrade (h : Kept s u) (reason : Nat) : Kept s (State.degrade u reason) := by
  unfold State.degrade
  grind [kept_raise, kept_modHost]

theorem kept_satEvents (h : Kept s u) (slot idx : Nat) : Kept s (State.satEvents u slot idx).1 := by
  unfold State.satEvents
  grind [kept_modJob]

theorem kept_statQ (h : Kept s u) (slot idx n : Nat) : Kept s (State.statQ u slot idx n).1 := by
  unfold State.statQ
  grind [kept_satEvents, kept_modJob]

theorem kept_stat (h : Kept s u) (slot idx n : Nat) : Kept s (State.stat u slot idx n) := by
  unfold State.stat
  grind [kept_statQ, kept_raise, Kept.foldl]

theorem kept_statJob (h : Kept s u) (id idx n : Nat) : Kept s (State.statJob u id idx n) := by
  unfold State.statJob
  grind [kept_stat]

theorem kept_putCompletion (h : Kept s u) (c : Completion) {v : State} (e : State.putCompletion u c = some v) : Kept s v := by
  unfold State.putCompletion at e
  grind [kept_placeRecord, kept_raiseVector, kept_modCq]

theorem kept_drainBuffer (h : Kept s u) (cs : List Completion) (blocked : List Nat) : Kept s (drainBuffer cs blocked u) := by
  induction cs generalizing u blocked with
  | nil => exact h
  | cons c cs ih =>
    unfold drainBuffer
    grind [kept_putCompletion, kept_modHost]

theorem kept_takeOwed (h : Kept s u) : Kept s (State.takeOwed u) := kept_modHost h ..

theorem kept_drain (h : Kept s u) : Kept s (State.drain u) := by
  unfold State.drain
  grind [kept_drainBuffer, kept_takeOwed, kept_modHost]

theorem kept_complete (h : Kept s u) (c : Completion) : Kept s (State.complete u c) := by
  unfold State.complete
  grind [kept_putCompletion, kept_modHost]

theorem kept_unreserve (h : Kept s u) : Kept s (State.unreserve u) := kept_modHost h ..

theorem kept_noRecord (h : Kept s u) : Kept s (State.noRecord u) := by
  unfold State.noRecord
  grind [kept_raise, kept_modHost]

theorem kept_reserve (h : Kept s u) : Kept s (State.reserve u) := kept_modHost h ..

theorem kept_completeDesc (h : Kept s u) (d : Desc) (status step : Nat) (ref value : Nat) (tokens : optParam (List Word) []) :
    Kept s (State.completeDesc u d status step ref value tokens) := kept_complete h ..

/-! ### Packets that leave the package, and loads that break -/

theorem kept_packetEvent (h : Kept s u) (code port : Nat) (p : Packet) : Kept s (State.packetEvent u code port p) := kept_raise h ..

theorem kept_portCount (h : Kept s u) (p i n : Nat) : Kept s (State.portCount u p i n) := kept_modPort h ..

theorem kept_deliverLocal (h : Kept s u) (p : Packet) : Kept s (State.deliverLocal u p) := kept_with h

theorem kept_route (h : Kept s u) (p : Packet) : Kept s (State.route u p).1 := by
  unfold State.route
  grind [kept_modPort, kept_statJob, kept_deliverLocal, kept_nextOpen]

theorem kept_dropPacket (h : Kept s u) (port : Nat) (p : Packet) : Kept s (State.dropPacket u port p) := by
  unfold State.dropPacket
  grind [kept_statJob, kept_portCount, kept_packetEvent]

theorem kept_sendQuiet (h : Kept s u) (p : Packet) : Kept s (State.sendQuiet u p) := by
  unfold State.sendQuiet
  grind [kept_dropPacket, kept_route]

theorem kept_revokeForDiscard (h : Kept s u) (port job : Nat) : Kept s (State.revokeForDiscard u port job) := by
  unfold State.revokeForDiscard
  grind [kept_modPort, kept_sendQuiet, Kept.foldl]

theorem kept_sendRequest (h : Kept s u) (p : Packet) : Kept s (State.sendRequest u p).1 := by
  unfold State.sendRequest
  grind [kept_dropPacket, kept_route, kept_revokeForDiscard]

theorem kept_loadRequest (h : Kept s u) (slot i : Nat) (up : Bool) (op : Nat) : Kept s (State.loadRequest u slot i up op) := by
  unfold State.loadRequest
  grind [kept_modJob, kept_sendRequest]

theorem kept_sendOwed (h : Kept s u) : Kept s (State.sendOwed u) := by
  unfold State.sendOwed
  grind [kept_modJob, kept_loadRequest, Kept.foldl]

theorem kept_restartLoad (h : Kept s u) (slot i : Nat) : Kept s (State.restartLoad u slot i) := by
  unfold State.restartLoad
  grind [kept_modJob, kept_loadRequest]

theorem kept_breakLoad (h : Kept s u) (slot i reason : Nat) : Kept s (State.breakLoad u slot i reason) := by
  unfold State.breakLoad
  grind [kept_restartLoad, kept_raise, kept_loadRequest]

theorem kept_loadPacketLost (h : Kept s u) (p : Packet) : Kept s (State.loadPacketLost u p) := by
  unfold State.loadPacketLost
  grind [kept_breakLoad]

theorem kept_discardUnroutable (h : Kept s u) (port : Nat) (down : Bool) (p : Packet) : Kept s (State.discardUnroutable u port down p) := by
  unfold State.discardUnroutable
  grind [kept_dropPacket, kept_loadPacketLost, kept_revokeForDiscard]

theorem kept_sendCopy (h : Kept s u) (p : Packet) : Kept s (State.sendCopy u p) := by
  unfold State.sendCopy
  grind [kept_route, kept_discardUnroutable]

theorem kept_originate (h : Kept s u) (p : Packet) : Kept s (State.originate u p) := kept_sendCopy h ..

theorem kept_takeLocal (h : Kept s u) (f : Packet → Bool) {v : State} {p : Packet} (e : State.takeLocal u f = some (p, v)) : Kept s v := by
  unfold State.takeLocal at e
  grind [kept_with]

/-! ### Device memory and the host window -/

theorem kept_watchPoison (h : Kept s u) (line : Nat) : Kept s (State.watchPoison u line) := by
  unfold State.watchPoison
  grind [kept_degrade]

theorem kept_setPoison (h : Kept s u) (line : Nat) : Kept s (State.setPoison u line) := by
  unfold State.setPoison
  grind [kept_watchPoison, kept_with]

theorem kept_clearPoison (h : Kept s u) (line : Nat) : Kept s (State.clearPoison u line) := kept_with h

theorem kept_statFor (h : Kept s u) (slot : Option Nat) (i : Nat) : Kept s (State.statFor u slot i) := by
  unfold State.statFor
  grind [kept_stat]

theorem kept_corrected (h : Kept s u) (slot : Option Nat) (line : Nat) : Kept s (State.corrected u slot line) := by
  unfold State.corrected
  grind [kept_raise, kept_statFor, kept_modGd, kept_with]

theorem kept_uncorrected (h : Kept s u) (slot : Option Nat) (line : Nat) : Kept s (State.uncorrected u slot line) := by
  unfold State.uncorrected
  grind [kept_setPoison, kept_raise, kept_statFor, kept_modGd, kept_with]

theorem kept_meetFlaw (h : Kept s u) (slot : Option Nat) (line : Nat) : Kept s (State.meetFlaw u slot line).1 := by
  unfold State.meetFlaw
  grind [kept_uncorrected, kept_corrected]

theorem kept_touchChunk (h : Kept s u) (line : Nat) : Kept s (State.touchChunk u line) := kept_with h

theorem kept_readLine (h : Kept s u) (slot : Option Nat) (line : Nat) : Kept s (State.readLine u slot line).1 := by
  unfold State.readLine
  grind [kept_meetFlaw, kept_touchChunk, kept_raise, kept_statFor]

theorem kept_writeLine (h : Kept s u) (slot : Option Nat) (line : Nat) (whole : Bool) : Kept s (State.writeLine u slot line whole) := by
  unfold State.writeLine
  grind [kept_meetFlaw, kept_corrected, kept_touchChunk, kept_clearPoison, kept_with]

theorem kept_gddrAccess (h : Kept s u) (slot : Option Nat) (line : Nat) (write bypass : Bool) :
    Kept s (State.gddrAccess u slot line write bypass) := by
  unfold State.gddrAccess
  grind [kept_stat, kept_modStack]

theorem kept_touchRead (h : Kept s u) (slot : Option Nat) (bypass : Bool) (line : Nat) : Kept s (State.touchRead u slot bypass line).1 := by
  unfold State.touchRead
  grind [kept_gddrAccess, kept_readLine]

theorem kept_touchReads (h : Kept s u) (slot : Option Nat) (bypass : Bool) (ls : List Nat) : Kept s (touchReads slot bypass ls u).1 := by
  induction ls generalizing u with
  | nil => exact h
  | cons l ls ih => exact ih (kept_touchRead h slot bypass l)

theorem kept_writeLines (h : Kept s u) (slot : Option Nat) (cells : List Host.Cell) : Kept s (State.writeLines u slot cells) := by
  unfold State.writeLines
  grind [kept_writeLine, Kept.foldl]

theorem kept_storeOwn (h : Kept s u) (slot : Option Nat) (cells : List Host.Cell) : Kept s (State.storeOwn u slot cells) :=
  have k := kept_writeLines (Kept.refl u) slot cells
  h.trans ⟨fun m => Memory.wf_setCells cells u.mem m, k.fuses, k.level⟩

theorem kept_snoopHost (h : Kept s u) (lines : List Nat) : Kept s (State.snoopHost u lines) := by
  unfold State.snoopHost
  grind [kept_modHost, kept_emit, Kept.foldl]

theorem kept_storeCells (h : Kept s u) (slot : Option Nat) (cells : List Host.Cell) : Kept s (State.storeCells u slot cells) := by
  unfold State.storeCells
  grind [kept_storeOwn, kept_snoopHost]

theorem kept_publish (h : Kept s u) (slot : Nat) (cells : List Host.Cell) : Kept s (State.publish u slot cells) := by
  unfold State.publish
  grind [kept_gddrAccess, kept_storeCells, Kept.foldl]

theorem kept_translate (h : Kept s u) (job v : Nat) (write : Bool) : Kept s (State.translate u job v write).1 := by
  unfold State.translate
  extract_lets p e a s1
  have h1 : Kept s s1 := kept_modHost h _
  clear_value p e a s1
  grind [kept_modHost]

theorem kept_translateAll (h : Kept s u) (job : Nat) (write : Bool) (vs : List Nat) : Kept s (translateAll job write vs u).1 := by
  induction vs generalizing u with
  | nil => exact h
  | cons v vs ih =>
    have k := kept_translate h job v write
    rcases e : u.translate job v write with ⟨s1, a | why⟩
    · rw [translateAll_cons_ok e]
      exact ih (by rwa [e] at k)
    · rw [translateAll_cons_fail e]
      rwa [e] at k

theorem kept_fetchLine (h : Kept s u) (slot : Option Nat) (line : Nat) : Kept s (State.fetchLine u slot line) := by
  unfold State.fetchLine
  grind [kept_stat, kept_modHost]

theorem kept_fetchAhead (h : Kept s u) (job : Nat) (views : List Nat) : Kept s (State.fetchAhead u job views) := by
  unfold State.fetchAhead
  refine h.foldl (fun w v hw => ?_) views
  have k := kept_translate hw job v false
  obtain ⟨x, hx⟩ : ∃ x, x = w.translate job v false := ⟨_, rfl⟩
  rw [← hx] at k ⊢
  rcases x with ⟨s1, a | why⟩
  · dsimp only at k ⊢
    split
    · exact k
    · exact kept_modHost k _
  · exact k

theorem kept_windowRead (h : Kept s u) (slot v n : Nat) : Kept s (State.windowRead u slot v n).1 := by
  unfold State.windowRead
  grind [kept_translateAll, kept_stat, kept_fetchLine, Kept.foldl]

theorem kept_windowWrite (h : Kept s u) (slot v : Nat) (bs : List Byte) : Kept s (State.windowWrite u slot v bs).1 := by
  unfold State.windowWrite
  grind [kept_translateAll, kept_stat, kept_with, Kept.foldl]

theorem kept_stageCells (h : Kept s u) (slot : Nat) (t : Trick) (cells : List Host.Cell) : Kept s (State.stageCells u slot t cells).1 := by
  unfold State.stageCells
  grind [kept_modTrk, Kept.foldl]

theorem kept_engineRead (h : Kept s u) (w : Who) (allow : Region → Bool) (bypass : Bool) (vs : List Int) :
    Kept s (State.engineRead u w allow bypass vs).1 := by
  unfold State.engineRead
  grind [kept_translateAll, kept_stat, kept_fetchLine, kept_touchReads, Kept.foldl]

theorem kept_engineWrite (h : Kept s u) (w : Who) (allow : Region → Bool) (bypass direct : Bool) (cells : List (Int × Byte)) :
    Kept s (State.engineWrite u w allow bypass direct cells).1 := by
  unfold State.engineWrite
  split
  · exact h
  · have ht := kept_translateAll h
    extract_lets hostVs all hostBs dev trick isStaged staged plain
    split
    · grind
    · rename_i s1 hostAs e
      have h1 : Kept s s1 := by grind
      extract_lets st
      have h2 : Kept s st.1 := by grind [kept_stageCells]
      clear_value st
      grind [kept_gddrAccess, kept_storeCells, kept_stat, kept_with, Kept.foldl]

theorem kept_scratchTouch (h : Kept s u) (L o n : Nat) : Kept s (State.scratchTouch u L o n).1 := kept_touchReads h ..

/-! ### Lost jobs and the reset of the compute complex -/

theorem kept_failDescs (h : Kept s u) (slot status value : Nat) : Kept s (State.failDescs u slot status value) := by
  unfold State.failDescs
  grind [kept_unreserve, kept_completeDesc, kept_modSq, Kept.foldl]

theorem kept_refuseTricks (h : Kept s u) (slot cause : Nat) : Kept s (State.refuseTricks u slot cause) := by
  unfold State.refuseTricks
  grind [kept_originate, Kept.foldl]

theorem kept_tellLost (h : Kept s u) (slot : Nat) : Kept s (State.tellLost u slot) := by
  unfold State.tellLost
  grind [kept_refuseTricks, kept_originate, Kept.foldl]

theorem kept_zeroRanges (h : Kept s u) (rs : List (Nat × Nat)) : Kept s (State.zeroRanges u rs) := by
  unfold State.zeroRanges
  refine (kept_snoopHost h _).foldl (fun v r hv => ?_) rs
  exact hv.trans ⟨fun m => Memory.wf_clear v.mem r.1 r.2 m, rfl, rfl⟩

theorem kept_dropJobUnits (h : Kept s u) (slot : Nat) : Kept s (State.dropJobUnits u slot) := by
  unfold State.dropJobUnits
  grind [kept_modTrk, kept_modDealer, kept_modTile, kept_modStack, kept_modMeld, kept_with, Kept.foldl]

theorem kept_loseJob (h : Kept s u) (slot code : Nat) (origin : BitVec 12) (tell : Bool) : Kept s (State.loseJob u slot code origin tell) := by
  unfold State.loseJob
  grind [kept_tellLost, kept_dropJobUnits, kept_modJob, kept_failDescs]

theorem kept_loseFetched (h : Kept s u) (code : Nat) : Kept s (State.loseFetched u code) := by
  unfold State.loseFetched
  grind [kept_completeDesc, kept_modSq, Kept.foldl]

theorem kept_ccReset (h : Kept s u) (code : Nat) : Kept s (State.ccReset u code) := by
  unfold State.ccReset
  extract_lets lost s1 all s2 s3 s4 s5 s6
  have h1 : Kept s s1 := kept_loseFetched (h.foldl (fun _ _ hv => kept_loseJob hv ..) _) code
  have h2 : Kept s s2 := h1.foldl (fun _ _ hv => kept_zeroRanges hv _) all
  exact kept_retime (kept_with (kept_modHost (kept_modTrk (kept_modDealer (kept_with h2) _) _) _))

theorem kept_ccResetOpen (h : Kept s u) : Kept s (State.ccResetOpen u) := by
  unfold State.ccResetOpen
  grind [kept_nextOpen, kept_ccReset]

theorem kept_jobFault (h : Kept s u) (code : Nat) : Kept s (State.jobFault u code) := kept_ccReset h ..

/-! ### Signals, rollback and the errors of an operation -/

theorem kept_signalObj (h : Kept s u) (slot l : Nat) (op arg : Nat) {v : State} (e : State.signalObj u slot l op arg = some v) : Kept s v := by
  unfold State.signalObj at e
  grind [kept_setObj, kept_modJob]

theorem kept_modHandle (h : Kept s u) (L n h' : Nat) (f : Handle → Handle) : Kept s (State.modHandle u L n h' f) := kept_modStream h ..

theorem kept_modTrickOf (h : Kept s u) (L n : Nat) (f : Trick → Trick) : Kept s (State.modTrickOf u L n f) := by
  unfold State.modTrickOf
  grind [kept_modTrk]

theorem kept_signalHandle (h : Kept s u) (L n h' : Nat) : Kept s (State.signalHandle u L n h') := by
  unfold State.signalHandle
  split
  · exact h
  · split
    · exact h
    · extract_lets s1
      have h1 : Kept s s1 := kept_modTrickOf h L n _
      clear_value s1
      grind [kept_signalObj, kept_originate, kept_modHandle]

theorem kept_countSuppressed (h : Kept s u) (L n : Nat) : Kept s (State.countSuppressed u L n) := kept_modStream h ..

theorem kept_signalAtIssue (h : Kept s u) (L n h' : Nat) : Kept s (State.signalAtIssue u L n h') := by
  unfold State.signalAtIssue
  grind [kept_countSuppressed, kept_signalHandle]

theorem kept_waitTaken (h : Kept s u) (L n h' : Nat) : Kept s (State.waitTaken u L n h') := kept_modHandle h ..

theorem kept_countRevoke (h : Kept s u) (slot cause : Nat) (deck : Bool) : Kept s (State.countRevoke u slot cause deck) := kept_modJob h ..

theorem kept_refChange (h : Kept s u) (L n : Nat) (pc : BitVec 16) (version channel : Nat) (up : Bool) :
    Kept s (State.refChange u L n pc version channel up) := by
  unfold State.refChange
  grind [kept_jobFault, kept_modJob, kept_raise]

theorem kept_settleSends (h : Kept s u) (L n : Nat) : Kept s (State.settleSends u L n) := by
  unfold State.settleSends
  grind [kept_refChange, Kept.foldl]

theorem kept_replay (h : Kept s u) (L n : Nat) : Kept s (State.replay u L n) := by
  unfold State.replay
  grind [kept_modTrickOf, kept_modTile, kept_settleSends]

theorem kept_dropTrick (h : Kept s u) (L n : Nat) : Kept s (State.dropTrick u L n) := by
  unfold State.dropTrick
  grind [kept_modTrk, kept_modStream, kept_endSpan]

theorem kept_noteRevokeQ (h : Kept s u) (L n : Nat) (cause _inst slot : Nat) : Kept s (State.noteRevokeQ u L n cause _inst slot).1 := by
  unfold State.noteRevokeQ
  grind [kept_statQ, kept_countRevoke]

theorem kept_noteRevoke (h : Kept s u) (L n : Nat) (cause _inst slot : Nat) : Kept s (State.noteRevoke u L n cause _inst slot) := by
  unfold State.noteRevoke
  grind [kept_noteRevokeQ, kept_raise, Kept.foldl]

theorem kept_limitTopen (h : Kept s u) (L n : Nat) (t : Trick) : Kept s (State.limitTopen u L n t) := by
  unfold State.limitTopen
  grind [kept_modJob]

theorem kept_interruptTile (h : Kept s u) (L us : Nat) : Kept s (State.interruptTile u L us) := by
  unfold State.interruptTile
  grind [kept_modJob]

theorem kept_revokeLocal (h : Kept s u) (L n cause : Nat) (_inst : optParam Nat 65535) : Kept s (State.revokeLocal u L n cause _inst) := by
  unfold State.revokeLocal
  grind [kept_replay, kept_noteRevoke, kept_limitTopen, kept_jobFault, kept_interruptTile, kept_raise]

theorem kept_rollback (h : Kept s u) (slot : Nat) : Kept s (State.rollback u slot) := by
  unfold State.rollback
  grind [kept_refuseTricks, kept_originate, kept_modJob, kept_raise]

theorem kept_poisonedRead (h : Kept s u) (L n _inst : Nat) : Kept s (State.poisonedRead u L n _inst) := by
  unfold State.poisonedRead
  grind [kept_rollback, kept_modTrickOf, kept_revokeLocal]

theorem kept_accessFault (h : Kept s u) (L n engine : Nat) (v : Int) : Kept s (State.accessFault u L n engine v) := by
  unfold State.accessFault
  grind [kept_jobFault, kept_raise]

theorem kept_hostFault (h : Kept s u) (L v reason : Nat) (hub : Bool) : Kept s (State.hostFault u L v reason hub) := by
  unfold State.hostFault
  grind [kept_jobFault, kept_raise]

theorem kept_xlatFailed (h : Kept s u) (L v reason : Nat) : Kept s (State.xlatFailed u L v reason).1 := by
  unfold State.xlatFailed
  grind [kept_hostFault, kept_modHost, kept_emit]

theorem kept_hubFailed (h : Kept s u) (job v reason : Nat) : Kept s (State.hubFailed u job v reason).1 := by
  unfold State.hubFailed
  grind [kept_modHost, kept_emit]

theorem kept_opWaits (h : Kept s u) (L n : Nat) (f : Op → Bool) (v : Nat) : Kept s (State.opWaits u L n f v) := kept_modStream h ..

theorem kept_accessErr (h : Kept s u) (L n engine : Nat) (f : Op → Bool) (e : AccessErr) : Kept s (State.accessErr u L n engine f e) := by
  unfold State.accessErr
  grind [kept_accessFault, kept_opWaits, kept_xlatFailed, kept_poisonedRead]

theorem kept_writeErr (h : Kept s u) (L n engine : Nat) (f : Op → Bool) (r : WriteRes) : Kept s (State.writeErr u L n engine f r) := by
  unfold State.writeErr
  grind [kept_modTrickOf, kept_accessErr, kept_revokeLocal]

theorem kept_refuse (h : Kept s u) (code L n : Nat) (pc : BitVec 16) (reason a : Nat) : Kept s (State.refuse u code L n pc reason a) := by
  unfold State.refuse
  grind [kept_jobFault, kept_raise]

theorem kept_modOp (h : Kept s u) (L n : Nat) (f : Op → Bool) (g : Op → Op) : Kept s (State.modOp u L n f g) := kept_modStream h ..

theorem kept_finishOp (h : Kept s u) (L n : Nat) (f : Op → Bool) : Kept s (State.finishOp u L n f) := by
  unfold State.finishOp
  grind [kept_signalHandle, kept_modStream]

theorem kept_hubRead (h : Kept s u) (job v n : Nat) : Kept s (State.hubRead u job v n).1 := by
  unfold State.hubRead
  grind [kept_hubFailed, kept_translateAll, kept_fetchLine, Kept.foldl]

theorem kept_hubWindow (h : Kept s u) (slot v n : Nat) : Kept s (State.hubWindow u slot v n).1 := by
  unfold State.hubWindow
  grind [kept_windowRead, kept_hubFailed]

theorem kept_advance (h : Kept s u) (L n : Nat) (pc : BitVec 16) : Kept s (State.advance u L n pc) := kept_modStream h ..

theorem kept_advance1 (h : Kept s u) (L n : Nat) : Kept s (State.advance1 u L n) := kept_advance h ..

theorem kept_enqueue (h : Kept s u) (L n w : Nat) (pins : List Nat) : Kept s (State.enqueue u L n w pins) := by
  unfold State.enqueue
  grind [kept_countSuppressed, kept_advance1, kept_modStream]

/-! ### The sequencer -/

/-- The state that an attempt to issue leaves. -/
def Issue.state : Issue → State
  | .no s => s
  | .go s _ _ => s

theorem Issue.state_no (s : State) : (Issue.no s).state = s := rfl

theorem Issue.state_go (s : State) (slot w : Nat) : (Issue.go s slot w).state = s := rfl

theorem kept_tryIssue (h : Kept s u) (L n : Nat) (row : Nat → Bool) : Kept s (u.tryIssue L n row).state := by
  unfold State.tryIssue
  dsimp only
  obtain ⟨a, ha⟩ : ∃ a, a = bits (u.stream L n).prog 16 10 * 4096 + 16 * (u.stream L n).pc.toNat := ⟨_, rfl⟩
  rw [← ha]
  clear ha
  have touched := kept_scratchTouch h L a 16
  obtain ⟨q, hq⟩ : ∃ q, q = u.scratchTouch L a 16 := ⟨_, rfl⟩
  rw [← hq] at touched ⊢
  clear hq
  split
  · exact h
  · split
    · exact h
    · split
      · rw [Issue.state_no]; exact kept_refuse h ..
      · split
        · rw [Issue.state_no]; exact kept_poisonedRead touched ..
        · split
          · rw [Issue.state_no]; exact kept_refuse touched ..
          · split
            · exact h
            · split
              · exact touched
              · split
                · rw [Issue.state_no]; exact kept_modStream touched ..
                · split
                  · rw [Issue.state_no]; exact kept_modStream touched ..
                  · rw [Issue.state_go]
                    split
                    · exact kept_waitTaken touched ..
                    · exact touched

theorem kept_tryIssue_no (h : Kept s u) {v : State} {L n : Nat} {row : Nat → Bool} (e : u.tryIssue L n row = .no v) : Kept s v := by
  have := kept_tryIssue h L n row
  rwa [e] at this

theorem kept_tryIssue_go (h : Kept s u) {v : State} {L n slot w : Nat} {row : Nat → Bool} (e : u.tryIssue L n row = .go v slot w) : Kept s v := by
  have := kept_tryIssue h L n row
  rwa [e] at this

theorem kept_runSeq (h : Kept s u) (L n op : Nat) (f : State → Nat → State) (hf : ∀ x0 x1, Kept s x0 → Kept s (f x0 x1)) :
    Kept s (State.runSeq u L n op f) := by
  unfold State.runSeq
  split
  · next held => exact kept_tryIssue_no h held
  · next issued => exact kept_signalAtIssue (hf _ _ (kept_tryIssue_go h issued)) ..

theorem kept_execNop (h : Kept s u) (tile : Fin 128) (stream : Fin 3) {t : State} (e : execNop tile stream u = .next t) : Kept s t := by
  unfold execNop at e
  grind [kept_advance1, kept_runSeq]

theorem kept_execStop (h : Kept s u) (tile : Fin 128) (stream : Fin 3) {t : State} (e : execStop tile stream u = .next t) : Kept s t := by
  unfold execStop at e
  grind [kept_advance1, kept_runSeq, kept_modStream]

theorem kept_execJmp (h : Kept s u) (tile : Fin 128) (stream : Fin 3) {t : State} (e : execJmp tile stream u = .next t) : Kept s t := by
  unfold execJmp at e
  grind [kept_runSeq, kept_advance]

theorem kept_execLoop (h : Kept s u) (tile : Fin 128) (stream : Fin 3) {t : State} (e : execLoop tile stream u = .next t) : Kept s t := by
  unfold execLoop at e
  grind [kept_advance1, kept_runSeq, kept_modStream, kept_advance]

theorem kept_execLdlc (h : Kept s u) (tile : Fin 128) (stream : Fin 3) {t : State} (e : execLdlc tile stream u = .next t) : Kept s t := by
  unfold execLdlc at e
  grind [kept_advance1, kept_runSeq, kept_modStream]

theorem kept_execBrtag (h : Kept s u) (tile : Fin 128) (stream : Fin 3) {t : State} (e : execBrtag tile stream u = .next t) : Kept s t := by
  unfold execBrtag at e
  grind [kept_advance1, kept_runSeq, kept_advance]

theorem kept_execFence (h : Kept s u) (tile : Fin 128) (stream : Fin 3) {t : State} (e : execFence tile stream u = .next t) : Kept s t := by
  unfold execFence at e
  grind [kept_advance1, kept_runSeq]

theorem kept_execWaitSatisfied (h : Kept s u) (tile : Fin 128) (stream : Fin 3) {t : State} (e : execWaitSatisfied tile stream u = .next t) :
    Kept s t := by
  unfold execWaitSatisfied at e
  grind [kept_modStream, kept_waitTaken]

/-! ### Remote signals, ports and links -/

theorem kept_signalDiscarded (h : Kept s u) (job object : Nat) (op reason : Nat) (src : BitVec 12) (step : Nat) :
    Kept s (State.signalDiscarded u job object op reason src step) := kept_raise h ..

theorem kept_applyRemote (h : Kept s u) (slot job : Nat) (object op arg : Nat) (src : BitVec 12) (step : Nat) :
    Kept s (State.applyRemote u slot job object op arg src step) := by
  unfold State.applyRemote
  grind [kept_signalObj, kept_signalDiscarded]

theorem kept_remoteSignal (h : Kept s u) (job step : Nat) (object op arg : Nat) (src : BitVec 12) :
    Kept s (State.remoteSignal u job step object op arg src) := by
  unfold State.remoteSignal
  split
  · exact kept_signalDiscarded h ..
  · extract_lets c
    split
    · exact kept_applyRemote h ..
    · split
      · split
        · exact kept_signalDiscarded h ..
        · exact kept_modStack h ..
      · exact kept_stat h ..

theorem kept_releaseHeld (h : Kept s u) (slot : Nat) : Kept s (State.releaseHeld u slot) := by
  unfold State.releaseHeld
  extract_lets j c held mine s1
  have h1 : Kept s s1 := h.foldl (fun _ _ hv => kept_modStack hv ..) _
  refine h1.foldl (fun v x hv => ?_) mine
  split
  · exact kept_applyRemote hv ..
  · split
    · exact hv
    · exact kept_stat hv ..

theorem kept_creditFreed (h : Kept s u) (p c n : Nat) : Kept s (State.creditFreed u p c n) := kept_modPort h ..

theorem kept_freeKitty (h : Kept s u) (p : Nat) (f : KittyPkt → Bool) {v : State} {pkt : Packet} (e : State.freeKitty u p f = some (pkt, v)) :
    Kept s v := by
  unfold State.freeKitty at e
  grind [kept_modPort, kept_creditFreed]

theorem kept_takePacket (h : Kept s u) (src : Src) (f : Packet → Bool) {v : State} {pkt : Packet}
    (e : State.takePacket u src f = some (pkt, v)) :
    Kept s v := by
  unfold State.takePacket at e
  grind [kept_takeLocal, kept_freeKitty]

theorem kept_noDestination (h : Kept s u) (src : Src) (p : Packet) : Kept s (State.noDestination u src p) := by
  unfold State.noDestination
  grind [kept_statJob, kept_portCount, kept_packetEvent]

theorem kept_portEvent (h : Kept s u) (code p x' : Nat) : Kept s (State.portEvent u code p x') := kept_raise h ..

theorem kept_breakLoads (h : Kept s u) (p : Nat) : Kept s (State.breakLoads u p) := by
  unfold State.breakLoads
  grind [kept_breakLoad, Kept.foldl]

theorem kept_emptyKitty (h : Kept s u) (p : Nat) : Kept s (State.emptyKitty u p) := by
  unfold State.emptyKitty
  grind [kept_modPort, kept_creditFreed, Kept.foldl]

theorem kept_leaveUp (h : Kept s u) (p cause : Nat) (st : LinkState) : Kept s (State.leaveUp u p cause st) := by
  unfold State.leaveUp
  extract_lets +onlyGivenNames q gone s1 s2 s3 s4
  have h1 : Kept s s1 := kept_modPort (kept_emptyKitty h ..) ..
  have h2 : Kept s s2 := h1.foldl (fun v k hv => kept_statJob (kept_portCount hv ..) ..) gone
  have h4 : Kept s s4 := (kept_portEvent h2 ..).foldl (fun v j hv => kept_revokeForDiscard hv ..) _
  clear_value s4
  exact kept_breakLoads h4 ..

theorem kept_portDown (h : Kept s u) (p cause : Nat) : Kept s (State.portDown u p cause) := by
  unfold State.portDown
  grind [kept_leaveUp, kept_modPort]

theorem kept_checkLanes (h : Kept s u) (p : Nat) : Kept s (State.checkLanes u p) := by
  unfold State.checkLanes
  grind [kept_portDown]

theorem kept_enterDetect (h : Kept s u) (p : Nat) : Kept s (State.enterDetect u p) := kept_modPort h ..

theorem kept_portEnable (h : Kept s u) (p : Nat) : Kept s (State.portEnable u p) := by
  unfold State.portEnable
  grind [kept_modPort, kept_enterDetect]

theorem kept_execPortEnable (h : Kept s u) (port : Fin 16) {t : State} (e : execPortEnable port u = .next t) : Kept s t := by
  unfold execPortEnable at e
  grind [kept_fromHost, kept_portEnable]

theorem kept_portDisable (h : Kept s u) (p : Nat) : Kept s (State.portDisable u p) := by
  unfold State.portDisable
  grind [kept_leaveUp, kept_modPort]

theorem kept_execPortDisable (h : Kept s u) (port : Fin 16) {t : State} (e : execPortDisable port u = .next t) : Kept s t := by
  unfold execPortDisable at e
  grind [kept_portDisable, kept_fromHost]

theorem kept_sendIdentity (h : Kept s u) (p : Nat) : Kept s (State.sendIdentity u p) := by
  unfold State.sendIdentity
  grind [kept_modPort]

theorem kept_judgePort (h : Kept s u) (p : Nat) : Kept s (State.judgePort u p) := by
  unfold State.judgePort
  grind [kept_modPort, kept_sendOwed, kept_portEvent, kept_checkLanes]

theorem kept_identityChanged (h : Kept s u) : Kept s (State.identityChanged u) := by
  unfold State.identityChanged
  grind [kept_sendIdentity, kept_judgePort, Kept.foldl]

theorem kept_execIdentity (h : Kept s u) (port : Fin 16) {t : State} (e : execIdentity port u = .next t) : Kept s t := by
  unfold execIdentity at e
  grind [kept_modPort, kept_freeKitty, kept_judgePort, kept_portEvent]

theorem kept_portFence (h : Kept s u) (p : Nat) : Kept s (State.portFence u p) := by
  unfold State.portFence
  grind [kept_leaveUp, kept_modPort, kept_portEvent]

theorem kept_execPortFence (h : Kept s u) (port : Fin 16) {t : State} (e : execPortFence port u = .next t) : Kept s t := by
  unfold execPortFence at e
  grind [kept_portFence, kept_fromHost]

theorem kept_portUnfence (h : Kept s u) (p : Nat) : Kept s (State.portUnfence u p) := by
  unfold State.portUnfence
  grind [kept_modPort, kept_judgePort]

theorem kept_execPortUnfence (h : Kept s u) (port : Fin 16) {t : State} (e : execPortUnfence port u = .next t) : Kept s t := by
  unfold execPortUnfence at e
  grind [kept_fromHost, kept_portUnfence]

theorem kept_execSignalDetect (h : Kept s u) (port : Fin 16) (lanes : BitVec 8) {t : State} (e : execSignalDetect port lanes u = .next t) :
    Kept s t := by
  unfold execSignalDetect at e
  grind [kept_modPort]

theorem kept_trainFailed (h : Kept s u) (p : Nat) : Kept s (State.trainFailed u p) := by
  unfold State.trainFailed
  grind [kept_portDown, kept_portEvent]

theorem kept_execTrainingDone (h : Kept s u) (port : Fin 16) (rxLanes txLanes : BitVec 8) {t : State}
    (e : execTrainingDone port rxLanes txLanes u = .next t) :
    Kept s t := by
  unfold execTrainingDone at e
  grind [kept_modPort, kept_trainFailed]

theorem kept_execTrainingFailed (h : Kept s u) (port : Fin 16) {t : State} (e : execTrainingFailed port u = .next t) : Kept s t := by
  unfold execTrainingFailed at e
  grind [kept_trainFailed]

theorem kept_execAlignLock (h : Kept s u) (port : Fin 16) {t : State} (e : execAlignLock port u = .next t) : Kept s t := by
  unfold execAlignLock at e
  grind [kept_modPort, kept_sendIdentity]

theorem kept_execAlignTimeout (h : Kept s u) (port : Fin 16) {t : State} (e : execAlignTimeout port u = .next t) : Kept s t := by
  unfold execAlignTimeout at e
  grind [kept_portDown]

theorem kept_execDiscoverTimeout (h : Kept s u) (port : Fin 16) {t : State} (e : execDiscoverTimeout port u = .next t) : Kept s t := by
  unfold execDiscoverTimeout at e
  grind [kept_portDown]

theorem kept_execFrameLockLost (h : Kept s u) (port : Fin 16) {t : State} (e : execFrameLockLost port u = .next t) : Kept s t := by
  unfold execFrameLockLost at e
  grind [kept_modPort]

theorem kept_execFrameLockRegained (h : Kept s u) (port : Fin 16) {t : State} (e : execFrameLockRegained port u = .next t) : Kept s t := by
  unfold execFrameLockRegained at e
  grind [kept_modPort]

theorem kept_execFrameLockTimeout (h : Kept s u) (port : Fin 16) {t : State} (e : execFrameLockTimeout port u = .next t) : Kept s t := by
  unfold execFrameLockTimeout at e
  grind [kept_portDown]

theorem kept_execPeerIdle (h : Kept s u) (port : Fin 16) {t : State} (e : execPeerIdle port u = .next t) : Kept s t := by
  unfold execPeerIdle at e
  grind [kept_portDown]

theorem kept_execHoldoffExpiry (h : Kept s u) (port : Fin 16) {t : State} (e : execHoldoffExpiry port u = .next t) : Kept s t := by
  unfold execHoldoffExpiry at e
  grind [kept_enterDetect]

theorem kept_execLoopbackCheckerLock (h : Kept s u) (port : Fin 16) (lane : Fin 8) {t : State}
    (e : execLoopbackCheckerLock port lane u = .next t) :
    Kept s t := by
  unfold execLoopbackCheckerLock at e
  grind [kept_modPort]

theorem kept_startReplay (h : Kept s u) (p : Nat) : Kept s (State.startReplay u p) := by
  unfold State.startReplay
  grind [kept_modPort, kept_portDown, kept_portCount]

theorem kept_place (h : Kept s u) (p : Nat) (r : ReplayPkt) (replayed : Bool) (damage : Damage) : Kept s (State.place u p r replayed damage) := by
  unfold State.place
  grind [kept_modPort, kept_emit]

theorem kept_sendReordered (h : Kept s u) (p : Nat) : Kept s (State.sendReordered u p) := by
  unfold State.sendReordered
  grind [kept_modPort, kept_place]

theorem kept_transmit (h : Kept s u) (p : Nat) (r : ReplayPkt) (replayed hit : Bool) : Kept s (State.transmit u p r replayed hit) := by
  unfold State.transmit
  grind [kept_modPort, kept_sendReordered, kept_place, kept_portCount]

theorem kept_sendReplays (h : Kept s u) (p : Nat) (hits : List Bool) (n : Nat) : Kept s (State.sendReplays u p hits n) := by
  induction n generalizing u hits with
  | zero => exact h
  | succ n ih =>
    unfold State.sendReplays
    grind [kept_modPort, kept_transmit]

theorem kept_grantShare (h : Kept s u) (p c : Nat) : Kept s (State.grantShare u p c) := by
  unfold State.grantShare
  grind [kept_modPort]

theorem kept_sendMarker (h : Kept s u) (p : Nat) : Kept s (State.sendMarker u p) := by
  unfold State.sendMarker
  grind [kept_modPort, kept_emit]

theorem kept_execFrameTransmit (h : Kept s u) (port : Fin 16) (rateHits : List Bool) {t : State}
    (e : execFrameTransmit port rateHits u = .next t) :
    Kept s t := by
  unfold execFrameTransmit at e
  grind [kept_modPort, kept_grantShare, kept_portCount, kept_sendReplays, kept_sendMarker, kept_emit, Kept.foldl]

theorem kept_execControlBlock (h : Kept s u) (port : Fin 16) (frame : FrameEnd) {t : State} (e : execControlBlock port frame u = .next t) :
    Kept s t := by
  unfold execControlBlock at e
  grind [kept_modPort, kept_portCount, kept_startReplay, kept_sendIdentity, kept_checkLanes, Kept.foldl]

theorem kept_execReplayTimer (h : Kept s u) (port : Fin 16) {t : State} (e : execReplayTimer port u = .next t) : Kept s t := by
  unfold execReplayTimer at e
  grind [kept_startReplay]

theorem kept_discardAccepted (h : Kept s u) (p : Nat) (k : Packet) : Kept s (State.discardAccepted u p k) := by
  unfold State.discardAccepted
  grind [kept_portCount, kept_freeKitty]

theorem kept_execPacketArrival (h : Kept s u) (port : Fin 16) (wire : List (BitVec 8)) {t : State}
    (e : execPacketArrival port wire u = .next t) :
    Kept s t := by
  unfold execPacketArrival at e
  extract_lets +onlyGivenNames q at e
  split at e
  · exact kept_of_next e h
  · extract_lets +onlyGivenNames hd payload trailer seq expected bad at e
    have hbad (i : Nat) : Kept s (bad i) := kept_modPort (kept_portCount h ..) ..
    clear_value bad
    split at e
    · exact kept_of_next e (kept_modPort (hbad 4) ..)
    · split at e
      · exact kept_of_next e (hbad 5)
      · split at e
        · extract_lets +onlyGivenNames k s1 at e
          have h1 : Kept s s1 := kept_portCount (kept_modPort h ..) ..
          clear_value s1 k
          split at e
          · exact kept_of_next e (kept_packetEvent (kept_discardAccepted h1 ..) ..)
          · split at e
            · exact kept_of_next e (kept_statJob (kept_discardAccepted h1 ..) ..)
            · exact kept_of_next e h1
        · split at e
          · exact kept_of_next e (kept_portCount h ..)
          · exact kept_of_next e (hbad 7)

theorem kept_execKittyStall (h : Kept s u) (port : Fin 16) (cls : Fin 4) {t : State} (e : execKittyStall port cls u = .next t) : Kept s t := by
  unfold execKittyStall at e
  grind [kept_modPort, kept_portEvent]

theorem kept_firstSend (h : Kept s u) (p : Nat) (k : Packet) (hit : Bool) : Kept s (State.firstSend u p k hit) := by
  unfold State.firstSend
  grind [kept_modPort, kept_portCount, kept_transmit]

theorem kept_execPacketFirstSend (h : Kept s u) (port : Fin 16) (cls : Fin 4) (rateHit : Bool) {t : State}
    (e : execPacketFirstSend port cls rateHit u = .next t) :
    Kept s t := by
  unfold execPacketFirstSend at e
  grind [kept_modPort, kept_firstSend]

theorem kept_execReorderTimeout (h : Kept s u) (port : Fin 16) {t : State} (e : execReorderTimeout port u = .next t) : Kept s t := by
  unfold execReorderTimeout at e
  grind [kept_sendReordered]

theorem kept_execPacketForward (h : Kept s u) (port : Fin 16) (cls : Fin 4) (rateHit : Bool) {t : State}
    (e : execPacketForward port cls rateHit u = .next t) :
    Kept s t := by
  unfold execPacketForward at e
  grind [kept_dropPacket, kept_loadPacketLost, kept_firstSend, kept_revokeForDiscard, kept_discardUnroutable, kept_freeKitty]

theorem kept_execLaneFailure (h : Kept s u) (port : Fin 16) (lane : Fin 8) {t : State} (e : execLaneFailure port lane u = .next t) :
    Kept s t := by
  unfold execLaneFailure at e
  grind [kept_modPort, kept_portCount, kept_portEvent, kept_checkLanes]

theorem kept_execRestripeLock (h : Kept s u) (port : Fin 16) {t : State} (e : execRestripeLock port u = .next t) : Kept s t := by
  unfold execRestripeLock at e
  grind [kept_modPort]

theorem kept_laneRestore (h : Kept s u) (p : Nat) : Kept s (State.laneRestore u p) := by
  unfold State.laneRestore
  grind [kept_modPort]

theorem kept_execLaneRestore (h : Kept s u) (port : Fin 16) {t : State} (e : execLaneRestore port u = .next t) : Kept s t := by
  unfold execLaneRestore at e
  grind [kept_fromHost, kept_laneRestore]

theorem kept_execLaneRestored (h : Kept s u) (port : Fin 16) (lane : Fin 8) {t : State} (e : execLaneRestored port lane u = .next t) :
    Kept s t := by
  unfold execLaneRestored at e
  grind [kept_modPort, kept_portEvent]

theorem kept_portReject (h : Kept s u) (p : Nat) : Kept s (State.portReject u p) := kept_modPort h ..

theorem kept_clearCounters (h : Kept s u) (p : Nat) : Kept s (State.clearCounters u p) := kept_modPort h ..

theorem kept_execHlCntClr (h : Kept s u) (port : Fin 16) {t : State} (e : execHlCntClr port u = .next t) : Kept s t := by
  unfold execHlCntClr at e
  grind [kept_fromHost, kept_clearCounters]

theorem kept_writeFi (h : Kept s u) (p t : Nat) (v : Dword) : Kept s (State.writeFi u p t v) := by
  unfold State.writeFi
  grind [kept_modPort, kept_portReject]

theorem kept_execHlFiWrite (h : Kept s u) (port : Fin 16) (cls : Fin 5) (value : BitVec 64) {t : State}
    (e : execHlFiWrite port cls value u = .next t) :
    Kept s t := by
  unfold execHlFiWrite at e
  grind [kept_fromHost, kept_writeFi]

theorem kept_writeRoute (h : Kept s u) (table : Option Nat) (dest : Nat) (v : Word) : Kept s (State.writeRoute u table dest v) := by
  unfold State.writeRoute
  grind [kept_modPort, kept_portReject, kept_with]

theorem kept_execRtEntryWrite (h : Kept s u) (table : Option (Fin 16)) (dest : Fin 4096) (value : BitVec 32) {t : State}
    (e : execRtEntryWrite table dest value u = .next t) :
    Kept s t := by
  unfold execRtEntryWrite at e
  grind [kept_writeRoute, kept_fromHost]

theorem kept_writeKittyClass (h : Kept s u) (p c : Nat) (v : Word) : Kept s (State.writeKittyClass u p c v) := by
  unfold State.writeKittyClass
  grind [kept_modPort, kept_portReject, Kept.foldl]

theorem kept_execKittyClassWrite (h : Kept s u) (port : Fin 16) (cls : Fin 4) (value : BitVec 32) {t : State}
    (e : execKittyClassWrite port cls value u = .next t) :
    Kept s t := by
  unfold execKittyClassWrite at e
  grind [kept_writeKittyClass, kept_fromHost]

theorem kept_writeHlCtl (h : Kept s u) (p : Nat) (v : Word) : Kept s (State.writeHlCtl u p v) := by
  unfold State.writeHlCtl
  grind [kept_modPort, kept_portDisable, kept_enterDetect, kept_portFence, kept_laneRestore, kept_portUnfence, kept_portEnable,
    kept_clearCounters, kept_checkLanes]

/-! ### Channels and messages -/

theorem kept_execSync (h : Kept s u) (src : Src) {t : State} (e : execSync src u = .next t) : Kept s t := by
  unfold execSync at e
  grind [kept_remoteSignal, kept_takePacket]

theorem kept_tellPeer (h : Kept s u) (slot L : Nat) (e op value : Nat) : Kept s (State.tellPeer u slot L e op value) := kept_originate h ..

theorem kept_takeChanCtl (h : Kept s u) (src : Src) (op : Nat) (f : State → Packet → Nat → Nat → Nat → State)
    (hf : ∀ x0 x1 x2 x3 x4, Kept s x0 → Kept s (f x0 x1 x2 x3 x4)) :
    Kept s (State.takeChanCtl u src op f) := by
  unfold State.takeChanCtl
  grind [kept_noDestination, kept_takePacket]

theorem kept_sendOpen (h : Kept s u) (slot L e : Nat) : Kept s (State.sendOpen u slot L e) := by
  unfold State.sendOpen
  grind [kept_tellPeer, kept_modEp]

theorem kept_openChannels (h : Kept s u) (slot : Nat) : Kept s (State.openChannels u slot) := by
  unfold State.openChannels
  grind [kept_sendOpen, kept_modEp, Kept.foldl]

theorem kept_openFailed (h : Kept s u) (slot L : Nat) (e reason : Nat) : Kept s (State.openFailed u slot L e reason) := by
  unfold State.openFailed
  grind [kept_jobFault, kept_raise, kept_modEp]

theorem kept_execOpen (h : Kept s u) (src : Src) {t : State} (e : execOpen src u = .next t) : Kept s t := by
  unfold execOpen at e
  grind [kept_originate, kept_takePacket, kept_modEp]

theorem kept_execAccept (h : Kept s u) (src : Src) {t : State} (e : execAccept src u = .next t) : Kept s t := by
  unfold execAccept at e
  grind [kept_takeChanCtl, kept_modEp]

theorem kept_execRefuse (h : Kept s u) (src : Src) {t : State} (e : execRefuse src u = .next t) : Kept s t := by
  unfold execRefuse at e
  grind [kept_takeChanCtl, kept_openFailed, kept_modEp]

theorem kept_execOpenRetry (h : Kept s u) (tile : Fin 128) (ep : Fin 32) {t : State} (e : execOpenRetry tile ep u = .next t) : Kept s t := by
  unfold execOpenRetry at e
  grind [kept_sendOpen]

theorem kept_execOpenTimeout (h : Kept s u) (tile : Fin 128) (ep : Fin 32) {t : State} (e : execOpenTimeout tile ep u = .next t) : Kept s t := by
  unfold execOpenTimeout at e
  grind [kept_openFailed]

theorem kept_finishClose (h : Kept s u) (slot L e : Nat) : Kept s (State.finishClose u slot L e) := by
  unfold State.finishClose
  grind [kept_tellPeer, kept_modEp]

theorem kept_closeChannels (h : Kept s u) (slot : Nat) : Kept s (State.closeChannels u slot) := by
  unfold State.closeChannels
  grind [kept_tellPeer, kept_modEp, Kept.foldl]

theorem kept_execClose (h : Kept s u) (src : Src) {t : State} (e : execClose src u = .next t) : Kept s t := by
  unfold execClose at e
  grind [kept_takeChanCtl, kept_finishClose, kept_modEp]

theorem kept_reportHead (h : Kept s u) (slot L e : Nat) : Kept s (State.reportHead u slot L e) := by
  unfold State.reportHead
  grind [kept_tellPeer, kept_modEp]

theorem kept_afterRelease (h : Kept s u) (slot L e : Nat) : Kept s (State.afterRelease u slot L e) := by
  unfold State.afterRelease
  grind [kept_tellPeer, kept_finishClose, kept_reportHead, kept_modEp]

theorem kept_releaseTaken (h : Kept s u) (slot L : Nat) (n e : Nat) : Kept s (State.releaseTaken u slot L n e) := by
  unfold State.releaseTaken
  grind [kept_afterRelease, kept_modEp]

theorem kept_releaseAll (h : Kept s u) (slot L n : Nat) : Kept s (State.releaseAll u slot L n) := by
  unfold State.releaseAll
  grind [kept_releaseTaken, Kept.foldl]

theorem kept_execHeadUpdate (h : Kept s u) (src : Src) {t : State} (e : execHeadUpdate src u = .next t) : Kept s t := by
  unfold execHeadUpdate at e
  grind [kept_takeChanCtl, kept_modEp]

theorem kept_execHeadUpdateTimer (h : Kept s u) (tile : Fin 128) (ep : Fin 32) {t : State} (e : execHeadUpdateTimer tile ep u = .next t) :
    Kept s t := by
  unfold execHeadUpdateTimer at e
  grind [kept_reportHead]

theorem kept_writeArea (h : Kept s u) (slot L e : Nat) (spill poison : Bool) (off : Nat) (bs : List Byte) :
    Kept s (State.writeArea u slot L e spill poison off bs) := by
  unfold State.writeArea
  grind [kept_gddrAccess, kept_setPoison, kept_storeCells, Kept.foldl]

theorem kept_execData (h : Kept s u) (src : Src) {t : State} (e : execData src u = .next t) : Kept s t := by
  unfold execData at e
  grind [kept_noDestination, kept_writeArea, kept_takePacket, kept_modEp]

theorem kept_execSend (h : Kept s u) (tile : Fin 128) (stream : Fin 3) {t : State} (e : execSend tile stream u = .next t) : Kept s t := by
  unfold execSend at e
  extract_lets L n at e
  split at e
  · next held => cases e; exact kept_tryIssue_no h held
  · next issued =>
    replace issued := kept_tryIssue_go h issued
    extract_lets +onlyGivenNames x r d o at e
    have touched : Kept s r.1 := kept_fst (kept_scratchTouch issued ..) rfl
    clear_value r
    grind [kept_enqueue, kept_refuse, kept_poisonedRead]

theorem kept_chanTake (h : Kept s u) (slot L n : Nat) : Kept s (State.chanTake u slot L n) := kept_modTile h ..

theorem kept_placeSend (h : Kept s u) (slot L n : Nat) (o : Op) (p : SendPlan) (pad : Nat) : Kept s (State.placeSend u slot L n o p pad) := by
  unfold State.placeSend
  extract_lets +onlyGivenNames ep x j who
  split
  · next he => exact kept_accessErr (kept_left he (kept_engineRead h ..)) ..
  · next he =>
    have h1 := kept_left he (kept_engineRead h ..)
    extract_lets +onlyGivenNames s2 seq at' header packets s3 tail' s4
    have h2 : Kept s s2 := kept_modTrickOf h1 ..
    have h3 : Kept s s3 := kept_ite h2 (h2.foldl (fun v p hv => kept_originate hv ..) packets)
    have h4 : Kept s s4 := kept_modEp h3 ..
    exact kept_modOp (kept_stat (kept_stat h4 ..) ..) ..

theorem kept_execSendPlace (h : Kept s u) (tile : Fin 128) (stream : Fin 3) (amb : Ambient) {t : State}
    (e : execSendPlace tile stream amb u = .next t) :
    Kept s t := by
  unfold execSendPlace at e
  extract_lets +onlyGivenNames L n s0 at e
  have h0 : Kept s s0 := kept_applyAmb h amb
  clear_value s0
  split at e
  · next slot o _ _ =>
    split at e
    · exact kept_of_next e h0
    · split at e
      · split at e
        · exact kept_of_next e (kept_ite (kept_modEp h0 ..) h0)
        · exact kept_of_next e h0
      · split at e
        · exact kept_of_next e h0
        · extract_lets +onlyGivenNames s1 at e
          have h1 : Kept s s1 := kept_chanTake h0 ..
          clear_value s1
          split at e
          · exact kept_of_next e (kept_modStream (kept_modOp h1 ..) ..)
          · extract_lets +onlyGivenNames r at e
            have hr : Kept s r.1 := kept_scratchTouch h1 ..
            clear_value r
            split at e
            · exact kept_of_next e (kept_poisonedRead hr ..)
            · split at e
              · exact kept_of_next e (kept_refuse hr ..)
              · split at e
                · exact kept_of_next e h0
                · exact kept_of_next e (kept_placeSend hr ..)
  · exact kept_of_next e h0

theorem kept_execSendComplete (h : Kept s u) (tile : Fin 128) (stream : Fin 3) {t : State} (e : execSendComplete tile stream u = .next t) :
    Kept s t := by
  unfold execSendComplete at e
  grind [kept_refChange, kept_finishOp]

theorem kept_execRecv (h : Kept s u) (tile : Fin 128) (stream : Fin 3) {t : State} (e : execRecv tile stream u = .next t) : Kept s t := by
  unfold execRecv at e
  extract_lets L n at e
  split at e
  · next held => cases e; exact kept_tryIssue_no h held
  · next issued =>
    replace issued := kept_tryIssue_go h issued
    extract_lets +onlyGivenNames x r at e
    have touched : Kept s r.1 := kept_fst (kept_scratchTouch issued ..) rfl
    clear_value r
    grind [kept_enqueue, kept_refuse, kept_poisonedRead, kept_modStream]

theorem kept_finishRecv (h : Kept s u) (slot L n : Nat) (o : Op) (e bytes : Nat) : Kept s (State.finishRecv u slot L n o e bytes) := by
  unfold State.finishRecv
  grind [kept_refChange, kept_modTrickOf, kept_finishOp, kept_releaseTaken, kept_modStream, kept_modEp]

theorem kept_execRecvTake (h : Kept s u) (tile : Fin 128) (stream : Fin 3) {t : State} (e : execRecvTake tile stream u = .next t) : Kept s t := by
  unfold execRecvTake at e
  extract_lets +onlyGivenNames L n at e
  split at e
  · next slot o _ _ =>
    split at e
    · exact kept_of_next e h
    · extract_lets +onlyGivenNames s0 w si sel at e
      have h0 : Kept s s0 := kept_chanTake h ..
      clear_value sel s0
      split at e
      · exact kept_of_next e h0
      · next k ep _ =>
        split at e
        · exact kept_of_next e h0
        · next spill ptr header _ =>
          extract_lets +onlyGivenNames r0 r1 s1 at e
          have hr0 : Kept s r0.1 := kept_scratchTouch h0 ..
          have h1 : Kept s s1 := kept_touchReads hr0 ..
          clear_value s1 r1 r0
          split at e
          · exact kept_of_next e (kept_poisonedRead h1 ..)
          · extract_lets +onlyGivenNames tag bytes size at e
            split at e
            · exact kept_of_next e (kept_refuse h1 ..)
            · split at e
              · exact kept_of_next e (kept_refuse h1 ..)
              · extract_lets +onlyGivenNames after s2 s3 s4 at e
                have h4 : Kept s s4 := kept_modStream (kept_modOp (kept_modEp h1 ..) ..) ..
                clear_value s4
                split at e
                · exact kept_of_next e (kept_finishRecv h4 ..)
                · exact kept_of_next e h4
  · exact kept_of_next e h

theorem kept_execRecvComplete (h : Kept s u) (tile : Fin 128) (stream : Fin 3) (amb : Ambient) {t : State}
    (e : execRecvComplete tile stream amb u = .next t) :
    Kept s t := by
  unfold execRecvComplete at e
  extract_lets +onlyGivenNames L n s0 at e
  have h0 : Kept s s0 := kept_applyAmb h amb
  clear_value s0
  split at e
  · next slot o _ _ =>
    extract_lets +onlyGivenNames ep x r at e
    have hr : Kept s r.1 := kept_scratchTouch h0 ..
    clear_value r x
    split at e
    · exact kept_of_next e h0
    · split at e
      · exact kept_of_next e (kept_poisonedRead hr ..)
      · split at e
        · exact kept_of_next e (kept_refuse hr ..)
        · next t' _ =>
          extract_lets +onlyGivenNames base size who src at e
          clear_value src who
          split at e
          · next he => exact kept_of_next e (kept_accessErr (kept_left he (kept_engineRead hr ..)) ..)
          · next s1 bs he =>
            have h1 := kept_left he (kept_engineRead hr ..)
            split at e
            · next he2 => exact kept_of_next e (kept_finishRecv (kept_left he2 (kept_engineWrite h1 ..)) ..)
            · next he2 => exact kept_of_next e (kept_writeErr (kept_left he2 (kept_engineWrite h1 ..)) ..)
  · exact kept_of_next e h0

theorem kept_cross (h : Kept s u) (slot L : Nat) (e units : Nat) (src : BitVec 12) (x' : Nat) : Kept s (State.cross u slot L e units src x') := by
  unfold State.cross
  grind [kept_raise, kept_stat, kept_modEp]

theorem kept_execBlocked (h : Kept s u) (src : Src) {t : State} (e : execBlocked src u = .next t) : Kept s t := by
  unfold execBlocked at e
  grind [kept_cross, kept_takeChanCtl, kept_tellPeer, kept_reportHead, Kept.foldl]

theorem kept_execSpillReq (h : Kept s u) (src : Src) {t : State} (e : execSpillReq src u = .next t) : Kept s t := by
  unfold execSpillReq at e
  grind [kept_takeChanCtl, kept_modEp]

theorem kept_execSpillEnd (h : Kept s u) (src : Src) {t : State} (e : execSpillEnd src u = .next t) : Kept s t := by
  unfold execSpillEnd at e
  grind [kept_takeChanCtl, kept_modEp]

theorem kept_execBlockedNoticeTimer (h : Kept s u) (tile : Fin 128) (ep : Fin 32) {t : State} (e : execBlockedNoticeTimer tile ep u = .next t) :
    Kept s t := by
  unfold execBlockedNoticeTimer at e
  grind [kept_tellPeer]

theorem kept_execChannelDeadlock (h : Kept s u) (tile : Fin 128) (ep : Fin 32) {t : State} (e : execChannelDeadlock tile ep u = .next t) :
    Kept s t := by
  unfold execChannelDeadlock at e
  grind [kept_jobFault, kept_raise]

theorem kept_execDeadlockTimerStop (h : Kept s u) (tile : Fin 128) (ep : Fin 32) {t : State} (e : execDeadlockTimerStop tile ep u = .next t) :
    Kept s t := by
  unfold execDeadlockTimerStop at e
  grind [kept_modEp]

/-! ### Local tricks -/

theorem kept_addNumeric (h : Kept s u) (slot : Nat) (n : NumStatus) : Kept s (State.addNumeric u slot n) := by
  unfold State.addNumeric
  exact kept_modJob (kept_stat (kept_stat (kept_stat (kept_stat (kept_stat h ..) ..) ..) ..) ..) ..

theorem kept_recordNumeric (h : Kept s u) (L n slot : Nat) (inTrick : Bool) (x' : NumStatus) :
    Kept s (State.recordNumeric u L n slot inTrick x') := by
  unfold State.recordNumeric
  grind [kept_addNumeric, kept_modTrickOf]

theorem kept_execTopen (h : Kept s u) (tile : Fin 128) (stream : Fin 3) {t : State} (e : execTopen tile stream u = .next t) : Kept s t := by
  unfold execTopen at e
  extract_lets L n at e
  split at e
  · next held => cases e; exact kept_tryIssue_no h held
  · next issued =>
    replace issued := kept_tryIssue_go h issued
    grind [kept_refuse, kept_advance1, kept_signalAtIssue, kept_modTrk, kept_nextOpen, kept_modStream]

theorem kept_execTcommit (h : Kept s u) (tile : Fin 128) (stream : Fin 3) {t : State} (e : execTcommit tile stream u = .next t) : Kept s t := by
  unfold execTcommit at e
  extract_lets +onlyGivenNames L n at e
  split at e
  · next held => exact kept_of_next e (kept_tryIssue_no h held)
  · next issued =>
    replace issued := kept_tryIssue_go h issued
    extract_lets +onlyGivenNames pc at e
    split at e
    · exact kept_of_next e (kept_refuse issued ..)
    · split at e
      · exact kept_of_next e (kept_refuse issued ..)
      · split at e
        · exact kept_of_next e (kept_refuse issued ..)
        · exact kept_of_next e (kept_modTrickOf (kept_modStream (kept_enqueue issued ..) ..) ..)

theorem kept_openShare (h : Kept s u) (slot i : Nat) (isPass : Bool) (low : Nat) (mb : BitVec 20) :
    Kept s (State.openShare u slot i isPass low mb) := by
  unfold State.openShare
  grind [kept_modTrk]

theorem kept_modShare (h : Kept s u) (job : Nat) (isPass : Bool) (low mb : Nat) (f : Share → Share) :
    Kept s (State.modShare u job isPass low mb f) := by
  unfold State.modShare
  grind [kept_modTrk]

theorem kept_handOver (h : Kept s u) (L n slot : Nat) : Kept s (State.handOver u L n slot) := by
  unfold State.handOver
  grind [kept_modShare, kept_openShare, kept_nextOpen, kept_dropTrick]

theorem kept_execTcommitComplete (h : Kept s u) (tile : Fin 128) (stream : Fin 3) (logError : Bool) {t : State}
    (e : execTcommitComplete tile stream logError u = .next t) :
    Kept s t := by
  unfold execTcommitComplete at e
  extract_lets +onlyGivenNames L n at e
  split at e
  · next slot i t' _ _ =>
    split at e
    · exact kept_of_next e h
    · split at e
      · exact kept_of_next e (kept_revokeLocal h ..)
      · extract_lets +onlyGivenNames s1 s2 s3 at e
        have h1 : Kept s s1 := kept_ite (kept_handOver h ..) (kept_dropTrick (kept_addNumeric (kept_publish h ..) ..) ..)
        have h3 : Kept s s3 := kept_modStream (kept_finishOp (kept_stat (kept_releaseAll h1 ..) ..) ..) ..
        clear_value s3
        exact kept_of_next e (kept_modStream h3 ..)
  · exact kept_of_next e h

theorem kept_execTrevokeRetry (h : Kept s u) (tile : Fin 128) (stream : Fin 3) {t : State} (e : execTrevokeRetry tile stream u = .next t) :
    Kept s t := by
  unfold execTrevokeRetry at e
  extract_lets +onlyGivenNames L n at e
  split at e
  · next held => exact kept_of_next e (kept_tryIssue_no h held)
  · next issued =>
    replace issued := kept_tryIssue_go h issued
    extract_lets +onlyGivenNames pc at e
    split at e
    · exact kept_of_next e (kept_refuse issued ..)
    · split at e
      · exact kept_of_next e (kept_refuse issued ..)
      · exact kept_of_next e (kept_replay (kept_noteRevoke issued ..) ..)

theorem kept_execTrevokeContinue (h : Kept s u) (tile : Fin 128) (stream : Fin 3) {t : State} (e : execTrevokeContinue tile stream u = .next t) :
    Kept s t := by
  unfold execTrevokeContinue at e
  extract_lets +onlyGivenNames L n at e
  split at e
  · next held => exact kept_of_next e (kept_tryIssue_no h held)
  · next issued =>
    replace issued := kept_tryIssue_go h issued
    extract_lets +onlyGivenNames pc at e
    split at e
    · exact kept_of_next e (kept_refuse issued ..)
    · split at e
      · exact kept_of_next e (kept_refuse issued ..)
      · split at e
        · exact kept_of_next e (kept_refuse issued ..)
        · extract_lets +onlyGivenNames s1 at e
          have h1 : Kept s s1 := kept_dropTrick (kept_noteRevoke issued ..) ..
          exact kept_of_next e (kept_signalAtIssue (kept_advance1 (kept_modTile h1 ..) ..) ..)

theorem kept_execLocalTrickTimeout (h : Kept s u) (slot : Fin 256) {t : State} (e : execLocalTrickTimeout slot u = .next t) : Kept s t := by
  unfold execLocalTrickTimeout at e
  grind [kept_revokeLocal]

theorem kept_execLogCapacityTimeout (h : Kept s u) (slot : Fin 256) {t : State} (e : execLogCapacityTimeout slot u = .next t) : Kept s t := by
  unfold execLogCapacityTimeout at e
  grind [kept_revokeLocal]

/-! ### The DMA engine -/

theorem kept_runAhead (h : Kept s u) (slot L : Nat) (tag : Tag) (w : Nat) (d : DmaDesc) : Kept s (State.runAhead u slot L tag w d) := by
  unfold State.runAhead
  grind [kept_fetchAhead, kept_stat]

theorem kept_dmaTouch (h : Kept s u) (L w : Nat) : Kept s (State.dmaTouch u L w).1 := by
  rw [State.dmaTouch]
  exact kept_mk (kept_scratchTouch (kept_scratchTouch (kept_scratchTouch h ..) ..) ..)

theorem kept_execDma (h : Kept s u) (tile : Fin 128) (stream : Fin 3) {t : State} (e : execDma tile stream u = .next t) : Kept s t := by
  unfold execDma at e
  extract_lets L n at e
  split at e
  · next held => cases e; exact kept_tryIssue_no h held
  · next issued =>
    replace issued := kept_tryIssue_go h issued
    extract_lets +onlyGivenNames x d r fpAcc pins at e
    have touched : Kept s r.1 := kept_fst (kept_dmaTouch issued ..) rfl
    clear_value r
    grind [kept_enqueue, kept_refuse, kept_poisonedRead, kept_runAhead]

theorem kept_dmaValues (h : Kept s u) (w : Who) (d : DmaDesc) (bypass : Bool) (a b : Tensor) : Kept s (State.dmaValues u w d bypass a b).1 := by
  unfold State.dmaValues
  grind [kept_engineRead]

theorem kept_writeStatus (h : Kept s u) (w : Who) (allow : Region → Bool) (addr : Nat) (st : NumStatus) :
    Kept s (State.writeStatus u w allow addr st).1 := by
  unfold State.writeStatus
  grind [kept_engineWrite]

theorem kept_dmaHold (h : Kept s u) (L n : Nat) (f : Op → Bool) : Kept s (State.dmaHold u L n f) := kept_modOp h ..

theorem kept_dmaFailed (h : Kept s u) (L n : Nat) (f : Op → Bool) (r : WriteRes) : Kept s (State.dmaFailed u L n f r) := by
  unfold State.dmaFailed
  grind [kept_dmaHold, kept_writeErr]

theorem kept_dmaMove (h : Kept s u) (slot L n : Nat) (f : Op → Bool) (o : Op) : Kept s (State.dmaMove u slot L n f o) := by
  unfold State.dmaMove
  have touched := kept_dmaTouch h L o.word.toNat
  obtain ⟨q, hq⟩ : ∃ q, q = u.dmaTouch L o.word.toNat := ⟨_, rfl⟩
  rw [← hq] at touched ⊢
  clear hq
  grind [kept_dmaValues, kept_refuse, kept_engineWrite, kept_modOp, kept_dmaFailed]

theorem kept_execDmaTransferStart (h : Kept s u) (tile : Fin 128) (amb : Ambient) {t : State} (e : execDmaTransferStart tile amb u = .next t) :
    Kept s t := by
  unfold execDmaTransferStart at e
  extract_lets L t' at e
  split at e
  · exact kept_of_next e h
  · next slot _ =>
    extract_lets +onlyGivenNames moved at e
    split at e
    · exact kept_of_next e h
    · split at e
      · split at e
        · exact kept_of_next e h
        · split at e
          · exact kept_of_next e h
          · exact kept_of_next e (kept_dmaMove (kept_applyAmb h ..) ..)
      · split at e
        · exact kept_of_next e h
        · split at e
          · exact kept_of_next e h
          · exact kept_of_next e (kept_dmaMove (kept_modTile (kept_applyAmb h ..) ..) ..)

theorem kept_dmaEnd (h : Kept s u) (slot L n : Nat) (o : Op) : Kept s (State.dmaEnd u slot L n o) := by
  unfold State.dmaEnd
  grind [kept_writeStatus, kept_recordNumeric, kept_writeErr, kept_finishOp]

theorem kept_execDmaComplete (h : Kept s u) (tile : Fin 128) {t : State} (e : execDmaComplete tile u = .next t) : Kept s t := by
  unfold execDmaComplete at e
  grind [kept_dmaEnd]

/-! ### The array -/

theorem kept_feedRead (h : Kept s u) (w : Who) (f : Feeder) (base : Int) (west : Bool) (rows : List Nat) (b : Nat) :
    Kept s (State.feedRead u w f base west rows b).1 := by
  unfold State.feedRead
  grind [kept_engineRead]

theorem kept_feederTouch (h : Kept s u) (L w : Nat) : Kept s (State.feederTouch u L w).1 := by
  rw [State.feederTouch]
  exact kept_mk (kept_scratchTouch (kept_scratchTouch h ..) ..)

theorem kept_execMma (h : Kept s u) (tile : Fin 128) (stream : Fin 3) {t : State} (e : execMma tile stream u = .next t) : Kept s t := by
  unfold execMma at e
  extract_lets L n at e
  split at e
  · next held => cases e; exact kept_tryIssue_no h held
  · next issued =>
    replace issued := kept_tryIssue_go h issued
    extract_lets +onlyGivenNames x r f at e
    have touched : Kept s r.1 := kept_fst (kept_feederTouch issued ..) rfl
    clear_value r
    grind [kept_enqueue, kept_refuse, kept_poisonedRead]

theorem left_feedBlock (h : Kept s u) (slot L n : Nat) (o : AccStep) (i kb : Nat) (again fresh : Bool) :
    LeftKept s (State.feedBlock u slot L n o i kb again fresh) := by
  obtain ⟨f, hf⟩ : ∃ f, f = State.feedBlock := ⟨_, rfl⟩
  rw [← hf]
  delta State.feedBlock at hf
  have touched (w : Nat) := kept_feederTouch h L w
  have read (v : State) (hv : Kept s v) (w : Who) (f : Feeder) (base : Int) (west : Bool) (rows : List Nat) (b : Nat) :=
    kept_feedRead hv w f base west rows b
  obtain ⟨feederTouch, e1⟩ : ∃ f, f = State.feederTouch := ⟨_, rfl⟩
  obtain ⟨feedRead, e2⟩ : ∃ f, f = State.feedRead := ⟨_, rfl⟩
  obtain ⟨feedBase, e3⟩ : ∃ f, f = State.feedBase := ⟨_, rfl⟩
  rw [← e1] at touched
  simp only [← e2] at read
  rw [← e1, ← e2, ← e3] at hf
  clear e1 e2 e3
  subst hf
  beta_reduce
  extract_lets +onlyGivenNames w bk who r
  replace touched : Kept s r.1 := touched w
  clear_value r
  split
  · exact left_mk touched
  · extract_lets +onlyGivenNames v fw fn b t bank isInt predicts skip rows cols fed
    have h0 : Kept s v := touched
    clear_value fed cols rows skip predicts isInt bank t fn fw v
    split
    · split
      · next he => exact left_mk (kept_left he (read _ h0 ..))
      · next he =>
        have h1 := kept_left he (read _ h0 ..)
        split
        · next he2 => exact left_mk (kept_left he2 (kept_ite_fst h1 (read _ h1 ..)))
        · next he2 =>
          have h2 := kept_left he2 (kept_ite_fst h1 (read _ h1 ..))
          extract_lets +onlyGivenNames kn zeros rowOf west north start grid c2 r sawZero new history s3 s4 s5
          have h3 : Kept s s3 := kept_modTile h2 ..
          have h4 : Kept s s4 := kept_ite h3 (kept_stat h3 ..)
          have h5 : Kept s s5 := kept_ite (kept_stat h4 ..) h4
          clear_value s5
          exact left_mk (kept_ite (kept_stat h5 ..) h5)
    · exact left_mk h0

theorem kept_feedBlock (h : Kept s u) (slot L n : Nat) (o : AccStep) (i kb : Nat) (again fresh : Bool) :
    Kept s (State.feedBlock u slot L n o i kb again fresh).1 :=
  left_feedBlock h slot L n o i kb again fresh

theorem kept_grantBlock (h : Kept s u) (slot L n : Nat) (o : Op) : Kept s (State.grantBlock u slot L n o) := by
  obtain ⟨f, hf⟩ : ∃ f, f = State.grantBlock := ⟨_, rfl⟩
  rw [← hf]
  delta State.grantBlock at hf
  subst hf
  beta_reduce
  extract_lets +onlyGivenNames w bk first step s1 b fresh
  have h1 : Kept s s1 := kept_ite (kept_modTile h ..) h
  clear_value fresh b s1
  split
  · next he => exact kept_accessErr (kept_left he (kept_feedBlock h1 ..)) ..
  · next he =>
    have h2 := kept_left he (kept_feedBlock h1 ..)
    extract_lets +onlyGivenNames last s3
    have h3 : Kept s s3 := kept_ite (kept_modTile h2 ..) h2
    exact kept_modOp h3 ..

theorem kept_grantAgain (h : Kept s u) (slot L : Nat) (n bk : Nat) : Kept s (State.grantAgain u slot L n bk) := by
  obtain ⟨f, hf⟩ : ∃ f, f = State.grantAgain := ⟨_, rfl⟩
  rw [← hf]
  delta State.grantAgain at hf
  have fed (o : AccStep) (i kb : Nat) (again fresh : Bool) := kept_feedBlock h slot L n o i kb again fresh
  obtain ⟨feedBlock, e1⟩ : ∃ f, f = State.feedBlock := ⟨_, rfl⟩
  simp only [← e1] at fed
  rw [← e1] at hf
  clear e1
  subst hf
  beta_reduce
  extract_lets +onlyGivenNames b
  split
  · exact h
  · next step _ =>
    extract_lets +onlyGivenNames fresh
    split
    · next he => exact kept_accessErr (kept_left he (fed ..)) ..
    · next he =>
      have h1 := kept_left he (fed ..)
      extract_lets +onlyGivenNames last s2 b2
      have h2 : Kept s s2 := kept_modTile h1 ..
      exact kept_ite (kept_modTile h2 ..) h2

theorem kept_meetHeld (h : Kept s u) (e : HeldErr) : Kept s (State.meetHeld u e) := by
  unfold State.meetHeld
  grind [kept_rollback, kept_uncorrected, kept_portDown, kept_raise, kept_revokeLocal, kept_modStack, kept_modHost]

theorem kept_execArrayGrant (h : Kept s u) (tile : Fin 128) (amb : Ambient) {t : State} (e : execArrayGrant tile amb u = .next t) : Kept s t := by
  unfold execArrayGrant at e
  extract_lets +onlyGivenNames L at e
  split at e
  · exact kept_of_next e h
  · next slot _ =>
    split at e
    · exact kept_of_next e h
    · extract_lets +onlyGivenNames s0 refused at e
      have h0 : Kept s s0 := (kept_applyAmb h amb).foldl (fun v x hv => kept_meetHeld hv ..) _
      clear_value refused s0
      split at e
      · exact kept_of_next e (kept_refuse h0 ..)
      · extract_lets +onlyGivenNames ready at e
        split at e
        · exact kept_of_next e (kept_modTile h0 ..)
        · next n t _ =>
          extract_lets +onlyGivenNames s1 at e
          have h1 : Kept s s1 := kept_modTile h0 ..
          clear_value s1
          split at e
          · exact kept_of_next e (kept_grantBlock h1 ..)
          · exact kept_of_next e (kept_grantAgain h1 ..)
          · exact kept_of_next e h0

theorem kept_execMmaComplete (h : Kept s u) (tile : Fin 128) (stream : Fin 3) {t : State} (e : execMmaComplete tile stream u = .next t) :
    Kept s t := by
  unfold execMmaComplete at e
  grind [kept_finishOp]

theorem left_checkSkip (h : Kept s u) (slot L n : Nat) (b : Bank) (c : SkipCheck) :
    LeftKept s (State.checkSkip u slot L n b c) := by
  obtain ⟨f, hf⟩ : ∃ f, f = State.checkSkip := ⟨_, rfl⟩
  rw [← hf]
  delta State.checkSkip at hf
  have touched (w : Nat) := kept_feederTouch h L w
  have read (v : State) (hv : Kept s v) (w : Who) (f : Feeder) (base : Int) (west : Bool) (rows : List Nat) (b : Nat) :=
    kept_feedRead hv w f base west rows b
  obtain ⟨feederTouch, e1⟩ : ∃ f, f = State.feederTouch := ⟨_, rfl⟩
  obtain ⟨feedRead, e2⟩ : ∃ f, f = State.feedRead := ⟨_, rfl⟩
  obtain ⟨feedBase, e3⟩ : ∃ f, f = State.feedBase := ⟨_, rfl⟩
  rw [← e1] at touched
  simp only [← e2] at read
  rw [← e1, ← e2, ← e3] at hf
  clear e1 e2 e3
  subst hf
  beta_reduce
  split
  · exact left_mk h
  · next step _ =>
    extract_lets +onlyGivenNames w who r
    replace touched : Kept s r.1 := touched w
    clear_value r
    split
    · exact left_mk touched
    · extract_lets +onlyGivenNames v fw fn rows
      have h0 : Kept s v := touched
      clear_value v rows fn fw
      split
      · next bw bn _ _ =>
        split
        · next he => exact left_mk (kept_left he (read _ h0 ..))
        · next he =>
          have h1 := kept_left he (read _ h0 ..)
          split
          · next he2 => exact left_mk (kept_left he2 (read _ h1 ..))
          · next he2 => exact left_mk (kept_left he2 (read _ h1 ..))
      · exact left_mk h0

theorem kept_checkSkip (h : Kept s u) (slot L n : Nat) (b : Bank) (c : SkipCheck) : Kept s (State.checkSkip u slot L n b c).1 :=
  left_checkSkip h slot L n b c

theorem kept_checkAll (h : Kept s u) (slot L n : Nat) (b : Bank) (cs : List SkipCheck) : Kept s (State.checkAll slot L n b cs u).1 := by
  induction cs generalizing u with
  | nil => exact h
  | cons c cs ih =>
    unfold State.checkAll
    grind [kept_checkSkip, kept_modTile, kept_stat]

theorem kept_execSparsityCheck (h : Kept s u) (tile : Fin 128) (bank : Fin 4) {t : State} (e : execSparsityCheck tile bank u = .next t) :
    Kept s t := by
  unfold execSparsityCheck at e
  extract_lets +onlyGivenNames L bk b at e
  split at e
  · next slot c r _ _ =>
    split at e
    · exact kept_of_next e h
    · split at e
      · next he => exact kept_of_next e (kept_accessErr (kept_left he (kept_checkSkip h ..)) ..)
      · next he =>
        have h1 := kept_left he (kept_checkSkip h ..)
        extract_lets +onlyGivenNames run at e
        clear_value run
        split at e
        · next he2 => exact kept_of_next e (kept_accessErr (kept_left he2 (kept_checkAll h1 ..)) ..)
        · next he2 =>
          have h2 := kept_left he2 (kept_checkAll h1 ..)
          split at e
          · exact kept_of_next e (kept_modTile h2 ..)
          · exact kept_of_next e (kept_modTile h2 ..)
  · exact kept_of_next e h

theorem kept_execBankComplete (h : Kept s u) (tile : Fin 128) (bank : Fin 4) {t : State} (e : execBankComplete tile bank u = .next t) :
    Kept s t := by
  unfold execBankComplete at e
  grind [kept_modTile]

theorem kept_execDrainStart (h : Kept s u) (tile : Fin 128) {t : State} (e : execDrainStart tile u = .next t) : Kept s t := by
  unfold execDrainStart at e
  grind [kept_modTile]

theorem kept_execDrainEnd (h : Kept s u) (tile : Fin 128) {t : State} (e : execDrainEnd tile u = .next t) : Kept s t := by
  unfold execDrainEnd at e
  grind [kept_modTile]

theorem kept_writeTile (h : Kept s u) (k t : Nat) (f : Tile → Tile) : Kept s (State.writeTile u k t f) := by
  unfold State.writeTile
  grind [kept_modTileAt, kept_modHost]

theorem kept_execArrCtlWrite (h : Kept s u) (stack : Fin 4) (phys : Fin 34) (value : BitVec 32) {t : State}
    (e : execArrCtlWrite stack phys value u = .next t) :
    Kept s t := by
  unfold execArrCtlWrite at e
  grind [kept_fromHost, kept_writeTile]

/-! ### The Meld engines -/

theorem kept_modMctx (h : Kept s u) (e c : Nat) (f : MeldCtx → MeldCtx) : Kept s (State.modMctx u e c f) := kept_modMeld h ..

theorem kept_meldCount (h : Kept s u) (e i n : Nat) : Kept s (State.meldCount u e i n) := kept_modMeld h ..

theorem kept_meldEvent (h : Kept s u) (code e : Nat) (job ctx : Nat) (shard reason step : Nat) :
    Kept s (State.meldEvent u code e job ctx shard reason step) := kept_raise h ..

theorem kept_meldMismatch (h : Kept s u) (e : Nat) (c : MeldCtx) (shard reason : Nat) : Kept s (State.meldMismatch u e c shard reason) := by
  unfold State.meldMismatch
  grind [kept_jobFault, kept_meldEvent]

theorem kept_meldOutside (h : Kept s u) (e : Nat) (c : MeldCtx) (v : Int) : Kept s (State.meldOutside u e c v) := by
  unfold State.meldOutside
  grind [kept_jobFault, kept_raise]

theorem kept_meldSend (h : Kept s u) (e : Nat) (p : Packet) : Kept s (State.meldSend u e p) := by
  unfold State.meldSend
  grind [kept_statJob, kept_originate, kept_meldCount]

theorem kept_meldCtl (h : Kept s u) (e : Nat) (c : MeldCtx) (dst : BitVec 12) (number version : Nat) (shard op : Nat)
    (fields : List (Nat × Nat × Nat)) :
    Kept s (State.meldCtl u e c dst number version shard op fields) := by
  unfold State.meldCtl
  grind [kept_meldSend]

theorem kept_meldDataTo (h : Kept s u) (e : Nat) (c : MeldCtx) (dst : BitVec 12) (number shard : Nat) (first n : Nat) (enc total : Nat)
    (last poison : Bool) (bs : List Byte) :
    Kept s (State.meldDataTo u e c dst number shard first n enc total last poison bs) := by
  unfold State.meldDataTo
  grind [kept_meldSend]

theorem kept_meldRead (h : Kept s u) (slot : Nat) (vs : List Int) : Kept s (State.meldRead u slot vs).1 := by
  unfold State.meldRead
  grind [kept_touchReads]

theorem kept_meldWrite (h : Kept s u) (slot v : Nat) (bs : List Byte) (poison : Bool) : Kept s (State.meldWrite u slot v bs poison).1 := by
  unfold State.meldWrite
  grind [kept_setPoison, kept_publish, Kept.foldl]

theorem kept_freeBytes (h : Kept s u) (n : Nat) : Kept s (State.freeBytes u n).1 := kept_with h

theorem kept_modFiring (h : Kept s u) (e c n : Nat) (g : Firing → Firing) : Kept s (State.modFiring u e c n g) := kept_modMeld h ..

theorem kept_haveFiring (h : Kept s u) (e c n : Nat) : Kept s (State.haveFiring u e c n) := by
  unfold State.haveFiring
  grind [kept_modMeld]

theorem kept_modSlab (h : Kept s u) (e c : Nat) (n sh k : Nat) (g : Slab → Slab) : Kept s (State.modSlab u e c n sh k g) := kept_modFiring h ..

theorem kept_poisonSlab (h : Kept s u) (e c : Nat) (n sh k : Nat) : Kept s (State.poisonSlab u e c n sh k) := by
  unfold State.poisonSlab
  grind [kept_modSlab, kept_meldEvent]

theorem kept_sendSums (h : Kept s u) (e : Nat) (c : MeldCtx) (dst : BitVec 12) (number : Nat) (x : Slab) (first : Nat)
    (gs : List (List W320)) (i : Nat) :
    Kept s (sendSums e c dst number x first gs i u) := by
  induction gs generalizing u i with
  | nil => exact h
  | cons g gs ih => exact ih (kept_meldDataTo h ..) _

theorem kept_sendPartial (h : Kept s u) (e : Nat) (c : MeldCtx) (number : Nat) (x' : Slab) : Kept s (State.sendPartial u e c number x') := by
  unfold State.sendPartial
  grind [kept_sendSums, kept_meldDataTo]

theorem kept_sendRuns (h : Kept s u) (e : Nat) (c : MeldCtx) (dst : BitVec 12) (number shard first stop : Nat) (poison : Bool)
    (rs : List (Nat × List (List Byte))) :
    Kept s (sendRuns e c dst number shard first stop poison rs u) := by
  induction rs generalizing u with
  | nil => exact h
  | cons r rs ih => exact ih (kept_meldDataTo h ..)

theorem kept_sendUnits (h : Kept s u) (e : Nat) (c : MeldCtx) (dst : BitVec 12) (number : Nat) (x' : Slab) :
    Kept s (State.sendUnits u e c dst number x') := kept_sendRuns h ..

theorem kept_sendSsqSource (h : Kept s u) (e : Nat) (c : MeldCtx) (number : Nat) (x' : MeldSrc) (v : BitVec 48) :
    Kept s (State.sendSsqSource u e c number x' v) := kept_meldCtl h ..

theorem kept_sendSsqShard (h : Kept s u) (e : Nat) (c : MeldCtx) (number shard : Nat) (v : BitVec 48) :
    Kept s (State.sendSsqShard u e c number shard v) := kept_meldCtl h ..

theorem kept_feedNoise (h : Kept s u) (e : Nat) (c : MeldCtx) (number : Nat) (g : Noise → Noise) : Kept s (State.feedNoise u e c number g) :=
  kept_modMeld h ..

theorem kept_fillUnits (h : Kept s u) (x : Tbl (List Byte)) (size : Nat) (is : List Nat) : Kept s (fillUnits x size is u).1 := by
  induction is generalizing u with
  | nil => exact h
  | cons i is ih =>
    unfold fillUnits
    grind [kept_freeBytes]

theorem kept_shardDone (h : Kept s u) (e cs : Nat) (n sh : Nat) : Kept s (State.shardDone u e cs n sh) := by
  unfold State.shardDone
  grind [kept_sendSsqShard]

theorem kept_slabResult (h : Kept s u) (e cs : Nat) (slot n : Nat) (sh k : Nat) : Kept s (State.slabResult u e cs slot n sh k) := by
  unfold State.slabResult
  extract_lets +onlyGivenNames c
  split
  · exact h
  · next f _ =>
    split
    · exact h
    · extract_lets +onlyGivenNames b y s1 w
      have hb : Kept s b.1 := kept_fillUnits h ..
      have h1 : Kept s s1 := kept_modSlab hb ..
      have hw : Kept s w.1 := kept_ite_fst (kept_meldWrite h1 ..) h1
      clear_value w
      obtain ⟨s2, _ | v⟩ := w
      · exact kept_shardDone (kept_ite (hw.foldl (fun v c hv => kept_sendUnits hv ..) _) hw) ..
      · exact kept_meldOutside hw ..

theorem kept_rootSlab (h : Kept s u) (e cs : Nat) (slot n : Nat) (x' : Slab) : Kept s (State.rootSlab u e cs slot n x') := by
  unfold State.rootSlab
  grind [kept_modSlab, kept_modFiring, kept_meldMismatch, kept_slabResult, kept_stat, Kept.foldl]

theorem kept_grantFiring (h : Kept s u) (e cs : Nat) (f : Firing) : Kept s (State.grantFiring u e cs f) := by
  unfold State.grantFiring
  grind [kept_modFiring, kept_meldCtl, Kept.foldl]

theorem kept_grantAll (h : Kept s u) (e cs : Nat) : Kept s (State.grantAll u e cs) := by
  unfold State.grantAll
  grind [kept_grantFiring, Kept.foldl]

theorem kept_slabStep (h : Kept s u) (e cs : Nat) (slot n : Nat) (sh k : Nat) : Kept s (State.slabStep u e cs slot n sh k) := by
  unfold State.slabStep
  extract_lets +onlyGivenNames c
  split
  · exact h
  · split
    · exact h
    · extract_lets +onlyGivenNames w
      split
      · exact h
      · split
        · split
          · exact h
          · split
            · exact kept_rootSlab h ..
            · exact kept_ite (kept_sendPartial (kept_modSlab h ..) ..) h
        · split
          · split
            · exact kept_ite (kept_modSlab h ..) h
            · split
              · exact kept_modSlab h ..
              · exact kept_ite (kept_sendUnits (kept_modSlab h ..) ..) h
          · exact kept_ite (kept_slabResult h ..) h

theorem kept_windowPass (h : Kept s u) (e cs slot : Nat) : Kept s (State.windowPass u e cs slot) := by
  unfold State.windowPass
  grind [kept_grantAll, kept_slabStep, Kept.foldl]

theorem kept_meldLoop (h : Kept s u) (e cs slot k : Nat) : Kept s (meldLoop e cs slot k u) := by
  induction k generalizing u with
  | zero => exact h
  | succ k ih =>
    unfold meldLoop
    grind [kept_windowPass]

theorem kept_meldProgress (h : Kept s u) (e cs slot : Nat) : Kept s (State.meldProgress u e cs slot) := by
  unfold State.meldProgress
  grind [kept_meldLoop, Kept.foldl]

theorem kept_readSource (h : Kept s u) (slot version : Nat) (c : MeldCtx) (x' : MeldSrc) (sh k : Nat) :
    Kept s (State.readSource u slot version c x' sh k).1 := by
  unfold State.readSource
  grind [kept_meldRead]

theorem kept_readAll (h : Kept s u) (e cs slot n version : Nat) (l : List (MeldSrc × Nat × Nat)) :
    Kept s (readAll e cs slot n version l u).1 := by
  induction l generalizing u with
  | nil => exact h
  | cons x l ih =>
    unfold readAll
    grind [kept_readSource, kept_modSlab, kept_poisonSlab, kept_meldCount]

theorem kept_ssqAll (h : Kept s u) (e cs slot n version : Nat) (l : List MeldSrc) : Kept s (ssqAll e cs slot n version l u) := by
  induction l generalizing u with
  | nil => exact h
  | cons x l ih =>
    unfold ssqAll
    grind [kept_sendSsqSource]

theorem kept_jobRef (h : Kept s u) (slot version : Nat) (up : Bool) : Kept s (State.jobRef u slot version up) := by
  unfold State.jobRef
  grind [kept_jobFault, kept_modJob, kept_raise]

theorem kept_modKeep (h : Kept s u) (k : Nat) (f : Keep → Keep) : Kept s (State.modKeep u k f) := kept_modDealer h ..

theorem kept_evict (h : Kept s u) (slot k : Nat) : Kept s (State.evict u slot k) := by
  unfold State.evict
  grind [kept_modKeep, kept_jobRef]

theorem kept_gatherStart (h : Kept s u) (slot k : Nat) (version : Byte) : Kept s (State.gatherStart u slot k version) := by
  unfold State.gatherStart
  grind [kept_modKeep, kept_jobRef, kept_evict, Kept.foldl]

theorem kept_gatherEnd (h : Kept s u) (k : Option Nat) : Kept s (State.gatherEnd u k) := by
  unfold State.gatherEnd
  grind [kept_modKeep]

theorem kept_copyOwn (h : Kept s u) (e cs slot n : Nat) (l : List (Nat × List (List Byte))) (x : Slab) :
    Kept s (copyOwn e cs slot n l x u).1 := by
  induction l generalizing u with
  | nil => exact h
  | cons r l ih =>
    unfold copyOwn
    grind [kept_meldWrite]

theorem kept_copyOwns (h : Kept s u) (e cs slot n : Nat) (l : List Slab) : Kept s (copyOwns e cs slot n l u).1 := by
  induction l generalizing u with
  | nil => exact h
  | cons x l ih =>
    unfold copyOwns
    grind [kept_copyOwn]

theorem kept_emptyShards (h : Kept s u) (e : Nat) (c : MeldCtx) (n : Nat) : Kept s (State.emptyShards u e c n) := by
  unfold State.emptyShards
  grind [kept_sendSsqShard, Kept.foldl]

theorem kept_startFiring (h : Kept s u) (e cs : Nat) (slot n : Nat) : Kept s (State.startFiring u e cs slot n) := by
  unfold State.startFiring
  extract_lets +onlyGivenNames c srcs parts order vrel version home s1 s2 s3 mine work
  have h1 : Kept s s1 := kept_modMctx (kept_modFiring (kept_haveFiring h ..) ..) ..
  clear_value home
  have h2 : Kept s s2 := by
    unfold s2
    split
    · exact kept_gatherStart h1 ..
    · exact h1
  have h3 : Kept s s3 := kept_ite (kept_jobRef h2 ..) h2
  clear_value s3
  split
  · exact h3
  · split
    · next he => exact kept_meldOutside (kept_left he (kept_readAll h3 ..)) ..
    · next he =>
      have h4 := kept_left he (kept_readAll h3 ..)
      split
      · next he2 => exact kept_meldOutside (kept_left he2 (kept_ite_fst (kept_copyOwns h4 ..) h4)) ..
      · next he2 =>
        have h5 := kept_left he2 (kept_ite_fst (kept_copyOwns h4 ..) h4)
        extract_lets +onlyGivenNames s6
        have h6 : Kept s s6 := kept_emptyShards (kept_ite (kept_ssqAll h5 ..) h5) ..
        exact kept_meldProgress (h6.foldl (fun v sh hv => kept_meldCtl hv ..) _) ..

theorem kept_relayLoop (h : Kept s u) (e cs slot k : Nat) : Kept s (relayLoop e cs slot k u) := by
  induction k generalizing u with
  | zero => exact h
  | succ k ih =>
    unfold relayLoop
    grind [kept_startFiring]

theorem kept_relayStart (h : Kept s u) (e cs slot : Nat) : Kept s (State.relayStart u e cs slot) := kept_relayLoop h ..

theorem kept_meldStepStart (h : Kept s u) (slot : Nat) : Kept s (State.meldStepStart u slot) := by
  unfold State.meldStepStart
  grind [kept_relayStart, Kept.foldl]

theorem kept_execMeldTrigger (h : Kept s u) (engine : Fin 2) (slot : Fin 512) (amb : Ambient) {t : State}
    (e : execMeldTrigger engine slot amb u = .next t) :
    Kept s t := by
  unfold execMeldTrigger at e
  grind [kept_startFiring, kept_relayStart, kept_applyAmb]

theorem kept_srcEngine (h : Kept s u) (a : Src) : Kept s (State.srcEngine u a).2 := by
  unfold State.srcEngine
  grind [kept_nextOpen]

theorem kept_takeMeld (h : Kept s u) (src : Src) (want : Packet → Bool) (f : State → Packet → Nat → Nat → Nat → State)
    (hf : ∀ x0 x1 x2 x3 x4, Kept s x0 → Kept s (f x0 x1 x2 x3 x4)) :
    Kept s (State.takeMeld u src want f) := by
  unfold State.takeMeld
  split
  · exact h
  · next p s1 taken =>
    have h1 := kept_takePacket h _ _ taken
    split
    · have engine := kept_srcEngine h1 src
      generalize s1.srcEngine src = q at engine ⊢
      exact kept_meldEvent (kept_meldCount (kept_meldCount engine ..) ..) ..
    · exact kept_meldEvent (kept_meldCount (kept_meldCount h1 ..) ..) ..
    · exact kept_ite h (kept_modMeld (kept_meldCount h1 ..) ..)
    · exact hf _ _ _ _ _ (kept_meldCount h1 ..)

theorem kept_applyJoin (h : Kept s u) (p : Packet) (e cs n : Nat) : Kept s (State.applyJoin u p e cs n) := by
  unfold State.applyJoin
  grind [kept_modFiring, kept_meldMismatch, kept_sendUnits, kept_meldProgress, kept_relayStart, kept_haveFiring, Kept.foldl]

theorem kept_execJoin (h : Kept s u) (src : Src) {t : State} (e : execJoin src u = .next t) : Kept s t := by
  unfold execJoin at e
  grind [kept_takeMeld, kept_applyJoin]

theorem kept_applyGrant (h : Kept s u) (p : Packet) (e cs n : Nat) : Kept s (State.applyGrant u p e cs n) := by
  unfold State.applyGrant
  grind [kept_modFiring, kept_meldMismatch, kept_meldProgress]

theorem kept_execGrant (h : Kept s u) (src : Src) {t : State} (e : execGrant src u = .next t) : Kept s t := by
  unfold execGrant at e
  grind [kept_takeMeld, kept_applyGrant]

theorem kept_answerDemand (h : Kept s u) (e cs : Nat) (slot num version : Nat) (dst : BitVec 12) (srcs : List MeldSrc) (sh : Nat)
    (a : List Nat) :
    Kept s (answerDemand e cs slot num version dst srcs sh a u).1 := by
  induction a generalizing u with
  | nil => exact h
  | cons k r ih =>
    unfold answerDemand
    extract_lets +onlyGivenNames c read
    have h1 : Kept s read.1 := by
      refine Kept.foldlFst h (fun a x ha => ?_) _
      obtain ⟨v, y, _ | err⟩ := a
      · have k := kept_readSource ha slot version c x sh k
        dsimp only
        split
        · next he => exact kept_left he k
        · next he => exact kept_left he k
        · next he => exact kept_left he k
      · exact ha
    clear_value read
    obtain ⟨v, y, _ | err⟩ := read
    · have hb := kept_fillUnits h1 y.bytes c.fmt.unitBytes (List.range (c.slabUnits sh k))
      exact ih (kept_sendUnits (kept_ite (kept_meldEvent hb ..) hb) ..)
    · exact h1

theorem kept_applyDemand (h : Kept s u) (p : Packet) (e cs n : Nat) : Kept s (State.applyDemand u p e cs n) := by
  unfold State.applyDemand
  grind [kept_modFiring, kept_meldMismatch, kept_answerDemand, kept_meldSend, kept_relayStart, kept_haveFiring, kept_meldOutside]

theorem kept_execDemand (h : Kept s u) (src : Src) (amb : Ambient) {t : State} (e : execDemand src amb u = .next t) : Kept s t := by
  unfold execDemand at e
  grind [kept_takeMeld, kept_applyDemand, kept_applyAmb]

theorem kept_permuted (h : Kept s u) (e cs : Nat) (slot num : Nat) (sh k i : Nat) (poison : Bool) (us : List (List Byte)) :
    Kept s (State.permuted u e cs slot num sh k i poison us) := by
  unfold State.permuted
  grind [kept_modSlab, kept_meldWrite, kept_meldMismatch, kept_meldOutside]

theorem kept_applyMeldData (h : Kept s u) (p : Packet) (e cs slot : Nat) : Kept s (State.applyMeldData u p e cs slot) := by
  unfold State.applyMeldData
  grind [kept_modSlab, kept_meldMismatch, kept_slabResult, kept_permuted, kept_meldCount, kept_meldProgress, kept_poisonSlab]

theorem kept_execMeldData (h : Kept s u) (src : Src) {t : State} (e : execMeldData src u = .next t) : Kept s t := by
  unfold execMeldData at e
  grind [kept_takeMeld, kept_applyMeldData]

theorem kept_applySsqSource (h : Kept s u) (p : Packet) (e cs : Nat) : Kept s (State.applySsqSource u p e cs) := kept_feedNoise h ..

theorem kept_execSsqSource (h : Kept s u) (src : Src) {t : State} (e : execSsqSource src u = .next t) : Kept s t := by
  unfold execSsqSource at e
  grind [kept_takeMeld, kept_applySsqSource]

theorem kept_applySsqShard (h : Kept s u) (p : Packet) (e cs : Nat) : Kept s (State.applySsqShard u p e cs) := kept_feedNoise h ..

theorem kept_execSsqShard (h : Kept s u) (src : Src) {t : State} (e : execSsqShard src u = .next t) : Kept s t := by
  unfold execSsqShard at e
  grind [kept_takeMeld, kept_applySsqShard]

theorem kept_applyDeferred (h : Kept s u) (p : Packet) : Kept s (State.applyDeferred u p) := by
  unfold State.applyDeferred
  grind [kept_applyJoin, kept_meldCount, kept_applySsqSource, kept_applyDemand, kept_meldEvent, kept_applySsqShard, kept_applyGrant, kept_modMeld]

theorem kept_dropFirings (h : Kept s u) (slot : Nat) : Kept s (State.dropFirings u slot) := by
  unfold State.dropFirings
  grind [kept_jobRef, kept_modMeld, Kept.foldl]

theorem kept_meldCommitted (h : Kept s u) (slot : Nat) : Kept s (State.meldCommitted u slot) := by
  unfold State.meldCommitted
  grind [kept_applyDeferred, kept_dropFirings, kept_modMeld, Kept.foldl]

theorem kept_meldRevoke (h : Kept s u) (slot : Nat) : Kept s (State.meldRevoke u slot) := by
  unfold State.meldRevoke
  grind [kept_evict, kept_dropFirings, kept_modMeld, Kept.foldl]

theorem kept_copyBounce (h : Kept s u) (e cs slot : Nat) (l : List Slab) : Kept s (copyBounce e cs slot l u).1 := by
  induction l generalizing u with
  | nil => exact h
  | cons x l ih =>
    unfold copyBounce
    grind [kept_meldRead, kept_meldWrite]

theorem kept_execMeldFiringEnd (h : Kept s u) (engine : Fin 2) (slot : Fin 512) {t : State} (e : execMeldFiringEnd engine slot u = .next t) :
    Kept s t := by
  unfold execMeldFiringEnd at e
  extract_lets +onlyGivenNames en cs c at e
  split at e
  · next n f _ _ =>
    extract_lets +onlyGivenNames roots at e
    split at e
    · next he => exact kept_of_next e (kept_meldOutside (kept_left he (kept_ite_fst (kept_copyBounce h ..) h)) ..)
    · next s1 he =>
      have h1 := kept_left he (kept_ite_fst (kept_copyBounce h ..) h)
      extract_lets +onlyGivenNames tracked at e
      split at e
      · next he2 => exact kept_of_next e (kept_meldOutside (kept_left he2 (kept_ite_fst (kept_meldWrite h1 ..) h1)) ..)
      · next s2 he2 =>
        have h2 := kept_left he2 (kept_ite_fst (kept_meldWrite h1 ..) h1)
        extract_lets +onlyGivenNames s3 s4 s5 s6 s7 at e
        have h3 : Kept s s3 := kept_ite (kept_addNumeric h2 ..) h2
        have h4 : Kept s s4 := by
          unfold s4
          split
          · exact kept_jobRef h3 ..
          · exact h3
        have h6 : Kept s s6 := kept_modMeld (kept_modMctx (kept_stat (kept_gatherEnd h4 ..) ..) ..) ..
        have h7 : Kept s s7 := by
          unfold s7
          cases hs : s6.signalObj n c.doneObj 1 1 with
          | none => exact h6
          | some v => exact kept_signalObj h6 _ _ _ _ hs
        clear_value s7
        exact kept_of_next e (kept_relayStart h7 ..)
  · exact kept_of_next e h

theorem kept_evictStale (h : Kept s u) (slot : Nat) : Kept s (State.evictStale u slot) := by
  unfold State.evictStale
  grind [kept_evict, Kept.foldl]

theorem kept_execKeepRecipeFiring (h : Kept s u) (entry : Fin 128) (version : BitVec 8) (amb : Ambient) {t : State}
    (e : execKeepRecipeFiring entry version amb u = .next t) :
    Kept s t := by
  unfold execKeepRecipeFiring at e
  extract_lets +onlyGivenNames k x at e
  split at e
  · next n en cs _ _ =>
    extract_lets +onlyGivenNames c at e
    split at e
    · exact kept_of_next e h
    · extract_lets +onlyGivenNames s0 s3 vrel num parts order own s4 work at e
      have h3 : Kept s s3 := kept_gatherStart (kept_applyAmb h amb) ..
      have h4 : Kept s s4 := kept_modMctx (kept_modFiring (kept_haveFiring h3 ..) ..) ..
      clear_value s4 s3
      split at e
      · exact kept_of_next e h3
      · have read (v : Bool) := kept_ite (c := v = true) (kept_jobRef h4 n version.toNat true) h4
        split at e
        · next he => exact kept_of_next e (kept_meldOutside (kept_left he (kept_readAll (read _) ..)) ..)
        · next he =>
          have h5 := kept_left he (kept_readAll (read _) ..)
          exact kept_of_next e ((h5.foldl (fun v y hv => kept_slabResult hv ..) own).foldl (fun v sh hv => kept_meldCtl hv ..) _)
  · exact kept_of_next e h

theorem kept_loadMeld (h : Kept s u) (slot : Nat) (m : MeldCfg) {v : State} (e : State.loadMeld u slot m = some v) : Kept s v := by
  unfold State.loadMeld at e
  grind [kept_modMeld, Kept.foldl]

theorem kept_loadMelds (h : Kept s u) (slot : Nat) (ms : List MeldCfg) : Kept s (loadMelds slot ms u).1 := by
  induction ms generalizing u with
  | nil => exact h
  | cons m ms ih =>
    unfold loadMelds
    grind [kept_loadMeld, kept_modMeld]

theorem kept_meldClear (h : Kept s u) (e : Nat) : Kept s (State.meldClear u e) := kept_modMeld h ..

theorem kept_execMldCntClr (h : Kept s u) (engine : Fin 2) {t : State} (e : execMldCntClr engine u = .next t) : Kept s t := by
  unfold execMldCntClr at e
  grind [kept_fromHost, kept_meldClear]

theorem kept_meldReject (h : Kept s u) (e : Nat) : Kept s (State.meldReject u e) := kept_modMeld h ..

theorem kept_glbReject (h : Kept s u) : Kept s (State.glbReject u) := kept_modHost h ..

theorem kept_meldTake (h : Kept s u) (e : Nat) (m : Meld) : Kept s (State.meldTake u e m) := by
  unfold State.meldTake
  grind [kept_modMeld]

theorem kept_meldEntryWrite (h : Kept s u) (e off : Nat) (v : Dword) (byDealer : Bool) : Kept s (State.meldEntryWrite u e off v byDealer) := by
  unfold State.meldEntryWrite
  grind [kept_glbReject, kept_meldTake, kept_meldReject, kept_modMeld]

theorem kept_execMldEntryWrite (h : Kept s u) (engine : Fin 2) (offset : BitVec 16) (value : BitVec 64) (byDealer : Bool) {t : State}
    (e : execMldEntryWrite engine offset value byDealer u = .next t) :
    Kept s t := by
  unfold execMldEntryWrite at e
  grind [kept_fromHost, kept_meldEntryWrite]

/-! ### Ends of steps, and deck tricks -/

theorem kept_clearNoise (h : Kept s u) (job e : Nat) : Kept s (State.clearNoise u job e) := by
  unfold State.clearNoise
  grind [kept_meldEvent, kept_modMeld, Kept.foldl]

theorem kept_latchPage (h : Kept s u) (slot attempt : Nat) : Kept s (State.latchPage u slot attempt) := by
  unfold State.latchPage
  grind [kept_modJob, kept_clearNoise, kept_modTile, Kept.foldl]

theorem kept_completeStep (h : Kept s u) (slot : Nat) : Kept s (State.completeStep u slot) := by
  unfold State.completeStep
  grind [kept_unreserve, kept_completeDesc, kept_modJob]

theorem kept_writePage (h : Kept s u) (n : Nat) : Kept s (State.writePage u n) := by
  unfold State.writePage
  grind [kept_completeStep, kept_windowWrite, kept_modJob, kept_raise]

theorem kept_execStatsPageWritten (h : Kept s u) (slot : Fin 16) {t : State} (e : execStatsPageWritten slot u = .next t) : Kept s t := by
  unfold execStatsPageWritten at e
  grind [kept_writePage]

theorem kept_syncReset (h : Kept s u) (slot : Nat) : Kept s (State.syncReset u slot) := by
  unfold State.syncReset
  grind [kept_modTile, kept_with, Kept.foldl]

theorem kept_versionReset (h : Kept s u) (slot : Nat) : Kept s (State.versionReset u slot) := kept_modJob h ..

theorem kept_phaseRestart (h : Kept s u) (slot : Nat) : Kept s (State.phaseRestart u slot) := kept_modJob h ..

theorem kept_modCoord (h : Kept s u) (job : Nat) (k : TrickKey) (f : Coord → Coord) : Kept s (State.modCoord u job k f) := kept_modTrk h ..

theorem kept_dropCoord (h : Kept s u) (job : Nat) (k : TrickKey) : Kept s (State.dropCoord u job k) := kept_modTrk h ..

theorem kept_modKeyShare (h : Kept s u) (job : Nat) (k : TrickKey) (f : Share → Share) : Kept s (State.modKeyShare u job k f) := by
  unfold State.modKeyShare
  grind [kept_modTrk]

theorem kept_dropShare (h : Kept s u) (job : Nat) (k : TrickKey) : Kept s (State.dropShare u job k) := kept_modTrk h ..

theorem kept_markShare (h : Kept s u) (slot : Nat) (k : TrickKey) : Kept s (State.markShare u slot k) := by
  unfold State.markShare
  grind [kept_modTrk]

theorem kept_haveShare (h : Kept s u) (slot : Nat) (k : TrickKey) : Kept s (State.haveShare u slot k) := by
  unfold State.haveShare
  grind [kept_openShare, kept_nextOpen]

theorem kept_tellCoord (h : Kept s u) (slot : Nat) (k : TrickKey) (attempt : BitVec 8) (msg cause : Nat) :
    Kept s (State.tellCoord u slot k attempt msg cause) := kept_originate h ..

theorem kept_tellMembers (h : Kept s u) (ps : List (BitVec 12)) (job : Nat) (k : TrickKey) (attempt : BitVec 8) (msg cause : Nat)
    (origin : BitVec 12) :
    Kept s (State.tellMembers u ps job k attempt msg cause origin) := by
  unfold State.tellMembers
  grind [kept_originate, Kept.foldl]

theorem kept_haveCoord (h : Kept s u) (slot : Nat) (k : TrickKey) : Kept s (State.haveCoord u slot k) := by
  unfold State.haveCoord
  grind [kept_modTrk]

theorem kept_startPrepare (h : Kept s u) (slot : Nat) (k : TrickKey) : Kept s (State.startPrepare u slot k) := by
  unfold State.startPrepare
  grind [kept_haveCoord, kept_modCoord]

theorem kept_answerShare (h : Kept s u) (slot : Nat) (k : TrickKey) (failed : Bool) : Kept s (State.answerShare u slot k failed) := by
  unfold State.answerShare
  grind [kept_haveShare, kept_tellCoord, kept_startPrepare, kept_modKeyShare]

theorem kept_execShareReady (h : Kept s u) (slot : Fin 16) (mb : Option (BitVec 20)) (logError : Bool) {t : State}
    (e : execShareReady slot mb logError u = .next t) :
    Kept s t := by
  unfold execShareReady at e
  grind [kept_modJob, kept_answerShare]

theorem kept_onTrick (h : Kept s u) (src : Src) (msg : Nat) (stay : Packet → Nat → Bool) (f : State → Packet → Nat → State)
    (hf : ∀ x0 x1 x2, Kept s x0 → Kept s (f x0 x1 x2)) :
    Kept s (State.onTrick u src msg stay f) := by
  unfold State.onTrick
  grind [kept_noDestination, kept_takePacket]

theorem kept_coordRevoke (h : Kept s u) (job : Nat) (k : TrickKey) (cause : Nat) (origin : BitVec 12) :
    Kept s (State.coordRevoke u job k cause origin) := by
  unfold State.coordRevoke
  grind [kept_jobFault, kept_tellMembers, kept_raise, kept_modCoord]

theorem kept_coordReady (h : Kept s u) (p : Packet) (n : Nat) : Kept s (State.coordReady u p n) := by
  unfold State.coordReady
  grind [kept_haveCoord, kept_tellMembers, kept_modCoord, kept_coordRevoke]

theorem kept_execTrickReady (h : Kept s u) (src : Src) {t : State} (e : execTrickReady src u = .next t) : Kept s t := by
  unfold execTrickReady at e
  grind [kept_onTrick, kept_coordReady]

theorem kept_coordRefuse (h : Kept s u) (p : Packet) (n : Nat) : Kept s (State.coordRefuse u p n) := by
  unfold State.coordRefuse
  grind [kept_haveCoord, kept_tellMembers, kept_dropCoord, kept_coordRevoke]

theorem kept_execTrickRefuse (h : Kept s u) (src : Src) {t : State} (e : execTrickRefuse src u = .next t) : Kept s t := by
  unfold execTrickRefuse at e
  grind [kept_coordRefuse, kept_onTrick]

theorem kept_execPrepareTimeout (h : Kept s u) (entry : Fin 64) {t : State} (e : execPrepareTimeout entry u = .next t) : Kept s t := by
  unfold execPrepareTimeout at e
  grind [kept_coordRevoke]

theorem kept_commitStep (h : Kept s u) (slot : Nat) (r : StepRun) (x' : Share) : Kept s (State.commitStep u slot r x') := by
  unfold State.commitStep
  extract_lets +onlyGivenNames job k s1 s2 s3 s4
  have h2 : Kept s s2 := kept_latchPage (kept_modJob (kept_addNumeric (kept_publish h ..) ..) ..) ..
  have h4 : Kept s s4 := kept_meldCommitted (kept_evictStale (kept_phaseRestart (kept_syncReset (kept_modJob h2 ..) ..) ..) ..) ..
  clear_value s4
  exact kept_modKeyShare (kept_releaseHeld h4 ..) ..

theorem kept_commitPass (h : Kept s u) (slot : Nat) (x' : Share) : Kept s (State.commitPass u slot x') := by
  unfold State.commitPass
  grind [kept_addNumeric, kept_modKeyShare, kept_publish]

theorem kept_awaitCut (h : Kept s u) (slot : Nat) (lost : List (BitVec 12)) : Kept s (State.awaitCut u slot lost) := by
  unfold State.awaitCut
  grind [kept_modJob, kept_with, Kept.foldl]

theorem kept_rebase (h : Kept s u) (lost talon : BitVec 12) : Kept s (State.rebase u lost talon) := by
  unfold State.rebase
  grind [kept_modPort, kept_with, Kept.foldl]

theorem kept_orderTakeovers (h : Kept s u) : Kept s (State.orderTakeovers u) := by
  unfold State.orderTakeovers
  grind [kept_rebase, kept_originate, kept_with, Kept.foldl]

theorem kept_beginRestore (h : Kept s u) (slot : Nat) (lost : List (BitVec 12)) : Kept s (State.beginRestore u slot lost) := by
  unfold State.beginRestore
  grind [kept_awaitCut, kept_originate, Kept.foldl]

theorem kept_revokeAll (h : Kept s u) (slot cause : Nat) (origin : BitVec 12) : Kept s (State.revokeAll u slot cause origin) := by
  unfold State.revokeAll
  grind [kept_orderTakeovers, kept_haveCoord, kept_coordRevoke, Kept.foldl]

theorem kept_plannedReplacement (h : Kept s u) (slot : Nat) : Kept s (State.plannedReplacement u slot) := by
  unfold State.plannedReplacement
  grind [kept_beginRestore, kept_modTel, kept_revokeAll, kept_with]

theorem kept_applyCommit (h : Kept s u) (p : Packet) (n : Nat) : Kept s (State.applyCommit u p n) := by
  unfold State.applyCommit
  grind [kept_commitPass, kept_plannedReplacement, kept_commitStep]

theorem kept_execTrickCommit (h : Kept s u) (src : Src) {t : State} (e : execTrickCommit src u = .next t) : Kept s t := by
  unfold execTrickCommit at e
  grind [kept_onTrick, kept_applyCommit]

theorem kept_viewTouch (h : Kept s u) (slot v n : Nat) : Kept s (State.viewTouch u slot v n).1 := by
  unfold State.viewTouch
  grind [kept_touchReads]

theorem kept_completePass (h : Kept s u) (slot : Nat) (p : PassRun) : Kept s (State.completePass u slot p) := by
  unfold State.completePass
  grind [kept_rollback, kept_unreserve, kept_completeDesc, kept_viewTouch, kept_modJob]

theorem kept_execPublicationDone (h : Kept s u) (slot : Fin 16) (p : Published) {t : State} (e : execPublicationDone slot p u = .next t) :
    Kept s t := by
  unfold execPublicationDone at e
  grind [kept_modTel, kept_tellCoord, kept_completeStep, kept_dropShare, kept_completePass]

theorem kept_haltJob (h : Kept s u) (slot cause : Nat) : Kept s (State.haltJob u slot cause) := by
  unfold State.haltJob
  grind [kept_noteRevoke, kept_dropTrick, kept_modTile, Kept.foldl]

theorem kept_revokeShare (h : Kept s u) (slot : Nat) (k : TrickKey) (cause : Nat) (origin : BitVec 12) :
    Kept s (State.revokeShare u slot k cause origin) := by
  unfold State.revokeShare
  extract_lets +onlyGivenNames j job s1 s2 s4 marks free
  have h1 : Kept s s1 := kept_markShare (kept_raise (kept_countRevoke h ..) ..) ..
  have h2 : Kept s s2 := kept_modJob (kept_meldRevoke (kept_haltJob h1 ..) ..) ..
  have h4 : Kept s s4 := kept_modJob h2 ..
  clear_value s4
  exact kept_modKeyShare (kept_modTrk h4 ..) ..

theorem kept_resumeReset (h : Kept s u) (slot : Nat) : Kept s (State.resumeReset u slot) := by
  unfold State.resumeReset
  grind [kept_modJob, kept_syncReset, kept_versionReset, kept_phaseRestart, kept_modTile, kept_modStack, kept_with, Kept.foldl]

theorem kept_dropStepLoad (h : Kept s u) (slot : Nat) : Kept s (State.dropStepLoad u slot) := by
  unfold State.dropStepLoad
  grind [kept_modPort, kept_creditFreed, kept_with, Kept.foldl]

theorem kept_endAbortedStep (h : Kept s u) (slot : Nat) (k : TrickKey) (cause : Nat) (origin : BitVec 12) :
    Kept s (State.endAbortedStep u slot k cause origin) := by
  unfold State.endAbortedStep
  grind [kept_unreserve, kept_completeDesc, kept_resumeReset, kept_dropShare, kept_modTrk, kept_modJob, Kept.foldl]

theorem kept_restartStep (h : Kept s u) (slot : Nat) (attempt : Option (BitVec 8)) : Kept s (State.restartStep u slot attempt) := by
  unfold State.restartStep
  grind [kept_modTrk, kept_modJob, kept_dropStepLoad]

theorem kept_endAbortedPass (h : Kept s u) (slot : Nat) (k : TrickKey) (cause : Nat) (origin : BitVec 12) :
    Kept s (State.endAbortedPass u slot k cause origin) := by
  unfold State.endAbortedPass
  grind [kept_unreserve, kept_completeDesc, kept_resumeReset, kept_dropShare, kept_modJob, kept_restartStep]

theorem kept_forgetReady (h : Kept s u) (slot : Nat) : Kept s (State.forgetReady u slot) := kept_modJob h ..

theorem kept_shareDrained (h : Kept s u) (slot : Nat) (x' : Share) : Kept s (State.shareDrained u slot x') := by
  unfold State.shareDrained
  grind [kept_tellCoord, kept_endAbortedPass, kept_modKeyShare, kept_forgetReady, kept_endAbortedStep]

theorem kept_noteJobLost (h : Kept s u) (slot : Nat) (origin : BitVec 12) : Kept s (State.noteJobLost u slot origin) := by
  unfold State.noteJobLost
  grind [kept_noteRevoke, kept_countRevoke, kept_raise, Kept.foldl]

theorem kept_revokeHeld (h : Kept s u) (slot : Nat) (origin : BitVec 12) : Kept s (State.revokeHeld u slot origin) := by
  unfold State.revokeHeld
  grind [kept_revokeShare, Kept.foldl]

theorem kept_applyRevoke (h : Kept s u) (p : Packet) (n : Nat) : Kept s (State.applyRevoke u p n) := by
  unfold State.applyRevoke
  grind [kept_revokeHeld, kept_noteJobLost, kept_tellCoord, kept_loseJob, kept_shareDrained, kept_modKeyShare, kept_raise, kept_revokeShare,
    kept_with]

theorem kept_execTrickRevoke (h : Kept s u) (src : Src) {t : State} (e : execTrickRevoke src u = .next t) : Kept s t := by
  unfold execTrickRevoke at e
  grind [kept_onTrick, kept_applyRevoke]

theorem kept_execRevokeDrained (h : Kept s u) (slot : Fin 16) (mb : Option (BitVec 20)) {t : State} (e : execRevokeDrained slot mb u = .next t) :
    Kept s t := by
  unfold execRevokeDrained at e
  grind [kept_shareDrained]

theorem kept_sendResume (h : Kept s u) (job : Nat) (c : Coord) : Kept s (State.sendResume u job c) := by
  unfold State.sendResume
  grind [kept_tellMembers, kept_modCoord]

theorem kept_coordDrained (h : Kept s u) (n job : Nat) (c : Coord) : Kept s (State.coordDrained u n job c) := by
  unfold State.coordDrained
  grind [kept_orderTakeovers, kept_sendResume, kept_tellMembers, kept_modCoord, kept_dropCoord]

theorem kept_coordDone (h : Kept s u) (p : Packet) (n : Nat) : Kept s (State.coordDone u p n) := by
  unfold State.coordDone
  grind [kept_coordDrained, kept_modCoord, kept_dropCoord]

theorem kept_execTrickDone (h : Kept s u) (src : Src) {t : State} (e : execTrickDone src u = .next t) : Kept s t := by
  unfold execTrickDone at e
  grind [kept_onTrick, kept_coordDone]

theorem kept_applyResume (h : Kept s u) (p : Packet) (n : Nat) : Kept s (State.applyResume u p n) := by
  unfold State.applyResume
  grind [kept_resumeReset, kept_dropShare, kept_modTrk, kept_modJob, kept_restartStep, kept_with]

theorem kept_execTrickResume (h : Kept s u) (src : Src) {t : State} (e : execTrickResume src u = .next t) : Kept s t := by
  unfold execTrickResume at e
  grind [kept_onTrick, kept_applyResume]

/-! ### Rings and the doorbell monitor -/

theorem kept_hrcReject (h : Kept s u) : Kept s (State.hrcReject u) := kept_modHost h ..

theorem kept_startRing (h : Kept s u) (r : RingRef) : Kept s (State.startRing u r) := by
  unfold State.startRing
  grind [kept_modSq, kept_modCq, kept_modHost]

theorem kept_setCfg (h : Kept s u) (r : RingRef) (v : Word) : Kept s (State.setCfg u r v) := by
  unfold State.setCfg
  grind [kept_modSq, kept_modCq, kept_modHost]

theorem kept_writeCfg (h : Kept s u) (r : RingRef) (v : Word) : Kept s (State.writeCfg u r v) := by
  unfold State.writeCfg
  grind [kept_setCfg, kept_hrcReject, kept_startRing]

theorem kept_execRingEnable (h : Kept s u) (ring : RingRef) (cfg : BitVec 32) (hw : List Host.Cell) {t : State}
    (e : execRingEnable ring cfg hw u = .next t) :
    Kept s t := by
  unfold execRingEnable at e
  grind [kept_writeCfg, kept_fromHost, kept_applyHw]

theorem kept_execRingDisable (h : Kept s u) (ring : RingRef) {t : State} (e : execRingDisable ring u = .next t) : Kept s t := by
  unfold execRingDisable at e
  grind [kept_writeCfg]

theorem kept_writeRingAddr (h : Kept s u) (r : RingRef) (hi : Bool) (v : Dword) : Kept s (State.writeRingAddr u r hi v) := by
  unfold State.writeRingAddr
  grind [kept_hrcReject, kept_modSq, kept_modCq, kept_modHost]

theorem kept_ringError (h : Kept s u) (r : RingRef) (code extra : Nat) : Kept s (State.ringError u r code extra) := by
  unfold State.ringError
  grind [kept_setCfg, kept_raise]

theorem kept_evalWord (h : Kept s u) (r : RingRef) : Kept s (State.evalWord u r) := by
  unfold State.evalWord
  grind [kept_ringError, kept_flushEvents, kept_modSq, kept_raiseVector, kept_modCq, kept_modHost]

theorem kept_execMonitorSnoop (h : Kept s u) (line : BitVec 58) {t : State} (e : execMonitorSnoop line u = .next t) : Kept s t := by
  unfold execMonitorSnoop at e
  grind [kept_modHost]

theorem kept_execMonitorPoll (h : Kept s u) {t : State} (e : execMonitorPoll u = .next t) : Kept s t := by
  unfold execMonitorPoll at e
  grind [kept_modHost, Kept.foldl]

theorem kept_recordErrors (h : Kept s u) (failed : List HostErr) : Kept s (State.recordErrors u failed) := by
  unfold State.recordErrors
  grind [kept_ringError, Kept.foldl]

theorem kept_execMonitorLineRead (h : Kept s u) (line : BitVec 58) (hw : List Host.Cell) (failed : List HostErr) {t : State}
    (e : execMonitorLineRead line hw failed u = .next t) :
    Kept s t := by
  unfold execMonitorLineRead at e
  grind [kept_ringError, kept_recordErrors, kept_applyHw, kept_evalWord, kept_modHost, Kept.foldl]

theorem kept_execMsixMessage (h : Kept s u) (vector : Fin 64) {t : State} (e : execMsixMessage vector u = .next t) : Kept s t := by
  unfold execMsixMessage at e
  grind [kept_sendMsix, kept_modHost]

theorem kept_drainOne (h : Kept s u) (cs : List Completion) (blocked : List Nat) (before : List Completion) :
    Kept s (drainOne cs blocked before u) := by
  induction cs generalizing u blocked before with
  | nil => exact h
  | cons c cs ih =>
    unfold drainOne
    grind [kept_putCompletion, kept_modHost]

theorem kept_execCompletionBufferDrain (h : Kept s u) {t : State} (e : execCompletionBufferDrain u = .next t) : Kept s t := by
  unfold execCompletionBufferDrain at e
  grind [kept_takeOwed, kept_drainOne]

/-! ### The host link and its accesses -/

theorem kept_dropSecure (h : Kept s u) : Kept s (State.dropSecure u) := by
  unfold State.dropSecure
  grind [kept_modSec]

theorem kept_hostLinkLost (h : Kept s u) : Kept s (State.hostLinkLost u) := by
  unfold State.hostLinkLost
  grind [kept_dropSecure, kept_completeStep, kept_modJob, kept_raise, kept_modHost, Kept.foldl]

theorem kept_execHostLinkDown (h : Kept s u) {t : State} (e : execHostLinkDown u = .next t) : Kept s t := by
  unfold execHostLinkDown at e
  grind [kept_hostLinkLost]

theorem kept_execHostLinkLossTimeout (h : Kept s u) {t : State} (e : execHostLinkLossTimeout u = .next t) : Kept s t := by
  unfold execHostLinkLossTimeout at e
  grind [kept_hostLinkLost]

theorem kept_execPerstNAssert (h : Kept s u) {t : State} (e : execPerstNAssert u = .next t) : Kept s t := by
  unfold execPerstNAssert at e
  grind [kept_dropSecure, kept_hostLinkLost, kept_modHost]

theorem kept_execPerstNDeassert (h : Kept s u) {t : State} (e : execPerstNDeassert u = .next t) : Kept s t := by
  unfold execPerstNDeassert at e
  grind [kept_modHost]

theorem kept_execHostLinkBack (h : Kept s u) (speed : BitVec 2) (width : BitVec 5) {t : State} (e : execHostLinkBack speed width u = .next t) :
    Kept s t := by
  unfold execHostLinkBack at e
  grind [kept_raise, kept_modHost]

theorem kept_execPcieOnly (h : Kept s u) (speed : BitVec 2) (width : BitVec 5) {t : State} (e : execPcieOnly speed width u = .next t) :
    Kept s t := by
  unfold execPcieOnly at e
  grind [kept_raise, kept_modHost]

theorem kept_retryAccess (h : Kept s u) (L v : Nat) : Kept s (State.retryAccess u L v) := by
  unfold State.retryAccess
  grind [kept_modStream, Kept.foldl]

theorem kept_retryAll (h : Kept s u) : Kept s (State.retryAll u) := by
  unfold State.retryAll
  grind [kept_retryAccess, kept_modHost, Kept.foldl]

theorem kept_resumeRings (h : Kept s u) : Kept s (State.resumeRings u) := by
  unfold State.resumeRings
  extract_lets +onlyGivenNames s1 s2 s3 s4 s5
  have h2 : Kept s s2 := (kept_modHost h ..).foldl (fun v r hv => kept_evalWord hv ..) _
  have h3 : Kept s s3 := kept_ite ((kept_modHost h2 ..).foldl (fun v c hv => kept_modCq hv ..) _) (h2.foldl (fun v r hv => kept_evalWord hv ..) _)
  have h5 : Kept s s5 := (kept_modHost h3 ..).foldl (fun v n hv => kept_writePage hv ..) _
  clear_value s5
  exact (kept_retryAll (kept_flushEvents (kept_drain h5))).foldl (fun v n hv => kept_modJob hv ..) _

theorem kept_writeHrcCtl (h : Kept s u) (v : Word) : Kept s (State.writeHrcCtl u v) := by
  unfold State.writeHrcCtl
  grind [kept_resumeRings, kept_hrcReject, kept_modHost]

theorem kept_execResume (h : Kept s u) (value : BitVec 32) (hw : List Host.Cell) {t : State} (e : execResume value hw u = .next t) :
    Kept s t := by
  unfold execResume at e
  grind [kept_fromHost, kept_writeHrcCtl, kept_applyHw]

theorem kept_reservedWrite (h : Kept s u) (a : Nat) : Kept s (State.reservedWrite u a) := by
  unfold State.reservedWrite
  grind [kept_raise, kept_modHost]

theorem kept_serveHost (h : Kept s u) (a : HostAccess) : Kept s (State.serveHost u a) := by
  unfold State.serveHost
  split
  · extract_lets +onlyGivenNames k a
    split
    · exact kept_emit (kept_freeBytes h ..) ..
    · extract_lets +onlyGivenNames lines r s1
      have hr : Kept s r.1 := kept_touchReads h ..
      have h1 : Kept s s1 := kept_modHost hr ..
      clear_value s1 r
      split
      · exact kept_emit (kept_freeBytes h1 ..) ..
      · exact kept_emit h1 ..
  · extract_lets +onlyGivenNames k o a
    split
    · exact h
    · split
      · exact kept_storeOwn (kept_modHost (kept_gddrAccess h ..) ..) ..
      · exact kept_reservedWrite h ..

theorem kept_hostAccess (h : Kept s u) (x' : HostAccess) : Kept s (State.hostAccess u x') := by
  unfold State.hostAccess
  grind [kept_modHost, kept_serveHost]

theorem kept_releaseHost (h : Kept s u) : Kept s (State.releaseHost u) := by
  unfold State.releaseHost
  grind [kept_hostAccess, kept_modHost, Kept.foldl]

/-! ### Loads and cuts -/

theorem kept_execCcReset (h : Kept s u) {t : State} (e : execCcReset u = .next t) : Kept s t := by
  unfold execCcReset at e
  grind [kept_ccResetOpen]

theorem kept_execCcResetDone (h : Kept s u) {t : State} (e : execCcResetDone u = .next t) : Kept s t := by
  unfold execCcResetDone at e
  grind [kept_releaseHost, kept_modHost]

theorem kept_modLoad (h : Kept s u) (slot i : Nat) (f : Load → Load) : Kept s (State.modLoad u slot i f) := kept_modJob h ..

theorem kept_loadFault (h : Kept s u) (slot i : Nat) (code seg reason : Nat) : Kept s (State.loadFault u slot i code seg reason) := by
  unfold State.loadFault
  grind [kept_jobFault, kept_raise]

theorem kept_endLoad (h : Kept s u) (slot i status : Nat) : Kept s (State.endLoad u slot i status) := by
  unfold State.endLoad
  grind [kept_unreserve, kept_completeDesc, kept_modLoad]

theorem kept_loadDone (h : Kept s u) (slot i : Nat) : Kept s (State.loadDone u slot i) := by
  unfold State.loadDone
  grind [kept_endLoad, kept_modLoad]

theorem kept_passReady (h : Kept s u) (slot i : Nat) : Kept s (State.passReady u slot i) := by
  unfold State.passReady
  grind [kept_modLoad, kept_loadRequest]

theorem kept_beginLoad (h : Kept s u) (slot i : Nat) (d : Desc) : Kept s (State.beginLoad u slot i d) := by
  unfold State.beginLoad
  grind [kept_loadDone, kept_passReady, kept_modLoad]

theorem kept_execLoadReady (h : Kept s u) (src : Src) {t : State} (e : execLoadReady src u = .next t) : Kept s t := by
  unfold execLoadReady at e
  grind [kept_noDestination, kept_passReady, kept_modLoad, kept_takePacket]

theorem kept_execLoadRestart (h : Kept s u) (src : Src) {t : State} (e : execLoadRestart src u = .next t) : Kept s t := by
  unfold execLoadRestart at e
  grind [kept_noDestination, kept_restartLoad, kept_takePacket, kept_loadRequest]

theorem kept_keepBytes (h : Kept s u) (slot i a : Nat) (bs : List Byte) (poison : Bool) : Kept s (State.keepBytes u slot i a bs poison) := by
  unfold State.keepBytes
  grind [kept_gddrAccess, kept_setPoison, kept_storeCells, kept_modLoad, Kept.foldl]

theorem kept_endSegment (h : Kept s u) (slot i count : Nat) : Kept s (State.endSegment u slot i count) := by
  unfold State.endSegment
  grind [kept_loadDone, kept_modLoad, kept_loadFault]

theorem kept_abandonLoad (h : Kept s u) (slot i : Nat) : Kept s (State.abandonLoad u slot i) := by
  unfold State.abandonLoad
  grind [kept_unreserve, kept_endLoad, kept_tellCoord, kept_completeDesc, kept_originate, kept_modLoad, kept_modJob]

theorem kept_execLoadImageFetch (h : Kept s u) (slot loadId : Fin 16) (amb : Ambient) {t : State}
    (e : execLoadImageFetch slot loadId amb u = .next t) :
    Kept s t := by
  unfold execLoadImageFetch at e
  extract_lets +onlyGivenNames n i s0 j l at e
  have h0 : Kept s s0 := kept_applyAmb h amb
  clear_value s0 l j
  split at e
  · exact kept_of_next e h
  · split at e
    · exact kept_of_next e (kept_loadFault h0 ..)
    · split at e
      · next he => exact kept_of_next e (kept_left he (kept_hubWindow h0 ..))
      · next he => exact kept_of_next e (kept_abandonLoad (kept_left he (kept_hubWindow h0 ..)) ..)
      · next s1 header he =>
        have h1 := kept_left he (kept_hubWindow h0 ..)
        extract_lets +onlyGivenNames flags isEnd dest addr count bad after at e
        clear_value after bad
        split at e
        · exact kept_of_next e (kept_loadFault h1 ..)
        · split at e
          · exact kept_of_next e (kept_loadFault h1 ..)
          · split at e
            · next he2 => exact kept_of_next e (kept_left he2 (kept_hubWindow h1 ..))
            · next he2 => exact kept_of_next e (kept_abandonLoad (kept_left he2 (kept_hubWindow h1 ..)) ..)
            · next s2 bs he2 =>
              have h2 := kept_left he2 (kept_hubWindow h1 ..)
              extract_lets +onlyGivenNames kept alone s3 at e
              have h3 : Kept s s3 := kept_ite h2 (h2.foldl (fun v c hv => kept_originate hv ..) _)
              clear_value s3 alone kept
              split at e
              · exact kept_of_next e (kept_endSegment (kept_modLoad h3 ..) ..)
              · extract_lets +onlyGivenNames s4 at e
                have h4 : Kept s s4 := kept_modLoad h3 ..
                clear_value s4
                split at e
                · exact kept_of_next e h4
                · split at e
                  · exact kept_of_next e (kept_loadFault h4 ..)
                  · exact kept_of_next e (kept_keepBytes h4 ..)

theorem kept_execLoadPacket (h : Kept s u) (src : Src) {t : State} (e : execLoadPacket src u = .next t) : Kept s t := by
  unfold execLoadPacket at e
  split at e
  · exact kept_of_next e h
  · next p s1 taken =>
    have h1 := kept_takePacket h _ _ taken
    split at e
    · exact kept_of_next e (kept_noDestination h1 ..)
    · next n _ =>
      extract_lets +onlyGivenNames i l at e
      split at e
      · exact kept_of_next e (kept_noDestination h1 ..)
      · extract_lets +onlyGivenNames flags dest seg n' at e
        split at e
        · exact kept_of_next e (kept_abandonLoad h1 ..)
        · extract_lets +onlyGivenNames isEnd kept alone s2 at e
          have h2 : Kept s s2 := kept_ite h1 (kept_sendCopy h1 ..)
          clear_value s2 alone kept isEnd
          split at e
          · exact kept_of_next e (kept_endSegment h2 ..)
          · extract_lets +onlyGivenNames at' first s3 at e
            have h3 : Kept s s3 := kept_modLoad h2 ..
            clear_value s3 first at'
            split at e
            · exact kept_of_next e h3
            · split at e
              · exact kept_of_next e (kept_loadFault h3 ..)
              · exact kept_of_next e (kept_keepBytes h3 ..)

theorem kept_writeView (h : Kept s u) (slot v : Nat) (bs : List Byte) : Kept s (State.writeView u slot v bs).1 := by
  unfold State.writeView
  grind [kept_gddrAccess, kept_storeCells, Kept.foldl]

theorem kept_sendCut (h : Kept s u) (slot k addr : Nat) (bs : List Byte) : Kept s (State.sendCut u slot k addr bs) := by
  unfold State.sendCut
  grind [kept_originate, Kept.foldl]

theorem left_putCut (h : Kept s u) (slot k : Nat) (half off : Nat) (bs : List Byte) :
    LeftKept s (State.putCut u slot k half off bs) := by
  obtain ⟨f, hf⟩ : ∃ f, f = State.putCut := ⟨_, rfl⟩
  rw [← hf]
  delta State.putCut at hf
  subst hf
  beta_reduce
  extract_lets +onlyGivenNames j
  split
  · next he => exact left_mk (kept_left he (kept_writeView h ..))
  · next he => exact left_mk (kept_sendCut (kept_left he (kept_writeView h ..)) ..)

theorem kept_putCut (h : Kept s u) (slot k : Nat) (half off : Nat) (bs : List Byte) : Kept s (State.putCut u slot k half off bs).1 :=
  left_putCut h slot k half off bs

theorem kept_cutFailed (h : Kept s u) (slot reason : Nat) : Kept s (State.cutFailed u slot reason) := by
  unfold State.cutFailed
  grind [kept_modJob, kept_raise]

theorem putCuts_cons_true {s1 : State} {slot : Nat} {w : Nat × Nat × Nat × List Byte} (e : u.putCut slot w.1 w.2.1 w.2.2.1 w.2.2.2 = (s1, true))
    (ws : List (Nat × Nat × Nat × List Byte)) : putCuts slot (w :: ws) u = putCuts slot ws s1 := by
  obtain ⟨l, hl⟩ : ∃ l, l = w :: ws := ⟨_, rfl⟩
  rw [← hl]
  delta putCuts putCuts._f
  obtain ⟨P, hP⟩ : ∃ P, P = State.putCut := ⟨_, rfl⟩
  rw [← hP] at e ⊢
  subst hl
  dsimp only [List.brecOn, List.brecOn.go]
  rw [e]

theorem putCuts_cons_false {s1 : State} {slot : Nat} {w : Nat × Nat × Nat × List Byte}
    (e : u.putCut slot w.1 w.2.1 w.2.2.1 w.2.2.2 = (s1, false))
    (ws : List (Nat × Nat × Nat × List Byte)) : putCuts slot (w :: ws) u = (s1, false) := by
  obtain ⟨l, hl⟩ : ∃ l, l = w :: ws := ⟨_, rfl⟩
  rw [← hl]
  delta putCuts putCuts._f
  obtain ⟨P, hP⟩ : ∃ P, P = State.putCut := ⟨_, rfl⟩
  rw [← hP] at e ⊢
  subst hl
  dsimp only [List.brecOn, List.brecOn.go]
  rw [e]

theorem kept_putCuts (h : Kept s u) (slot : Nat) (ws : List (Nat × Nat × Nat × List Byte)) : Kept s (putCuts slot ws u).1 := by
  induction ws generalizing u with
  | nil => exact h
  | cons w ws ih =>
    have k := kept_putCut h slot w.1 w.2.1 w.2.2.1 w.2.2.2
    rcases e : u.putCut slot w.1 w.2.1 w.2.2.1 w.2.2.2 with ⟨s1, _ | _⟩
    · rw [putCuts_cons_false e]
      exact kept_left e k
    · rw [putCuts_cons_true e]
      exact ih (kept_left e k)

theorem kept_startCut (h : Kept s u) (slot : Nat) : Kept s (State.startCut u slot) := by
  unfold State.startCut
  grind [kept_cutFailed, kept_modJob, kept_putCuts, kept_touchReads]

theorem kept_execCutCopyDone (h : Kept s u) (slot : Fin 16) (refused : Bool) {t : State} (e : execCutCopyDone slot refused u = .next t) :
    Kept s t := by
  unfold execCutCopyDone at e
  grind [kept_cutFailed, kept_modJob]

theorem kept_noteCut (h : Kept s u) (k : Nat) (bs : List Byte) : Kept s (State.noteCut u k bs) := by
  unfold State.noteCut
  grind [kept_modStack, Kept.foldl]

theorem kept_execCutWrite (h : Kept s u) (src : Src) {t : State} (e : execCutWrite src u = .next t) : Kept s t := by
  unfold execCutWrite at e
  split at e
  · exact kept_of_next e h
  · next p s1 taken =>
    have h1 : Kept s s1 := kept_takePacket h _ _ taken
    extract_lets +onlyGivenNames k addr n r cells s2 at e
    split at e
    · exact kept_of_next e h1
    · have h2 : Kept s s2 := kept_noteCut (kept_storeCells h1 ..) ..
      clear_value s2
      split at e
      · exact kept_of_next e (h2.foldl (fun v l hv => kept_setPoison hv ..) _)
      · exact kept_of_next e h2

/-! ### Descriptors and jobs -/

theorem kept_pauseForHost (h : Kept s u) (slot why : Nat) : Kept s (State.pauseForHost u slot why) := by
  unfold State.pauseForHost
  grind [kept_modJob, kept_raise]

theorem kept_execDescriptorFetch (h : Kept s u) (sq : Fin 64) (hw : List Host.Cell) (failed : Bool) {t : State}
    (e : execDescriptorFetch sq hw failed u = .next t) :
    Kept s t := by
  unfold execDescriptorFetch at e
  grind [kept_pauseForHost, kept_completeDesc, kept_ringError, kept_noRecord, kept_modSq, kept_applyHw, kept_modHost, Kept.foldl]

theorem kept_takeDesc (h : Kept s u) (sq : Nat) (rest : List Desc) : Kept s (State.takeDesc u sq rest) := kept_modSq h ..

theorem kept_answerDesc (h : Kept s u) (sq : Nat) (d : Desc) (rest : List Desc) (status : Nat) :
    Kept s (State.answerDesc u sq d rest status) := by
  unfold State.answerDesc
  grind [kept_completeDesc, kept_noRecord, kept_takeDesc]

theorem kept_dropDescs (h : Kept s u) (sq job : Nat) : Kept s (State.dropDescs u sq job) := by
  unfold State.dropDescs
  grind [kept_completeDesc, kept_modSq, Kept.foldl]

theorem kept_fillTile (h : Kept s u) (slot L : Nat) (c : TileCfg) : Kept s (State.fillTile u slot L c) := by
  unfold State.fillTile
  grind [kept_storeCells, Kept.foldl]

theorem kept_writeBanks (h : Kept s u) (rs : List RouteCfg) : Kept s (State.writeBanks u rs) := by
  unfold State.writeBanks
  grind [kept_modPort, kept_with, Kept.foldl]

theorem kept_loadRegions (h : Kept s u) (job : Nat) (d : Deck) : Kept s (State.loadRegions u job d) := by
  unfold State.loadRegions
  grind [kept_modDealer, Kept.foldl]

theorem kept_loadTables (h : Kept s u) (slot : Nat) : Kept s (State.loadTables u slot).1 := by
  unfold State.loadTables
  extract_lets +onlyGivenNames j s1 s2 s3
  have h1 : Kept s s1 := kept_zeroRanges h ..
  have h2 : Kept s s2 := h1.foldl (fun v L hv => kept_fillTile (kept_modTile hv ..) ..) j.tiles
  have h3 : Kept s s3 := kept_loadRegions (kept_phaseRestart (kept_syncReset h2 ..) ..) ..
  clear_value s3
  exact kept_loadMelds (kept_writeBanks h3 ..) ..

theorem kept_keepRejects (h : Kept s u) (v : State) : Kept s (State.keepRejects u v) := by
  unfold State.keepRejects
  grind [kept_modMeld, Kept.foldl]

theorem left_placeJob (h : Kept s u) (d : Desc) (deck : Deck) :
    LeftKept s (State.placeJob u d deck) := by
  obtain ⟨f, hf⟩ : ∃ f, f = State.placeJob := ⟨_, rfl⟩
  rw [← hf]
  delta State.placeJob at hf
  have read (v : State) (hv : Kept s v) (job : Nat) (a k : Nat) := kept_hubRead hv job a k
  obtain ⟨hubRead, e1⟩ : ∃ f, f = State.hubRead := ⟨_, rfl⟩
  obtain ⟨firstFit, e2⟩ : ∃ f, f = State.firstFit := ⟨_, rfl⟩
  obtain ⟨freeJobSlot, e3⟩ : ∃ f, f = State.freeJobSlot := ⟨_, rfl⟩
  simp only [← e1] at read
  rw [← e1, ← e2, ← e3] at hf
  clear e1 e2 e3
  subst hf
  beta_reduce
  extract_lets +onlyGivenNames b id flags
  split
  · exact left_mk h
  · split
    · next he => exact left_mk (kept_left he (read _ h ..))
    · next he => exact left_mk (kept_left he (read _ h ..))
    · next he =>
      have h1 := kept_left he (read _ h ..)
      split
      · exact left_mk h1
      · split
        · next he2 => exact left_mk (kept_left he2 (read _ h1 ..))
        · next he2 => exact left_mk (kept_left he2 (read _ h1 ..))
        · next he2 =>
          have h2 := kept_left he2 (read _ h1 ..)
          split
          · exact left_mk h2
          · split
            · exact left_mk h2
            · split
              · exact left_mk h2
              · extract_lets +onlyGivenNames drawn seed s3 s4
                have h3 : Kept s s3 := kept_ite (kept_modSec h2 fun _ => rfl) h2
                have h4 : Kept s s4 := kept_modJob h3 ..
                clear_value s4 s3
                split
                · exact left_mk (kept_keepRejects h3 ..)
                · next he4 => exact left_mk (kept_retime (kept_left he4 (kept_loadTables h4 ..)))

theorem kept_placeJob (h : Kept s u) (d : Desc) (deck : Deck) : Kept s (State.placeJob u d deck).1 :=
  left_placeJob h d deck

theorem kept_execJob (h : Kept s u) (sq : Fin 64) (deck : Deck) (amb : Ambient) {t : State} (e : execJob sq deck amb u = .next t) : Kept s t := by
  unfold execJob at e
  split at e
  · exact kept_of_next e h
  · next d rest _ =>
    split at e
    · exact kept_of_next e (kept_answerDesc h ..)
    · split at e
      · exact kept_of_next e h
      · split at e
        · exact kept_of_next e h
        · split at e
          · exact kept_of_next e (kept_noRecord h ..)
          · have placed := kept_placeJob (kept_applyAmb h amb) d deck
            split at e
            · next he => exact kept_of_next e (kept_left he placed)
            · next he => exact kept_of_next e (kept_dropDescs (kept_answerDesc (kept_left he placed) ..) ..)
            · next he =>
              exact kept_of_next e (kept_openChannels (kept_modJob (kept_nextOpen (kept_reserve (kept_takeDesc (kept_left he placed) ..))) ..) ..)

theorem kept_execJobPlaced (h : Kept s u) (slot : Fin 16) {t : State} (e : execJobPlaced slot u = .next t) : Kept s t := by
  unfold execJobPlaced at e
  grind [kept_unreserve, kept_completeDesc, kept_modJob]

theorem kept_endServing (h : Kept s u) (slot : Nat) : Kept s (State.endServing u slot) := by
  unfold State.endServing
  grind [kept_modJob]

theorem kept_execStep (h : Kept s u) (sq : Fin 64) (amb : Ambient) {t : State} (e : execStep sq amb u = .next t) : Kept s t := by
  unfold execStep at e
  split at e
  · exact kept_of_next e h
  · next d rest _ =>
    split at e
    · exact kept_of_next e h
    · next n _ =>
      extract_lets +onlyGivenNames j b serving count table at e
      split at e
      · exact kept_of_next e h
      · split at e
        · exact kept_of_next e (kept_endServing h ..)
        · split at e
          · exact kept_of_next e (kept_answerDesc h ..)
          · extract_lets +onlyGivenNames reads at e
            split at e
            · exact kept_of_next e (kept_pauseForHost h ..)
            · extract_lets +onlyGivenNames checked failed at e
              have hc : Kept s checked.1 := kept_ite_fst (kept_translateAll (kept_applyAmb h amb) ..) h
              have hf : Kept s failed.1 := by
                unfold failed
                split
                · exact hc
                · exact kept_hubFailed hc ..
              clear_value failed checked
              split at e
              · exact kept_of_next e hf
              · split at e
                · exact kept_of_next e (kept_answerDesc hf ..)
                · exact kept_of_next e (kept_modJob (kept_takeDesc hc ..) ..)

theorem kept_execLoad (h : Kept s u) (sq : Fin 64) {t : State} (e : execLoad sq u = .next t) : Kept s t := by
  unfold execLoad at e
  grind [kept_reserve, kept_noRecord, kept_takeDesc, kept_modJob, kept_answerDesc, kept_beginLoad, kept_endServing]

theorem kept_beginStreams (h : Kept s u) (slot version : Nat) : Kept s (State.beginStreams u slot version) := by
  unfold State.beginStreams
  grind [kept_modStream, kept_modTile, Kept.foldl]

theorem kept_execStepStart (h : Kept s u) (slot : Fin 16) {t : State} (e : execStepStart slot u = .next t) : Kept s t := by
  unfold execStepStart at e
  extract_lets +onlyGivenNames n j at e
  split at e
  · exact kept_of_next e h
  · next r _ =>
    extract_lets +onlyGivenNames staging at e
    split at e
    · exact kept_of_next e h
    · split at e
      · exact kept_of_next e (kept_ite h (kept_pauseForHost h ..))
      · split at e
        · exact kept_of_next e (kept_noRecord h ..)
        · split at e
          · split at e
            · exact kept_of_next e h
            · exact kept_of_next e (kept_raise (kept_modJob h ..) ..)
          · next j1 _ =>
            extract_lets +onlyGivenNames version f s1 s2 s3 at e
            have h1 : Kept s s1 := kept_ite h (kept_reserve h)
            have h3 : Kept s s3 := kept_startCut (kept_modJob h1 ..) ..
            clear_value s3
            split at e
            · exact kept_of_next e (kept_beginLoad h3 ..)
            · exact kept_of_next e (kept_meldStepStart (kept_beginStreams h3 ..) ..)

theorem kept_inject (h : Kept s u) (slot : Nat) (tag : Nat → Nat → Tag) (payload : List Byte) {v : State}
    (e : State.inject u slot tag payload = some v) :
    Kept s v := by
  unfold State.inject at e
  grind [kept_writeArea, kept_modEp]

theorem kept_entryBytes (h : Kept s u) (n : Nat) : Kept s (State.entryBytes u n).1 := by
  unfold State.entryBytes
  grind [kept_nextOpen]

theorem kept_execMicroBatchInjection (h : Kept s u) (slot : Fin 16) (amb : Ambient) {t : State}
    (e : execMicroBatchInjection slot amb u = .next t) :
    Kept s t := by
  unfold execMicroBatchInjection at e
  extract_lets +onlyGivenNames n j at e
  clear_value j
  split at e
  · exact kept_of_next e h
  · next r _ =>
    split at e
    · exact kept_of_next e h
    · split at e
      · exact kept_of_next e (kept_pauseForHost h ..)
      · have h0 := kept_applyAmb h amb
        generalize u.applyAmb amb = s0 at h0 e
        split at e
        · next he => exact kept_of_next e (kept_left he (kept_hubWindow h0 ..))
        · next he => exact kept_of_next e (kept_hostFault (kept_left he (kept_hubWindow h0 ..)) ..)
        · next s1 b he =>
          have h1 := kept_entryBytes (kept_left he (kept_hubWindow h0 ..)) (leAt b 8 2)
          generalize s1.entryBytes (leAt b 8 2) = q at h1 e
          obtain ⟨s1', bytes⟩ := q
          dsimp only at h1 e
          split at e
          · next he2 => exact kept_of_next e (kept_left he2 (kept_hubWindow h1 ..))
          · next he2 => exact kept_of_next e (kept_hostFault (kept_left he2 (kept_hubWindow h1 ..)) ..)
          · next s2 payload he2 =>
            have h2 := kept_left he2 (kept_hubWindow h1 ..)
            split at e
            · exact kept_of_next e h
            · next hs => exact kept_of_next e (kept_modJob (kept_inject h2 _ _ _ hs) ..)

theorem kept_execControlPassInjection (h : Kept s u) (slot : Fin 16) {t : State} (e : execControlPassInjection slot u = .next t) : Kept s t := by
  unfold execControlPassInjection at e
  extract_lets +onlyGivenNames n j at e
  split at e
  · cases e; exact h
  · next r hr =>
    extract_lets +onlyGivenNames due at e
    split at e
    · cases e; exact h
    · split at e
      · cases e; exact h
      · next v hv => cases e; exact kept_modJob (kept_inject h _ _ _ hv) ..

theorem kept_execPass (h : Kept s u) (sq : Fin 64) (amb : Ambient) {t : State} (e : execPass sq amb u = .next t) : Kept s t := by
  unfold execPass at e
  split at e
  · exact kept_of_next e h
  · next d rest _ =>
    split at e
    · exact kept_of_next e h
    · next n _ =>
      extract_lets +onlyGivenNames j b mb record going started at e
      split at e
      · exact kept_of_next e h
      · split at e
        · exact kept_of_next e (kept_answerDesc h ..)
        · split at e
          · exact kept_of_next e (kept_answerDesc h ..)
          · split at e
            · exact kept_of_next e (kept_answerDesc h ..)
            · split at e
              · exact kept_of_next e (kept_answerDesc h ..)
              · split at e
                · exact kept_of_next e h
                · split at e
                  · next he => exact kept_of_next e (kept_rollback (kept_left he (kept_viewTouch h ..)) ..)
                  · next s1 he =>
                    have h1 := kept_left he (kept_viewTouch h ..)
                    split at e
                    · exact kept_of_next e (kept_answerDesc h1 ..)
                    · extract_lets +onlyGivenNames s0 s2 at e
                      have h0 : Kept s s0 := kept_takeDesc (kept_applyAmb h1 amb) ..
                      have h2 : Kept s s2 := kept_ite h0 (kept_pauseForHost h0 ..)
                      exact kept_of_next e (kept_modJob h2 ..)

theorem kept_execPassInjection (h : Kept s u) (slot : Fin 16) (microBatch : BitVec 20) (amb : Ambient) {t : State}
    (e : execPassInjection slot microBatch amb u = .next t) :
    Kept s t := by
  unfold execPassInjection at e
  extract_lets +onlyGivenNames n j at e
  split at e
  · next r p _ _ =>
    split at e
    · exact kept_of_next e h
    · split at e
      · exact kept_of_next e (kept_pauseForHost h ..)
      · split at e
        · exact kept_of_next e (kept_noRecord h ..)
        · have h0 := kept_applyAmb h amb
          generalize u.applyAmb amb = s0 at h0 e
          split at e
          · next he => exact kept_of_next e (kept_left he (kept_hubWindow h0 ..))
          · next he =>
            have h1 := kept_left he (kept_hubWindow h0 ..)
            exact kept_of_next e (kept_modJob (kept_completeDesc (kept_ite (kept_unreserve h1) h1) ..) ..)
          · next he =>
            have h1 := kept_left he (kept_hubWindow h0 ..)
            split at e
            · exact kept_of_next e h
            · next hs =>
              have h2 := kept_inject h1 _ _ _ hs
              exact kept_of_next e (kept_modJob (kept_ite h2 (kept_reserve h2)) ..)
  · exact kept_of_next e h

theorem kept_execStepOverrun (h : Kept s u) (slot : Fin 16) {t : State} (e : execStepOverrun slot u = .next t) : Kept s t := by
  unfold execStepOverrun at e
  grind [kept_modJob, kept_raise]

theorem kept_execStepWatchdogFault (h : Kept s u) (slot : Fin 16) {t : State} (e : execStepWatchdogFault slot u = .next t) : Kept s t := by
  unfold execStepWatchdogFault at e
  grind [kept_jobFault, kept_raise]

theorem kept_abortKey (h : Kept s u) (slot : Nat) (k : TrickKey) (opened : Bool) : Kept s (State.abortKey u slot k opened).1 := by
  unfold State.abortKey
  grind [kept_haveCoord, kept_modCoord, kept_coordRevoke]

theorem kept_abortFetched (h : Kept s u) (sq dtype : Nat) (job step mb : Nat) : Kept s (State.abortFetched u sq dtype job step mb).1 := by
  unfold State.abortFetched
  grind [kept_completeDesc, kept_takeDesc]

theorem kept_abortTarget (h : Kept s u) (n : Nat) (d : Desc) : Kept s (State.abortTarget u n d).1 := by
  unfold State.abortTarget
  grind [kept_completeDesc, kept_abortKey, kept_modJob, kept_abortFetched]

theorem kept_execAbort (h : Kept s u) (sq : Fin 64) {t : State} (e : execAbort sq u = .next t) : Kept s t := by
  unfold execAbort at e
  grind [kept_completeDesc, kept_noRecord, kept_takeDesc, kept_answerDesc, kept_abortTarget]

theorem kept_execEnd (h : Kept s u) (sq : Fin 64) {t : State} (e : execEnd sq u = .next t) : Kept s t := by
  unfold execEnd at e
  grind [kept_closeChannels, kept_reserve, kept_noRecord, kept_takeDesc, kept_modJob, kept_endServing]

theorem kept_execJobEndDone (h : Kept s u) (slot : Fin 16) {t : State} (e : execJobEndDone slot u = .next t) : Kept s t := by
  unfold execJobEndDone at e
  extract_lets +onlyGivenNames n j s1 s2 at e
  split at e
  · exact kept_of_next e h
  · have h1 : Kept s s1 := by
      refine kept_zeroRanges ?_ _
      split
      · exact kept_dropJobUnits h _
      · exact h
    have h2 : Kept s s2 := kept_releaseHost (kept_retime (kept_modDealer h1 ..))
    clear_value s1 s2
    split at e
    · exact kept_of_next e h2
    · exact kept_of_next e (kept_dropDescs (kept_completeDesc (kept_unreserve h2) ..) ..)

theorem kept_execNopDescriptor (h : Kept s u) (sq : Fin 64) {t : State} (e : execNopDescriptor sq u = .next t) : Kept s t := by
  unfold execNopDescriptor at e
  grind [kept_answerDesc]

/-! ### Tile failures and lost packages -/

theorem kept_revokeTile (h : Kept s u) (L : Nat) : Kept s (State.revokeTile u L).1 := by
  unfold State.revokeTile
  refine Kept.foldlFst (kept_interruptTile h ..) (fun a n ha => ?_) _
  dsimp only
  split
  · exact ha
  · exact kept_mk (kept_modTrickOf (kept_noteRevokeQ (kept_settleSends ha ..) ..) ..)

theorem kept_swapTile (h : Kept s u) (L k : Nat) (t p took : Nat) : Kept s (State.swapTile u L k t p took).1 := by
  unfold State.swapTile
  grind [kept_statQ, kept_revokeTile, kept_modTileAt, kept_retime, kept_modStack]

theorem kept_degradeQ (h : Kept s u) (reason : Nat) : Kept s (State.degradeQ u reason).1 := by
  unfold State.degradeQ
  grind [kept_modHost]

theorem kept_spareFails (h : Kept s u) (k t : Nat) : Kept s (State.spareFails u k t).1 := by
  unfold State.spareFails
  grind [kept_degradeQ, kept_modStack]

theorem kept_tileFails (h : Kept s u) (k t : Nat) (check : TileCheck) : Kept s (State.tileFails u k t check).1 := by
  unfold State.tileFails
  split
  · exact kept_ite_fst (kept_spareFails h ..) h
  · extract_lets +onlyGivenNames job
    split
    · exact h
    · split
      · extract_lets +onlyGivenNames r d
        have hr : Kept s r.1 := kept_swapTile h ..
        have hd : Kept s d.1 := kept_ite_fst (kept_degradeQ hr ..) (kept_mk hr)
        clear_value d
        exact kept_mk hd
      · split
        · extract_lets +onlyGivenNames M r d
          have hr : Kept s r.1 := kept_swapTile (kept_modStack h ..) ..
          have hd : Kept s d.1 := kept_degradeQ hr ..
          clear_value d
          exact kept_mk hd
        · extract_lets +onlyGivenNames r s1 d
          have hr : Kept s r.1 := kept_revokeTile h ..
          have h1 : Kept s s1 := kept_modTile hr ..
          have hd : Kept s d.1 := kept_degradeQ (kept_modStack h1 ..) ..
          clear_value d
          exact kept_mk (kept_modTel hd ..)

theorem kept_tilesFail (h : Kept s u) (k : Nat) (ts : List Nat) (check : TileCheck) : Kept s (State.tilesFail u k ts check).1 := by
  unfold State.tilesFail
  exact Kept.foldlFst h (fun a t ha => kept_mk (kept_tileFails ha ..)) _

theorem kept_execTileHeartbeatSample (h : Kept s u) (stack : Fin 4) (missed : BitVec 34) {t : State}
    (e : execTileHeartbeatSample stack missed u = .next t) :
    Kept s t := by
  unfold execTileHeartbeatSample at e
  grind [kept_raiseAll, kept_tilesFail]

theorem kept_execTileCheckFailure (h : Kept s u) (stack : Fin 4) (phys : Fin 34) (check : TileCheck) {t : State}
    (e : execTileCheckFailure stack phys check u = .next t) :
    Kept s t := by
  unfold execTileCheckFailure at e
  grind [kept_tileFails, kept_raiseAll]

theorem kept_copyLine (h : Kept s u) (slot src dst : Nat) : Kept s (State.copyLine u slot src dst) := by
  unfold State.copyLine
  grind [kept_setPoison, kept_storeCells, kept_touchReads]

theorem kept_reloadImage (h : Kept s u) (L : Nat) : Kept s (State.reloadImage u L) := by
  unfold State.reloadImage
  grind [kept_zeroRanges, kept_copyLine, Kept.foldl]

theorem kept_resumeStream (h : Kept s u) (L n : Nat) : Kept s (State.resumeStream u L n) := by
  unfold State.resumeStream
  grind [kept_replay, kept_modStream]

theorem kept_execTileImageReloaded (h : Kept s u) (tile : Fin 128) {t : State} (e : execTileImageReloaded tile u = .next t) : Kept s t := by
  unfold execTileImageReloaded at e
  grind [kept_resumeStream, kept_endSpan, kept_modTile, kept_reloadImage, Kept.foldl]

theorem kept_execD2dLaneFailure (h : Kept s u) (d2d : Fin 84) (lane : BitVec 5) {t : State} (e : execD2dLaneFailure d2d lane u = .next t) :
    Kept s t := by
  unfold execD2dLaneFailure at e
  extract_lets +onlyGivenNames m x st s1 count s2 ed at e
  split at e
  · exact kept_of_next e h
  · have h1 : Kept s s1 := kept_modPkg h ..
    have counted : ∀ v, Kept s v → Kept s (count v) := fun v hv => hv.foldl (fun w n hw => kept_stat hw ..) _
    have h2 : Kept s s2 := kept_raise h1 ..
    clear_value s1 count s2
    split at e
    · exact kept_of_next e (counted _ (kept_raise h1 ..))
    · split at e
      · exact kept_of_next e (counted _ (kept_raise h1 ..))
      · split at e
        · exact kept_of_next e (counted _ (kept_modTel (kept_degrade (kept_degrade (kept_raise h2 ..) ..) ..) ..))
        · exact kept_of_next e (counted _ (kept_degrade h2 ..))

theorem kept_execPackageHeartbeat (h : Kept s u) {t : State} (e : execPackageHeartbeat u = .next t) : Kept s t := by
  unfold execPackageHeartbeat at e
  grind [kept_originate, Kept.foldl]

theorem kept_jobLosesPackage (h : Kept s u) (n : Nat) (p : BitVec 12) : Kept s (State.jobLosesPackage u n p) := by
  unfold State.jobLosesPackage
  grind [kept_beginRestore, kept_revokeAll]

theorem kept_forgetRelink (h : Kept s u) (p : BitVec 12) : Kept s (State.forgetRelink u p) := by
  unfold State.forgetRelink
  grind [kept_modPort, Kept.foldl]

theorem kept_declareLost (h : Kept s u) (p : BitVec 12) : Kept s (State.declareLost u p) := by
  unfold State.declareLost
  grind [kept_jobLosesPackage, kept_raise, kept_forgetRelink, kept_with, Kept.foldl]

theorem kept_relinkLost (h : Kept s u) (a b : BitVec 12) : Kept s (State.relinkLost u a b) := by
  unfold State.relinkLost
  grind [kept_originate, kept_declareLost]

theorem kept_execMgmt (h : Kept s u) (src : Src) {t : State} (e : execMgmt src u = .next t) : Kept s t := by
  unfold execMgmt at e
  grind [kept_beginRestore, kept_revokeAll, kept_awaitCut, kept_rebase, kept_takePacket, kept_relinkLost, kept_with, Kept.foldl]

theorem kept_execPackageLossDeclared (h : Kept s u) (package : BitVec 12) {t : State} (e : execPackageLossDeclared package u = .next t) :
    Kept s t := by
  unfold execPackageLossDeclared at e
  grind [kept_declareLost]

theorem kept_execRelinkTimeout (h : Kept s u) (port : Fin 16) {t : State} (e : execRelinkTimeout port u = .next t) : Kept s t := by
  unfold execRelinkTimeout at e
  grind [kept_modPort, kept_originate, kept_relinkLost, Kept.foldl]

theorem kept_execFenceOrder (h : Kept s u) (src : Src) {t : State} (e : execFenceOrder src u = .next t) : Kept s t := by
  unfold execFenceOrder at e
  grind [kept_modTel, kept_loseJob, kept_takePacket, Kept.foldl]

theorem kept_execTakeoverOrder (h : Kept s u) (src : Src) {t : State} (e : execTakeoverOrder src u = .next t) : Kept s t := by
  unfold execTakeoverOrder at e
  grind [kept_originate, kept_identityChanged, kept_takePacket, kept_modHost, kept_with, Kept.foldl]

theorem kept_execCutFetch (h : Kept s u) (src : Src) {t : State} (e : execCutFetch src u = .next t) : Kept s t := by
  obtain ⟨parse, hp⟩ : ∃ parse, parse = readCut := ⟨_, rfl⟩
  obtain ⟨touch, ht⟩ : ∃ touch, touch = touchReads := ⟨_, rfl⟩
  have touched (ls : List Nat) (v : State) (hv : Kept s v) : Kept s (touch none true ls v).1 := ht ▸ kept_touchReads hv none true ls
  rw [execCutFetch, ← hp, ← ht] at e
  split at e
  · exact kept_of_next e h
  · next p s1 taken =>
    have h1 := kept_takePacket h _ _ taken
    extract_lets +onlyGivenNames job half off size bytes none' at e
    have hn (v : State) (hv : Kept s v) : Kept s (none' v) := kept_originate hv ..
    clear_value none'
    split at e
    · next rs _ step _ =>
      extract_lets +onlyGivenNames span lines r at e
      have hr : Kept s r.1 := touched _ _ h1
      clear_value r span
      split at e
      · exact kept_of_next e (hn _ hr)
      · exact kept_of_next e (hr.foldl (fun v k hv => hv.foldl (fun w c hw => kept_originate hw ..) _) _)
    · exact kept_of_next e (hn _ h1)

theorem kept_cutLost (h : Kept s u) (n reason : Nat) (step : Word) (pkg : BitVec 12) : Kept s (State.cutLost u n reason step pkg) := by
  unfold State.cutLost
  grind [kept_loseJob, kept_tellMembers, kept_raise]

theorem kept_endFetch (h : Kept s u) (job : Nat) {v : State} {lead : BitVec 12} {watched : Watched}
    (e : State.endFetch u job = some (lead, watched, v)) :
    Kept s v := by
  unfold State.endFetch at e
  grind [kept_with]

theorem kept_fetchFails (h : Kept s u) (job : Nat) : Kept s (State.fetchFails u job) := by
  unfold State.fetchFails
  grind [kept_originate, kept_endFetch]

theorem kept_execCutNone (h : Kept s u) (src : Src) {t : State} (e : execCutNone src u = .next t) : Kept s t := by
  unfold execCutNone at e
  split at e
  · exact kept_of_next e h
  · next p s1 taken =>
    have h1 := kept_takePacket h _ _ taken
    extract_lets +onlyGivenNames job at e
    split at e
    · next n _ =>
      extract_lets +onlyGivenNames ward at e
      split at e
      · exact kept_of_next e (kept_cutLost h1 ..)
      · exact kept_of_next e h1
    · split at e
      · exact kept_of_next e h1
      · next he => exact kept_of_next e (kept_sendCopy (kept_endFetch h1 _ he) ..)

theorem kept_writeRecords (h : Kept s u) (slot : Nat) (rs : List CutRec) : Kept s (writeRecords slot rs u).1 := by
  induction rs generalizing u with
  | nil => exact h
  | cons r rs ih =>
    unfold writeRecords
    grind [kept_writeView]

theorem kept_placeCut (h : Kept s u) (w : Watched) (rs : List CutRec) : Kept s (State.placeCut u w rs).1 := by
  unfold State.placeCut
  split
  · split
    · exact h
    · extract_lets +onlyGivenNames gs first
      split
      · exact h
      · extract_lets +onlyGivenNames s1
        have h1 : Kept s s1 := kept_modJob h ..
        clear_value s1
        split
        · exact kept_mk (kept_keepRejects h ..)
        · next he =>
          have h2 := kept_left he (kept_loadTables h1 ..)
          split
          · exact kept_mk (kept_keepRejects h ..)
          · next he3 => exact kept_mk (kept_retime (kept_left he3 (kept_writeRecords h2 ..)))
  · exact h

theorem kept_execCutRead (h : Kept s u) (src : Src) {t : State} (e : execCutRead src u = .next t) : Kept s t := by
  unfold execCutRead at e
  split at e
  · exact kept_of_next e h
  · next p s1 taken =>
    have h1 : Kept s s1 := kept_takePacket h _ _ taken
    extract_lets +onlyGivenNames job k got at e
    split at e
    · exact kept_of_next e (kept_noDestination h1 ..)
    · split at e
      · exact kept_of_next e (kept_noDestination h1 ..)
      · next w _ =>
        split at e
        · exact kept_of_next e (kept_fetchFails h1 ..)
        · extract_lets bs _ s2 at e
          have h2 : Kept s s2 := kept_with h1
          clear_value s2
          split at e
          · exact kept_of_next e h2
          · exact kept_of_next e (kept_fetchFails h2 ..)
          · next rs j step _ =>
            split at e
            · exact kept_of_next e (kept_fetchFails h2 ..)
            · have placed := kept_placeCut h2 w rs
              split at e
              · next he => exact kept_of_next e (kept_fetchFails (kept_left he placed) ..)
              · next he => exact kept_of_next e (kept_with (kept_left he placed))

theorem kept_readBack (h : Kept s u) (slot : Nat) : Kept s (State.readBack u slot).1 := by
  unfold State.readBack
  extract_lets +onlyGivenNames j
  split
  · exact h
  · split
    · split
      · exact h
      · extract_lets +onlyGivenNames lines r
        have hr : Kept s r.1 := kept_touchReads h ..
        clear_value r
        split
        · exact hr
        · split
          · exact hr
          · next he => exact kept_mk (kept_modJob (kept_left he (kept_writeRecords hr ..)) ..)
    · exact h

theorem kept_resetChannels (h : Kept s u) (slot : Nat) : Kept s (State.resetChannels u slot) := by
  unfold State.resetChannels
  grind [kept_modTile, Kept.foldl]

theorem kept_restart (h : Kept s u) (slot : Nat) : Kept s (State.restart u slot) := by
  unfold State.restart
  grind [kept_openChannels, kept_resetChannels, kept_meldRevoke, kept_resumeReset, kept_haltJob, kept_modTrk, kept_modJob, kept_failDescs]

theorem kept_resumeDeck (h : Kept s u) (slot : Nat) : Kept s (State.resumeDeck u slot) := by
  unfold State.resumeDeck
  grind [kept_sendResume, kept_modTrk, kept_with, Kept.foldl]

theorem kept_execCutRestored (h : Kept s u) (slot : Fin 16) {t : State} (e : execCutRestored slot u = .next t) : Kept s t := by
  unfold execCutRestored at e
  grind [kept_restart, kept_modJob, kept_resumeDeck, kept_raise, kept_cutLost, kept_readBack, kept_writeBanks, kept_with]

/-! ### GDDR7, the memory layout and host memory -/

theorem kept_execGddrTrained (h : Kept s u) (ctrl : Fin 20) {t : State} (e : execGddrTrained ctrl u = .next t) : Kept s t := by
  unfold execGddrTrained at e
  extract_lets +onlyGivenNames g mine at e
  split at e
  · exact kept_of_next e h
  · refine kept_of_next e (kept_modGd (kept_with (u := { u with mem := u.mem.filter (fun e => !(mine e.1)) }) ?_) ..)
    exact h.trans ⟨Memory.wf_filter u.mem _, rfl, rfl⟩

theorem kept_execGddrTrainingFailed (h : Kept s u) (ctrl : Fin 20) {t : State} (e : execGddrTrainingFailed ctrl u = .next t) : Kept s t := by
  unfold execGddrTrainingFailed at e
  grind [kept_raise, kept_degrade, kept_modGd]

theorem kept_abortMargining (h : Kept s u) (k : Nat) : Kept s (State.abortMargining u k) := by
  unfold State.abortMargining
  grind [kept_modGd, Kept.foldl]

theorem kept_setThrottleStep (h : Kept s u) (n step : Nat) : Kept s (State.setThrottleStep u n step) := by
  unfold State.setThrottleStep
  grind [kept_abortMargining, kept_raise, kept_modGd]

theorem kept_execGddrTempPoll (h : Kept s u) (ctrl : Fin 20) (reading : Option (BitVec 8)) {t : State}
    (e : execGddrTempPoll ctrl reading u = .next t) :
    Kept s t := by
  unfold execGddrTempPoll at e
  grind [kept_setThrottleStep, kept_raise, kept_modGd]

theorem kept_writeGdThr (h : Kept s u) (n : Nat) (v : Word) : Kept s (State.writeGdThr u n v) := by
  unfold State.writeGdThr
  grind [kept_modGd]

theorem kept_execGdThrWrite (h : Kept s u) (ctrl : Fin 20) (value : BitVec 32) {t : State} (e : execGdThrWrite ctrl value u = .next t) :
    Kept s t := by
  unfold execGdThrWrite at e
  grind [kept_writeGdThr, kept_fromHost]

theorem kept_clearGdErr (h : Kept s u) (n : Nat) : Kept s (State.clearGdErr u n) := kept_modGd h ..

theorem kept_execErrClr (h : Kept s u) (ctrl : Fin 20) {t : State} (e : execErrClr ctrl u = .next t) : Kept s t := by
  unfold execErrClr at e
  grind [kept_clearGdErr, kept_fromHost]

theorem kept_execGddrRetrain (h : Kept s u) (ctrl : Fin 20) (channel : Fin 4) {t : State} (e : execGddrRetrain ctrl channel u = .next t) :
    Kept s t := by
  unfold execGddrRetrain at e
  grind [kept_modGd]

theorem kept_writePatterns (h : Kept s u) (n : Nat) : Kept s (State.writePatterns u n) := by
  unfold State.writePatterns
  grind [kept_freeBytes, kept_storeCells, Kept.foldl]

theorem kept_startMargining (h : Kept s u) (n : Nat) : Kept s (State.startMargining u n) := by
  unfold State.startMargining
  grind [kept_writePatterns, kept_modGd]

theorem kept_execMarginingStart (h : Kept s u) (ctrl : Fin 20) {t : State} (e : execMarginingStart ctrl u = .next t) : Kept s t := by
  unfold execMarginingStart at e
  grind [kept_fromHost, kept_startMargining]

theorem kept_execMarginingDone (h : Kept s u) (ctrl : Fin 20) (margins : List (BitVec 32)) {t : State}
    (e : execMarginingDone ctrl margins u = .next t) :
    Kept s t := by
  unfold execMarginingDone at e
  grind [kept_raise, kept_modGd]

theorem kept_execScrubVisit (h : Kept s u) (ctrl : Fin 20) (outcome : ReadOutcome) (overtaken : Bool) {t : State}
    (e : execScrubVisit ctrl outcome overtaken u = .next t) :
    Kept s t := by
  unfold execScrubVisit at e
  grind [kept_readLine, kept_clearPoison, kept_modGd, kept_with]

theorem kept_execHostMemRead (h : Kept s u) (offset : BitVec 48) (bytes : Nat) (amb : Ambient) {t : State}
    (e : execHostMemRead offset bytes amb u = .next t) :
    Kept s t := by
  unfold execHostMemRead at e
  grind [kept_hostAccess, kept_applyAmb]

theorem kept_execHostMemWrite (h : Kept s u) (offset : BitVec 48) (data : List (BitVec 8)) {t : State}
    (e : execHostMemWrite offset data u = .next t) :
    Kept s t := by
  unfold execHostMemWrite at e
  grind [kept_hostAccess]

theorem kept_writeMemCfg (h : Kept s u) (k : Nat) (v : Word) : Kept s (State.writeMemCfg u k v) := by
  unfold State.writeMemCfg
  grind [kept_modStack]

theorem kept_execStkMemCfgWrite (h : Kept s u) (stack : Fin 4) (value : BitVec 32) {t : State} (e : execStkMemCfgWrite stack value u = .next t) :
    Kept s t := by
  unfold execStkMemCfgWrite at e
  grind [kept_writeMemCfg, kept_fromHost]

theorem kept_execFarCacheResizeDone (h : Kept s u) (stack : Fin 4) {t : State} (e : execFarCacheResizeDone stack u = .next t) : Kept s t := by
  unfold execFarCacheResizeDone at e
  grind [kept_modStack]

theorem kept_writeGddrCfg (h : Kept s u) (k : Nat) (v : Word) : Kept s (State.writeGddrCfg u k v) := by
  unfold State.writeGddrCfg
  grind [kept_raise, kept_modStack]

theorem kept_execStkGddrCfgWrite (h : Kept s u) (stack : Fin 4) (value : BitVec 32) {t : State}
    (e : execStkGddrCfgWrite stack value u = .next t) :
    Kept s t := by
  unfold execStkGddrCfgWrite at e
  grind [kept_fromHost, kept_writeGddrCfg]

theorem kept_execGddrLayoutDone (h : Kept s u) (stack : Fin 4) {t : State} (e : execGddrLayoutDone stack u = .next t) : Kept s t := by
  unfold execGddrLayoutDone at e
  grind [kept_zeroRanges, kept_modStack]

theorem kept_execHostLineSnoop (h : Kept s u) (line : BitVec 58) {t : State} (e : execHostLineSnoop line u = .next t) : Kept s t := by
  unfold execHostLineSnoop at e
  grind [kept_modHost]

theorem kept_takeRequest (h : Kept s u) (L : Nat) {v : State} {ix : Nat} (e : State.takeRequest u L = some (ix, v)) : Kept s v := by
  unfold State.takeRequest at e
  grind [kept_modHost]

theorem kept_answerHub (h : Kept s u) (why : Nat) : Kept s (State.answerHub u why) := by
  unfold State.answerHub
  grind [kept_modHost]

theorem kept_execPageRequestResponse (h : Kept s u) (tile : Fin 129) (granted : Bool) (amb : Ambient) {t : State}
    (e : execPageRequestResponse tile granted amb u = .next t) :
    Kept s t := by
  unfold execPageRequestResponse at e
  extract_lets +onlyGivenNames L at e
  split at e
  · exact kept_of_next e h
  · split at e
    · exact kept_of_next e (kept_answerHub (kept_applyAmb h amb) ..)
    · split at e
      · exact kept_of_next e h
      · next v s1 taken =>
        have h1 := kept_takeRequest h _ taken
        split at e
        · exact kept_of_next e (kept_hostFault h1 ..)
        · extract_lets +onlyGivenNames job at e
          have h0 := kept_applyAmb h1 amb
          generalize s1.applyAmb amb = s0 at h0 e
          split at e
          · next he => exact kept_of_next e (kept_retryAccess (kept_left he (kept_translate h0 ..)) ..)
          · next he =>
            have h2 := kept_left he (kept_translate h0 ..)
            exact kept_of_next e (kept_ite (kept_retryAccess h2 ..) (kept_hostFault h2 ..))

theorem kept_execPageRequestTimeout (h : Kept s u) (tile : Fin 129) {t : State} (e : execPageRequestTimeout tile u = .next t) : Kept s t := by
  unfold execPageRequestTimeout at e
  grind [kept_hostFault, kept_takeRequest, kept_answerHub]

theorem kept_execAtsInvalidation (h : Kept s u) (firstPage lastPage : BitVec 52) {t : State}
    (e : execAtsInvalidation firstPage lastPage u = .next t) :
    Kept s t := by
  unfold execAtsInvalidation at e
  grind [kept_fromHost, kept_modHost, kept_emit]

theorem kept_writeHwt (h : Kept s u) (v : Dword) : Kept s (State.writeHwt u v) := kept_modHost h ..

theorem kept_execHwtEntryWrite (h : Kept s u) (value : BitVec 64) {t : State} (e : execHwtEntryWrite value u = .next t) : Kept s t := by
  unfold execHwtEntryWrite at e
  grind [kept_fromHost, kept_writeHwt]

/-! ### The recorder and the journal -/

theorem kept_putRecord (h : Kept s u) (r : EventRec) : Kept s (State.putRecord u r) := kept_with h

theorem kept_recorderMiss (h : Kept s u) : Kept s (State.recorderMiss u) := kept_modTel h ..

theorem kept_lastSlot (h : Kept s u) : Kept s (State.lastSlot u) := by
  unfold State.lastSlot
  grind [kept_modTel, kept_deliverEvent, kept_takeToken, kept_putRecord]

theorem kept_programRecord (h : Kept s u) (r : EventRec) : Kept s (State.programRecord u r) := by
  unfold State.programRecord
  grind [kept_recorderMiss, kept_lastSlot, kept_putRecord]

theorem kept_execRecorderProgram (h : Kept s u) {t : State} (e : execRecorderProgram u = .next t) : Kept s t := by
  unfold execRecorderProgram at e
  grind [kept_modTel, kept_programRecord]

theorem kept_execRateLimitRefill (h : Kept s u) (code : BitVec 16) {t : State} (e : execRateLimitRefill code u = .next t) : Kept s t := by
  unfold execRateLimitRefill at e
  grind [kept_modTel]

theorem kept_enterJournal (h : Kept s u) : Kept s (State.enterJournal u) := kept_with h

theorem kept_execJournalWrite (h : Kept s u) (failed : Bool) {t : State} (e : execJournalWrite failed u = .next t) : Kept s t := by
  unfold execJournalWrite at e
  grind [kept_modTel, kept_enterJournal, kept_raise]

theorem kept_execPowerMonitorSample (h : Kept s u) (microjoules : List (BitVec 32)) {t : State}
    (e : execPowerMonitorSample microjoules u = .next t) :
    Kept s t := by
  unfold execPowerMonitorSample at e
  grind [kept_modTel, Kept.foldl]

theorem kept_execPldmSensorUpdate (h : Kept s u) {t : State} (e : execPldmSensorUpdate u = .next t) : Kept s t := by
  unfold execPldmSensorUpdate at e
  grind [kept_modTel, Kept.foldl]

theorem kept_execMcWatchdogExpiry (h : Kept s u) {t : State} (e : execMcWatchdogExpiry u = .next t) : Kept s t := by
  unfold execMcWatchdogExpiry at e
  grind [kept_modTel, kept_modSec, kept_degrade]

theorem kept_execMcRestart (h : Kept s u) {t : State} (e : execMcRestart u = .next t) : Kept s t := by
  unfold execMcRestart at e
  grind [kept_modTel, kept_raise, kept_retime]

theorem kept_execRecRead (h : Kept s u) (start : BitVec 32) (unit : BitVec 16) {t : State} (e : execRecRead start unit u = .next t) :
    Kept s t := by
  unfold execRecRead at e
  grind [kept_emit]

theorem kept_execRecStatus (h : Kept s u) {t : State} (e : execRecStatus u = .next t) : Kept s t := by
  unfold execRecStatus at e
  grind [kept_emit]

/-! ### Power and temperature -/

theorem kept_runSelfTest (h : Kept s u) : Kept s (State.runSelfTest u) := by
  unfold State.runSelfTest
  grind [kept_modPkg, kept_with]

theorem kept_execPowerOnResetRelease (h : Kept s u) (testMode : BitVec 3) {t : State} (e : execPowerOnResetRelease testMode u = .next t) :
    Kept s t := by
  unfold execPowerOnResetRelease at e
  grind [kept_modPkg, kept_retime, kept_runSelfTest]

theorem kept_execProchotNAssert (h : Kept s u) {t : State} (e : execProchotNAssert u = .next t) : Kept s t := by
  unfold execProchotNAssert at e
  grind [kept_modPkg, kept_retime]

theorem kept_execProchotNDeassert (h : Kept s u) {t : State} (e : execProchotNDeassert u = .next t) : Kept s t := by
  unfold execProchotNDeassert at e
  grind [kept_modPkg, kept_retime]

theorem kept_execPowerCapEvaluation (h : Kept s u) (powerDw : BitVec 16) {t : State} (e : execPowerCapEvaluation powerDw u = .next t) :
    Kept s t := by
  unfold execPowerCapEvaluation at e
  grind [kept_modPkg, kept_raise, kept_retime]

theorem kept_writePcap (h : Kept s u) (v : Word) : Kept s (State.writePcap u v) := by
  unfold State.writePcap
  grind [kept_modPkg]

theorem kept_execHostCapWrite (h : Kept s u) (value : BitVec 32) {t : State} (e : execHostCapWrite value u = .next t) : Kept s t := by
  unfold execHostCapWrite at e
  grind [kept_fromHost, kept_writePcap]

theorem kept_execBmcCapWrite (h : Kept s u) (setting : BmcSetting) {t : State} (e : execBmcCapWrite setting u = .next t) : Kept s t := by
  unfold execBmcCapWrite at e
  grind [kept_modTel, kept_modPkg, kept_emit]

theorem kept_railEvent (h : Kept s u) (rail mv : Nat) : Kept s (State.railEvent u rail mv) := kept_raise h ..

theorem kept_execAvsAcknowledge (h : Kept s u) (stack : Fin 4) {t : State} (e : execAvsAcknowledge stack u = .next t) : Kept s t := by
  unfold execAvsAcknowledge at e
  grind [kept_modPkg, kept_retime, kept_modStack]

theorem kept_execAvsAckTimeout (h : Kept s u) (stack : Fin 4) {t : State} (e : execAvsAckTimeout stack u = .next t) : Kept s t := by
  unfold execAvsAckTimeout at e
  grind [kept_modPkg, kept_modStack, kept_emit, kept_railEvent]

theorem kept_execRailOutOfRange (h : Kept s u) (rail : Fin 15) (millivolts : BitVec 16) (returned : Bool) {t : State}
    (e : execRailOutOfRange rail millivolts returned u = .next t) :
    Kept s t := by
  unfold execRailOutOfRange at e
  grind [kept_modPkg, kept_railEvent]

theorem kept_throttleEvent (h : Kept s u) (k started : Nat) : Kept s (State.throttleEvent u k started) := kept_raise h ..

theorem kept_throttleStack (h : Kept s u) (k : Nat) : Kept s (State.throttleStack u k) := by
  unfold State.throttleStack
  grind [kept_throttleEvent, kept_modStack]

theorem kept_trip (h : Kept s u) (d : Nat) : Kept s (State.trip u d) := by
  unfold State.trip
  extract_lets +onlyGivenNames s1
  have h1 : Kept s s1 := kept_hostLinkLost (kept_emit (kept_retime (kept_modPkg h ..)) ..)
  clear_value s1
  split
  · next he => exact kept_left he (kept_takeToken h1 ..)
  · next he =>
    have h2 := kept_left he (kept_takeToken h1 ..)
    split
    · exact kept_deliverEvent (kept_modTel (kept_ite (kept_recorderMiss h2 ..) h2) ..) ..
    · exact kept_deliverEvent (kept_programRecord h2 ..) ..

theorem kept_execThermalSensorRead (h : Kept s u) (hottest : List (BitVec 8)) {t : State} (e : execThermalSensorRead hottest u = .next t) :
    Kept s t := by
  unfold execThermalSensorRead at e
  grind [kept_trip, kept_throttleStack, kept_modPkg, Kept.foldl]

theorem kept_execThrottleLevelCheck (h : Kept s u) (stack : Fin 4) {t : State} (e : execThrottleLevelCheck stack u = .next t) : Kept s t := by
  unfold execThrottleLevelCheck at e
  grind [kept_modStack]

/-! ### Boot and the timers of the security unit -/

theorem kept_setNonce (h : Kept s u) (p : SecPath) (n : Option (BitVec 256)) : Kept s (State.setNonce u p n) := by
  unfold State.setNonce
  grind [kept_modSec]

theorem kept_writeBoot (h : Kept s u) (x' : BootRecord) : Kept s (State.writeBoot u x') := kept_with h

theorem kept_eraseSlot (h : Kept s u) (slot : Bool) : Kept s (State.eraseSlot u slot) := kept_with h

theorem kept_startFirmware (h : Kept s u) (slot fallback trial : Bool) : Kept s (State.startFirmware u slot fallback trial) := by
  unfold State.startFirmware
  extract_lets +onlyGivenNames b body used s1 s2 failed s3 s4 s5
  have h1 : Kept s s1 := kept_modSec h fun _ => rfl
  have h2 : Kept s s2 := kept_lastSlot (kept_modTel h1 ..)
  have h3 : Kept s s3 := h2.foldl (fun v k hv => kept_raise hv ..) _
  have h4 : Kept s s4 := kept_ite h3 (kept_writeBoot h3 ..)
  have h5 : Kept s s5 := kept_enterJournal (kept_ite (kept_raise h4 ..) h4)
  clear_value s5
  exact kept_retime (kept_ite (kept_degrade h5 ..) h5)

theorem kept_trySlot (h : Kept s u) (slot : Bool) : Kept s (State.trySlot u slot).1 := kept_writeBoot h ..

theorem kept_execFirmwareStart (h : Kept s u) {t : State} (e : execFirmwareStart u = .next t) : Kept s t := by
  unfold execFirmwareStart at e
  grind [kept_startFirmware, kept_modSec, kept_trySlot]

theorem kept_execNonceExpiry (h : Kept s u) (path : SecPath) {t : State} (e : execNonceExpiry path u = .next t) : Kept s t := by
  unfold execNonceExpiry at e
  grind [kept_setNonce]

theorem kept_execUpdateSessionTimeout (h : Kept s u) {t : State} (e : execUpdateSessionTimeout u = .next t) : Kept s t := by
  unfold execUpdateSessionTimeout at e
  grind [kept_modSec, kept_eraseSlot]

theorem kept_throughTap (h : Kept s u) : Kept s (State.throughTap u) := kept_modPkg h ..

theorem kept_execDebugNonceDraw (h : Kept s u) (drawn : BitVec 256) {t : State} (e : execDebugNonceDraw drawn u = .next t) : Kept s t := by
  unfold execDebugNonceDraw at e
  grind [kept_modSec, kept_throughTap, kept_setNonce]

theorem kept_execRecorderClearDone (h : Kept s u) {t : State} (e : execRecorderClearDone u = .next t) : Kept s t := by
  unfold execRecorderClearDone at e
  grind [kept_with]

/-! ### SPDM and the IDE keys -/

theorem kept_respond (h : Kept s u) (m : List Byte) : Kept s (State.respond u m) := by
  unfold State.respond
  grind [kept_modSec, kept_emit]

theorem kept_spdmError (h : Kept s u) (code data : Nat) : Kept s (State.spdmError u code data) := kept_emit h ..

theorem kept_spdm (h : Kept s u) (f : State → State) (hf : ∀ x0, Kept s x0 → Kept s (f x0)) : Kept s (State.spdm u f) := by
  unfold State.spdm
  grind [kept_spdmError]

theorem kept_spdmAfter (h : Kept s u) (f : State → State) (hf : ∀ x0, Kept s x0 → Kept s (f x0)) : Kept s (State.spdmAfter u f) := by
  unfold State.spdmAfter
  grind [kept_spdmError, kept_spdm]

theorem kept_slhSign (h : Kept s u) (p : SlhSet) (k : SlhKey) (m : List Byte) : Kept s (State.slhSign u p k m).1 := kept_freeBytes h ..

theorem kept_respondSigned (h : Kept s u) (m rest : List Byte) : Kept s (State.respondSigned u m rest) := by
  unfold State.respondSigned
  grind [kept_spdmError, kept_slhSign, kept_respond]

theorem kept_spdmSigned (h : Kept s u) (request : Nat) (f : State → State) (hf : ∀ x0, Kept s x0 → Kept s (f x0)) :
    Kept s (State.spdmSigned u request f) := by
  unfold State.spdmSigned
  grind [kept_freeBytes, kept_spdmError, kept_emit]

theorem kept_spdmVersion (h : Kept s u) : Kept s (State.spdmVersion u) := by
  unfold State.spdmVersion
  grind [kept_modSec, kept_respond]

theorem kept_spdmCapabilities (h : Kept s u) : Kept s (State.spdmCapabilities u) := by
  unfold State.spdmCapabilities
  grind [kept_spdmError, kept_modSec, kept_respond]

theorem kept_spdmAlgorithms (h : Kept s u) : Kept s (State.spdmAlgorithms u) := by
  unfold State.spdmAlgorithms
  grind [kept_spdmError, kept_modSec, kept_respond]

theorem kept_signAlias (h : Kept s u) : Kept s (State.signAlias u) := by
  unfold State.signAlias
  grind [kept_modSec, kept_slhSign]

theorem kept_execBootReady (h : Kept s u) {t : State} (e : execBootReady u = .next t) : Kept s t := by
  unfold execBootReady at e
  grind [kept_signAlias, kept_modSec, kept_modHost]

theorem kept_spdmDigests (h : Kept s u) : Kept s (State.spdmDigests u) := kept_respond h ..

theorem kept_spdmCertificate (h : Kept s u) (slot offset length : Nat) : Kept s (State.spdmCertificate u slot offset length) := by
  unfold State.spdmCertificate
  grind [kept_spdmError, kept_respond]

theorem kept_spdmChallenge (h : Kept s u) (slot : Nat) (asked : SpdmAsk) : Kept s (State.spdmChallenge u slot asked) := by
  unfold State.spdmChallenge
  grind [kept_freeBytes, kept_spdmSigned, kept_spdmError, kept_respondSigned]

theorem kept_spdmMeasurements (h : Kept s u) (index : Nat) (signed : Bool) (asked : SpdmAsk) :
    Kept s (State.spdmMeasurements u index signed asked) := by
  unfold State.spdmMeasurements
  grind [kept_freeBytes, kept_spdmSigned, kept_spdmError, kept_respondSigned, kept_respond]

theorem kept_setSession (h : Kept s u) (i : Nat) (x' : SpdmSession) : Kept s (State.setSession u i x') := by
  unfold State.setSession
  grind [kept_modSec]

theorem kept_spdmExchange (h : Kept s u) (request : List Byte) : Kept s (State.spdmExchange u request) := by
  unfold State.spdmExchange
  grind [kept_freeBytes, kept_spdmSigned, kept_setSession, kept_spdmError, kept_modSec, kept_respondSigned]

theorem kept_execGetVersion (h : Kept s u) {t : State} (e : execGetVersion u = .next t) : Kept s t := by
  unfold execGetVersion at e
  grind [kept_spdm, kept_spdmVersion]

theorem kept_execGetCapabilities (h : Kept s u) {t : State} (e : execGetCapabilities u = .next t) : Kept s t := by
  unfold execGetCapabilities at e
  grind [kept_spdm, kept_spdmCapabilities]

theorem kept_execNegotiateAlgorithms (h : Kept s u) {t : State} (e : execNegotiateAlgorithms u = .next t) : Kept s t := by
  unfold execNegotiateAlgorithms at e
  grind [kept_spdmAlgorithms, kept_spdm]

theorem kept_execGetDigests (h : Kept s u) {t : State} (e : execGetDigests u = .next t) : Kept s t := by
  unfold execGetDigests at e
  grind [kept_spdmAfter, kept_spdmDigests]

theorem kept_execGetCertificate (h : Kept s u) (slot : BitVec 8) (offset length : BitVec 16) {t : State}
    (e : execGetCertificate slot offset length u = .next t) :
    Kept s t := by
  unfold execGetCertificate at e
  grind [kept_spdmAfter, kept_spdmCertificate]

theorem kept_execChallenge (h : Kept s u) (slot : BitVec 8) (asked : SpdmAsk) {t : State} (e : execChallenge slot asked u = .next t) :
    Kept s t := by
  unfold execChallenge at e
  grind [kept_spdmChallenge, kept_spdmAfter]

theorem kept_execGetMeasurements (h : Kept s u) (index : BitVec 8) (signed : Bool) (asked : SpdmAsk) {t : State}
    (e : execGetMeasurements index signed asked u = .next t) :
    Kept s t := by
  unfold execGetMeasurements at e
  grind [kept_spdmAfter, kept_spdmMeasurements]

theorem kept_execKeyExchange (h : Kept s u) (request : List (BitVec 8)) {t : State} (e : execKeyExchange request u = .next t) : Kept s t := by
  unfold execKeyExchange at e
  grind [kept_spdmAfter, kept_spdmExchange]

theorem kept_spdmFinish (h : Kept s u) (i : Nat) (request : List Byte) : Kept s (State.spdmFinish u i request) := by
  unfold State.spdmFinish
  grind [kept_setSession, kept_spdmError, kept_respond]

theorem kept_execFinish (h : Kept s u) (session : Fin 2) (request : List (BitVec 8)) {t : State} (e : execFinish session request u = .next t) :
    Kept s t := by
  unfold execFinish at e
  grind [kept_spdmAfter, kept_spdmFinish]

theorem kept_sessionServes (h : Kept s u) (i : Nat) (f : State → State) (hf : ∀ x0, Kept s x0 → Kept s (f x0)) :
    Kept s (State.sessionServes u i f) := by
  unfold State.sessionServes
  grind [kept_spdmError]

theorem kept_inSession (h : Kept s u) (i : Nat) (f : State → State) (hf : ∀ x0, Kept s x0 → Kept s (f x0)) : Kept s (State.inSession u i f) := by
  unfold State.inSession
  grind [kept_spdmAfter, kept_sessionServes]

theorem kept_execSpdmHeartbeat (h : Kept s u) (session : Fin 2) {t : State} (e : execSpdmHeartbeat session u = .next t) : Kept s t := by
  unfold execSpdmHeartbeat at e
  grind [kept_respond, kept_inSession]

theorem kept_spdmKeyUpdate (h : Kept s u) (i : Nat) (op : Byte) : Kept s (State.spdmKeyUpdate u i op) := by
  unfold State.spdmKeyUpdate
  grind [kept_setSession, kept_spdmError, kept_respond]

theorem kept_execKeyUpdate (h : Kept s u) (session : Fin 2) (op : BitVec 8) {t : State} (e : execKeyUpdate session op u = .next t) :
    Kept s t := by
  unfold execKeyUpdate at e
  grind [kept_inSession, kept_spdmKeyUpdate]

theorem kept_execEndSession (h : Kept s u) (session : Fin 2) {t : State} (e : execEndSession session u = .next t) : Kept s t := by
  unfold execEndSession at e
  grind [kept_setSession, kept_respond, kept_inSession]

theorem kept_execSpdmHeartbeatTimeout (h : Kept s u) (session : Fin 2) {t : State} (e : execSpdmHeartbeatTimeout session u = .next t) :
    Kept s t := by
  unfold execSpdmHeartbeatTimeout at e
  grind [kept_setSession]

theorem kept_execSpdmUnsupported (h : Kept s u) (code : BitVec 8) {t : State} (e : execSpdmUnsupported code u = .next t) : Kept s t := by
  unfold execSpdmUnsupported at e
  grind [kept_spdmError, kept_spdm]

theorem kept_setIde (h : Kept s u) (x' : IdeStream) (d : IdeDir) : Kept s (State.setIde u x' d) := by
  unfold State.setIde
  grind [kept_modSec]

theorem kept_ideAnswer (h : Kept s u) (m : List Byte) : Kept s (State.ideAnswer u m) := kept_respond h ..

theorem kept_ideQuery (h : Kept s u) : Kept s (State.ideQuery u) := kept_ideAnswer h ..

theorem kept_ideKeyProg (h : Kept s u) (stream : IdeStream) (keySet : Fin 2) (key : BitVec 256) :
    Kept s (State.ideKeyProg u stream keySet key) := by
  unfold State.ideKeyProg
  grind [kept_ideAnswer, kept_setIde]

theorem kept_ideSetGo (h : Kept s u) (stream : IdeStream) (keySet : Fin 2) : Kept s (State.ideSetGo u stream keySet) := by
  unfold State.ideSetGo
  grind [kept_raise, kept_ideAnswer, kept_setIde]

theorem kept_ideSetStop (h : Kept s u) (stream : IdeStream) (keySet : Fin 2) : Kept s (State.ideSetStop u stream keySet) := by
  unfold State.ideSetStop
  grind [kept_ideAnswer, kept_setIde]

theorem kept_execQuery (h : Kept s u) (session : Fin 2) {t : State} (e : execQuery session u = .next t) : Kept s t := by
  unfold execQuery at e
  grind [kept_ideQuery, kept_inSession]

theorem kept_execKeyProg (h : Kept s u) (session : Fin 2) (stream : IdeStream) (keySet : Fin 2) (key : BitVec 256) {t : State}
    (e : execKeyProg session stream keySet key u = .next t) :
    Kept s t := by
  unfold execKeyProg at e
  grind [kept_ideKeyProg, kept_inSession]

theorem kept_execKSetGo (h : Kept s u) (session : Fin 2) (stream : IdeStream) (keySet : Fin 2) {t : State}
    (e : execKSetGo session stream keySet u = .next t) :
    Kept s t := by
  unfold execKSetGo at e
  grind [kept_inSession, kept_ideSetGo]

theorem kept_execKSetStop (h : Kept s u) (session : Fin 2) (stream : IdeStream) (keySet : Fin 2) {t : State}
    (e : execKSetStop session stream keySet u = .next t) :
    Kept s t := by
  unfold execKSetStop at e
  grind [kept_ideSetStop, kept_inSession]

theorem kept_execIdeIntegrityFailure (h : Kept s u) (stream : IdeStream) {t : State} (e : execIdeIntegrityFailure stream u = .next t) :
    Kept s t := by
  unfold execIdeIntegrityFailure at e
  grind [kept_raise, kept_hostLinkLost, kept_setIde]

theorem kept_execChunkGet (h : Kept s u) (handle : BitVec 8) (seq : BitVec 16) {t : State} (e : execChunkGet handle seq u = .next t) :
    Kept s t := by
  unfold execChunkGet at e
  grind [kept_spdmAfter, kept_spdmError, kept_modSec, kept_emit]

theorem kept_spdmOpen (h : Kept s u) (f : Nat → State → State) (hf : ∀ x0 x1, Kept s x1 → Kept s (f x0 x1)) : Kept s (State.spdmOpen u f) := by
  unfold State.spdmOpen
  grind [kept_spdmError]

theorem kept_ideMessage (h : Kept s u) (m : List Byte) : Kept s (State.ideMessage u m) := by
  unfold State.ideMessage
  grind [kept_ideQuery, kept_spdmError, kept_ideSetStop, kept_ideKeyProg, kept_ideSetGo]

theorem kept_spdmGathered (h : Kept s u) (m : List Byte) : Kept s (State.spdmGathered u m) := by
  unfold State.spdmGathered
  grind [kept_spdmChallenge, kept_setSession, kept_spdmError, kept_spdmFinish, kept_spdmMeasurements, kept_spdmAlgorithms, kept_spdmDigests,
    kept_spdmExchange, kept_spdmCertificate, kept_spdmOpen, kept_ideMessage, kept_respond, kept_spdmCapabilities, kept_spdmVersion,
    kept_spdmKeyUpdate]

theorem kept_execChunkSend (h : Kept s u) (handle : BitVec 8) (seq : BitVec 16) (last : Bool) (data : List (BitVec 8)) {t : State}
    (e : execChunkSend handle seq last data u = .next t) :
    Kept s t := by
  unfold execChunkSend at e
  grind [kept_spdmAfter, kept_spdmError, kept_modSec, kept_spdmGathered, kept_emit]

/-! ### Writes of registers -/

theorem kept_reserved (h : Kept s u) (held : Bool) (f : State → State) (hf : ∀ x0, Kept s x0 → Kept s (f x0)) :
    Kept s (State.reserved u held f) := by
  unfold State.reserved
  grind [kept_glbReject]

theorem kept_writeIdentity (h : Kept s u) (reg : IdentityReg) (v : Dword) : Kept s (State.writeIdentity u reg v) := by
  unfold State.writeIdentity
  grind [kept_glbReject, kept_identityChanged, kept_modHost]

theorem kept_execGlbIdentityWrite (h : Kept s u) (reg : IdentityReg) (value : BitVec 64) {t : State}
    (e : execGlbIdentityWrite reg value u = .next t) :
    Kept s t := by
  unfold execGlbIdentityWrite at e
  grind [kept_fromHost, kept_writeIdentity]

theorem kept_writeGlbCtl (h : Kept s u) (v : Word) : Kept s (State.writeGlbCtl u v) := by
  unfold State.writeGlbCtl
  grind [kept_ccResetOpen, kept_modHost]

theorem kept_writeGlb32 (h : Kept s u) (o : Nat) (v : Word) : Kept s (State.writeGlb32 u o v) := by
  unfold State.writeGlb32
  grind [kept_writeGlbCtl, kept_writeIdentity]

theorem kept_writeHrc32 (h : Kept s u) (o : Nat) (v : Word) : Kept s (State.writeHrc32 u o v) := by
  unfold State.writeHrc32
  grind [kept_writeCfg, kept_writeHrcCtl, kept_modHost]

theorem kept_writeHrc64 (h : Kept s u) (o : Nat) (v : Dword) : Kept s (State.writeHrc64 u o v) := by
  unfold State.writeHrc64
  grind [kept_writeRingAddr, kept_writeHwt]

theorem kept_writeVreg (h : Kept s u) (r : Nat) (f : Dword × Word → Dword × Word) : Kept s (State.writeVreg u r f) := by
  unfold State.writeVreg
  grind [kept_modDealer, kept_reserved]

theorem kept_writeKeep (h : Kept s u) (k : Nat) (f : Keep → Keep) : Kept s (State.writeKeep u k f) := by
  unfold State.writeKeep
  grind [kept_modDealer, kept_reserved]

theorem kept_writeSlot (h : Kept s u) (n : Nat) (f : Job → Job) : Kept s (State.writeSlot u n f) := by
  unfold State.writeSlot
  grind [kept_modJob, kept_reserved]

theorem kept_writeDlr32 (h : Kept s u) (o : Nat) (v : Word) : Kept s (State.writeDlr32 u o v) := by
  unfold State.writeDlr32
  grind [kept_writeSlot, kept_modDealer, kept_writeVreg]

theorem kept_writeDlr64 (h : Kept s u) (o : Nat) (v : Dword) : Kept s (State.writeDlr64 u o v) := by
  unfold State.writeDlr64
  grind [kept_writeSlot, kept_writeKeep, kept_writeVreg]

theorem kept_writeTrk32 (h : Kept s u) (o : Nat) (v : Word) : Kept s (State.writeTrk32 u o v) := by
  unfold State.writeTrk32
  grind [kept_writeSlot, kept_modTrk]

theorem kept_writeTrk64 (h : Kept s u) (o : Nat) (v : Dword) : Kept s (State.writeTrk64 u o v) := by
  unfold State.writeTrk64
  grind [kept_writeSlot]

theorem kept_writeEvr32 (h : Kept s u) (o : Nat) (v : Word) : Kept s (State.writeEvr32 u o v) := by
  unfold State.writeEvr32
  grind [kept_modTel]

theorem kept_writeSecCmd (h : Kept s u) (v : Word) : Kept s (State.writeSecCmd u v) := by
  unfold State.writeSecCmd
  dsimp only
  split
  · exact kept_modSec h fun _ => rfl
  · split <;> exact kept_modSec h fun _ => rfl

theorem kept_writeSec32 (h : Kept s u) (o : Nat) (v : Word) : Kept s (State.writeSec32 u o v) := by
  unfold State.writeSec32
  split
  · split
    · exact kept_modSec h fun _ => rfl
    · exact h
  · split
    · exact h
    · split
      · exact kept_writeSecCmd h v
      · split
        · exact kept_modSec h fun _ => rfl
        · split
          · exact kept_modSec h fun _ => rfl
          · split
            · exact kept_modSec h fun _ => rfl
            · exact h

theorem kept_writeHl32 (h : Kept s u) (p o : Nat) (v : Word) : Kept s (State.writeHl32 u p o v) := by
  unfold State.writeHl32
  grind [kept_modPort, kept_writeRoute, kept_writeKittyClass, kept_writeHlCtl, kept_with]

theorem kept_writeHl64 (h : Kept s u) (p o : Nat) (v : Dword) : Kept s (State.writeHl64 u p o v) := by
  unfold State.writeHl64
  grind [kept_writeFi]

theorem kept_writeMld32 (h : Kept s u) (e o : Nat) (v : Word) : Kept s (State.writeMld32 u e o v) := by
  unfold State.writeMld32
  grind [kept_meldEntryWrite, kept_meldClear, kept_modMeld]

theorem kept_writeMld64 (h : Kept s u) (e o : Nat) (v : Dword) : Kept s (State.writeMld64 u e o v) := by
  unfold State.writeMld64
  grind [kept_meldEntryWrite]

theorem kept_writeMarginCtl (h : Kept s u) (n : Nat) (v : Word) : Kept s (State.writeMarginCtl u n v) := by
  unfold State.writeMarginCtl
  grind [kept_startMargining, kept_modGd]

theorem kept_writeGd32 (h : Kept s u) (n o : Nat) (v : Word) : Kept s (State.writeGd32 u n o v) := by
  unfold State.writeGd32
  grind [kept_clearGdErr, kept_writeMarginCtl, kept_writeGdThr, kept_modGd]

theorem kept_writeGd64 (h : Kept s u) (n o : Nat) (v : Dword) : Kept s (State.writeGd64 u n o v) := by
  unfold State.writeGd64
  grind [kept_modGd]

theorem kept_writeTile32 (h : Kept s u) (k t o : Nat) (v : Word) : Kept s (State.writeTile32 u k t o v) := by
  unfold State.writeTile32
  grind [kept_writeTile, kept_modTileAt]

theorem kept_writeTile64 (h : Kept s u) (k t o : Nat) (v : Dword) : Kept s (State.writeTile64 u k t o v) := by
  unfold State.writeTile64
  grind [kept_writeTile]

theorem kept_writeStk32 (h : Kept s u) (k o : Nat) (v : Word) : Kept s (State.writeStk32 u k o v) := by
  unfold State.writeStk32
  grind [kept_writeMemCfg, kept_writeGddrCfg]

theorem kept_writeReg32 (h : Kept s u) (b : Block) (o : Nat) (v : Word) : Kept s (State.writeReg32 u b o v) := by
  unfold State.writeReg32
  grind [kept_modTel, kept_writeMld32, kept_writeHl32, kept_writeSec32, kept_writeGlb32, kept_writeGd32, kept_writeEvr32, kept_writeTile32,
    kept_writeHrc32, kept_writeDlr32, kept_writeStk32, kept_writeTrk32, kept_writePcap]

theorem kept_writeReg64 (h : Kept s u) (b : Block) (o : Nat) (v : Dword) : Kept s (State.writeReg64 u b o v) := by
  unfold State.writeReg64
  grind [kept_writeHl64, kept_writeMld64, kept_writeGd64, kept_writeIdentity, kept_writeTile64, kept_writeHrc64, kept_writeTrk64, kept_writeDlr64]

theorem kept_write32 (h : Kept s u) (b : Block) (o : Nat) (v : Word) : Kept s (State.write32 u b o v) := by
  unfold State.write32
  grind [kept_writeReg64, kept_writeReg32]

theorem kept_write64 (h : Kept s u) (b : Block) (o : Nat) (v : Dword) : Kept s (State.write64 u b o v) := by
  unfold State.write64
  grind [kept_writeReg64, kept_writeReg32]

theorem kept_writeMsix (h : Kept s u) (i : Nat) (v : Word) : Kept s (State.writeMsix u i v) := by
  unfold State.writeMsix
  grind [kept_modHost, kept_emit]

theorem kept_writeBar2 (h : Kept s u) (off : Nat) (v : Word) : Kept s (State.writeBar2 u off v) := by
  unfold State.writeBar2
  grind [kept_writeMsix, kept_modHost]

theorem kept_execRegisterWrite (h : Kept s u) (bar2 : Bool) (offset : BitVec 25) (bytes : Nat) (value : BitVec 64) {t : State}
    (e : execRegisterWrite bar2 offset bytes value u = .next t) :
    Kept s t := by
  unfold execRegisterWrite at e
  grind [kept_write32, kept_write64, kept_writeBar2]

/-! ### The vector engine -/

theorem kept_execVec (h : Kept s u) (tile : Fin 128) (stream : Fin 3) {t : State} (e : execVec tile stream u = .next t) : Kept s t := by
  unfold execVec at e
  split at e
  · next held => exact kept_of_next e (kept_tryIssue_no h held)
  · next issued => exact kept_of_next e (kept_enqueue (kept_tryIssue_go h issued) ..)

theorem kept_vecUnits (h : Kept s u) (x' : VecRun) (f : Fmt) (us : List Int) : Kept s (State.vecUnits u x' f us).1 := by
  unfold State.vecUnits
  grind [kept_engineRead]

theorem kept_vecLoad (h : Kept s u) (x' : VecRun) (k r : Nat) (c n : Nat) : Kept s (State.vecLoad u x' k r c n).1 := by
  unfold State.vecLoad
  grind [kept_vecUnits]

theorem kept_vecPut (h : Kept s u) (x' : VecRun) (o : VOperand) (track : Bool) (us : List Int) (vs : List VecValue) (st : NumStatus) :
    Kept s (State.vecPut u x' o track us vs st).1 := by
  unfold State.vecPut
  grind [kept_engineWrite, kept_vecUnits]

theorem kept_vecFold (h : Kept s u) {α σ : Type} (f : α → σ → State → State × Except VecErr σ)
    (hf : ∀ a x v, Kept s v → Kept s (f a x v).1) (l : List α) (x : σ) :
    Kept s (vecFold f l x u).1 := by
  induction l generalizing u x with
  | nil => exact h
  | cons a l ih =>
    have k := hf a x u h
    unfold vecFold
    grind

theorem kept_vecStore (h : Kept s u) (x' : VecRun) (track : Bool) (r c : Nat) (vs : List VecValue) (st : NumStatus) :
    Kept s (State.vecStore u x' track r c vs st).1 := by
  unfold State.vecStore
  grind [kept_vecPut, kept_vecFold]

theorem kept_vecElements (h : Kept s u) (x' : VecRun) (track : Bool) (f : Num → Num → Num → Num) : Kept s (State.vecElements u x' track f).1 := by
  unfold State.vecElements
  extract_lets +onlyGivenNames work
  refine kept_vecFold h _ (fun e st v hv => ?_) _ _
  extract_lets +onlyGivenNames r c n
  split
  · next he => exact kept_left he (kept_vecLoad hv ..)
  · next he =>
    have h1 := kept_left he (kept_vecLoad hv ..)
    split
    · next he2 => exact kept_left he2 (kept_vecLoad h1 ..)
    · next he2 =>
      have h2 := kept_left he2 (kept_vecLoad h1 ..)
      split
      · next he3 => exact kept_left he3 (kept_vecLoad h2 ..)
      · next he3 => exact kept_vecStore (kept_left he3 (kept_vecLoad h2 ..)) ..

theorem kept_vecReduce (h : Kept s u) (x' : VecRun) (index : Bool) (f : List Num → Num × Option Num) :
    Kept s (State.vecReduce u x' index f).1 := by
  unfold State.vecReduce
  extract_lets +onlyGivenNames l
  refine kept_vecFold h _ (fun r st v hv => ?_) _ _
  extract_lets +onlyGivenNames cells rowOf got
  have hg : Kept s got.1 := by
    unfold got
    split
    · exact hv
    · exact kept_vecUnits hv ..
  clear_value got
  obtain ⟨s1, err | xs⟩ := got
  · exact hg
  · dsimp only
    split
    · next he => exact kept_left he (kept_vecPut hg ..)
    · next he =>
      have h2 := kept_left he (kept_vecPut hg ..)
      split
      · exact h2
      · exact kept_vecPut h2 ..

theorem kept_vecScan (h : Kept s u) (x' : VecRun) (exclusive segmented : Bool) : Kept s (State.vecScan u x' exclusive segmented).1 := by
  unfold State.vecScan
  grind [kept_vecLoad, kept_vecFold, kept_vecStore]

theorem kept_vecFailed (h : Kept s u) {v : State} (hv : Kept s v) (L n : Nat) (isIt : Op → Bool) (err : VecErr) :
    Kept s (State.vecFailed u v L n isIt err) := by
  unfold State.vecFailed
  split
  · exact kept_accessErr h ..
  · exact kept_writeErr hv ..
  · exact kept_modOp (kept_modTile (kept_writeErr hv ..) ..) ..
  · exact kept_writeErr h ..

theorem kept_vecRun (h : Kept s u) (slot L n : Nat) (isIt : Op → Bool) (o : Op) (run : VecRun → State → State × Except VecErr NumStatus)
    (hrun : ∀ x0 x1, Kept s x1 → Kept s (run x0 x1).1) :
    Kept s (State.vecRun u slot L n isIt o run) := by
  obtain ⟨f, hf⟩ : ∃ f, f = State.vecRun := ⟨_, rfl⟩
  rw [← hf]
  delta State.vecRun at hf
  subst hf
  obtain ⟨touch, ht⟩ : ∃ touch, touch = State.scratchTouch := ⟨_, rfl⟩
  obtain ⟨bad, hb⟩ : ∃ bad, bad = State.vecBad := ⟨_, rfl⟩
  have touched (o n : Nat) : Kept s (touch u L o n).1 := ht ▸ kept_scratchTouch h L o n
  rw [← ht, ← hb]
  beta_reduce
  extract_lets +onlyGivenNames w
  split
  · exact kept_accessFault h ..
  · extract_lets +onlyGivenNames r l
    have hr : Kept s r.1 := touched ..
    clear_value r
    split
    · exact kept_poisonedRead hr ..
    · split
      · exact kept_refuse hr ..
      · split
        · exact kept_refuse hr ..
        · extract_lets +onlyGivenNames x
          split
          · next he => exact kept_vecFailed (kept_left he (hrun _ _ hr)) hr ..
          · next he => exact kept_modOp (kept_modTile (kept_left he (hrun _ _ hr)) ..) ..

theorem kept_vecGrant (h : Kept s u) (L : Nat) (amb : Ambient) (vop : Nat) (run : VecRun → State → State × Except VecErr NumStatus)
    (hrun : ∀ x0 x1, Kept s x1 → Kept s (run x0 x1).1) :
    Kept s (State.vecGrant u L amb vop run) := by
  unfold State.vecGrant
  extract_lets +onlyGivenNames t mine
  split
  · exact h
  · split
    · exact h
    · split
      · exact h
      · exact kept_ite (kept_vecRun (kept_applyAmb h amb) _ _ _ _ _ run hrun) h
    · extract_lets +onlyGivenNames ready
      split
      · exact h
      · split
        · exact h
        · exact kept_ite (kept_vecRun (kept_modTile (kept_applyAmb h amb) ..) _ _ _ _ _ run hrun) h

theorem kept_execVcopy (h : Kept s u) (tile : Fin 128) (amb : Ambient) {t : State} (e : execVcopy tile amb u = .next t) : Kept s t := by
  unfold execVcopy at e
  grind [kept_vecElements, kept_vecGrant]

theorem kept_execVadd (h : Kept s u) (tile : Fin 128) (amb : Ambient) {t : State} (e : execVadd tile amb u = .next t) : Kept s t := by
  unfold execVadd at e
  grind [kept_vecElements, kept_vecGrant]

theorem kept_execVsub (h : Kept s u) (tile : Fin 128) (amb : Ambient) {t : State} (e : execVsub tile amb u = .next t) : Kept s t := by
  unfold execVsub at e
  grind [kept_vecElements, kept_vecGrant]

theorem kept_execVmul (h : Kept s u) (tile : Fin 128) (amb : Ambient) {t : State} (e : execVmul tile amb u = .next t) : Kept s t := by
  unfold execVmul at e
  grind [kept_vecElements, kept_vecGrant]

theorem kept_execVfma (h : Kept s u) (tile : Fin 128) (amb : Ambient) {t : State} (e : execVfma tile amb u = .next t) : Kept s t := by
  unfold execVfma at e
  grind [kept_vecElements, kept_vecGrant]

theorem kept_execVdiv (h : Kept s u) (tile : Fin 128) (amb : Ambient) {t : State} (e : execVdiv tile amb u = .next t) : Kept s t := by
  unfold execVdiv at e
  grind [kept_vecElements, kept_vecGrant]

theorem kept_execVrcp (h : Kept s u) (tile : Fin 128) (amb : Ambient) {t : State} (e : execVrcp tile amb u = .next t) : Kept s t := by
  unfold execVrcp at e
  grind [kept_vecElements, kept_vecGrant]

theorem kept_execVsqrt (h : Kept s u) (tile : Fin 128) (amb : Ambient) {t : State} (e : execVsqrt tile amb u = .next t) : Kept s t := by
  unfold execVsqrt at e
  grind [kept_vecElements, kept_vecGrant]

theorem kept_execVrsqrt (h : Kept s u) (tile : Fin 128) (amb : Ambient) {t : State} (e : execVrsqrt tile amb u = .next t) : Kept s t := by
  unfold execVrsqrt at e
  grind [kept_vecElements, kept_vecGrant]

theorem kept_execVexp (h : Kept s u) (tile : Fin 128) (amb : Ambient) {t : State} (e : execVexp tile amb u = .next t) : Kept s t := by
  unfold execVexp at e
  grind [kept_vecElements, kept_vecGrant]

theorem kept_execVlog (h : Kept s u) (tile : Fin 128) (amb : Ambient) {t : State} (e : execVlog tile amb u = .next t) : Kept s t := by
  unfold execVlog at e
  grind [kept_vecElements, kept_vecGrant]

theorem kept_execVtanh (h : Kept s u) (tile : Fin 128) (amb : Ambient) {t : State} (e : execVtanh tile amb u = .next t) : Kept s t := by
  unfold execVtanh at e
  grind [kept_vecElements, kept_vecGrant]

theorem kept_execVsigm (h : Kept s u) (tile : Fin 128) (amb : Ambient) {t : State} (e : execVsigm tile amb u = .next t) : Kept s t := by
  unfold execVsigm at e
  grind [kept_vecElements, kept_vecGrant]

theorem kept_execVgelu (h : Kept s u) (tile : Fin 128) (amb : Ambient) {t : State} (e : execVgelu tile amb u = .next t) : Kept s t := by
  unfold execVgelu at e
  grind [kept_vecElements, kept_vecGrant]

theorem kept_execVmax (h : Kept s u) (tile : Fin 128) (amb : Ambient) {t : State} (e : execVmax tile amb u = .next t) : Kept s t := by
  unfold execVmax at e
  grind [kept_vecElements, kept_vecGrant]

theorem kept_execVmin (h : Kept s u) (tile : Fin 128) (amb : Ambient) {t : State} (e : execVmin tile amb u = .next t) : Kept s t := by
  unfold execVmin at e
  grind [kept_vecElements, kept_vecGrant]

theorem kept_execVcmp (h : Kept s u) (tile : Fin 128) (amb : Ambient) {t : State} (e : execVcmp tile amb u = .next t) : Kept s t := by
  unfold execVcmp at e
  grind [kept_vecElements, kept_vecGrant]

theorem kept_execRsum (h : Kept s u) (tile : Fin 128) (amb : Ambient) {t : State} (e : execRsum tile amb u = .next t) : Kept s t := by
  unfold execRsum at e
  grind [kept_vecGrant, kept_vecReduce]

theorem kept_execRssq (h : Kept s u) (tile : Fin 128) (amb : Ambient) {t : State} (e : execRssq tile amb u = .next t) : Kept s t := by
  unfold execRssq at e
  grind [kept_vecGrant, kept_vecReduce]

theorem kept_execRmv (h : Kept s u) (tile : Fin 128) (amb : Ambient) {t : State} (e : execRmv tile amb u = .next t) : Kept s t := by
  unfold execRmv at e
  grind [kept_vecGrant, kept_vecReduce]

theorem kept_execRmax (h : Kept s u) (tile : Fin 128) (amb : Ambient) {t : State} (e : execRmax tile amb u = .next t) : Kept s t := by
  unfold execRmax at e
  grind [kept_vecGrant, kept_vecReduce, Kept.foldl]

theorem kept_execRmin (h : Kept s u) (tile : Fin 128) (amb : Ambient) {t : State} (e : execRmin tile amb u = .next t) : Kept s t := by
  unfold execRmin at e
  grind [kept_vecGrant, kept_vecReduce, Kept.foldl]

theorem kept_execRmaxi (h : Kept s u) (tile : Fin 128) (amb : Ambient) {t : State} (e : execRmaxi tile amb u = .next t) : Kept s t := by
  unfold execRmaxi at e
  grind [kept_vecGrant, kept_vecReduce]

theorem kept_execRmini (h : Kept s u) (tile : Fin 128) (amb : Ambient) {t : State} (e : execRmini tile amb u = .next t) : Kept s t := by
  unfold execRmini at e
  grind [kept_vecGrant, kept_vecReduce]

theorem kept_execScan (h : Kept s u) (tile : Fin 128) (amb : Ambient) {t : State} (e : execScan tile amb u = .next t) : Kept s t := by
  unfold execScan at e
  grind [kept_vecScan, kept_vecGrant]

theorem kept_execScanx (h : Kept s u) (tile : Fin 128) (amb : Ambient) {t : State} (e : execScanx tile amb u = .next t) : Kept s t := by
  unfold execScanx at e
  grind [kept_vecScan, kept_vecGrant]

theorem kept_execSscan (h : Kept s u) (tile : Fin 128) (amb : Ambient) {t : State} (e : execSscan tile amb u = .next t) : Kept s t := by
  unfold execSscan at e
  grind [kept_vecScan, kept_vecGrant]

theorem kept_execSscanx (h : Kept s u) (tile : Fin 128) (amb : Ambient) {t : State} (e : execSscanx tile amb u = .next t) : Kept s t := by
  unfold execSscanx at e
  grind [kept_vecScan, kept_vecGrant]

theorem kept_execVstamp (h : Kept s u) (tile : Fin 128) (amb : Ambient) {t : State} (e : execVstamp tile amb u = .next t) : Kept s t := by
  unfold execVstamp at e
  grind [kept_vecElements, kept_vecGrant]

theorem kept_execVecComplete (h : Kept s u) (tile : Fin 128) {t : State} (e : execVecComplete tile u = .next t) : Kept s t := by
  unfold execVecComplete at e
  extract_lets +onlyGivenNames L at e
  split at e
  · next n slot _ _ =>
    split at e
    · exact kept_of_next e h
    · next o _ =>
      split at e
      · exact kept_of_next e h
      · split at e
        · next he =>
          extract_lets +onlyGivenNames s2 s3 at e
          have h3 : Kept s s3 := kept_modTile (kept_recordNumeric (kept_left he (kept_writeStatus h ..)) ..) ..
          clear_value s3
          exact kept_of_next e (kept_finishOp h3 ..)
        · next he => exact kept_of_next e (kept_writeErr (kept_left he (kept_writeStatus h ..)) ..)
  · exact kept_of_next e h

/-! ### A microsecond -/

theorem kept_stallEvents (h : Kept s u) (v : State) : Kept s (State.stallEvents u v) := by
  unfold State.stallEvents
  grind [kept_satEvents, kept_raise, Kept.foldl]

theorem kept_loopTick (h : Kept s u) : Kept s (State.loopTick u) := by
  unfold State.loopTick
  grind [kept_with]

theorem kept_passTime (h : Kept s u) : Kept s (State.passTime u) := kept_with h

end Sys2Proof.Machine
end

section
/-! The commands of the security unit: which of them write to the fuses, the debug level and the Alias key (R494, R504 to R509, R519). -/
namespace Sys2Proof.Machine

/-- Device memory, the fuses, the debug level and the Alias key stay. -/
structure Calm (s t : State) : Prop where
  mem : t.mem = s.mem
  poison : t.poison = s.poison
  fuses : t.fuses = s.fuses
  level : t.sec.level = s.sec.level
  key : t.sec.aliasReady = s.sec.aliasReady

theorem Calm.refl (s : State) : Calm s s := ⟨rfl, rfl, rfl, rfl, rfl⟩

theorem Calm.trans {s t u : State} (h : Calm s t) (k : Calm t u) : Calm s u :=
  ⟨k.mem.trans h.mem, k.poison.trans h.poison, k.fuses.trans h.fuses, k.level.trans h.level, k.key.trans h.key⟩

theorem Calm.of_records {s t : State} (h : SameButRecords s t) : Calm s t :=
  ⟨h.mem, h.poison, h.fuses, congrArg Security.level h.sec, congrArg Security.aliasReady h.sec⟩

theorem Calm.raise {s t : State} (h : Calm s t) (code job detail : Nat) : Calm s (t.raise code job detail) :=
  h.trans (.of_records (records_raise ..))

/-- The package holds nothing that a debug port must not see (R519). -/
def Erased (s : State) : Prop := s.mem = [] ∧ s.poison = [] ∧ s.sec.aliasReady = false

theorem Calm.erased {s t : State} (h : Calm s t) (e : Erased s) : Erased t := by
  obtain ⟨mem, poison, key⟩ := e
  exact ⟨h.mem.trans mem, h.poison.trans poison, h.key.trans key⟩

/-- What a command of the security unit keeps: memory's canonical form, what is burned into the fuses, and that the debug level rises only to a
level whose memory is erased. -/
structure Guarded (s t : State) : Prop where
  mem : s.memOk → t.memOk
  fuses : s.fuses.kept t.fuses
  level : t.sec.level ≤ s.sec.level ∧ (Erased s → Erased t) ∨ t.sec.level ≤ 3 ∧ (2 ≤ t.sec.level → Erased t)

theorem ownerKept_refl (a : BitVec 256 × Bool × Bool) : ownerKept a a := fun used => ⟨rfl, used, id⟩

theorem ownerKept_trans {a b c : BitVec 256 × Bool × Bool} (h : ownerKept a b) (k : ownerKept b c) : ownerKept a c := by
  intro used
  obtain ⟨digest, used', revoked⟩ := h used
  obtain ⟨digest', used'', revoked'⟩ := k used'
  exact ⟨digest'.trans digest, used'', revoked' ∘ revoked⟩

theorem Fuses.kept_refl (f : Fuses) : f.kept f := ⟨rfl, rfl, rfl, rfl, rfl, le_rfl, fun _ => ownerKept_refl _, rfl, rfl⟩

theorem Fuses.kept_trans {f g h : Fuses} (k : f.kept g) (l : g.kept h) : f.kept h := by
  obtain ⟨serial, uds, fw, dbg, off, svn, owners, tiles, volts⟩ := k
  obtain ⟨serial', uds', fw', dbg', off', svn', owners', tiles', volts'⟩ := l
  exact ⟨serial'.trans serial, uds'.trans uds, fw'.trans fw, dbg'.trans dbg, off'.trans off, svn.trans svn',
    fun i => ownerKept_trans (owners i) (owners' i), tiles'.trans tiles, volts'.trans volts⟩

theorem Guarded.trans {s t u : State} (h : Guarded s t) (k : Guarded t u) : Guarded s u := by
  refine ⟨k.mem ∘ h.mem, Fuses.kept_trans h.fuses k.fuses, ?_⟩
  obtain ⟨falls, still⟩ | rises := k.level
  · obtain ⟨falls', still'⟩ | ⟨small, erased⟩ := h.level
    · exact .inl ⟨falls.trans falls', still ∘ still'⟩
    · exact .inr ⟨falls.trans small, fun high => still (erased (high.trans falls))⟩
  · exact .inr rises

theorem Guarded.of_calm {s t : State} (h : Calm s t) : Guarded s t where
  mem := by
    unfold State.memOk
    rw [h.mem]
    exact id
  fuses := h.fuses ▸ s.fuses.kept_refl
  level := .inl ⟨h.level.le, h.erased⟩

theorem Guarded.refl (s : State) : Guarded s s := .of_calm (.refl s)

/-- A change of the fuses alone that undoes nothing is guarded. -/
theorem Guarded.of_fuses {s : State} {f : Fuses} (h : s.fuses.kept f) : Guarded s { s with fuses := f } := ⟨id, h, .inl ⟨le_rfl, id⟩⟩

theorem Guarded.calm {s t u : State} (h : Guarded s t) (k : Calm t u) : Guarded s u := h.trans (.of_calm k)

theorem calm_modSec (s : State) (f : Security → Security) (level : (f s.sec).level = s.sec.level)
    (key : (f s.sec).aliasReady = s.sec.aliasReady) : Calm s (s.modSec f) := ⟨rfl, rfl, rfl, level, key⟩

theorem calm_setNonce (s : State) (p : SecPath) (n : Option (BitVec 256)) : Calm s (s.setNonce p n) := calm_modSec _ _ rfl rfl

theorem calm_nonceTaken (s : State) (p : SecPath) (b : List Byte) : Calm s (s.nonceTaken p b) := by
  unfold State.nonceTaken
  split
  · exact calm_setNonce ..
  · exact .refl s

theorem calm_checkBlock {s t : State} {p : SecPath} {cmd : Nat} {b : List Byte} {key : Nat → List Byte → Bool} {r : Option Nat}
    (checked : s.checkBlock p cmd b key = (t, r)) : Calm s t := by
  have records := State.checkBlock_fst (s := s) (p := p) (cmd := cmd) (b := b) (key := key)
  rw [checked] at records
  exact (calm_nonceTaken s p b).trans (.of_records records)

theorem calm_fwBegin (s : State) (p : SecPath) : Calm s (s.fwBegin p).1 := by
  unfold State.fwBegin
  split
  · exact .refl s
  · exact ⟨rfl, rfl, rfl, rfl, rfl⟩

theorem calm_fwWrite (s : State) (p : SecPath) (a : Nat) (b : List Byte) : Calm s (s.fwWrite p a b).1 := by
  unfold State.fwWrite
  split
  · exact .refl s
  · split
    · exact .refl s
    · exact ⟨rfl, rfl, rfl, rfl, rfl⟩

theorem calm_fwFinish (s : State) (p : SecPath) : Calm s (s.fwFinish p).1 := by
  have closed : Calm s (s.modSec (fun x => { x with session := none })) := calm_modSec _ _ rfl rfl
  have checked : Calm s ((s.modSec (fun x => { x with session := none })).modSec (fun x => { x with checked := true })) :=
    closed.trans (calm_modSec _ _ rfl rfl)
  unfold State.fwFinish
  extract_lets k s1 s2
  split
  · exact .refl s
  · split
    · exact closed
    · split
      · exact closed
      · by_cases recovery : s.sec.recovery = true
        · rw [if_pos recovery]
          exact checked
        · rw [if_neg recovery]
          exact checked.raise ..

theorem calm_writeBoot (s : State) (x : BootRecord) : Calm s (s.writeBoot x) := ⟨rfl, rfl, rfl, rfl, rfl⟩

theorem calm_fwActivate (s : State) (p : SecPath) : Calm s (s.fwActivate p).1 := by
  unfold State.fwActivate
  extract_lets k
  split
  · exact .refl s
  · split
    · exact .refl s
    · exact calm_writeBoot ..

theorem calm_bootConfirm (s : State) : Calm s s.bootConfirm.1 := by
  unfold State.bootConfirm
  split
  · exact calm_writeBoot ..
  · exact .refl s

theorem calm_svnCommit (s : State) (p : SecPath) : Calm s (s.svnCommit p).1 := by
  unfold State.svnCommit
  split
  · exact .refl s
  · exact calm_modSec s (fun x => { x with burn := some p }) rfl rfl

theorem calm_recorderClear (s : State) (p : SecPath) (b : List Byte) : Calm s (s.recorderClear p b).1 := by
  unfold State.recorderClear
  split
  · next checked => exact calm_checkBlock checked
  · next t checked =>
    split
    · exact calm_checkBlock checked
    · have cleared : SameButRecords t (t.recorderCleared.modTel (fun x => { x with clearing := true })) :=
        (records_recorderCleared t).trans (records_modTel _ _)
      exact (calm_checkBlock checked).trans (.of_records cleared)

/-- An owner entry takes a value that keeps the digest of an entry in use and its revocation. -/
theorem guarded_setOwner (s : State) (i : Nat) (o : BitVec 256 × Bool × Bool) (h : ownerKept (s.owner i) o) : Guarded s (s.setOwner i o) := by
  refine .of_fuses ⟨rfl, rfl, rfl, rfl, rfl, le_rfl, fun j => ?_, rfl, rfl⟩
  rw [tget_tput]
  split
  · next same => exact same ▸ h
  · exact ownerKept_refl _

theorem guarded_ownerClaim (s : State) (p : SecPath) (b : List Byte) : Guarded s (s.ownerClaim p b).1 := by
  unfold State.ownerClaim
  split
  · next checked => exact .of_calm (calm_checkBlock checked)
  · next t checked =>
    have passed : Guarded s t := .of_calm (calm_checkBlock checked)
    split
    · exact passed
    · split
      · exact passed
      · next i found =>
        have unused : (t.owner i).2.1 = false := by simpa using List.find?_some found
        have set := guarded_setOwner t i (digest ((b.drop 48).take 32), true, false) fun used => by rw [unused] at used; cases used
        exact (passed.trans set).calm (.of_records (records_raise ..))

theorem guarded_ownerRelease (s : State) (p : SecPath) (b : List Byte) : Guarded s (s.ownerRelease p b).1 := by
  unfold State.ownerRelease
  split
  · next checked => exact .of_calm (calm_checkBlock checked)
  · next t checked =>
    have passed : Guarded s t := .of_calm (calm_checkBlock checked)
    split
    · exact passed
    · next i _ =>
      have set := guarded_setOwner t i ((t.owner i).1, true, true) fun _ => ⟨rfl, rfl, fun _ => rfl⟩
      exact (passed.trans set).calm (.of_records (records_raise ..))

/-- A debug level of 1 leaves memory as it is; a level above it erases it. -/
theorem guarded_unlock (s : State) {level : Nat} (small : level ≤ 3) : Guarded s (s.unlock level) where
  mem := by
    intro ok
    by_cases one : level = 1
    · rw [State.unlock_eq, if_pos one]
      unfold State.memOk
      rw [(records_raise ..).mem]
      exact ok
    · obtain ⟨mem, -⟩ := s.unlock_erases one
      unfold State.memOk
      rw [mem]
      rfl
  fuses := s.unlock_fuses level ▸ s.fuses.kept_refl
  level := by
    refine .inr ⟨(s.unlock_level level).trans_le small, fun high => ?_⟩
    rw [s.unlock_level level] at high
    obtain ⟨mem, poison, key, -⟩ := s.unlock_erases (level := level) (by omega)
    exact ⟨mem, poison, key⟩

theorem guarded_debugBlock (s : State) (p : SecPath) (b : List Byte) : Guarded s (s.debugBlock p b).1 := by
  unfold State.debugBlock
  extract_lets level
  split
  · next checked => exact .of_calm (calm_checkBlock checked)
  · next t checked =>
    have passed : Guarded s t := .of_calm (calm_checkBlock checked)
    split
    · exact passed
    · next range =>
      split
      · exact passed
      · have small : level ≤ 3 := by
          simp only [Bool.or_eq_true, decide_eq_true_eq, not_or] at range
          omega
        exact passed.trans (guarded_unlock t small)

theorem guarded_secCommand (s : State) (p : SecPath) (q : SecReq) : Guarded s (s.secCommand p q).1 := by
  unfold State.secCommand
  split
  · exact .of_calm (calm_setNonce ..)
  · exact .of_calm (calm_fwBegin ..)
  · exact .of_calm (calm_fwWrite ..)
  · exact .of_calm (calm_fwFinish ..)
  · exact .of_calm (calm_fwActivate ..)
  · exact .of_calm (calm_bootConfirm ..)
  · exact .of_calm (calm_svnCommit ..)
  · exact guarded_ownerClaim ..
  · exact guarded_ownerRelease ..
  · exact guarded_debugBlock ..
  · exact .of_calm (calm_recorderClear ..)
  · exact .refl s

theorem calm_secEnd (s : State) (p : SecPath) (result : Nat) (sent : List Byte) : Calm s (s.secEnd p result sent) := by
  cases p with
  | mailbox => exact calm_modSec s (fun x => x.mailDone result sent) rfl rfl
  | mctp => exact (calm_modSec _ _ rfl rfl).trans (.of_records (records_emit ..))
  | instrument => exact .refl s

theorem guarded_secRun (s : State) (p : SecPath) (q : SecReq) : Guarded s (s.secRun p q) := by
  unfold State.secRun
  extract_lets r
  have served : Guarded s r.1 := by
    by_cases recovery : (s.sec.recovery && !recoveryCmd q.cmd.toNat) = true
    · rw [show r = (s, 7, []) from if_pos recovery]
      exact .refl s
    · rw [show r = s.secCommand p q from if_neg recovery]
      exact guarded_secCommand s p q
  split
  · exact served
  · exact served.calm (calm_secEnd ..)

theorem guarded_secRunAll (qs : List SecReq) (s : State) : Guarded s (State.secRunAll qs s) := by
  induction qs generalizing s with
  | nil => exact .of_calm (calm_modSec _ _ rfl rfl)
  | cons q rest ih =>
    rw [State.secRunAll]
    split
    · exact .of_calm (calm_modSec _ _ rfl rfl)
    · exact (guarded_secRun s .mctp q).trans (ih _)

theorem guarded_runSec (s : State) (p : SecPath) (q : SecReq) : Guarded s (s.runSec p q) := by
  unfold State.runSec
  split
  · exact .refl s
  · cases p with
    | mailbox =>
      dsimp only
      split
      · exact (guarded_secRun ..).trans (guarded_secRunAll ..)
      · exact .refl s
    | mctp =>
      dsimp only
      split
      · exact .of_calm (calm_modSec _ _ rfl rfl)
      · exact guarded_secRun ..
    | instrument => exact .refl s

/-- A microsecond of a burn sets one more bit of `svn`; with the last the command ends and the waiting ones are served (R506, R520). -/
theorem guarded_burnBit (s : State) : Guarded s s.burnBit := by
  unfold State.burnBit
  split
  · exact .refl s
  · next p _ =>
    have burned : Guarded s { s with fuses := { s.fuses with svn := s.fuses.svn + 1 } } :=
      .of_fuses ⟨rfl, rfl, rfl, rfl, rfl, Nat.le_succ _, fun _ => ownerKept_refl _, rfl, rfl⟩
    extract_lets fuses s1 s2
    split
    · exact burned
    · have ended : Calm s1 s2 := ((calm_modSec _ _ rfl rfl).raise ..).trans (calm_secEnd ..)
      exact (burned.calm ended).trans (guarded_secRunAll ..)

/-- Power-on reset clears device memory and the debug level and leaves the fuses (R21). -/
theorem guarded_powerOnReset (s : State) {t : State} (e : execPowerOnReset s = .next t) : Guarded s t := by
  cases e
  exact ⟨fun _ => rfl, s.fuses.kept_refl, .inl ⟨Nat.zero_le _, fun _ => ⟨rfl, rfl, rfl⟩⟩⟩

theorem guarded_debugBlockCheck (s : State) (block : List Byte) {t : State} (e : execDebugBlockCheck block s = .next t) : Guarded s t := by
  unfold execDebugBlockCheck at e
  split at e
  · cases e
    exact .refl s
  · cases e
    have tapped : Guarded s s.throughTap := .of_calm ⟨rfl, rfl, rfl, rfl, rfl⟩
    exact (tapped.trans (guarded_debugBlock ..)).calm (calm_modSec _ _ rfl rfl)

end Sys2Proof.Machine
end

section
/-! Every command and every step: O3, O5 and O20. -/
namespace Sys2Proof.Machine

/-- What every step keeps: memory's canonical form and what is burned into the fuses; and a debug level that rises does so over erased memory. -/
structure Safe (s t : State) : Prop where
  mem : s.memOk → t.memOk
  fuses : s.fuses.kept t.fuses
  level : t.sec.level ≤ s.sec.level ∨ t.sec.level ≤ 3 ∧ (2 ≤ t.sec.level → Erased t)

theorem Safe.of_kept_guarded {s t u : State} (k : Kept s t) (g : Guarded t u) : Safe s u where
  mem := g.mem ∘ k.mem
  fuses := k.fuses ▸ g.fuses
  level := g.level.imp_left fun still => k.level ▸ still.1

theorem Safe.of_kept {s t : State} (k : Kept s t) : Safe s t := .of_kept_guarded k (.refl t)

theorem Safe.of_guarded {s t : State} (g : Guarded s t) : Safe s t := .of_kept_guarded (.refl s) g

/-- A command of the security unit is served, waits or is not heard (R520). -/
theorem safe_runSec {s t : State} {p : SecPath} {q : SecReq} (e : (Host.Outcome.next (s.runSec p q) : Host.Outcome State Fault Refusal) = .next t) :
    Safe s t := by
  cases e
  exact .of_guarded (guarded_runSec s p q)

theorem safe_exec {i : Instr} {s t : State} (e : exec i s = .next t) : Safe s t := by
  cases i with
  | powerOnReset => exact .of_guarded (guarded_powerOnReset s e)
  | powerOnResetRelease testMode => exact .of_kept (kept_execPowerOnResetRelease (.refl s) testMode e)
  | firmwareStart => exact .of_kept (kept_execFirmwareStart (.refl s) e)
  | bootReady => exact .of_kept (kept_execBootReady (.refl s) e)
  | perstNAssert => exact .of_kept (kept_execPerstNAssert (.refl s) e)
  | hostLinkDown => exact .of_kept (kept_execHostLinkDown (.refl s) e)
  | hostLinkLossTimeout => exact .of_kept (kept_execHostLinkLossTimeout (.refl s) e)
  | hostLinkBack speed width => exact .of_kept (kept_execHostLinkBack (.refl s) speed width e)
  | pcieOnly speed width => exact .of_kept (kept_execPcieOnly (.refl s) speed width e)
  | resume value hw => exact .of_kept (kept_execResume (.refl s) value hw e)
  | prochotNAssert => exact .of_kept (kept_execProchotNAssert (.refl s) e)
  | powerCapEvaluation powerDw => exact .of_kept (kept_execPowerCapEvaluation (.refl s) powerDw e)
  | hostCapWrite value => exact .of_kept (kept_execHostCapWrite (.refl s) value e)
  | bmcCapWrite setting => exact .of_kept (kept_execBmcCapWrite (.refl s) setting e)
  | avsAcknowledge stack => exact .of_kept (kept_execAvsAcknowledge (.refl s) stack e)
  | avsAckTimeout stack => exact .of_kept (kept_execAvsAckTimeout (.refl s) stack e)
  | thermalSensorRead hottest => exact .of_kept (kept_execThermalSensorRead (.refl s) hottest e)
  | throttleLevelCheck stack => exact .of_kept (kept_execThrottleLevelCheck (.refl s) stack e)
  | railOutOfRange rail millivolts returned => exact .of_kept (kept_execRailOutOfRange (.refl s) rail millivolts returned e)
  | powerMonitorSample microjoules => exact .of_kept (kept_execPowerMonitorSample (.refl s) microjoules e)
  | pldmSensorUpdate => exact .of_kept (kept_execPldmSensorUpdate (.refl s) e)
  | mcWatchdogExpiry => exact .of_kept (kept_execMcWatchdogExpiry (.refl s) e)
  | mcRestart => exact .of_kept (kept_execMcRestart (.refl s) e)
  | ccReset => exact .of_kept (kept_execCcReset (.refl s) e)
  | ccResetDone => exact .of_kept (kept_execCcResetDone (.refl s) e)
  | registerWrite bar2 offset bytes value => exact .of_kept (kept_execRegisterWrite (.refl s) bar2 offset bytes value e)
  | glbIdentityWrite reg value => exact .of_kept (kept_execGlbIdentityWrite (.refl s) reg value e)
  | ringEnable ring cfg hw => exact .of_kept (kept_execRingEnable (.refl s) ring cfg hw e)
  | ringDisable ring => exact .of_kept (kept_execRingDisable (.refl s) ring e)
  | monitorSnoop line => exact .of_kept (kept_execMonitorSnoop (.refl s) line e)
  | monitorPoll => exact .of_kept (kept_execMonitorPoll (.refl s) e)
  | monitorLineRead line hw failed => exact .of_kept (kept_execMonitorLineRead (.refl s) line hw failed e)
  | descriptorFetch sq hw failed => exact .of_kept (kept_execDescriptorFetch (.refl s) sq hw failed e)
  | job sq deck amb => exact .of_kept (kept_execJob (.refl s) sq deck amb e)
  | jobPlaced slot => exact .of_kept (kept_execJobPlaced (.refl s) slot e)
  | step sq amb => exact .of_kept (kept_execStep (.refl s) sq amb e)
  | pass sq amb => exact .of_kept (kept_execPass (.refl s) sq amb e)
  | abort sq => exact .of_kept (kept_execAbort (.refl s) sq e)
  | endJob sq => exact .of_kept (kept_execEnd (.refl s) sq e)
  | nop tile stream => exact .of_kept (kept_execNop (.refl s) tile stream e)
  | nopDescriptor sq => exact .of_kept (kept_execNopDescriptor (.refl s) sq e)
  | load sq => exact .of_kept (kept_execLoad (.refl s) sq e)
  | jobEndDone slot => exact .of_kept (kept_execJobEndDone (.refl s) slot e)
  | stepStart slot => exact .of_kept (kept_execStepStart (.refl s) slot e)
  | microBatchInjection slot amb => exact .of_kept (kept_execMicroBatchInjection (.refl s) slot amb e)
  | controlPassInjection slot => exact .of_kept (kept_execControlPassInjection (.refl s) slot e)
  | passInjection slot microBatch amb => exact .of_kept (kept_execPassInjection (.refl s) slot microBatch amb e)
  | stepOverrun slot => exact .of_kept (kept_execStepOverrun (.refl s) slot e)
  | stepWatchdogFault slot => exact .of_kept (kept_execStepWatchdogFault (.refl s) slot e)
  | completionBufferDrain => exact .of_kept (kept_execCompletionBufferDrain (.refl s) e)
  | msixMessage vector => exact .of_kept (kept_execMsixMessage (.refl s) vector e)
  | atsInvalidation firstPage lastPage => exact .of_kept (kept_execAtsInvalidation (.refl s) firstPage lastPage e)
  | hostMemRead offset bytes amb => exact .of_kept (kept_execHostMemRead (.refl s) offset bytes amb e)
  | hostMemWrite offset data => exact .of_kept (kept_execHostMemWrite (.refl s) offset data e)
  | hostLineSnoop line => exact .of_kept (kept_execHostLineSnoop (.refl s) line e)
  | pageRequestResponse tile granted amb => exact .of_kept (kept_execPageRequestResponse (.refl s) tile granted amb e)
  | pageRequestTimeout tile => exact .of_kept (kept_execPageRequestTimeout (.refl s) tile e)
  | hwtEntryWrite value => exact .of_kept (kept_execHwtEntryWrite (.refl s) value e)
  | stop tile stream => exact .of_kept (kept_execStop (.refl s) tile stream e)
  | jmp tile stream => exact .of_kept (kept_execJmp (.refl s) tile stream e)
  | loop tile stream => exact .of_kept (kept_execLoop (.refl s) tile stream e)
  | ldlc tile stream => exact .of_kept (kept_execLdlc (.refl s) tile stream e)
  | brtag tile stream => exact .of_kept (kept_execBrtag (.refl s) tile stream e)
  | fence tile stream => exact .of_kept (kept_execFence (.refl s) tile stream e)
  | mma tile stream => exact .of_kept (kept_execMma (.refl s) tile stream e)
  | vec tile stream => exact .of_kept (kept_execVec (.refl s) tile stream e)
  | dma tile stream => exact .of_kept (kept_execDma (.refl s) tile stream e)
  | recv tile stream => exact .of_kept (kept_execRecv (.refl s) tile stream e)
  | send tile stream => exact .of_kept (kept_execSend (.refl s) tile stream e)
  | topen tile stream => exact .of_kept (kept_execTopen (.refl s) tile stream e)
  | tcommit tile stream => exact .of_kept (kept_execTcommit (.refl s) tile stream e)
  | trevokeRetry tile stream => exact .of_kept (kept_execTrevokeRetry (.refl s) tile stream e)
  | trevokeContinue tile stream => exact .of_kept (kept_execTrevokeContinue (.refl s) tile stream e)
  | waitSatisfied tile stream => exact .of_kept (kept_execWaitSatisfied (.refl s) tile stream e)
  | sync src => exact .of_kept (kept_execSync (.refl s) src e)
  | arrayGrant tile amb => exact .of_kept (kept_execArrayGrant (.refl s) tile amb e)
  | mmaComplete tile stream => exact .of_kept (kept_execMmaComplete (.refl s) tile stream e)
  | sparsityCheck tile bank => exact .of_kept (kept_execSparsityCheck (.refl s) tile bank e)
  | bankComplete tile bank => exact .of_kept (kept_execBankComplete (.refl s) tile bank e)
  | drainStart tile => exact .of_kept (kept_execDrainStart (.refl s) tile e)
  | drainEnd tile => exact .of_kept (kept_execDrainEnd (.refl s) tile e)
  | arrCtlWrite stack phys value => exact .of_kept (kept_execArrCtlWrite (.refl s) stack phys value e)
  | vcopy tile amb => exact .of_kept (kept_execVcopy (.refl s) tile amb e)
  | vadd tile amb => exact .of_kept (kept_execVadd (.refl s) tile amb e)
  | vsub tile amb => exact .of_kept (kept_execVsub (.refl s) tile amb e)
  | vmul tile amb => exact .of_kept (kept_execVmul (.refl s) tile amb e)
  | vfma tile amb => exact .of_kept (kept_execVfma (.refl s) tile amb e)
  | vdiv tile amb => exact .of_kept (kept_execVdiv (.refl s) tile amb e)
  | vrcp tile amb => exact .of_kept (kept_execVrcp (.refl s) tile amb e)
  | vsqrt tile amb => exact .of_kept (kept_execVsqrt (.refl s) tile amb e)
  | vrsqrt tile amb => exact .of_kept (kept_execVrsqrt (.refl s) tile amb e)
  | vexp tile amb => exact .of_kept (kept_execVexp (.refl s) tile amb e)
  | vlog tile amb => exact .of_kept (kept_execVlog (.refl s) tile amb e)
  | vtanh tile amb => exact .of_kept (kept_execVtanh (.refl s) tile amb e)
  | vsigm tile amb => exact .of_kept (kept_execVsigm (.refl s) tile amb e)
  | vgelu tile amb => exact .of_kept (kept_execVgelu (.refl s) tile amb e)
  | vmax tile amb => exact .of_kept (kept_execVmax (.refl s) tile amb e)
  | vmin tile amb => exact .of_kept (kept_execVmin (.refl s) tile amb e)
  | vcmp tile amb => exact .of_kept (kept_execVcmp (.refl s) tile amb e)
  | rsum tile amb => exact .of_kept (kept_execRsum (.refl s) tile amb e)
  | rssq tile amb => exact .of_kept (kept_execRssq (.refl s) tile amb e)
  | rmv tile amb => exact .of_kept (kept_execRmv (.refl s) tile amb e)
  | rmax tile amb => exact .of_kept (kept_execRmax (.refl s) tile amb e)
  | rmin tile amb => exact .of_kept (kept_execRmin (.refl s) tile amb e)
  | rmaxi tile amb => exact .of_kept (kept_execRmaxi (.refl s) tile amb e)
  | rmini tile amb => exact .of_kept (kept_execRmini (.refl s) tile amb e)
  | scan tile amb => exact .of_kept (kept_execScan (.refl s) tile amb e)
  | scanx tile amb => exact .of_kept (kept_execScanx (.refl s) tile amb e)
  | sscan tile amb => exact .of_kept (kept_execSscan (.refl s) tile amb e)
  | sscanx tile amb => exact .of_kept (kept_execSscanx (.refl s) tile amb e)
  | vstamp tile amb => exact .of_kept (kept_execVstamp (.refl s) tile amb e)
  | vecComplete tile => exact .of_kept (kept_execVecComplete (.refl s) tile e)
  | dmaTransferStart tile amb => exact .of_kept (kept_execDmaTransferStart (.refl s) tile amb e)
  | dmaComplete tile => exact .of_kept (kept_execDmaComplete (.refl s) tile e)
  | sendPlace tile stream amb => exact .of_kept (kept_execSendPlace (.refl s) tile stream amb e)
  | sendComplete tile stream => exact .of_kept (kept_execSendComplete (.refl s) tile stream e)
  | recvTake tile stream => exact .of_kept (kept_execRecvTake (.refl s) tile stream e)
  | recvComplete tile stream amb => exact .of_kept (kept_execRecvComplete (.refl s) tile stream amb e)
  | openChannel src => exact .of_kept (kept_execOpen (.refl s) src e)
  | accept src => exact .of_kept (kept_execAccept (.refl s) src e)
  | refuse src => exact .of_kept (kept_execRefuse (.refl s) src e)
  | close src => exact .of_kept (kept_execClose (.refl s) src e)
  | headUpdate src => exact .of_kept (kept_execHeadUpdate (.refl s) src e)
  | blocked src => exact .of_kept (kept_execBlocked (.refl s) src e)
  | spillReq src => exact .of_kept (kept_execSpillReq (.refl s) src e)
  | spillEnd src => exact .of_kept (kept_execSpillEnd (.refl s) src e)
  | openRetry tile ep => exact .of_kept (kept_execOpenRetry (.refl s) tile ep e)
  | openTimeout tile ep => exact .of_kept (kept_execOpenTimeout (.refl s) tile ep e)
  | headUpdateTimer tile ep => exact .of_kept (kept_execHeadUpdateTimer (.refl s) tile ep e)
  | blockedNoticeTimer tile ep => exact .of_kept (kept_execBlockedNoticeTimer (.refl s) tile ep e)
  | channelDeadlock tile ep => exact .of_kept (kept_execChannelDeadlock (.refl s) tile ep e)
  | deadlockTimerStop tile ep => exact .of_kept (kept_execDeadlockTimerStop (.refl s) tile ep e)
  | data src => exact .of_kept (kept_execData (.refl s) src e)
  | keepRecipeFiring entry version amb => exact .of_kept (kept_execKeepRecipeFiring (.refl s) entry version amb e)
  | localTrickTimeout slot => exact .of_kept (kept_execLocalTrickTimeout (.refl s) slot e)
  | logCapacityTimeout slot => exact .of_kept (kept_execLogCapacityTimeout (.refl s) slot e)
  | shareReady slot mb logError => exact .of_kept (kept_execShareReady (.refl s) slot mb logError e)
  | trickReady src => exact .of_kept (kept_execTrickReady (.refl s) src e)
  | trickRefuse src => exact .of_kept (kept_execTrickRefuse (.refl s) src e)
  | prepareTimeout entry => exact .of_kept (kept_execPrepareTimeout (.refl s) entry e)
  | trickCommit src => exact .of_kept (kept_execTrickCommit (.refl s) src e)
  | publicationDone slot published => exact .of_kept (kept_execPublicationDone (.refl s) slot published e)
  | trickRevoke src => exact .of_kept (kept_execTrickRevoke (.refl s) src e)
  | revokeDrained slot mb => exact .of_kept (kept_execRevokeDrained (.refl s) slot mb e)
  | trickDone src => exact .of_kept (kept_execTrickDone (.refl s) src e)
  | trickResume src => exact .of_kept (kept_execTrickResume (.refl s) src e)
  | portEnable port => exact .of_kept (kept_execPortEnable (.refl s) port e)
  | portDisable port => exact .of_kept (kept_execPortDisable (.refl s) port e)
  | portFence port => exact .of_kept (kept_execPortFence (.refl s) port e)
  | portUnfence port => exact .of_kept (kept_execPortUnfence (.refl s) port e)
  | signalDetect port lanes => exact .of_kept (kept_execSignalDetect (.refl s) port lanes e)
  | trainingDone port rxLanes txLanes => exact .of_kept (kept_execTrainingDone (.refl s) port rxLanes txLanes e)
  | trainingFailed port => exact .of_kept (kept_execTrainingFailed (.refl s) port e)
  | alignLock port => exact .of_kept (kept_execAlignLock (.refl s) port e)
  | alignTimeout port => exact .of_kept (kept_execAlignTimeout (.refl s) port e)
  | identity port => exact .of_kept (kept_execIdentity (.refl s) port e)
  | discoverTimeout port => exact .of_kept (kept_execDiscoverTimeout (.refl s) port e)
  | frameLockTimeout port => exact .of_kept (kept_execFrameLockTimeout (.refl s) port e)
  | peerIdle port => exact .of_kept (kept_execPeerIdle (.refl s) port e)
  | holdoffExpiry port => exact .of_kept (kept_execHoldoffExpiry (.refl s) port e)
  | frameTransmit port rateHits => exact .of_kept (kept_execFrameTransmit (.refl s) port rateHits e)
  | controlBlock port frame => exact .of_kept (kept_execControlBlock (.refl s) port frame e)
  | replayTimer port => exact .of_kept (kept_execReplayTimer (.refl s) port e)
  | packetArrival port wire => exact .of_kept (kept_execPacketArrival (.refl s) port wire e)
  | packetFirstSend port cls rateHit => exact .of_kept (kept_execPacketFirstSend (.refl s) port cls rateHit e)
  | reorderTimeout port => exact .of_kept (kept_execReorderTimeout (.refl s) port e)
  | packetForward port cls rateHit => exact .of_kept (kept_execPacketForward (.refl s) port cls rateHit e)
  | kittyStall port cls => exact .of_kept (kept_execKittyStall (.refl s) port cls e)
  | laneFailure port lane => exact .of_kept (kept_execLaneFailure (.refl s) port lane e)
  | restripeLock port => exact .of_kept (kept_execRestripeLock (.refl s) port e)
  | laneRestore port => exact .of_kept (kept_execLaneRestore (.refl s) port e)
  | laneRestored port lane => exact .of_kept (kept_execLaneRestored (.refl s) port lane e)
  | hlCntClr port => exact .of_kept (kept_execHlCntClr (.refl s) port e)
  | hlFiWrite port cls value => exact .of_kept (kept_execHlFiWrite (.refl s) port cls value e)
  | rtEntryWrite table dest value => exact .of_kept (kept_execRtEntryWrite (.refl s) table dest value e)
  | kittyClassWrite port cls value => exact .of_kept (kept_execKittyClassWrite (.refl s) port cls value e)
  | mgmt src => exact .of_kept (kept_execMgmt (.refl s) src e)
  | meldTrigger engine slot amb => exact .of_kept (kept_execMeldTrigger (.refl s) engine slot amb e)
  | join src => exact .of_kept (kept_execJoin (.refl s) src e)
  | grant src => exact .of_kept (kept_execGrant (.refl s) src e)
  | demand src amb => exact .of_kept (kept_execDemand (.refl s) src amb e)
  | meldData src => exact .of_kept (kept_execMeldData (.refl s) src e)
  | ssqSource src => exact .of_kept (kept_execSsqSource (.refl s) src e)
  | ssqShard src => exact .of_kept (kept_execSsqShard (.refl s) src e)
  | meldFiringEnd engine slot => exact .of_kept (kept_execMeldFiringEnd (.refl s) engine slot e)
  | mldCntClr engine => exact .of_kept (kept_execMldCntClr (.refl s) engine e)
  | mldEntryWrite engine offset value byDealer => exact .of_kept (kept_execMldEntryWrite (.refl s) engine offset value byDealer e)
  | gddrTrained ctrl => exact .of_kept (kept_execGddrTrained (.refl s) ctrl e)
  | gddrTrainingFailed ctrl => exact .of_kept (kept_execGddrTrainingFailed (.refl s) ctrl e)
  | gddrTempPoll ctrl reading => exact .of_kept (kept_execGddrTempPoll (.refl s) ctrl reading e)
  | gddrRetrain ctrl channel => exact .of_kept (kept_execGddrRetrain (.refl s) ctrl channel e)
  | scrubVisit ctrl outcome overtaken => exact .of_kept (kept_execScrubVisit (.refl s) ctrl outcome overtaken e)
  | errClr ctrl => exact .of_kept (kept_execErrClr (.refl s) ctrl e)
  | gdThrWrite ctrl value => exact .of_kept (kept_execGdThrWrite (.refl s) ctrl value e)
  | marginingStart ctrl => exact .of_kept (kept_execMarginingStart (.refl s) ctrl e)
  | marginingDone ctrl margins => exact .of_kept (kept_execMarginingDone (.refl s) ctrl margins e)
  | stkGddrCfgWrite stack value => exact .of_kept (kept_execStkGddrCfgWrite (.refl s) stack value e)
  | gddrLayoutDone stack => exact .of_kept (kept_execGddrLayoutDone (.refl s) stack e)
  | stkMemCfgWrite stack value => exact .of_kept (kept_execStkMemCfgWrite (.refl s) stack value e)
  | farCacheResizeDone stack => exact .of_kept (kept_execFarCacheResizeDone (.refl s) stack e)
  | loadReady src => exact .of_kept (kept_execLoadReady (.refl s) src e)
  | loadRestart src => exact .of_kept (kept_execLoadRestart (.refl s) src e)
  | loadImageFetch slot loadId amb => exact .of_kept (kept_execLoadImageFetch (.refl s) slot loadId amb e)
  | loadPacket src => exact .of_kept (kept_execLoadPacket (.refl s) src e)
  | tileHeartbeatSample stack missed => exact .of_kept (kept_execTileHeartbeatSample (.refl s) stack missed e)
  | tileCheckFailure stack phys check => exact .of_kept (kept_execTileCheckFailure (.refl s) stack phys check e)
  | tileImageReloaded tile => exact .of_kept (kept_execTileImageReloaded (.refl s) tile e)
  | d2dLaneFailure d2d lane => exact .of_kept (kept_execD2dLaneFailure (.refl s) d2d lane e)
  | cutCopyDone slot refused => exact .of_kept (kept_execCutCopyDone (.refl s) slot refused e)
  | cutWrite src => exact .of_kept (kept_execCutWrite (.refl s) src e)
  | packageHeartbeat => exact .of_kept (kept_execPackageHeartbeat (.refl s) e)
  | packageLossDeclared package => exact .of_kept (kept_execPackageLossDeclared (.refl s) package e)
  | takeoverOrder src => exact .of_kept (kept_execTakeoverOrder (.refl s) src e)
  | cutFetch src => exact .of_kept (kept_execCutFetch (.refl s) src e)
  | cutNone src => exact .of_kept (kept_execCutNone (.refl s) src e)
  | cutRead src => exact .of_kept (kept_execCutRead (.refl s) src e)
  | cutRestored slot => exact .of_kept (kept_execCutRestored (.refl s) slot e)
  | relinkTimeout port => exact .of_kept (kept_execRelinkTimeout (.refl s) port e)
  | fenceOrder src => exact .of_kept (kept_execFenceOrder (.refl s) src e)
  | nonce _ _ => exact safe_runSec e
  | nonceExpiry path => exact .of_kept (kept_execNonceExpiry (.refl s) path e)
  | fwBegin _ => exact safe_runSec e
  | fwWrite _ _ _ => exact safe_runSec e
  | fwFinish _ => exact safe_runSec e
  | fwActivate _ => exact safe_runSec e
  | updateSessionTimeout => exact .of_kept (kept_execUpdateSessionTimeout (.refl s) e)
  | bootConfirm _ => exact safe_runSec e
  | svnCommit _ => exact safe_runSec e
  | ownerClaim _ _ => exact safe_runSec e
  | ownerRelease _ _ => exact safe_runSec e
  | debugUnlock _ _ => exact safe_runSec e
  | debugNonceDraw drawn => exact .of_kept (kept_execDebugNonceDraw (.refl s) drawn e)
  | debugBlockCheck block => exact .of_guarded (guarded_debugBlockCheck s block e)
  | recorderClear _ _ => exact safe_runSec e
  | recorderClearDone => exact .of_kept (kept_execRecorderClearDone (.refl s) e)
  | getVersion => exact .of_kept (kept_execGetVersion (.refl s) e)
  | getCapabilities => exact .of_kept (kept_execGetCapabilities (.refl s) e)
  | negotiateAlgorithms => exact .of_kept (kept_execNegotiateAlgorithms (.refl s) e)
  | getDigests => exact .of_kept (kept_execGetDigests (.refl s) e)
  | getCertificate slot offset length => exact .of_kept (kept_execGetCertificate (.refl s) slot offset length e)
  | challenge slot asked => exact .of_kept (kept_execChallenge (.refl s) slot asked e)
  | getMeasurements index signed asked => exact .of_kept (kept_execGetMeasurements (.refl s) index signed asked e)
  | keyExchange request => exact .of_kept (kept_execKeyExchange (.refl s) request e)
  | finish session request => exact .of_kept (kept_execFinish (.refl s) session request e)
  | spdmHeartbeat session => exact .of_kept (kept_execSpdmHeartbeat (.refl s) session e)
  | keyUpdate session op => exact .of_kept (kept_execKeyUpdate (.refl s) session op e)
  | endSession session => exact .of_kept (kept_execEndSession (.refl s) session e)
  | chunkGet handle seq => exact .of_kept (kept_execChunkGet (.refl s) handle seq e)
  | chunkSend handle seq last data => exact .of_kept (kept_execChunkSend (.refl s) handle seq last data e)
  | spdmUnsupported code => exact .of_kept (kept_execSpdmUnsupported (.refl s) code e)
  | query session => exact .of_kept (kept_execQuery (.refl s) session e)
  | keyProg session stream keySet key => exact .of_kept (kept_execKeyProg (.refl s) session stream keySet key e)
  | kSetGo session stream keySet => exact .of_kept (kept_execKSetGo (.refl s) session stream keySet e)
  | kSetStop session stream keySet => exact .of_kept (kept_execKSetStop (.refl s) session stream keySet e)
  | ideIntegrityFailure stream => exact .of_kept (kept_execIdeIntegrityFailure (.refl s) stream e)
  | recRead start unit => exact .of_kept (kept_execRecRead (.refl s) start unit e)
  | recStatus => exact .of_kept (kept_execRecStatus (.refl s) e)
  | rateLimitRefill code => exact .of_kept (kept_execRateLimitRefill (.refl s) code e)
  | recorderProgram => exact .of_kept (kept_execRecorderProgram (.refl s) e)
  | journalWrite failed => exact .of_kept (kept_execJournalWrite (.refl s) failed e)
  | statsPageWritten slot => exact .of_kept (kept_execStatsPageWritten (.refl s) slot e)
  | perstNDeassert => exact .of_kept (kept_execPerstNDeassert (.refl s) e)
  | prochotNDeassert => exact .of_kept (kept_execProchotNDeassert (.refl s) e)
  | frameLockLost port => exact .of_kept (kept_execFrameLockLost (.refl s) port e)
  | frameLockRegained port => exact .of_kept (kept_execFrameLockRegained (.refl s) port e)
  | tcommitComplete tile stream logError => exact .of_kept (kept_execTcommitComplete (.refl s) tile stream logError e)
  | loopbackCheckerLock port lane => exact .of_kept (kept_execLoopbackCheckerLock (.refl s) port lane e)
  | spdmHeartbeatTimeout session => exact .of_kept (kept_execSpdmHeartbeatTimeout (.refl s) session e)

theorem safe_tick (s : State) : Safe s (tick s) := by
  unfold tick
  split
  · exact .of_kept (kept_with (.refl s))
  · exact .of_kept_guarded (kept_loopTick (kept_stallEvents (kept_passTime (.refl s)) s)) (guarded_burnBit _)

theorem safe_step {s t : State} (e : step s = .next t) : Safe s t := by
  unfold step at e
  split at e
  · cases e
    exact safe_tick s
  · next i rest _ =>
    obtain ⟨mem, fuses, level⟩ := safe_exec e
    exact ⟨mem, fuses, level⟩

end Sys2Proof.Machine

namespace Sys2Proof
open Machine

/-- Settles O3, by the step lemma `safe_step`: every command stores to device memory through operations that keep its canonical form. -/
theorem everyStepKeepsMemoryCanonical : Obligations.EveryStepKeepsMemoryCanonical :=
  fun _ _ ok e => (safe_step e).mem ok

/-- Settles O5, by the step lemma `safe_step`: only a burn of `svn` and a claim or release of an owner entry write to the fuses. -/
theorem burnedFusesStayBurned : Obligations.BurnedFusesStayBurned :=
  fun _ _ e => (safe_step e).fuses

/-- Settles O20, by the step lemma `safe_step`: only a debug block that passes its checks raises the level, and it erases memory first. -/
theorem noDebugLevelOverLiveMemory : Obligations.NoDebugLevelOverLiveMemory := by
  unfold Obligations.NoDebugLevelOverLiveMemory
  intro s t e rises
  exact (safe_step e).level.resolve_left (not_le.mpr rises)

end Sys2Proof
end
